-- ==== Sys2Proof/Word.lean ====
section
/-! DEFINITION. Words, bytes and their plainest arithmetic (00_scope.md R6, R7, R8): widths, saturating counters,
fields, and the byte memory kept in one canonical form. -/

namespace Sys2Proof

/-- A 32-bit word (R6). -/
abbrev Word := BitVec 32

/-- A byte. -/
abbrev Byte := BitVec 8

/-- A 4 KiB tile, byte k in bits 8k+7..8k (12_tiers.md R230). -/
abbrev Tile := BitVec 32768

/-- A 512-bit vector register, lane 0 in the low bits (09_core_isa.md R172). -/
abbrev VReg := BitVec 512

/-- An accumulator: element (i, j) of 64 x 64 in bits 32(64i+j)+31..32(64i+j) (R172). -/
abbrev Acc := BitVec 131072

/-- Addition that stops at the largest value: a saturating counter (R8). -/
def satAdd {w : Nat} (a : BitVec w) (n : Nat) : BitVec w :=
  if a.toNat + n < 2 ^ w then BitVec.ofNat w (a.toNat + n) else BitVec.allOnes w

/-- The bits hi..lo of a word as a number. -/
def fld {w : Nat} (a : BitVec w) (lo len : Nat) : Nat := (a.toNat >>> lo) % 2 ^ len

/-- One bit of a word. -/
def bit {w : Nat} (a : BitVec w) (i : Nat) : Bool := a.getLsbD i

/-- A flag as a number. -/
def b2n (b : Bool) : Nat := if b then 1 else 0

/-- Bit i of a word set to b. -/
def setBit {w : Nat} (a : BitVec w) (i : Nat) (b : Bool) : BitVec w :=
  if b then a ||| BitVec.ofNat w (2 ^ i) else a &&& ~~~(BitVec.ofNat w (2 ^ i))

/-- A byte memory: the canonical form is strictly rising addresses and no byte 0 listed. An unlisted address reads 0
(log entry 3). -/
abbrev Mem := List Host.Cell

/-- The canonical form of a byte memory. -/
def Mem.wf : Mem → Bool
  | [] => true
  | [c] => c.2 != 0
  | c :: d :: m => (c.2 != 0) && decide (c.1 < d.1) && Mem.wf (d :: m)

/-- The byte at an address; an unlisted address reads 0. -/
def Mem.read (m : Mem) (a : Nat) : Byte :=
  match m with
  | [] => 0
  | c :: m => if c.1 = a then c.2 else Mem.read m a

/-- A byte written; the canonical form is kept, so writing 0 removes the entry. -/
def Mem.write (m : Mem) (a : Nat) (b : Byte) : Mem :=
  match m with
  | [] => if b = 0 then [] else [(a, b)]
  | c :: m =>
    if a < c.1 then (if b = 0 then c :: m else (a, b) :: c :: m)
    else if c.1 = a then (if b = 0 then m else (a, b) :: m)
    else c :: Mem.write m a b

/-- The i-th element of a vector replaced. -/
def upd {α : Type} {n : Nat} (v : Vector α n) (i : Fin n) (x : α) : Vector α n := v.set i.1 x i.2

/-- The i-th element of a vector changed by f. -/
def modAt {α : Type} {n : Nat} (v : Vector α n) (i : Fin n) (f : α → α) : Vector α n := upd v i (f v[i])

end Sys2Proof
end

