-- ==== Sys2Proof/Syntax.lean ====
section
/-! DEFINITION. The commands of the block: one constructor per row of spec/opcode_table.json, in the table's order, and
the operand types they carry. Host commands and supervisor EXECs carry no words of their own where the words stand in
State already (the descriptor that DESCRIPTOR_FETCH took in, the HIF_SPV_ARG registers). -/

namespace Sys2Proof

/-- A source of register accesses (17_host_link.md R307; code 0 host, 1 supervisor, 2 debug access port). -/
inductive Src where
  | host
  | spv
  | dap
deriving DecidableEq, Repr

/-- The monitored rails (02_package.md R39). -/
inductive MonRail where
  | vcore
  | vsram
  | vio18
  | vphA
deriving DecidableEq, Repr

/-- The balls sampled as straps and the two bank supplies compared with 2.5 V (R46, R47). -/
structure Straps where
  gpio0 : Bool
  gpio1 : Bool
  gpio2 : Bool
  vselA : Bool
  vselB : Bool
  testen : Bool
  vioAHigh : Bool
  vioBHigh : Bool
deriving DecidableEq, Repr

/-- The atomic pairs whose LO read latches HI (27_registers.md R453). -/
inductive AtomicPair where
  | tmpNow
  | rtc
  | sapTs (p : Fin 8)
  | asrc (p : Fin 8)
  | lastCal (n : Fin 4)
  | fabBytes
  | fabPkts
  | tierMap
  | irqPend
  | grdRings
  | hltLast
  | ledgEntry
deriving DecidableEq, Repr

/-- How the FS active edge that ends a frame came (04_audio_ports.md R78): on time, early by some bits, or late. -/
inductive FsEdge where
  | onTime
  | early (bits : Nat)
  | late
deriving DecidableEq, Repr

/-- A tacet gate point (05_audio_sync.md R110): a stream's contribution to a zone on a port, a zone signal on a port, an
output channel, the anti-noise of an output channel. -/
inductive GateId where
  | contrib (s : Fin 16) (z : Fin 8) (p : Fin 8)
  | zone (z : Fin 8) (p : Fin 8)
  | chan (p : Fin 8) (slot : Fin 16)
  | anti (p : Fin 8) (slot : Fin 16)
deriving DecidableEq, Repr

/-- One row of the RNC matrix or of the spatial matrix rewritten between two evaluations (07_front_end.md R140). -/
structure RowRewrite where
  row : Fin 16
  coeffs : Vector (BitVec 16) 16
deriving DecidableEq, Repr

/-- The rows rewritten at a cabin frame boundary: one of the RNC matrix, one of the spatial matrix (R140). -/
structure RowRewrites where
  rnc : Option RowRewrite
  spatial : Option RowRewrite
deriving DecidableEq, Repr

/-- Frames lost and gained across an ASRC unlock (05_audio_sync.md R101). -/
structure AsrcSlips where
  lost : Nat
  gained : Nat
deriving DecidableEq, Repr

/-- A gate, and the sample that its signal brings in the frame at which its timeout expires (05_audio_sync.md R113). -/
structure GateFrame where
  gate : GateId
  sample : Int
deriving DecidableEq, Repr

/-- A ring of a section: the modulator ring of a channel (row none) or a weight ring (R117). -/
structure PmaRing where
  sec : Fin 4
  chan : Fin 18
  row : Option (Fin 17)
deriving DecidableEq, Repr

/-- What intonation finds for a section (06_photonic.md R119): lasers that fail to reach power in step 1, channels whose
rings lock, rows whose parts lock, and the calibrated figure in half bits. -/
structure IntonationResult where
  deadLasers : BitVec 18
  chans : BitVec 18
  rows : BitVec 17
  ebCal : BitVec 5
  bad : List PmaRing
deriving DecidableEq, Repr

/-- What SECDED says of an access (08_grid_cores.md R152, 12_tiers.md R248). -/
inductive Ecc where
  | clean
  | corrected
  | uncorrectable
deriving DecidableEq, Repr

/-- A core whose home memory a command reads, and what SECDED says of the read (08_grid_cores.md R152). -/
structure BankRead where
  core : Fin 288
  ecc : Ecc
deriving DecidableEq, Repr

/-- A hauler that may read a frame of its DRAM channel, and what SECDED says of that read (12_tiers.md R248). -/
structure FrameRead where
  chan : Fin 8
  ecc : Ecc
deriving DecidableEq, Repr

/-- A word entry of a TEXT record (18_rings.md R335). -/
structure TextWord where
  off : BitVec 16
  len : BitVec 16
  start : Word
  dur : Word
deriving DecidableEq, Repr

/-- A text segment, or one part of it, that a stream generates (R335). -/
structure TextRec where
  translation : Bool
  final : Bool
  more : Bool
  part : BitVec 4
  seg : Word
  words : List TextWord
  text : List Byte
  tempo : Nat
deriving DecidableEq, Repr

/-- What one stream's step brings to a pitch boundary (14_attention_kv.md R267, 15_recurrence.md R280, 18_rings.md R334):
the input words of the positions it appends, its text records, whether a segment starts, whether the phrase is complete
(R366), whether further input is present, and whether the segment that starts holds the phrase's last token (01_cabin.md R22). -/
structure StreamOut where
  stream : Fin 16
  input : Bool
  positions : List Word
  segStart : Bool
  texts : List TextRec
  phraseDone : Bool
  last : Bool
deriving DecidableEq, Repr

/-- What a router finds wrong with a packet's flits (10_fabric_routing.md R198). -/
inductive FlitError where
  | none
  | single
  | doubleBody
  | doubleHead
  | cpar
deriving DecidableEq, Repr

/-- What the router that a packet leaves, and the network interface that may receive it, find wrong with its flits (R198). -/
structure FlitErrors where
  router : FlitError
  ni : FlitError
deriving DecidableEq, Repr

/-- A power domain that uses belay (11_fabric_service.md Table 11.3). -/
inductive Domain where
  | row (y : Fin 16)
  | s23
  | dram
  | hostLink
deriving DecidableEq, Repr

/-- An error in a DRAM row found by a scrub (12_tiers.md R248). -/
structure RowError where
  row : Nat
  frame : Nat
  uncorrectable : Bool
deriving DecidableEq, Repr

/-- How a completion fails (17_host_link.md R299). -/
inductive CplError where
  | ur
  | ca
  | poisoned
deriving DecidableEq, Repr

/-- What lets a vector send again (R305): its own mask, MSI-X Enable, or Function Mask. -/
inductive Unmask where
  | vector (v : Fin 64)
  | enable
  | function
deriving DecidableEq, Repr

/-- A frame on the supervisor port as it came (R309): its SPV_SCK cycles, whether it started less than 2 us after the
frame before, and its nine bytes (meaningful when there were 72 cycles). -/
structure SpiFrame where
  cycles : Nat
  early : Bool
  bytes : Vector Byte 9
deriving DecidableEq, Repr

/-- A unit of Table 23.2: its type code and physical id. -/
structure UnitRef where
  type : BitVec 4
  id : BitVec 24
deriving DecidableEq, Repr

/-- What boot step 2 finds (22_startup.md Table 22.1): an uncorrectable grade, trim or key-hash word, a lockstep
mismatch, and the OTP slots whose ledger entry it cannot correct. -/
structure OtpFault where
  word : Bool
  lockstep : Bool
  ledger : List Nat
deriving DecidableEq, Repr

/-- One 1 ms poll of the PMIC (24_power.md Table 24.3): the words read, and how often each transaction was refused. -/
structure PmicPoll where
  vout : BitVec 16
  iout : BitVec 16
  status : BitVec 16
  nacks : Nat
deriving DecidableEq, Repr

/-- A host command taken in from a ring (18_rings.md R319, R320): its ring, the PRIO captured at acceptance, the
descriptor words, its number of acceptance, its intake Tempo, whether an ACCEPTED reply went before (R325), and whether a
supervisor command of the same epoch overrules it (20_streams.md R376). -/
structure Cmd where
  ring : Fin 16
  prio : BitVec 2
  desc : Vector Word 16
  id : Nat
  at_ : Nat
  second : Bool
  preempt : Bool
deriving DecidableEq, Repr

/-- A command of the block: one constructor per row of the table. -/
inductive Instr where

  /-- POWER_ON_RESET (R38): POR_N rises after all rails are in tolerance, which starts Tempo and the boot sequence from a full reset. -/
  | powerOnReset (st : Straps)
  /-- POR_N_LOW_PULSE (R445): A low pulse on POR_N passes the SAFE-domain filter and causes a full power-on reset, or none. -/
  | porNLowPulse (ns : Nat) (st : Straps)
  /-- RAIL_UNDERVOLTAGE (R39): A monitored rail falls below tolerance and holds the device in reset whatever the level of POR_N. -/
  | railUndervoltage (r : MonRail)
  /-- RAIL_RECOVERED (R39): The last monitored rail returns to tolerance, and leaving the reset acts as a power-on reset. -/
  | railRecovered (r : MonRail) (st : Straps)
  /-- SUPPLY_LOSS (R41): Supplies other than VRTC are lost, all volatile state is lost, and the next power-up is a power-on reset. -/
  | supplyLoss
  /-- VRTC_FIRST_APPLY (R64): The first application of VRTC resets the RTC to 2000-01-01 00:00:00.0 with VALID = 0. -/
  | vrtcFirstApply
  /-- PERST_N_ASSERT (R301): PERST_N falls and resets only the PCIe function, TIER_BAR2, the ring enables and the page-return ring. -/
  | perstNAssert
  /-- PERST_N_DEASSERT (R42): PERST_N rises, and the configuration space becomes ready within 80 ms. -/
  | perstNDeassert
  /-- ZMUTE_HOLD_PLACE (R52): A ZMUTE input that has stayed low for 1 ms places a ZONE_MUTE hold on its zone. -/
  | zmuteHoldPlace (z : Fin 8)
  /-- ZMUTE_HOLD_RELEASE (R52): A ZMUTE input that has stayed high for 1 ms releases its zone hold. -/
  | zmuteHoldRelease (z : Fin 8)
  /-- TEMPO_LOSS (R57): An XTAL25 stop or a TEMPO PLL unlock places the device SAFE_STATE hold, asserts FAULT_N and holds Tempo. -/
  | tempoLoss
  /-- TEMPO_RELOCK (R57): The TEMPO PLL locks again, and Tempo resumes from its held value. -/
  | tempoRelock (outageUs : Nat)
  /-- CLOCK_SAFE_CLEAR (R58): After the PLL has stayed locked for 10 ms, the device clears its own SAFE_STATE hold and logs an event. -/
  | clockSafeClear
  /-- XTAL32K_LOSS (R57): An XTAL32K stop stops the RTC, clears VALID, stops correlation pairs and sets XTAL32K_LOSS. -/
  | xtal32kLoss
  /-- XTAL32K_RESUME (R66): XTAL32K runs again, and the RTC advances from the value it holds with VALID still 0. -/
  | xtal32kResume
  /-- SAFE_OSC_FAULT (R57): The SAFE RC oscillator, measured against TEMPO, leaves 16-24 MHz, which asserts FAULT_N and raises a health event. -/
  | safeOscFault
  /-- SAFE_OSC_RECOVER (R58): The SAFE frequency has stayed in range for 10 ms, so FAULT_N is released unless another cause holds it. -/
  | safeOscRecover
  /-- ATOMIC_PAIR_LO_READ (R307): A full read of the LO word of an atomic pair latches the matching HI word for the reading source. -/
  | atomicPairLoRead (src : Src) (pair : AtomicPair)
  /-- CAPTURE_EVENT (R61): A selected edge records Tempo in an unread capture channel and sets VALID, or increments MISS. -/
  | captureEvent (sel : BitVec 6) (fall : Bool)
  /-- TRIG (R61): A write of TRIG = 1 makes a software capture event on a channel whose SRC is software. -/
  | trig (src : Src) (n : Fin 4) (v : Word)
  /-- TMP_CAP_HI_READ (R61): A full read of TMP_CAP_HI_n clears the channel's VALID. -/
  | tmpCapHiRead (src : Src) (n : Fin 4)
  /-- TMP_CMP_LO_WRITE (R62): A write of TMP_CMP_LO_n stages the low word of the compare target. -/
  | tmpCmpLoWrite (src : Src) (n : Fin 4) (v : Word)
  /-- TMP_CMP_HI_WRITE (R62): A write of TMP_CMP_HI_n, or an 8-byte write of the pair, sets the 64-bit compare target. -/
  | tmpCmpHiWrite (src : Src) (n : Fin 4) (hi : Word) (lo : Option Word)
  /-- COMPARE_ARM (R62): A write of ARM = 1 arms a compare channel. -/
  | compareArm (src : Src) (n : Fin 4) (v : Word)
  /-- COMPARE_MATCH (R62): Tempo reaches an armed target, which sets MATCH, clears ARM and raises vector 23 when IRQ_EN is 1. -/
  | compareMatch (n : Fin 4)
  /-- RTC_TICK (R64): A 1/1024 s tick of the RTC advances the calendar. -/
  | rtcTick
  /-- COMMIT (R66): A write of RTC_CTRL.COMMIT = 1 checks the source's staged date and time and queues a valid value. -/
  | commit (src : Src) (v : Word)
  /-- RTC_COMMIT_NO_CLOCK (R66): With XTAL32K stopped, a valid commit loads the RTC within 10 us, timed in SAFE, and VALID stays 0. -/
  | rtcCommitNoClock
  /-- ALARM_ARM (R69): A write of ALARM_ARM = 1 checks the alarm value, then arms it or sets BAD_DATE. -/
  | alarmArm (src : Src) (v : Word)
  /-- INTAKE_EPOCH_END (R375): At the end of a 10 us intake epoch, the conductor applies the supervisor's commands first, then host commands by PRIO. -/
  | intakeEpochEnd
  /-- SAP_FRAME (R78): A serial audio port frame is taken or sent from its frame active edge, with early or late edges handled. -/
  | sapFrame (p : Fin 8) (edge : FsEdge) (ph : Int) (slots : Vector Word 16)
  /-- BLOCK_BOUNDARY (R82): A port completes a block of B frames and starts the next one, stamped with its header. -/
  | blockBoundary (p : Fin 8)
  /-- SHADOW_COMMIT_TIMEOUT (R91): A command waiting on an uncommitted shadow reaches CONFIG_COMMIT_TIMEOUT and returns CONFIG_BUSY. -/
  | shadowCommitTimeout (k : Nat)
  /-- CABIN_FRAME (R86): At each cabin frame, the hub computes the zone signals, member sums, anti-noise and rounding of every output channel. -/
  | cabinFrame (speech : Vector Word 16) (rows : RowRewrites) (missed : Bool)
  /-- RATE_WINDOW_END (R95): A 62.5 ms measurement window ends, and the port's measured frame rate is computed. -/
  | rateWindowEnd (p : Fin 8) (edges spanNs : Nat) (phMin phMax : Int)
  /-- CLK_LOSS (R98): A target port with no FS active edge for 1 ms enters FAULTED, sets CLK_LOSS and logs an event. -/
  | clkLoss (p : Fin 8)
  /-- ASRC_LOCK (R100): The ASRC reaches lock and sets LOCK, after which it delivers audio in place of zero. -/
  | asrcLock (p : Fin 8)
  /-- ASRC_UNLOCK (R101): An ASRC phase error beyond 4 frames sets UNLOCK and ramps its output to zero. -/
  | asrcUnlock (p : Fin 8) (slips : AsrcSlips)
  /-- TACET_TIMEOUT (R113): TACET_TO_MS expires without a crossing, so the gate ramps over 32 frames and SAPn_TACET_TO counts it. -/
  | tacetTimeout (e : GateFrame)
  /-- RAMP_END (R112): The 32nd frame of a ramp ends, and the gate becomes CLOSED or OPEN. -/
  | rampEnd (g : GateId)
  /-- INTONATION_SECTION_DONE (R119): Intonation steps 2-5 complete for one section, which becomes ready or retired. -/
  | intonationSectionDone (sec : Fin 4) (r : IntonationResult)
  /-- RING_LOCK_LOSS (R120): A heater loop at a DAC limit, or a loss of resonance beyond 50 us, marks a ring out of lock and starts re-intonation. -/
  | ringLockLoss (r : PmaRing)
  /-- RING_REINTONE_DONE (R120): Re-intonation of a ring ends in a relock, which is a transient fault, or in a hard failure. -/
  | ringReintoneDone (r : PmaRing) (relocked : Bool)
  /-- LASER_FAIL (R133): A laser below half its set power, or at the PLAS bias limit, is retired and its lanes start moving. -/
  | laserFail (l : Fin 18)
  /-- LASER_SWITCH_DONE (R134): The lanes move onto the replacement laser, jobs resume and anti-noise reopens. -/
  | laserSwitchDone
  /-- ROW_FAULT (R133): A failed weight ring, detector, TIA or ADC row is replaced by the spare row at the next boundary, or the lanes drop. -/
  | rowFault (sec : Fin 4) (row : Fin 17)
  /-- PMA_JOB_RUN (R126): A section takes the next queued job, loads its weights unless KEEP_W applies, and runs its passes. -/
  | pmaJobRun (sec : Fin 4)
  /-- PMA_JOB_COMPLETE (R128): A job ends and its completion is written as the reply or as a message to the submitting core. -/
  | pmaJobComplete (sec : Fin 4)
  /-- S23_IDLE_TIMEOUT (R129): S2 and S3 have been idle with empty queues for IDLE_MS, so the conductor belays the group off. -/
  | s23IdleTimeout
  /-- S23_WAKE_DONE (R129): A wake of S2/S3 completes intonation, and waiting jobs run. -/
  | s23WakeDone
  /-- ROTATION_STEP (R130): Every 500 ms, a lane of S0 or S1 moves to the rotation channel and its own column is calibrated. -/
  | rotationStep (sec : Fin 4)
  /-- ROTATION_RETURN (R130): At a cabin frame boundary after calibration, the lane returns to its own column. -/
  | rotationReturn (sec : Fin 4) (ebCal : BitVec 5) (bad : List PmaRing)
  /-- GAP_STEP_START (R131): An idle S2 or S3 with at least 10 ms since its last step starts a 50 us gap calibration step. -/
  | gapStepStart (sec : Fin 4)
  /-- GAP_STEP_END (R131): A gap step ends with the held matrix restored, and waiting jobs run. -/
  | gapStepEnd (sec : Fin 4) (ebCal : BitVec 5) (bad : List PmaRing)
  /-- FORCED_GAP_STEP (R131): 100 ms without a completed step forces a gap step after the running job, and FORCED counts it. -/
  | forcedGapStep (sec : Fin 4)
  /-- RNC_PATH_MOVE (R145): RNC moves between S0 and FE4-FE5 at a cabin frame boundary when S0 retires or becomes ready again. -/
  | rncPathMove
  /-- SEPARATION_HOP (R146): A 4 ms mask hop is collected, masked, synthesised and handed to the recognition encoder. -/
  | separationHop (vad : BitVec 4) (first : Nat)
  /-- ANCHOR_ROW_MOVE (R161): FE0-FE7 move to a newly designated anchor row at a hop boundary. -/
  | anchorRowMove
  /-- CORE_REPLACE (R160): A spare takes over a permanent core's logical number, and the topo tables are rewritten. -/
  | coreReplace (n : Fin 288)
  /-- PROGRAM_SWITCH (R165): Once all of a graph's cores have paused at a common pitch boundary, staged images and plans load and the cores resume. -/
  | programSwitch (g : Fin 8)
  /-- ALU (R175): A register-register scalar arithmetic or logic instruction, with FN selecting the operation. -/
  | alu (n : Fin 288) (w : BitVec 26)
  /-- ADDI (R175): Adds a sign-extended immediate to a register. -/
  | addi (n : Fin 288) (w : BitVec 26)
  /-- ANDI (R175): ANDs a register with a sign-extended immediate. -/
  | andi (n : Fin 288) (w : BitVec 26)
  /-- ORI (R175): ORs a register with a sign-extended immediate. -/
  | ori (n : Fin 288) (w : BitVec 26)
  /-- XORI (R175): XORs a register with a sign-extended immediate. -/
  | xori (n : Fin 288) (w : BitVec 26)
  /-- SHI (R175): Shifts a register by an immediate amount. -/
  | shi (n : Fin 288) (w : BitVec 26)
  /-- LUI (R175): Loads IMM × 2^14 into a register. -/
  | lui (n : Fin 288) (w : BitVec 26)
  /-- CMP (R175): Compares two registers into a predicate. -/
  | cmp (n : Fin 288) (w : BitVec 26)
  /-- LD (R175): Loads a 32-bit word of scratch. -/
  | ld (n : Fin 288) (w : BitVec 26) (ecc : Ecc)
  /-- ST (R175): Stores a 32-bit word into scratch. -/
  | st (n : Fin 288) (w : BitVec 26)
  /-- BR (R175): Branches to PC + 4 × OFF. -/
  | br (n : Fin 288) (w : BitVec 26)
  /-- BL (R175): Writes the return address to g31 and branches. -/
  | bl (n : Fin 288) (w : BitVec 26)
  /-- JR (R175): Jumps to the address in a register. -/
  | jr (n : Fin 288) (w : BitVec 26)
  /-- PRED (R175): Combines two predicates into a predicate. -/
  | pred (n : Fin 288) (w : BitVec 26)
  /-- VALU (R175): A lane-wise vector operation in type DT. -/
  | valu (n : Fin 288) (w : BitVec 26)
  /-- VLD (R175): Loads 64 B of scratch into a vector register. -/
  | vld (n : Fin 288) (w : BitVec 26) (ecc : Ecc)
  /-- VST (R175): Stores a vector register into 64 B of scratch. -/
  | vst (n : Fin 288) (w : BitVec 26)
  /-- VRED (R175): Reduces a vector into lane 0 by a fixed pairwise tree. -/
  | vred (n : Fin 288) (w : BitVec 26)
  /-- VCVT (R175): Converts a vector between element types. -/
  | vcvt (n : Fin 288) (w : BitVec 26)
  /-- VSPEC (R175): Computes a special function over a vector. -/
  | vspec (n : Fin 288) (w : BitVec 26)
  /-- VACC (R175): Moves a quarter accumulator row to a vector register, or back. -/
  | vacc (n : Fin 288) (w : BitVec 26)
  /-- VPERM (R175): Broadcasts, permutes or shifts vector lanes. -/
  | vperm (n : Fin 288) (w : BitVec 26)
  /-- TLD (R176): Starts a load of a local scratch tile into a tile register. -/
  | tld (n : Fin 288) (w : BitVec 26) (ecc : Ecc)
  /-- TST (R176): Starts a store of a tile register into local scratch. -/
  | tst (n : Fin 288) (w : BitVec 26)
  /-- TGET (R176): Starts a fetch of a tile from another core's scratch. -/
  | tget (n : Fin 288) (w : BitVec 26)
  /-- TPUT (R184): Starts a write of a tile into another core's scratch as eight WR_512 packets. -/
  | tput (n : Fin 288) (w : BitVec 26)
  /-- TUGET (R176): Starts a fetch of a U-space tile, delivered expanded. -/
  | tuget (n : Fin 288) (w : BitVec 26)
  /-- TUPUT (R184): Starts a write of a U-space tile as eight U_WR packets, each resolved on its own. -/
  | tuput (n : Fin 288) (w : BitVec 26)
  /-- TSTAT (R178): Reads a tile register's status once its pending work completes. -/
  | tstat (n : Fin 288) (w : BitVec 26)
  /-- TMOV (R176): Copies or zeroes a tile register. -/
  | tmov (n : Fin 288) (w : BitVec 26)
  /-- TMMA (R177): Multiplies two tiles and accumulates the products into an accumulator. -/
  | tmma (n : Fin 288) (w : BitVec 26)
  /-- TZERO (R176): Zeroes an accumulator. -/
  | tzero (n : Fin 288) (w : BitVec 26)
  /-- TPACK (R176): Converts an accumulator into a tile of a narrower type. -/
  | tpack (n : Fin 288) (w : BitVec 26)
  /-- TUNPACK (R176): Widens a tile into an accumulator. -/
  | tunpack (n : Fin 288) (w : BitVec 26)
  /-- TXP (R176): Transposes an 8-bit tile. -/
  | txp (n : Fin 288) (w : BitVec 26)
  /-- TILE_COMPLETE (R178): An asynchronous tile instruction completes and sets the status of its tile register. -/
  | tileComplete (n : Fin 288)
  /-- SEND (R181): Sends a message from scratch to a mailbox of a destination core or service. -/
  | send (n : BankRead) (w : BitVec 26)
  /-- SENDM (R204): Sends a message to every destination of a multicast table entry. -/
  | sendm (n : BankRead) (w : BitVec 26)
  /-- RECV (R181): Takes the oldest message of a mailbox into scratch and returns the sender's credit. -/
  | recv (n : Fin 288) (w : BitVec 26)
  /-- AMO (R181): Issues a 32-bit atomic operation on a word of another core's scratch. -/
  | amo (n : Fin 288) (w : BitVec 26)
  /-- RDCRED (R181): Reads the credits now held toward a destination. -/
  | rdcred (n : Fin 288) (w : BitVec 26)
  /-- FENCE (R188): Waits until every earlier tile, remote and message instruction has completed. -/
  | fence (n : Fin 288) (w : BitVec 26)
  /-- WAITT (R188): Waits until at most IMM tile instructions are outstanding. -/
  | waitt (n : Fin 288) (w : BitVec 26)
  /-- WAITM (R188): Waits for a message in the masked mailboxes, or for a Tempo limit. -/
  | waitm (n : Fin 288) (w : BitVec 26)
  /-- WAITM_TIMEOUT (R188): WAITM's time limit passes with no message present, and the predicate reads 0. -/
  | waitmTimeout (n : Fin 288)
  /-- RDTMP (R189): Reads one sample of Tempo into a register pair. -/
  | rdtmp (n : Fin 288) (w : BitVec 26)
  /-- RDPACE (R189): Reads the core's measured pace. -/
  | rdpace (n : Fin 288) (w : BitVec 26)
  /-- PITCH (R188): Declares a pitch boundary for the streams in a mask, which commits their steps and state. -/
  | pitch (n : Fin 288) (w : BitVec 26) (outs : List StreamOut)
  /-- HALT (R191): Stops the core without fault. -/
  | halt (n : Fin 288) (w : BitVec 26)
  /-- SETX (R188): Sets EVEC from a register. -/
  | setx (n : Fin 288) (w : BitVec 26)
  /-- XRET (R192): Returns from an exception handler to XPC + 4. -/
  | xret (n : Fin 288) (w : BitVec 26)
  /-- RDX (R188): Reads XPC, XCAUSE or XINFO. -/
  | rdx (n : Fin 288) (w : BitVec 26)
  /-- CORE_NOP (R188): The NOP instruction, which does nothing. -/
  | coreNop (n : Fin 288) (w : BitVec 26) (fetchError : Bool)
  /-- PACKET_INJECT (R213): An NI injects the next packet, holding the needed credits and tokens, by class priority. -/
  | packetInject (i : Fin 300)
  /-- PACKET_HOP (R199): A router checks, routes and forwards or ejects a packet, by XY, source route or multicast tree. -/
  | packetHop (k : Nat) (e : FlitErrors)
  /-- RD_TILE (R197): A target receives a tile read request and replies with DATA. -/
  | rdTile (n : Fin 288) (ecc : Ecc)
  /-- WR_512 (R197): A target receives a 512 B scratch write and acknowledges it. -/
  | wr512 (n : Fin 288)
  /-- AMO_ADD (R197): A target applies a fetch-add and replies with the old value. -/
  | amoAdd (n : BankRead)
  /-- AMO_SWAP (R197): A target applies a swap and replies with the old value. -/
  | amoSwap (n : BankRead)
  /-- AMO_CAS (R197): A target applies a compare-swap and replies with the old value. -/
  | amoCas (n : BankRead)
  /-- U_RD (R235): An owner hauler or tier store receives a U-space read and serves it, redirects it or refuses it. -/
  | uRd (i : Fin 300) (ecc : Ecc)
  /-- U_WR (R235): An owner hauler or tier store receives a U-space write and applies it, redirects it or refuses it. -/
  | uWr (i : Fin 300) (ecc : Ecc)
  /-- DATA (R184): A DATA reply packet reaches its initiator and fills the tile or completes the request. -/
  | data (i : Fin 300)
  /-- ACK (R184): An ACK reaches its initiator and completes a request or a message send. -/
  | ack (i : Fin 300)
  /-- CREDIT (R185): A credit-return packet reaches the sender and restores one landing credit. -/
  | credit (i : Fin 300)
  /-- NACK_POISON (R198): A poisoned-request NACK makes the initiator reissue the request with the next generation, at most twice. -/
  | nackPoison (i : Fin 300)
  /-- U_REDIRECT (R235): The owner's redirect reaches the initiator, which caches it and resends the access to the tier store. -/
  | uRedirect (i : Fin 300)
  /-- U_MOVED (R236): A stale or closed run answer makes the initiator drop its redirect and retry at the owner. -/
  | uMoved (i : Fin 300)
  /-- U_BUSY (R236): A full tier store answer makes the initiator wait 1 us before it retries. -/
  | uBusy (i : Fin 300)
  /-- U_BUSY_RETRY (R236): The 1 us wait after U_BUSY ends and the access is sent again. -/
  | uBusyRetry (i : Fin 300) (tag : BitVec 10)
  /-- MSG (R183): A message lands in the target's landing store, enters its mailbox or waits, and is acknowledged. -/
  | msg (n : Fin 288)
  /-- MSG_TREE (R204): A multicast message lands at one destination of its tree and is acknowledged. -/
  | msgTree (n : Fin 288)
  /-- PMA_BRIDGE_JOB (R182): The PMA bridge takes a job descriptor from a core's message, then validates it and queues or refuses it. -/
  | pmaBridgeJob
  /-- H_RD (R236): A tier store serves a hauler's read of a run, unexpanded. -/
  | hRd (n : BankRead)
  /-- H_WR (R236): A tier store applies a hauler's write of a run. -/
  | hWr (n : Fin 288)
  /-- H_CLOSE (R241): A tier store closes a run to writes after applying earlier ones. -/
  | hClose (n : Fin 288)
  /-- H_FREE (R241): A tier store releases a run. -/
  | hFree (n : Fin 288)
  /-- REQUEST_TIMEOUT (R216): A request timer expires, the NI synthesises a TIMEOUT reply, frees reply space and advances the tag generation. -/
  | requestTimeout (i : Fin 300) (tag : BitVec 10)
  /-- STALL_PURGE (R218): A head flit that has waited more than 1 ms at a router input is discarded and counted. -/
  | stallPurge (k : Nat)
  /-- TOPO_ENTRY_WRITE (R208): Sterdo rewrites a topo table entry as one 64-bit write, and with ORDERED the NI holds new injections. -/
  | topoEntryWrite (i : Fin 300) (dest : Nat) (e : BitVec 64)
  /-- ORDERED_HOLD_END (R208): Every request injected under earlier entries has completed or timed out, so held injections proceed. -/
  | orderedHoldEnd (i : Fin 300) (dest : Nat)
  /-- BELAY_REQUEST (R220): The conductor names a domain and target state, and injections toward the domain are held. -/
  | belayRequest (d : Domain) (off : Bool)
  /-- BELAY_DRAIN_DONE (R220): Every request issued by or toward the domain has completed or timed out. -/
  | belayDrainDone (d : Domain)
  /-- BELAY_FENCE (R220): The conductor confirms that no packet from or to the domain remains in any buffer. -/
  | belayFence (d : Domain)
  /-- BELAY_ACKNOWLEDGE (R220): The domain's controller acknowledges that it is quiet. -/
  | belayAcknowledge (d : Domain)
  /-- BELAY_CANCEL (R221): Demand for the domain before FENCE cancels the belay and lifts the holds. -/
  | belayCancel (d : Domain)
  /-- BELAY_ABORT (R221): Steps 1-4 exceed 20 ms, so the belay aborts, the domain stays on and FAB_BELAY_ABORT counts it. -/
  | belayAbort (d : Domain)
  /-- DOMAIN_WAKE (R222): A belayed domain completes its wake and held injections proceed. -/
  | domainWake (d : Domain)
  /-- TILE_MOVE_START (R244): A hauler takes its next queued operation by priority and starts moving a tile. -/
  | tileMoveStart (c : FrameRead)
  /-- TILE_MOVE_DONE (R241): A tile's copy ends, its entry is rewritten, INFLIGHT and DIRTY clear and the source is released. -/
  | tileMoveDone (c : Fin 8)
  /-- DRAM_SCRUB (R248): A controller scrubs its channel once every 8 h of operating time. -/
  | dramScrub (c : Fin 8) (errs : List RowError)
  /-- CORE_POOL_EMPTY (R247): A retired core's tier pool is emptied within 50 ms, and unreadable runs are poisoned. -/
  | corePoolEmpty (n : Fin 288) (unreadable : List Nat)
  /-- BAR2_READ (R303): A host read through BAR2 resolves and returns U-space bytes, or zeros where forbidden or timed out. -/
  | bar2Read (off len : Nat) (tag : BitVec 10)
  /-- BAR2_WRITE (R249): A host write through BAR2 applies bytes to U-space under the window rules. -/
  | bar2Write (off : Nat) (bytes : List Byte)
  /-- TIER_BAR2_WRITE (R249): A write of TIER_BAR2.BASE moves the BAR2 aperture for later accesses. -/
  | tierBar2Write (src : Src) (v : Word)
  /-- FAB_SEL_WRITE (R454): A write of FAB_SEL snapshots one initiator's statistics into the shared window. -/
  | fabSelWrite (src : Src) (v : Word)
  /-- TIER_MAP_SEL_WRITE (R454): A write of TIER_MAP_SEL snapshots one tile's map entry. -/
  | tierMapSelWrite (src : Src) (v : Word)
  /-- LEDG_SEL_WRITE (R454): A write of LEDG_SEL snapshots one ledger entry. -/
  | ledgSelWrite (src : Src) (v : Word)
  /-- KV_DROP (R275): Free pages below the low-water mark make the conductor drop whole page columns in drop order. -/
  | kvDrop (busy : BitVec 16)
  /-- KV_REPLAY (R276): Before a step, the conductor replays a stream's absent columns from its token log. -/
  | kvReplay (s : Fin 16)
  /-- COPY_ON_WRITE (R274): Before a step appends into a shared or missing column, the conductor gives the stream private pages. -/
  | copyOnWrite (s : Fin 16)
  /-- PAGE_WAIT_TIMEOUT (R277): A step or replay that still lacks pages after 100 ms faults its stream with NO_RESOURCE. -/
  | pageWaitTimeout (s : Fin 16)
  /-- PARK_IDLE_EXPIRY (R283): A stream idle for PARK_IDLE has its state object parked into the bivouac. -/
  | parkIdleExpiry (s : Fin 16)
  /-- PARK_DONE (R283): Parking of a state object ends, and the stream's TIER_BIVOUAC bit is set. -/
  | parkDone (s : Fin 16)
  /-- RESTORE_DONE (R284): A restore completes, and the stream's first pitch may start. -/
  | restoreDone (s : Fin 16)
  /-- UNISON_APPLY (R291): A staged change of UNISON is applied at the next pitch boundary common to every RUNNING graph. -/
  | unisonApply
  /-- COMMIT_TIMEOUT (R330): A command waiting for a commit point reaches CONFIG_COMMIT_TIMEOUT and returns CONFIG_BUSY. -/
  | commitTimeout (k : Nat)
  /-- PCIE_LINK_UP (R296): The host link trains at a supported speed and width. -/
  | pcieLinkUp (speed : BitVec 3) (width : BitVec 3)
  /-- BUS_MASTER_DISABLE (R298): Clearing Bus Master Enable stops upstream requests at the next TLP boundary and holds MSI-X as pending. -/
  | busMasterDisable
  /-- BUS_MASTER_ENABLE (R298): Setting Bus Master Enable lets upstream writes and pending MSI-X messages proceed. -/
  | busMasterEnable
  /-- D3HOT_ENTRY (R298): The function enters D3hot and answers BAR accesses as the base specification requires. -/
  | d3hotEntry
  /-- D0_RETURN (R298): The function returns from D3hot to D0 with all device state kept. -/
  | d0Return
  /-- COMPLETION_TIMEOUT (R299): A device read gets no completion within 40 ms, which sets CPL_TO and is reported through AER. -/
  | completionTimeout
  /-- COMPLETION_ERROR (R299): A device read completes with UR, CA or poisoned data, which sets CPL_ERR or POISON_RX. -/
  | completionError (e : CplError)
  /-- L1_ENTRY (R300): 32 us with no TLP requests ASPM L1 through the host-link belay. -/
  | l1Entry (l11 : Bool)
  /-- L1_EXIT (R300): The link returns to L0 from L1 or L1.1. -/
  | l1Exit
  /-- MSIX_UNMASK (R305): A vector becomes allowed to send while its pending bit is set, and one message is sent. -/
  | msixUnmask (how : Unmask)
  /-- REGISTER_WRITE (R7): A write to a register without its own row applies each field by its access code, including WOS locking and lock violations. -/
  | registerWrite (src : Src) (off : BitVec 24) (v : Word)
  /-- RC_READ (R8): A full read of a register with RC fields clears the returned flag bits and lowers counters by the value returned. -/
  | rcRead (src : Src) (off : BitVec 24)
  /-- BAR0_PARTIAL_WRITE (R306): A write covering part of a register is discarded, sets PARTIAL_WR and logs the offset. -/
  | bar0PartialWrite (src : Src) (off : BitVec 24) (bytes : List Byte)
  /-- BAR0_BIG_READ (R306): A BAR0 read longer than 64 B returns Unsupported Request and sets BIG_RD. -/
  | bar0BigRead (off : BitVec 24) (len : Nat)
  /-- DBG_EVT_PEEK_READ (R432): A full read of DBG_EVT_PEEK_0 latches words 1-7 of the newest record for the reading source. -/
  | dbgEvtPeekRead (src : Src)
  /-- IRQ_TEST (R305): A write of IRQ_TEST sends one message of a vector from 0 to 23. -/
  | irqTest (v : Word)
  /-- SPI_NOP (R309): A valid NOP frame collects the response to the previous frame. -/
  | spiNop
  /-- SPI_READ (R313): A valid READ frame reads a reachable register, or is answered DENIED. -/
  | spiRead (off : BitVec 24)
  /-- SPI_WRITE (R313): A valid WRITE frame writes a reachable register, or is answered DENIED. -/
  | spiWrite (off : BitVec 24) (v : Word)
  /-- SPI_BAD_FRAME (R312): A frame with a bad length, gap, CRC or command has no effect and is answered and counted with its first fault. -/
  | spiBadFrame (f : SpiFrame)
  /-- HEALTH (R415): The supervisor's EXEC HEALTH returns the health summary. -/
  | health
  /-- HOLD_SET (R377): The supervisor places or widens a hold of a permitted kind. -/
  | holdSet
  /-- HOLD_CLEAR (R377): The supervisor clears the named bits of a hold. -/
  | holdClear
  /-- SPV_GUARD_PROPOSE (R382): The supervisor proposes a guard table from its staging registers. -/
  | spvGuardPropose
  /-- SPV_GUARD_CONFIRM (R385): The supervisor confirms a pending host proposal with its digest words. -/
  | spvGuardConfirm
  /-- SPV_GUARD_VETO (R386): The supervisor vetoes a pending proposal. -/
  | spvGuardVeto
  /-- SPV_GUARD_QUERY (R314): The supervisor queries a guard table's version, digest and pending proposals. -/
  | spvGuardQuery
  /-- LEDGER_READ (R314): The supervisor reads one ledger entry. -/
  | ledgerRead
  /-- SPV_UNKNOWN_OP (R314): An EXEC with an unlisted op completes with UNKNOWN_OPCODE. -/
  | spvUnknownOp (op : BitVec 8)
  /-- EXEC_DONE (R314): A supervisor EXEC completes, which writes the results, clears BUSY, sets DONE and raises EXEC_DONE. -/
  | execDone
  /-- RING_ENABLE (R317): EN from 0 to 1 resets the ring's indices, its SEQ and its reply phase. -/
  | ringEnable (src : Src) (r : Fin 16) (v : Word)
  /-- RING_DISABLE (R329): EN = 0 stops fetching at the next descriptor, and the ring enters DRAINING. -/
  | ringDisable (src : Src) (r : Fin 16) (v : Word)
  /-- RING_DRAIN_DONE (R329): Every accepted command of a DRAINING ring has its final reply, and the ring is DISABLED. -/
  | ringDrainDone (r : Fin 16)
  /-- RESUME (R327): RESUME = 1 resumes a STALLED ring when reply space suffices, or retries a FAULT ring's fetch. -/
  | resume (src : Src) (r : Fin 16) (v : Word)
  /-- SQ_DOORBELL (R318): A write of RING_n_SQ_TAIL makes new descriptors available for fetching. -/
  | sqDoorbell (src : Src) (r : Fin 16) (v : Word)
  /-- RQ_HEAD_WRITE (R326): Host software advances RQ_HEAD, which frees reply slots for fetching. -/
  | rqHeadWrite (src : Src) (r : Fin 16) (v : Word)
  /-- DESCRIPTOR_FETCH (R319): The device fetches one descriptor by priority and checks it into intake, or answers it with a failure. -/
  | descriptorFetch (desc : Vector Word 16)
  /-- RING_STALL (R327): Fetching held back for RING_STALL_TIMEOUT makes the ring STALLED. -/
  | ringStall (r : Fin 16)
  /-- DEFERRED_EXECUTE (R343): A deferred QUEUE command whose state becomes legal executes and receives its SECOND reply. -/
  | deferredExecute (k : Nat)
  /-- DEFERRED_TIMEOUT (R325): A command still deferred after 10 s receives a SECOND reply of STATE_CONFLICT. -/
  | deferredTimeout (k : Nat)
  /-- PAGE_FLUSH_TIMER (R332): FLUSH_MS after a page's first record, the page is returned with reason TIMER. -/
  | pageFlushTimer (s : Fin 16)
  /-- PG_RET_ENABLE (R333): Enabling the page-return ring lets filled pages be returned. -/
  | pgRetEnable (src : Src) (v : Word)
  /-- PG_RET_HEAD_WRITE (R333): Advancing HIF_PG_RET_HEAD frees entries, so waiting pages are returned in fill order. -/
  | pgRetHeadWrite (src : Src) (v : Word)
  /-- NOP (R347): The NOP command replies OK. -/
  | nop
  /-- PING (R347): PING echoes w2-w5 in r0-r3. -/
  | ping
  /-- QUERY_INFO (R347): QUERY_INFO returns the identity page or the listed settings page. -/
  | queryInfo
  /-- SET_MODE (R419): SET_MODE starts a device mode change, or stages a unison change. -/
  | setMode
  /-- MODE_CHANGE_DONE (R419): The steps of a mode change complete and SET_MODE replies. -/
  | modeChangeDone
  /-- RESET_UNIT (R347): RESET_UNIT resets the audio hub or the PMA. -/
  | resetUnit
  /-- SAFE_STATE (R378): The host enters or leaves its own safe state. -/
  | safeState
  /-- PACK_LOAD (R372): PACK_LOAD checks a pack container, signature and expiry, and loads its objects. -/
  | packLoad
  /-- PACK_VERIFY (R372): PACK_VERIFY runs the pack checks and loads nothing. -/
  | packVerify
  /-- PACK_EVICT (R374): PACK_EVICT frees an unused pack's objects and handle. -/
  | packEvict
  /-- OBJ_ALLOC (R231): OBJ_ALLOC creates a U-space object and reserves one frame per tile. -/
  | objAlloc
  /-- OBJ_PLACE (R239): OBJ_PLACE sets an object's policy and affinity and replies once its tiles stand in place. -/
  | objPlace
  /-- OBJ_FLUSH (R242): OBJ_FLUSH completes once every tile dirty at acceptance has been written back. -/
  | objFlush
  /-- OBJ_FREE (R348): OBJ_FREE waits for in-flight moves, then frees an unused object. -/
  | objFree
  /-- SESSION_OPEN (R263): SESSION_OPEN opens the session with its seats and KV pool. -/
  | sessionOpen
  /-- SESSION_CLOSE (R349): SESSION_CLOSE closes every stream, releases every prefix and clears the KV registers. -/
  | sessionClose
  /-- STREAM_OPEN (R349): STREAM_OPEN configures a stream, allocates its state object and makes it OPEN. -/
  | streamOpen
  /-- STREAM_START (R365): STREAM_START moves an OPEN or FAULTED stream to LISTENING. -/
  | streamStart
  /-- STREAM_PAUSE (R368): STREAM_PAUSE closes the stream's gates and makes it PAUSED at its next pitch boundary. -/
  | streamPause
  /-- STREAM_RESUME (R365): STREAM_RESUME moves a PAUSED stream to LISTENING. -/
  | streamResume
  /-- STREAM_DRAIN (R365): STREAM_DRAIN makes the stream DRAINING until its phrase completes. -/
  | streamDrain
  /-- STREAM_CLOSE (R349): STREAM_CLOSE abandons the stream's work, revokes its pages and frees its resources. -/
  | streamClose
  /-- PREFIX_DEFINE (R271): PREFIX_DEFINE computes and keeps a prefix's latents and input words under a handle. -/
  | prefixDefine
  /-- PREFIX_ATTACH (R272): PREFIX_ATTACH replaces a stream's context with a prefix, rebuilding it first under REBUILD. -/
  | prefixAttach
  /-- PREFIX_RELEASE (R273): PREFIX_RELEASE removes a prefix's own reference and makes its handle absent. -/
  | prefixRelease
  /-- TEXT_SUBMIT (R349): TEXT_SUBMIT gives a TEXT_IN stream a text to speak. -/
  | textSubmit
  /-- SAP_CONFIG (R351): SAP_CONFIG applies the framing, mask, block and synchronisation groups of a port. -/
  | sapConfig
  /-- SAP_START (R93): SAP_START starts a stopped port, and its output channels open through the tacet gate. -/
  | sapStart
  /-- SAP_STOP (R93): SAP_STOP stops a port at a frame boundary after its gates have silenced it. -/
  | sapStop
  /-- ZONE_DEFINE (R85): ZONE_DEFINE sets a zone's members, which commit at each port's boundary. -/
  | zoneDefine
  /-- ZONE_ROUTE (R351): ZONE_ROUTE changes a stream's zone mask and attenuation. -/
  | zoneRoute
  /-- ZONE_MUTE (R352): ZONE_MUTE mutes zones, or unmutes them unless a hold covers one. -/
  | zoneMute
  /-- FE_CONFIG (R353): FE_CONFIG sets the separation microphones and K_SEP at the next hop boundary. -/
  | feConfig
  /-- RNC_ENABLE (R104): RNC_ENABLE configures and enables road-noise cancellation at a cabin frame boundary. -/
  | rncEnable
  /-- RNC_DISABLE (R144): RNC_DISABLE closes the anti-noise gates through the tacet gate. -/
  | rncDisable
  /-- SEAT_MAP (R353): SEAT_MAP changes seat occupancy, languages and zones at the next hop boundary. -/
  | seatMap
  /-- PAGE_GRANT (R331): PAGE_GRANT gives a stream host pages, into which its backlog drains. -/
  | pageGrant
  /-- PAGE_FLUSH (R354): PAGE_FLUSH returns the current page of one stream, or of every stream. -/
  | pageFlush
  /-- GUARD_PROPOSE (R382): Host software proposes a guard table image. -/
  | guardPropose
  /-- GUARD_CONFIRM (R385): Host software confirms a pending supervisor proposal. -/
  | guardConfirm
  /-- GUARD_VETO (R386): Host software vetoes a pending proposal. -/
  | guardVeto
  /-- GUARD_QUERY (R355): Host software queries a guard table and optionally has its image written out. -/
  | guardQuery
  /-- PROPOSAL_EXPIRY (R386): A proposal whose window passes is removed, logged and flagged. -/
  | proposalExpiry (spv : Bool)
  /-- RTC_SET (R356): RTC_SET makes a host RTC commit and replies once the commit has applied. -/
  | rtcSet
  /-- RTC_GET (R356): RTC_GET returns the time, date and status from one tick. -/
  | rtcGet
  /-- RTC_ALARM (R69): RTC_ALARM sets and arms or disarms the alarm. -/
  | rtcAlarm
  /-- HEALTH_QUERY (R415): HEALTH_QUERY returns the health summary or the retirement counts. -/
  | healthQuery
  /-- BIST_RUN (R407): BIST_RUN tests a spare, retired or idle unit and reports the result. -/
  | bistRun (pass : Bool) (detail : Word)
  /-- LEDGER_EXPORT (R413): LEDGER_EXPORT writes ledger entries to host memory. -/
  | ledgerExport
  /-- LEDGER_IMPORT (R414): LEDGER_IMPORT opens a host proposal to import ledger entries. -/
  | ledgerImport
  /-- PROBE_SET (R225): PROBE_SET replaces a cairn's configuration and clears its counts. -/
  | probeSet
  /-- STATS_READ (R359): STATS_READ writes one initiator's statistics to host memory, optionally clearing them. -/
  | statsRead
  /-- TRACE_DUMP (R359): TRACE_DUMP writes cairn trace records to host memory, oldest first. -/
  | traceDump
  /-- EVENT_DRAIN (R431): EVENT_DRAIN reserves, writes and removes the oldest event records. -/
  | eventDrain
  /-- PROGRAM_LOAD (R164): PROGRAM_LOAD binds cores and images to a graph, or stages a switch on a running graph. -/
  | programLoad
  /-- GRAPH_LAUNCH (R166): GRAPH_LAUNCH starts every core of a LOADED graph at ENTRY. -/
  | graphLaunch
  /-- GRAPH_STOP (R163): GRAPH_STOP stops a graph or releases its cores. -/
  | graphStop
  /-- CREDIT_PLAN (R169): CREDIT_PLAN sets or stages a graph's credits, metronomes, timeouts and multicast sets. -/
  | creditPlan
  /-- PMA_CAL (R362): PMA_CAL sets IDLE_MS and brings forward calibration steps of the named sections. -/
  | pmaCal
  /-- PMA_STATUS (R362): PMA_STATUS returns a section's status registers. -/
  | pmaStatus
  /-- PMA_JOB (R127): PMA_JOB validates and queues a job, and replies at its completion. -/
  | pmaJob
  /-- RESET_HOLD_DONE (R377): A RESET hold finishes closing the session, stopping graphs and resetting units, and clears itself. -/
  | resetHoldDone
  /-- BOOT_PLL_LOCK (R391): Boot step 1 completes when the TEMPO PLL locks and Tempo starts. -/
  | bootPllLock
  /-- BOOT_OTP_READ (R391): Boot step 2 reads OTP, fuses and the ledger and self-tests the conductor, or halts. -/
  | bootOtpRead (bad : OtpFault)
  /-- BOOT_BIST_DONE (R391): Boot step 3 ends BIST of cores, banks, routers and links, and failing units are retired. -/
  | bootBistDone (fails : List UnitRef)
  /-- BOOT_CORE_MAP (R391): Boot step 4 completes the fabric test, the anchor row, the core map and the topo tables. -/
  | bootCoreMap
  /-- DRAM_TRAINING_DONE (R391): Boot step 5 ends DRAM training, with retries or DRAM_FAIL. -/
  | dramTrainingDone (failed : BitVec 8)
  /-- CONFIG_SPACE_READY (R393): Boot step 7 makes the configuration space and BAR0 ready and sets the boot values. -/
  | configSpaceReady
  /-- FW_CHUNK_FIRST (R400): A GEN_FW_CTRL write with FIRST = 1 restarts the load with this chunk. -/
  | fwChunkFirst (v : Word)
  /-- FW_CHUNK_NEXT (R400): A GEN_FW_CTRL write with FIRST = 0 appends a chunk, or gives SEQUENCE or SIZE rejection. -/
  | fwChunkNext (v : Word)
  /-- FW_ABORT (R400): A GEN_FW_CTRL write with ABORT = 1 discards the chunks and returns the load to IDLE. -/
  | fwAbort (v : Word)
  /-- FW_CHUNK_COPY_DONE (R398): A chunk copy ends, and STATE becomes RECEIVING or VERIFYING. -/
  | fwChunkCopyDone
  /-- FW_VERIFY_DONE (R399): Image verification ends in RUNNING or in REJECTED with a reason. -/
  | fwVerifyDone
  /-- STERDO_START (R391): Boot step 9 starts Sterdo, which takes over the ledger and health state. -/
  | sterdoStart (ok : Bool)
  /-- QUIET_READINESS (R395): Boot step 10 loads the front end, enters QUIET, starts fetching, releases FAULT_N and sets QUIET_READY. -/
  | quietReadiness
  /-- OPERATING_SECOND (R401): Each second of operating time increments HLT_OPTIME and ages strike and row records. -/
  | operatingSecond
  /-- UNIT_RETIRE (R405): A permanent unit is retired and remapped onto its spare, or the device degrades by a step. -/
  | unitRetire (cutOff : List (Fin 288))
  /-- LEDGER_WRITE (R411): A retirement's entry is written to the next OTP slot, or to the extension, within 50 ms. -/
  | ledgerWrite (failed : Nat)
  /-- LOCKSTEP_MISMATCH (R408): A run-time conductor lockstep mismatch asserts FAULT_N and applies SAFE_STATE effects until power-on reset. -/
  | lockstepMismatch (pair : Fin 2)
  /-- VCORE_STEP (R421): At a 50 us step slot, the conductor moves the VCORE request by at most 10 mV with VOUT_COMMAND. -/
  | vcoreStep (nacks : Nat)
  /-- PMBUS_POLL (R424): Every 1 ms the master reads VOUT, IOUT and STATUS_WORD, retrying unacknowledged transactions. -/
  | pmbusPoll (p : PmicPoll)
  /-- CURRENT_CAP_STEP (R423): READ_IOUT above 72 A lowers the request by 10 mV per 1 ms, and below 65 A raises it by 10 mV per 10 ms. -/
  | currentCapStep
  /-- PMB_ALERT (R424): PMB_ALERT_N going low makes the master read STATUS_WORD. -/
  | pmbAlert (status : BitVec 16) (nacks : Nat)
  /-- VOUT_TOLERANCE_FAULT (R424): READ_VOUT outside 3 % of the request for 10 ms asserts FAULT_N. -/
  | voutToleranceFault
  /-- THERMAL_SAMPLE (R425): Every 1 ms the sensors are read and Tj is taken as the highest. -/
  | thermalSample (grid phot dram : Int)
  /-- THERMAL_CAP_STEP (R425): The thermal cap is lowered every 10 ms above 105 C, or raised every 100 ms below 100 C. -/
  | thermalCapStep
  /-- SHED_END (R426): Tj below 110 C for 1 s ends shedding. -/
  | shedEnd
  /-- SHUTDOWN_POWER_OFF (R427): 1 ms after silencing, every domain except the service die switches off and FAULT_N is asserted. -/
  | shutdownPowerOff
  /-- TRACE_PORT_RECORD (R433): The trace port sends the next queued cairn or event record as 67 nibbles. -/
  | tracePortRecord
  /-- TAP_RESET (R436): A TAP reset selects IDCODE and ends any DAP session. -/
  | tapReset
  /-- BYPASS (R435): The BYPASS instruction selects the bypass register. -/
  | bypass
  /-- IDCODE (R435): The IDCODE instruction selects the identification register. -/
  | idcode
  /-- SAMPLE_PRELOAD (R435): The SAMPLE/PRELOAD instruction samples or preloads the boundary scan cells. -/
  | samplePreload (cells : List Bool)
  /-- EXTEST (R435): EXTEST, when permitted, drives the balls from boundary scan. -/
  | extest
  /-- CLAMP (R435): CLAMP, when permitted, holds the balls at preloaded values. -/
  | clamp
  /-- DAP (R436): The DAP instruction opens a debug access port session when DEBUG permits it. -/
  | dap
  /-- DAP_NOP (R436): A DAP NOP scan shifts out the previous result and issues nothing. -/
  | dapNop (busy : Bool)
  /-- DAP_REG_RD (R436): A DAP REG_RD scan reads a register as the debug access port source. -/
  | dapRegRd (a : BitVec 40) (busy : Bool)
  /-- DAP_REG_WR (R436): A DAP REG_WR scan writes a register when DEBUG is OPEN. -/
  | dapRegWr (a : BitVec 40) (v : Word) (busy : Bool)
  /-- DAP_U_RD (R436): A DAP U_RD scan reads U-space under the window rules in class DEBUG. -/
  | dapURd (a : BitVec 40) (busy : Bool)
  /-- DAP_U_WR (R436): A DAP U_WR scan writes U-space when DEBUG is OPEN. -/
  | dapUWr (a : BitVec 40) (v : Word) (busy : Bool)
  /-- LASER_WAVELENGTH_LOCK_REGAINED (R402): The PLAS loop regains a laser's wavelength lock within 1 ms of losing it, which records a strike against the LASER. -/
  | laserWavelengthLockRegained (l : Fin 18)
  /-- TAG_QUARANTINE_END (R217): 64 ms of Tempo after a request timed out with no late reply, its tag leaves quarantine and the NI may reissue it. -/
  | tagQuarantineEnd (i : Fin 300) (tag : BitVec 10)
deriving DecidableEq, Repr

end Sys2Proof
end

