-- ==== Sys2Proof/Config.lean ====
section
/-! DEFINITION. What an implementation fixes and the free values: opaque constants with no body, so no statement can
rest on a number chosen here. Each is named in notes/assumptions. -/

namespace Sys2Proof.Config

/-- The free values, numbered by the counter State.freeCtr (log entry 2). -/
opaque free : Nat → Nat

/-- What a core's scratch holds at launch, which R166 leaves undefined, and after a program switch (08_grid_cores.md R170): by free-value
number and node (log entry 2). -/
opaque scratch : Nat → Nat → List Byte

/-- The severity field of an event record, which Table 25.1 names and no rule states but for code 0x04 (log entry 9). -/
opaque severity : BitVec 8 → Word → Word → BitVec 2

/-- The payload of a NaN result: type code, operation code, operands (R174 says IEEE 754, which leaves it; log entry 10). -/
opaque nanPayload : Nat → Nat → Nat → Nat → Nat

/-- Which of the results within 2 units in the last place VSPEC gives (R175), by function, type and operand (log entry 10). -/
opaque special : Nat → Nat → Nat → Nat

/-- Whether the product of a sample and a gain of code/2 dB attenuation, 1..254, is rounded away from zero (R85 gives the gain, no rule
the rounding; log entry 11). -/
opaque attenuate : Nat → Int → Bool

/-- The same for the ramp gain at frame k of R113 (true = up; log entry 11). -/
opaque ramp : Bool → Nat → Int → Bool

/-- What the fixed-point separation of unison mode keeps after one more frame of microphone samples under a configuration (07_front_end.md
R149 fixes that equal input gives equal output, not the numbers; log entry 14). -/
opaque sepStep : Nat → List Nat → Nat

/-- Sample k of a hop's talker signal in unison mode, by what the separation keeps and seat (R149; log entry 14). -/
opaque talker : Nat → Nat → Nat → Word

/-- The voice-activity decision of unison mode, by what the separation keeps and seat (R149; log entry 14). -/
opaque voice : Nat → Nat → Bool

/-- The ISA level that QUERY_INFO reports (R347); no rule states it (log entry 12). -/
opaque isaLevel : BitVec 8

/-- Spare rows of a DRAM channel as boot finds them (12_tiers.md Table 12.5 'boot'; no rule gives the number; log entry 31). -/
opaque dramSpareRows : Nat → BitVec 16

/-- A value that a core instruction computes and no rule states, by opcode, form (types, amounts), input and place: R174 says that the same
inputs give the same bits (log entry 2). -/
opaque coreResult : Nat → Nat → Nat → Nat → Nat

/-- The bank of a DRAM channel that holds a row (log entry 31). -/
opaque dramBank : Nat → Nat → Nat

/-- The spare rows of a bank of a DRAM channel (log entry 31). -/
opaque bankSpareRows : Nat → Nat → Nat

/-- Beats per microsecond of a core at a VCORE in mV and a junction temperature in degrees (R53, R189; R422 gives typical figures only;
log entry 12). -/
opaque pace : Nat → Nat → Int → Nat

/-- The level of a running MCLK output at a Tempo (02_package.md R51; log entry 2). -/
opaque mclk : Nat → Nat → Bool

/-- The low-rank form the pack loader finds for a tile (rank - 1, shift, U, V; R260 states what it must meet, not how it is
found; log entry 13). -/
opaque lowRank : Nat → Nat → Option (Nat × Nat × List Int × List Int)

end Sys2Proof.Config
end

