-- ==== Sys2Proof/Machine/State.lean ====
section
/-! DEFINITION. The state of the block as plain data. A field's docstring names the chapter of spec/ and the rule that
gives it; its default value is its value at reset (the machine right after power-on reset). Where the spec gives no
reset value the docstring says DESIGN CHOICE and the log entry 5 names the value. Registers that only show other state
are computed from it (Machine/Regs.lean) and are not held twice. -/

namespace Sys2Proof.Machine

/-! ### Clocks, Tempo, calendar (03_timing.md) -/

/-- A Tempo capture channel. -/
structure Cap where
  /-- 03 R61 Table 3.5 -/
  src : BitVec 6 := 0
  /-- 03 R61 Table 3.5 -/
  fall : Bool := false
  /-- 03 R61 Table 3.5 -/
  valid : Bool := false
  /-- 03 R61 Table 3.5 -/
  miss : BitVec 8 := 0
  /-- 03 R61 Table 3.4 (TMP_CAP_LO/HI) -/
  value : BitVec 64 := 0
deriving DecidableEq, Repr

/-- A Tempo compare channel. -/
structure Cmp where
  /-- 03 R62 Table 3.6 -/
  arm : Bool := false
  /-- 03 R62 Table 3.6 -/
  irqEn : Bool := false
  /-- 03 R62 Table 3.6 -/
  match_ : Bool := false
  /-- 03 R62 Table 3.6 -/
  late : Bool := false
  /-- 03 R62 Table 3.4 (TMP_CMP_LO/HI) -/
  target : BitVec 64 := 0
  /-- 03 R62, 17 R307: LO words staged, per source -/
  staged : Vector (Option Word) 3 := Vector.replicate 3 none
deriving DecidableEq, Repr

/-- A calendar value: the range of R64. -/
structure Cal where
  /-- 03 R64 -/
  year : Nat := 2000
  /-- 03 R64 -/
  month : Nat := 1
  /-- 03 R64 -/
  day : Nat := 1
  /-- 03 R64 -/
  hour : Nat := 0
  /-- 03 R64 -/
  minute : Nat := 0
  /-- 03 R64 -/
  second : Nat := 0
  /-- 03 R64: 1/1024 s -/
  sub : Nat := 0
deriving DecidableEq, Repr

/-- A valid commit that waits for its tick (R66 step 4), its source and the Tempo at which it was queued. -/
structure Commit where
  /-- 03 R66, R67 -/
  src : Src
  /-- 03 R67, 20 R375 -/
  at_ : Nat
  /-- 03 R66 -/
  value : Cal
deriving DecidableEq, Repr

/-- Clock monitors and Tempo. -/
structure Clk where
  /-- 03 R59: Tempo, a 64-bit count that does not wrap (00 R5) -/
  tempo : Nat := 0
  /-- 03 Table 3.7 PLL_LOCK (boot: Tempo starts when boot step 1 locks the PLL) -/
  pllLock : Bool := false
  /-- 03 Table 3.7 XTAL32K_RUN (boot; DESIGN CHOICE 5: running) -/
  xtal32kRun : Bool := true
  /-- 03 Table 3.7 TEMPO_LOSS -/
  tempoLoss : Bool := false
  /-- 03 Table 3.7 XTAL32K_LOSS -/
  xtal32kLoss : Bool := false
  /-- 03 Table 3.7 SAFE_ERR -/
  safeErr : Bool := false
  /-- 03 R58: a SAFE oscillator fault stands -/
  safeFault : Bool := false
  /-- 03 R58: Tempo at which the PLL relocked -/
  relockAt : Nat := 0
  /-- 03 R57: a TEMPO loss stands, which asserts FAULT_N until R58's clearance -/
  lost : Bool := false
  /-- 03 R61, Table 3.5 -/
  cap : Vector Cap 4 := Vector.replicate 4 {}
  /-- 03 R62, Table 3.6 -/
  cmp : Vector Cmp 4 := Vector.replicate 4 {}
deriving DecidableEq, Repr

/-- The calendar. Kept over power-on reset where Table 3.4 says kept. -/
structure Rtc where
  /-- 03 R64 (kept) -/
  now : Cal := {}
  /-- 03 Table 3.10 VALID (kept) -/
  valid : Bool := false
  /-- 03 Table 3.10 RANGE (kept) -/
  range : Bool := false
  /-- 03 Table 3.10 BAD_DATE -/
  badDate : Bool := false
  /-- 03 Table 3.10 PREEMPT, per source -/
  preempt : Vector Bool 3 := Vector.replicate 3 false
  /-- 03 Table 3.10 ALARM -/
  alarm : Bool := false
  /-- 03 Table 3.10 RANGE_EVT -/
  rangeEvt : Bool := false
  /-- 03 R66, Table 3.10 COMMIT_BUSY: the commit awaiting its tick -/
  queued : Option Commit := none
  /-- 03 R67: staging time word, per source -/
  stageTime : Vector Word 3 := Vector.replicate 3 0
  /-- 03 R67: staging date word, per source -/
  stageDate : Vector Word 3 := Vector.replicate 3 0
  /-- 03 Table 3.9 ALARM_ARM -/
  alarmArm : Bool := false
  /-- 03 R69 RTC_ALARM_TIME -/
  alarmTime : Word := 0
  /-- 03 R69 RTC_ALARM_DATE -/
  alarmDate : Word := 0
  /-- 03 R70 RTC_CORR_SEQ bits 30..0 -/
  corrSeq : BitVec 31 := 0
  /-- 03 R70 RTC_CORR_SEQ bit 31 -/
  corrValid : Bool := false
  /-- 03 R70 RTC_CORR_TEMPO -/
  corrTempo : BitVec 64 := 0
  /-- 03 R70 RTC_CORR_TIME -/
  corrTime : Word := 0
  /-- 03 R70 RTC_CORR_DATE -/
  corrDate : Word := 0
  /-- 03 Table 3.11 -/
  irqEn : BitVec 3 := 7
deriving DecidableEq, Repr

/-! ### Package, boot, firmware (02_package.md, 22_startup.md) -/

/-- Strap and GPIO registers, supplies. -/
structure Gen where
  /-- 02 R39: monitored rails below tolerance -/
  low : List MonRail := []
  /-- 02 R41: supplies other than VRTC lost -/
  off : Bool := false
  /-- 02 Table 2.7 XTAL_EXT (boot) -/
  xtalExt : Bool := false
  /-- 02 Table 2.7 PMIC_ADDR (boot) -/
  pmicAddr : BitVec 2 := 0
  /-- 02 Table 2.7 VSEL_A (boot) -/
  vselA : Bool := false
  /-- 02 Table 2.7 VSEL_B (boot) -/
  vselB : Bool := false
  /-- 02 Table 2.7 VIO_A_ERR (boot) -/
  vioAErr : Bool := false
  /-- 02 Table 2.7 VIO_B_ERR (boot) -/
  vioBErr : Bool := false
  /-- 02 R48 TESTEN as sampled -/
  testen : Bool := false
  /-- 02 Table 2.8 FUNC_0..FUNC_14 -/
  gpioFunc : BitVec 30 := 0
  /-- 00 R9, 02 Table 2.8: locked by the first full write -/
  gpioLocked : Bool := false
  /-- 02 Table 2.9 -/
  gpioOut : BitVec 15 := 0
  /-- 02 Table 2.10: levels of the balls (DESIGN CHOICE 5: the pull-downs' level) -/
  gpioIn : BitVec 16 := 0
  /-- 02 R42: level of PERST_N (true = deasserted; DESIGN CHOICE 5) -/
  perstN : Bool := true
deriving DecidableEq, Repr

/-- The firmware load states of Table 22.3. -/
inductive FwState where
  | idle
  | receiving
  | copying
  | verifying
  | running
  | rejected
deriving DecidableEq, Repr

/-- OTP and fuses (22_startup.md Table 22.1 step 2): set at manufacture, no reset touches them. -/
structure Otp where
  /-- 00 R1: 0 A, 1 B, 2 C (DESIGN CHOICE 5: grade A) -/
  grade : Fin 3 := 0
  /-- 19 Table 19.4 (DESIGN CHOICE 5) -/
  serial : Word := 0
  /-- 22 R399 check 3: SHA-256 of the vendor key (DESIGN CHOICE 5) -/
  keyHash : BitVec 256 := 0
  /-- 22 R399 check 4: major.minor floor (DESIGN CHOICE 5) -/
  floor : BitVec 16 := 0
  /-- 23 R411: OTP ledger, slot and entry (DESIGN CHOICE 5: empty) -/
  ledger : List (Nat × BitVec 64) := []
  /-- 23 R411: next free slot -/
  nextSlot : Nat := 0
deriving DecidableEq, Repr

/-- Boot sequence and firmware load. -/
structure Boot where
  /-- 22 Table 22.3 STEP -/
  step : Nat := 1
  /-- 22 Table 22.3 FAIL_STEP -/
  failStep : Nat := 0
  /-- 22 Table 22.3 GRID_OOS -/
  gridOos : Bool := false
  /-- 22 Table 22.3 DRAM_FAIL -/
  dramFail : Bool := false
  /-- 22 Table 22.3 DRAM_READY -/
  dramReady : Bool := false
  /-- 22 Table 22.3 QUIET_READY -/
  quietReady : Bool := false
  /-- 22 R391: steps that have ended (bit k = step k) -/
  done : BitVec 11 := 0
  /-- 22 R393: configuration space ready -/
  cfgReady : Bool := false
  /-- 22 Table 22.3 GEN_FW_STAT.STATE -/
  fw : FwState := .idle
  /-- 22 Table 22.3 REASON -/
  fwReason : BitVec 3 := 0
  /-- 22 Table 22.3 IGNORED -/
  fwIgnored : BitVec 4 := 0
  /-- 22 R398: the chunk being copied: its LEN and LAST -/
  chunk : Option (Nat × Bool) := none
  /-- 22 R397: image bytes received into conductor memory -/
  image : List Byte := []
  /-- 22 R398, 27 R456: firmware load mailbox (log entry 3) -/
  mailbox : Mem := []
  /-- 16 Table 16.3 STERDO, 19 Table 19.4: version of the running image -/
  sterdo : Word := 0
  /-- 23 R408: run-time lockstep mismatch stands -/
  lockstep : Bool := false
deriving DecidableEq, Repr

/-! ### Audio ports, zones, gates (04_audio_ports.md, 05_audio_sync.md) -/

/-- Port states of Table 4.8. -/
inductive PortState where
  | stopped
  | running
  | faulted
deriving DecidableEq, Repr

/-- Gate states of Table 5.4. -/
inductive GateState where
  | opened
  | waitClose
  | rampDown
  | closed
  | waitOpen
  | rampUp
deriving DecidableEq, Repr

/-- A tacet gate. -/
structure Gate where
  /-- 05 R112, R115 -/
  st : GateState := .closed
  /-- 05 R113: cabin frames waited, or frame of the ramp -/
  n : Nat := 0
  /-- 05 R112: change that waits for a ramp to end (true = open) -/
  next : Option Bool := none
  /-- 05 R111: sample of the previous frame of the gated signal -/
  prev : Int := 0
deriving DecidableEq, Repr

/-- The rate window of a port in progress (05_audio_sync.md R95, R102). -/
structure RateWin where
  /-- 05 R95: Tempo at which the window began -/
  start : Nat := 0
  /-- 05 R102: the port ran through all of it, so it counts among the windows of the phase test -/
  whole : Bool := false
  /-- 05 R95: FS active edges in it -/
  edges : Nat := 0
  /-- 05 R95: Tempo of its first edge -/
  first : Nat := 0
  /-- 05 R95: Tempo of its last edge -/
  last : Nat := 0
  /-- 05 R102: least phase of an edge -/
  phLo : Int := 0
  /-- 05 R102: largest phase of an edge -/
  phHi : Int := 0
deriving DecidableEq, Repr

/-- A serial audio port. -/
structure Sap where
  /-- 04 Table 4.7 (17 bits) -/
  cfg : BitVec 17 := 0x10
  /-- 04 Table 4.8 RATE_HZ -/
  rate : BitVec 18 := 48000
  /-- 04 Table 4.8 DIV -/
  div : BitVec 9 := 0
  /-- 04 Table 4.8 ACTIVE -/
  mask : BitVec 16 := 1
  /-- 04 Table 4.8 STAGED: shadow mask -/
  maskSt : Option (BitVec 16) := none
  /-- 04 Table 4.8 FRAMES (B) -/
  block : BitVec 9 := 48
  /-- 04 R89: shadow of B -/
  blockSt : Option (BitVec 9) := none
  /-- 04 Table 4.8 STATE -/
  state : PortState := .stopped
  /-- 04 Table 4.8 BANK_OFF (boot) -/
  bankOff : Bool := false
  /-- 04 Table 4.8 EPOCH -/
  epoch : BitVec 16 := 0
  /-- 04 R89: a change that is no shadow of its own awaits the next boundary -/
  epochDue : Bool := false
  /-- 04 Table 4.8 SEQ: of the last completed block -/
  seq : Word := 0
  /-- 04 Table 4.4: SEQ of the block in progress -/
  nextSeq : Word := 0
  /-- 04 Table 4.8 LAST_TS -/
  lastTs : BitVec 64 := 0
  /-- 04 Table 4.8 FRAME_ERR -/
  frameErr : BitVec 16 := 0
  /-- 04 R83: frames of the block in progress -/
  blk : List (List Word) := []
  /-- 04 R84: Tempo of its first frame -/
  blkTs : BitVec 64 := 0
  /-- 05 R109: slips of the block in progress -/
  blkSlips : Nat := 0
  /-- 04 R83: the last completed block, header and payload -/
  lastBlock : List Word := []
  /-- 05 R107: FIFO of frames, oldest first: for an input SEQ of the frame's block, for an output the streams whose first awaited sample
  the frame carries (18 R336); and its words (16 slots for an output) -/
  fifo : List (Word × List Word) := []
  /-- 05 R107, R109: input blocks whose frames are in the FIFO: SEQ, header and payload, slips so far -/
  flight : List (Word × List Word × Nat) := []
  /-- 05 R109: frames inserted since the last block was placed in the FIFO -/
  insBefore : Nat := 0
  /-- 05 R101: cabin frames of the ramp to zero that an unlocked ASRC still delivers -/
  unramp : Nat := 0
  /-- 05 R103: frames still to be inserted on the cabin side after a switch from bypass to ASRC -/
  insertLeft : Nat := 0
  /-- 05 R100: port frames that the ASRC owes for the cabin frames so far, fraction in 2^-32 -/
  acc : Nat := 0
  /-- 05 R101: direction in which the ASRC trims its ratio to keep the FIFO at 2 blocks (log entry 15) -/
  trim : Int := 0
  /-- 05 R100, 04 R86: cabin frames inside an output's ASRC, oldest first: streams whose first awaited sample each carries, and the
  channels that are not zero in it -/
  line : List (Word × BitVec 16) := []
  /-- 01 R15: what the last cabin frame carried into the cabin from an input -/
  cabin : List Word := []
  /-- 05 R107: the last frame read, which FILL_MODE 1 repeats -/
  lastFrame : List Word := []
  /-- 04 R79: what each slot of the last frame sent drove (none = high impedance) -/
  driven : List (Option Word) := []
  /-- 04 R93: SAP_STOP under way -/
  stopping : Bool := false
  /-- 05 Table 5.6 SAPn_SYNC_CFG -/
  syncCfg : BitVec 32 := 0x01F41400
  /-- 05 R89, 19 R351: shadow of SYNC_CFG -/
  syncCfgSt : Option Word := none
  /-- 05 Table 5.6 CLASS -/
  cls : BitVec 4 := 0
  /-- 05 R96: class of the window before, if there was one -/
  lastCls : Option (BitVec 4) := none
  /-- 05 R95 -/
  win : RateWin := {}
  /-- 05 R98: Tempo of the last FS active edge since the port started -/
  lastEdge : Option Nat := none
  /-- 05 Table 5.6 SYNC -/
  sync : Bool := false
  /-- 05 R103: status to switch to at the next block boundary -/
  syncDue : Option Bool := none
  /-- 05 Table 5.6 LOCKED -/
  locked : Bool := false
  /-- 05 Table 5.6 QUALIFYING -/
  qualifying : Bool := false
  /-- 05 R102: least and largest phase of the last windows of the phase test, newest last -/
  quals : List (Int × Int) := []
  /-- 05 R102: phase at qualification; of a 48 kHz controller the fixed delay of its edges (04 R77) -/
  qualPh : Int := 0
  /-- 05 Table 5.6 RNC_SUSP -/
  rncSusp : Bool := false
  /-- 05 Table 5.6 RATE -/
  rateMeas : BitVec 25 := 0
  /-- 05 Table 5.6 REF -/
  rateRef : BitVec 25 := 0
  /-- 05 Table 5.6 ratio: INT in bits 34..32, FRAC in 31..0 -/
  ratio : BitVec 35 := 0x100000000
  /-- 05 Table 5.6 SAPn_SYNC_IRQ -/
  irq : BitVec 9 := 0
  /-- 05 Table 5.6 SAPn_SYNC_IRQ_EN -/
  irqEn : BitVec 9 := 0
  /-- 05 Table 5.6 -/
  slipIns : Word := 0
  /-- 05 Table 5.6 -/
  slipDrop : Word := 0
  /-- 05 Table 5.6 SAPn_TACET_TO -/
  tacetTo : BitVec 16 := 0
  /-- 05 Table 5.6 OFFSET -/
  phase : BitVec 32 := 0
deriving DecidableEq, Repr

/-- A zone. -/
structure Zone where
  /-- 04 R85: the ZONE_z_MEM_m words 15..0 in force -/
  mem : Vector (BitVec 16) 16 := Vector.replicate 16 0
  /-- 04 R89: shadow of the members, and the ports that have not committed it -/
  memSt : Option (Vector (BitVec 16) 16 × BitVec 8) := none
  /-- 04 Table 4.9 HMUTE -/
  hmute : Bool := false
  /-- 04 R89, R90: ports whose boundary has not taken the host's last mute change -/
  muteDue : BitVec 8 := 0
deriving DecidableEq, Repr

/-- The front end. -/
structure Fe where
  /-- 07 Table 7.6 RNC_PATH -/
  rncPath : BitVec 2 := 0
  /-- 07 Table 7.6 SEP_PATH -/
  sepPath : BitVec 2 := 0
  /-- 07 Table 7.6 VAD -/
  vad : BitVec 4 := 0
  /-- 07 Table 7.6 MIC_LOST -/
  micLost : Bool := false
  /-- 07 R148: microphones that contribute zero -/
  micOff : BitVec 16 := 0
  /-- 07 Table 7.6 K_RNC -/
  kRnc : BitVec 4 := 7
  /-- 07 Table 7.6 K_SEP -/
  kSep : BitVec 4 := 9
  /-- 07 Table 7.6 NSTATE -/
  nState : BitVec 5 := 0
  /-- 07 Table 7.6 FE_REF_i: channel bytes -/
  refs : Vector Byte 8 := Vector.replicate 8 0
  /-- 07 Table 7.6 FE_ANTI_i -/
  antis : Vector Byte 8 := Vector.replicate 8 0
  /-- 07 Table 7.6 FE_ERR_i -/
  errs : Vector Byte 8 := Vector.replicate 8 0
  /-- 07 Table 7.6 FE_MIC_i -/
  mics : Vector Byte 16 := Vector.replicate 16 0
  /-- 07 Table 7.6 LAST -/
  latLast : BitVec 16 := 0
  /-- 07 Table 7.6 MAX -/
  latMax : BitVec 16 := 0
  /-- 07 Table 7.6 FE_MISS -/
  miss : Word := 0
  /-- 07 R137, R140: the spatial matrix held in S1 (DESIGN CHOICE 5: zero) -/
  spatial : Vector (Vector (BitVec 16) 16) 16 := Vector.replicate 16 (Vector.replicate 16 0)
  /-- 07 R148, 05 R106: microphone samples at the tap -/
  mic : Vector Word 16 := Vector.replicate 16 0
  /-- 07 R137: spatial products of the last cabin frame -/
  products : Vector Word 16 := Vector.replicate 16 0
  /-- 07 R139: EB of the spatial products, half bits -/
  sepEb : BitVec 5 := 0
  /-- 07 R149: what the fixed-point separation keeps of the samples it has taken (log entry 14) -/
  sepState : Nat := 0
  /-- 01 R16, 07 R146: talker signal of the last hop per seat, 16 kHz; empty without one -/
  talker : Vector (List Word) 4 := Vector.replicate 4 []
  /-- 07 R146: cabin frames collected for mask hops and not yet taken -/
  hopFrames : Nat := 0
  /-- 07 R147: Tempo of the first frame of the hop being collected -/
  hopFirst : Nat := 0
  /-- 07 R147: Tempo of the first frame of the hop after it -/
  hopNext : Nat := 0
  /-- 07 R142: ports whose reference frame has come since the last evaluation; none until the next cabin frame -/
  tapGot : Option (BitVec 8) := none
  /-- 07: the RNC matrix held in S0 (DESIGN CHOICE 5: zero) -/
  matrix : Vector (Vector (BitVec 16) 16) 16 := Vector.replicate 16 (Vector.replicate 16 0)
  /-- 07 R142, R144: the RNC filter states (DESIGN CHOICE 5: zero) -/
  states : Vector (BitVec 16) 16 := Vector.replicate 16 0
  /-- 05 R106, 07 R142: reference samples at the tap for the next evaluation -/
  tap : Vector Word 8 := Vector.replicate 8 0
  /-- 07 R142, R139: anti-noise results, newest last: the Tempo of the input frame's FS edge, EB in half bits, the samples -/
  antiQ : List (Nat × BitVec 5 × Vector Word 8) := []
  /-- 05 R105, 07 R144: RNC enabled -/
  rncOn : Bool := false
  /-- 05 R105: the path is SUSPENDED -/
  suspended : Bool := false
  /-- 07 R145: FE cores FE0..FE7 hold the front-end programs (22 R395) -/
  loaded : Bool := false
  /-- 19 Table 19.8 FE_CONFIG staged to the next hop: K_SEP and microphones -/
  cfgSt : Option (BitVec 4 × Vector Byte 16) := none
  /-- 19 Table 19.8 SEAT_MAP staged to the next hop: descriptor words -/
  seatSt : Option (Vector Word 16) := none
  /-- 19 Table 19.8 RNC_ENABLE staged to the next cabin frame: descriptor words -/
  rncSt : Option (Vector Word 16) := none
  /-- 16 R291, 07 R149: separation path to take at the next hop -/
  sepDue : Option (BitVec 2) := none
  /-- 15 R284, 24 R420: hops of talker signal held at the hand-off, per seat -/
  held : Vector Nat 4 := Vector.replicate 4 0
  /-- 07 R146: hops handed to the recognition encoder, per seat -/
  hops : Vector Nat 4 := Vector.replicate 4 0
  /-- 08 R161: adaptation frozen while FE0..FE7 move -/
  frozen : Bool := false
deriving DecidableEq, Repr

/-! ### The Photonic Mixing Array (06_photonic.md) -/

/-- A PMA job: its descriptor words and who submitted it (a host command, or a core and its mailbox). -/
structure Job where
  /-- 06 Table 6.3 -/
  desc : Vector Word 8
  /-- 06 R123: the host command, none for a grid program -/
  cmd : Option Cmd
  /-- 06 R128, 09 R182: submitting core and mailbox -/
  core : Option (Fin 288 × BitVec 3)
  /-- 06 Table 6.5 WOKE -/
  woke : Bool
  /-- 06 Table 6.5 DELAYED -/
  delayed : Bool
  /-- 06 Table 6.5 LOADED -/
  loaded : Bool
  /-- 06 Table 6.5 words 2-3: Tempo at start -/
  start : Nat
  /-- 06 Table 6.5: lanes the job was accepted with -/
  lanes : Nat
  /-- 06 R125: the job's number in order of acceptance; the copies of a pair share it -/
  id : Nat := 0
  /-- 06 R124, R128: the results are on their way to OUT_ADDR: status, vectors done, EB, saturation -/
  result : Option (Nat × Nat × Nat × Bool) := none
deriving DecidableEq, Repr

/-- A PMA section. -/
structure Sect where
  /-- 06 R117: channels whose rings hold lock (boot) -/
  ringsOk : BitVec 18 := 0
  /-- 06 R117: healthy rows (boot) -/
  rows : BitVec 17 := 0
  /-- 06 R117, Table 6.8 LANEMAP: the channels of the lanes in service, lane 0 first (boot) -/
  carriers : List Nat := []
  /-- 06 R119: intonation of the section ended -/
  ready : Bool := false
  /-- 06 R118 (boot) -/
  retired : Bool := false
  /-- 06 Table 6.8 ROTATING: the lane being calibrated -/
  rotating : Option Nat := none
  /-- 06 R130: the channel from which the next lane channel to calibrate is sought, rising -/
  rotNext : Nat := 0
  /-- 06 R130: Tempo of the last rotation step (none before the first) -/
  rotAt : Option Nat := none
  /-- 06 Table 6.8 SPARE_ROW_USED (boot) -/
  spareRow : Bool := false
  /-- 06 R133: row to replace at the next boundary -/
  rowDue : Option (Fin 17) := none
  /-- 06 Table 6.8 EB_CAL (boot) -/
  ebCal : BitVec 5 := 0
  /-- 06 R123: queue of jobs -/
  queue : List Job := []
  /-- 06 R126: running job -/
  running : Option Job := none
  /-- 06 R126: MATRIX_ADDR of the matrix held -/
  held : Option (BitVec 40) := none
  /-- 06 R126: the held matrix elements, as loaded (real, or one part of a complex matrix) -/
  heldW : List (BitVec 16) := []
  /-- 06 R131: gap step in progress -/
  gap : Bool := false
  /-- 06 R131: Tempo at the end of the last gap step -/
  gapAt : Nat := 0
  /-- 06 R131: first of the four rows to recalibrate next -/
  gapRow : Nat := 0
  /-- 19 Table 19.15 PMA_CAL: step brought forward -/
  calDue : Bool := false
  /-- 06 Table 6.8 PMA_Sn_JOBS -/
  jobs : Word := 0
  /-- 06 Table 6.8 STEPS -/
  steps : BitVec 16 := 0
  /-- 06 Table 6.8 FORCED -/
  forced : BitVec 16 := 0
  /-- 06 Table 6.8 LASTCAL -/
  lastCal : BitVec 64 := 0
deriving DecidableEq, Repr

/-- A lane of a section that moves to the channel of another laser (06_photonic.md R134). -/
structure LaneMove where
  /-- 06 R134: the section -/
  sec : Fin 4
  /-- 06 R134: the lane -/
  lane : Nat
  /-- 06 R134: the channel it moves to -/
  onto : Nat
deriving DecidableEq, Repr

/-- The PMA. -/
structure Pma where
  /-- 06 Table 6.8 PMA_LAS_DEAD (boot) -/
  dead : BitVec 18 := 0
  /-- 06 R116, R134: lasers at operating bias (boot) -/
  lit : BitVec 18 := 0
  /-- 06 Table 6.8 READY -/
  ready : Bool := false
  /-- 06 Table 6.8 INTONING -/
  intoning : Bool := false
  /-- 06 Table 6.8 S23_PWR: 0 off, 1 waking, 2 on, 3 in belay -/
  s23 : BitVec 2 := 0
  /-- 06 R129: Tempo since which S2 and S3 have been idle -/
  idleAt : Nat := 0
  /-- 06 Table 6.8 IDLE_MS -/
  idleMs : BitVec 10 := 50
  /-- 06 Table 6.8 PMA_IRQ -/
  irq : BitVec 7 := 0
  /-- 06 Table 6.8 PMA_IRQ_EN -/
  irqEn : BitVec 7 := 0
  /-- 06 R134: the moves of lanes onto other lasers under way, oldest first -/
  switching : List (List LaneMove) := []
  /-- 06 R123: number of the next job accepted -/
  jobCtr : Nat := 0
  /-- 06 R124: tiles that running jobs have read: job, tile, contents (none: the read did not end with OK) -/
  tiles : List (Nat × Nat × Option Tile) := []
  /-- 06 R120: rings being re-intoned -/
  retuning : List PmaRing := []
  /-- 06 Table 6.8 -/
  sect : Vector Sect 4 := Vector.replicate 4 {}
deriving DecidableEq, Repr

/-! ### Fabric (10_fabric_routing.md, 11_fabric_service.md) -/

/-- A packet: the fields of the head flit (Table 10.2) and its payload, with where it is. -/
structure Packet where
  /-- 10 Table 10.2 DEST -/
  dest : Nat
  /-- 10 Table 10.2 DPORT (true = V) -/
  dportV : Bool
  /-- 10 Table 10.2 SRC -/
  src : BitVec 10
  /-- 10 Table 10.2 MODE -/
  mode : BitVec 2
  /-- 10 Table 10.2 CLASS -/
  cls : BitVec 2
  /-- 10 Table 10.2 CMD -/
  cmd : BitVec 8
  /-- 10 Table 10.2 TAG -/
  tag : BitVec 10
  /-- 10 Table 10.2 GEN -/
  gen : BitVec 2
  /-- 10 Table 10.2 LEN -/
  len : BitVec 5
  /-- 10 Table 10.2 SEQ -/
  seq : BitVec 3
  /-- 10 Table 10.2 MB -/
  mb : BitVec 3
  /-- 10 Table 10.2 STATUS -/
  status : BitVec 8
  /-- 10 Table 10.2 ADDR -/
  addr : BitVec 40
  /-- 10 Table 10.2 TREE -/
  tree : BitVec 8
  /-- 10 Table 10.2 SRC_LEN -/
  srcLen : BitVec 4
  /-- 10 Table 10.2 FIRST_DIR -/
  firstDir : BitVec 2
  /-- 10 Table 10.2 TURN_IX; its four bits cannot show that all 16 entries of a route with SRC_LEN 15 are used up (R201), a fifth does
  (log entry 53) -/
  turnIx : BitVec 5
  /-- 10 Table 10.2 TURNS -/
  turns : BitVec 32
  /-- 10 Table 10.2 OPA -/
  opa : Word
  /-- 10 Table 10.2 OPB -/
  opb : Word
  /-- 10 R195: payload, byte k in bits 8k+7..8k -/
  body : BitVec 4096
  /-- 10 Table 10.3 POISON -/
  poison : Bool
  /-- 10 R199: router the head flit is in -/
  at_ : Nat
  /-- 10 R199: virtual channel -/
  vc : Bool
  /-- 10 R199, R201: direction it travels (none at injection) -/
  dir : Option (BitVec 2)
  /-- 11 R218: Tempo at which the head flit came to this input -/
  since : Nat
  /-- 10 R205, 12 R236: of a reply, the slot of its request that its injection frees: 0 none, 1 landing store, 2 tier store -/
  slot : Nat
deriving DecidableEq, Repr

/-- A packet in the fabric, with the buffers its flits hold (10 R196). -/
structure Flight where
  /-- 10 R195 -/
  pkt : Packet
  /-- model: its number; the branches of a multicast packet share it -/
  id : Nat
  /-- 10 R204: ports of its router (0..3 N E S W, 4 L, 5 V) whose branch has taken it -/
  taken : List Nat
  /-- 10 R196: the channels that may hold flits of it, the head's first, each with the flits that have entered it -/
  trail : List (Nat × Nat)
deriving DecidableEq, Repr

/-- Who waits for a request's completion (09 R184, 12 R235). -/
inductive Owner where
  /-- a tile operation of the core, by its number -/
  | tile (id : Nat)
  /-- a SEND or AMO of the core: destination register -/
  | reg (rd : Nat) (amo : Bool)
  /-- one destination of a SENDM: destination register and index -/
  | mcast (rd : Nat) (index : Nat)
  /-- a part of a BAR2 read: the read, the part's place in it, its place in the tile and its bytes (17 R303) -/
  | hostRead (id at_ off n : Nat)
  /-- a part of a BAR2 write, by the write's number (17 R303) -/
  | hostWrite (id : Nat)
  /-- a U-space access of the debug access port: its number, its place in the tile, read or write (25 R436) -/
  | dap (id off : Nat) (write : Bool)
  /-- a tile that a PMA job reads, by the job's number (06 R124) -/
  | pmaRead (job : Nat)
  /-- results that a PMA job writes, by the job's number (06 R124) -/
  | pmaWrite (job : Nat)
  /-- a service initiator's own operation -/
  | service
deriving DecidableEq, Repr

/-- A request or message of an initiator: the packet, its state and its timer. -/
structure Req where
  /-- 09 R184 -/
  pkt : Packet
  /-- 09 R184: destination as core or service number -/
  dst : Nat
  /-- 09 R184 -/
  owner : Owner
  /-- 11 R216: Tempo of injection; none while it waits without a timer -/
  sent : Option Nat
  /-- 10 R198: reissues after NACK_POISON -/
  reissues : Nat
  /-- 12 R236: waits out U_BUSY until this Tempo -/
  busyUntil : Option Nat
  /-- 09 R184: DATA packets received (bit k = SEQ k) -/
  got : BitVec 8
  /-- 09 R184, 10 R198: a reply came with a status other than OK or poisoned -/
  worst : BitVec 8
  /-- 10 R198: it waits to be reissued with the tag it has -/
  again : Bool := false
  /-- 09 R184: bytes of the tile that have arrived, for a service's read -/
  buf : Tile := 0
deriving DecidableEq, Repr

/-- A tag in quarantine (11 R217), for one destination of the request that timed out. -/
structure Late where
  /-- 11 R217 -/
  tag : BitVec 10
  /-- 11 R217: Tempo of the timeout -/
  since : Nat
  /-- 09 R186: destination, for its credit -/
  dst : Nat
  /-- 09 R185: a message, whose ACK with OK carries no credit -/
  msg : Bool
  /-- 10 R204: a destination of a multicast: its late reply comes from itself -/
  multi : Bool
  /-- 09 R184: SEQ of the last packet of the reply -/
  last : BitVec 3
deriving DecidableEq, Repr

/-- The counters of R228. -/
structure Stats where
  /-- 11 R228 -/
  bytes : BitVec 64 := 0
  /-- 11 R228 -/
  pkts : BitVec 64 := 0
  /-- 11 R228 -/
  timeouts : Word := 0
  /-- 11 R228 -/
  late : Word := 0
  /-- 11 R228 -/
  hist : Vector Word 16 := Vector.replicate 16 0
deriving DecidableEq, Repr

/-- An initiator's network interface (R228 numbers the 300 of them). -/
structure Ni where
  /-- 09 R184, 11 R213: requests in issue order, waiting or outstanding -/
  reqs : List Req := []
  /-- 11 R213: replies waiting for injection -/
  rsp : List Packet := []
  /-- 10 R205: packets arrived and not yet served -/
  rx : List Packet := []
  /-- 11 R216: generations of tags (unlisted = 0) -/
  gens : List (BitVec 10 × BitVec 2) := []
  /-- 11 R217: quarantined tags -/
  quarantine : List Late := []
  /-- 11 R217: next tag to try -/
  nextTag : BitVec 10 := 0
  /-- 08 R168, 09 R182: credits held per destination; unlisted = none -/
  credits : List (Nat × Nat) := []
  /-- 09 R184: bytes of reply store reserved -/
  reserved : Nat := 0
  /-- 11 R212: RATE per class, 1/4 flit per us (boot: Table 11.1) -/
  rate : Vector (BitVec 13) 4 := Vector.replicate 4 0
  /-- 11 R212: BURST per class, flits (boot: Table 11.1) -/
  burst : Vector (BitVec 12) 4 := Vector.replicate 4 0
  /-- 11 R212: tokens per class in 1/4 flit times 1000 (exact in Tempo) -/
  tokens : Vector Int 4 := Vector.replicate 4 0
  /-- 11 R212: t_last per class -/
  tlast : Vector Nat 4 := Vector.replicate 4 0
  /-- 11 Table 11.5 TO_US per class -/
  toUs : Vector (BitVec 14) 4 := Vector.replicate 4 200
  /-- 10 R208: destinations held for ORDERED -/
  hold : List Nat := []
  /-- 10 R203: multicast table: destinations by index, tree id -/
  mcast : Vector (Option (List Nat × BitVec 8)) 16 := Vector.replicate 16 none
  /-- 12 R235: last 32 redirects, newest first: tile, node, granule, len, fmt -/
  redirects : List (Nat × Nat × Nat × Nat × Nat) := []
  /-- 11 R228 -/
  stats : Stats := {}
  /-- 11 R219: Tempo of the last timeout event -/
  toEventAt : Option Nat := none
  /-- 11 R219: timeouts suppressed since -/
  toSuppressed : Nat := 0
deriving DecidableEq, Repr

/-- A cairn. -/
structure Cairn where
  /-- 11 Table 11.5 CAIRN_n_CFG, TRIGGERED apart -/
  cfg : BitVec 25 := 0
  /-- 11 Table 11.5 TRIGGERED -/
  triggered : Bool := false
  /-- 11 R224 MATCH -/
  match_ : BitVec 64 := 0
  /-- 11 R224 MASK -/
  mask : BitVec 64 := 0
  /-- 11 Table 11.5 -/
  pkts : Word := 0
  /-- 11 Table 11.5 -/
  flits : Word := 0
  /-- 11 Table 11.4 RSEQ -/
  rseq : Word := 0
deriving DecidableEq, Repr

/-- Steps of a belay (Table 11.2). -/
inductive BelayStep where
  | request
  | drained
  | fenced
  | switched
deriving DecidableEq, Repr

/-- A belay in progress or a domain in its target state. -/
structure Belay where
  /-- 11 Table 11.3 -/
  dom : Domain
  /-- 11 Table 11.3: target off (true) or retention, self-refresh, L1 -/
  off : Bool
  /-- 11 Table 11.2 -/
  step : BelayStep
  /-- 11 R221: Tempo of REQUEST -/
  since : Nat
deriving DecidableEq, Repr

/-- The fabric. -/
structure Fab where
  /-- 10 R199: packets in the routers, in the order in which their heads came to where they are -/
  net : List Flight := []
  /-- model: number of the next packet injected -/
  flights : Nat := 0
  /-- 10 R200: output ports (8 node + port) and the input virtual channel each granted last -/
  grants : List (Nat × Nat) := []
  /-- 10 Table 10.7 FAB_LINK_DEAD: retired links (boot) -/
  deadLinks : List Nat := []
  /-- 10 Table 10.7 FAB_ROUTER_DEAD (boot) -/
  deadRouters : List Nat := []
  /-- 10 R207: topo entries that differ from the core map's XY entry: initiator, destination, entry -/
  topo : List (Nat × Nat × BitVec 64) := []
  /-- 10 R203: trees in use: id, output-port masks by router (N, E, S, W, L, V) -/
  trees : List (BitVec 8 × List (Nat × BitVec 6)) := []
  /-- 10 Table 10.7 FAB_HEAD_DROP -/
  headDrop : Word := 0
  /-- 10 Table 10.7 FAB_POISON -/
  poison : Word := 0
  /-- 11 Table 11.5 FAB_SEL -/
  sel : BitVec 9 := 0
  /-- 27 R454: the snapshot in the window: rates, bursts, timeouts, counters -/
  window : Option Ni := none
  /-- 11 R220 -/
  belays : List Belay := []
  /-- 11 Table 11.5 -/
  belayAbort : BitVec 16 := 0
  /-- 11 Table 11.5 -/
  stallPurge : Word := 0
  /-- 11 Table 11.5 FAB_IRQ -/
  irq : BitVec 4 := 0
  /-- 11 Table 11.5 FAB_IRQ_EN -/
  irqEn : BitVec 4 := 0
  /-- 10 R198: corrected errors counted against links -/
  linkErrs : List (Nat × Nat) := []
  /-- 11 R224 -/
  cairn : Vector Cairn 16 := Vector.replicate 16 {}
  /-- 11 R226: trace records, oldest first (8 words each) -/
  trace : List (Vector Word 8) := []
  /-- 11 Table 11.5 WRAP -/
  wrap : Bool := false
  /-- 11 Table 11.5 STOPPED -/
  stopped : Bool := false
  /-- 11 Table 11.5 CAIRN_TRACE_LOST -/
  lost : Word := 0
  /-- 25 hard corner, 19 Table 19.12: TRACE_DUMPs taken in and not executed: command, and the oldest records it will write -/
  dumps : List (Nat × Nat) := []
  /-- 11 R226: records lost since the last one written -/
  lostRun : Nat := 0
  /-- 11 R226: Tempo of the last record taken -/
  traceAt : Option Nat := none
  /-- 11 R228: 300 initiators -/
  ni : Vector Ni 300 := Vector.replicate 300 {}
deriving DecidableEq, Repr

/-! ### Grid cores (08_grid_cores.md, 09_core_isa.md) -/

/-- An asynchronous tile instruction that has issued and not completed (R176): its opcode, the register it fills or
sends, the operands captured at issue. -/
structure TileOp where
  /-- 09 R176: its number on this core -/
  id : Nat
  /-- 09 Table 9.4: opcode -/
  op : BitVec 6
  /-- 09 Table 9.4: TD field -/
  td : Nat
  /-- 09 Table 9.4: TS field -/
  ts : Nat
  /-- 09 Table 9.4: TT field -/
  tt : Nat
  /-- 09 Table 9.4: FN field -/
  fn : Nat
  /-- 09 Table 9.4: g[RS1] at issue -/
  a : Word
  /-- 09 Table 9.4: g[RS2] at issue -/
  b : Word
  /-- 09 R184: bytes of the tile that have arrived -/
  buf : Tile
  /-- 09 R184: the lowest SEQ answered with a status other than OK, and that status -/
  worst : Option (Nat × BitVec 8)
deriving DecidableEq, Repr

/-- A message in a mailbox or waiting in the landing store (R183). -/
structure Msg where
  /-- 09 Table 9.6 SRC -/
  src : BitVec 10
  /-- 09 Table 9.6 LEN -/
  len : BitVec 4
  /-- 09 R183 -/
  mb : BitVec 3
  /-- 09 R181: payload -/
  body : BitVec 4096
  /-- 11 R211: class of the message, which its CREDIT carries -/
  cls : BitVec 2 := 1
deriving DecidableEq, Repr

/-- Run states of a core. -/
inductive RunState where
  | idle
  | running
  | paused
  | halted
deriving DecidableEq, Repr

/-- A grid core. -/
structure Core where
  /-- 09 R172 -/
  run : RunState := .idle
  /-- 09 R172 (zero at launch, R166) -/
  g : Vector Word 32 := Vector.replicate 32 0
  /-- 09 R172: p0 always reads 1 -/
  p : BitVec 8 := 1
  /-- 09 R172 -/
  v : Vector VReg 16 := Vector.replicate 16 0
  /-- 09 R172 -/
  t : Vector Tile 8 := Vector.replicate 8 0
  /-- 09 R172, R178: tile statuses, OK = 0 -/
  tst : Vector (BitVec 8) 8 := Vector.replicate 8 0
  /-- 09 R172 -/
  acc : Vector Acc 4 := Vector.replicate 4 0
  /-- 09 R177: type class last received since TZERO (none; false integer, true floating point) -/
  accFp : Vector (Option Bool) 4 := Vector.replicate 4 none
  /-- 09 R192 -/
  evec : Word := 0
  /-- 09 R192 -/
  xpc : Word := 0
  /-- 09 R192 -/
  xcause : Word := 0
  /-- 09 R192 -/
  xinfo : Word := 0
  /-- 09 R192: inside a handler -/
  handler : Bool := false
  /-- 09 R172 -/
  pc : Word := 0
  /-- 08 R150: instruction memory -/
  imem : Mem := []
  /-- 08 Table 8.3 CODE_BYTES of the loaded program -/
  codeBytes : Nat := 0
  /-- 08 Table 8.3 ENTRY -/
  entry : Nat := 0
  /-- 08 R153: SCRATCH_BANKS -/
  scratch : Nat := 0
  /-- 08 Table 8.3 MBOX_MASK -/
  mbox : BitVec 8 := 0
  /-- 08 R151: home memory -/
  home : Mem := []
  /-- 08 R163: graph that binds the core -/
  graph : Option (Fin 8) := none
  /-- 09 R181: g registers that await a result -/
  gBusy : BitVec 32 := 0
  /-- 09 R181: p7 awaits an AMO -/
  pBusy : Bool := false
  /-- 09 R176: issued tile instructions in program order -/
  tq : List TileOp := []
  /-- 09 R176 -/
  tid : Nat := 0
  /-- 10 R204: SENDM results collected: rd, failed bitmap, destinations still open -/
  mc : List (Nat × Word × Nat) := []
  /-- 09 R183: mailboxes -/
  box : Vector (List Msg) 8 := Vector.replicate 8 []
  /-- 09 R183: landing store behind full mailboxes -/
  landing : List Msg := []
  /-- 09 R188: WAITM waits since this Tempo -/
  waitSince : Option Nat := none
  /-- 09 R190: paused at PITCH for a switch -/
  atPitch : Bool := false
  /-- 08 R152: corrected errors counted -/
  eccCorr : Nat := 0
deriving DecidableEq, Repr

/-- Roles of Table 8.4. -/
inductive Role where
  | mapped (logical : Nat)
  | spare
  | retired
deriving DecidableEq, Repr

/-- Graph states of Table 8.2. -/
inductive GraphState where
  | empty
  | loaded
  | running
  | faulted
deriving DecidableEq, Repr

/-- The credit plan of a graph, as committed (R169, Table 19.14). -/
structure Plan where
  /-- 11 R211: CLASS of the graph's core traffic -/
  cls : BitVec 2 := 1
  /-- 08 R169: target core, holder core, credits -/
  credits : List (Nat × Nat × Nat) := []
  /-- 11 R214: RATE per class, 0 default -/
  rate : Vector (BitVec 13) 4 := Vector.replicate 4 0
  /-- 11 R214: BURST per class, 0 default -/
  burst : Vector (BitVec 12) 4 := Vector.replicate 4 0
  /-- 11 R216: TO_US per class, 0 default -/
  toUs : Vector (BitVec 14) 4 := Vector.replicate 4 0
  /-- 10 R203: source core, table entry, destinations -/
  mcast : List (Nat × Nat × List Nat) := []
deriving DecidableEq, Repr

/-- A graph. -/
structure Graph where
  /-- 08 Table 8.2 -/
  state : GraphState := .empty
  /-- 08 R163: bound logical cores -/
  cores : List Nat := []
  /-- 08 R164: object that holds the image -/
  image : Nat := 0
  /-- 08 Table 8.3 NUMERICS -/
  numerics : BitVec 8 := 0
  /-- 08 Table 8.3 BUILD_ID -/
  build : BitVec 64 := 0
  /-- 08 R165: graph epoch -/
  epoch : BitVec 16 := 0
  /-- 08 R169: committed plan -/
  plan : Option Plan := none
  /-- 08 R165: image staged on a running graph: object, cores -/
  stagedImage : Option (Nat × List Nat) := none
  /-- 08 R165: plan staged on a running graph -/
  stagedPlan : Option Plan := none
  /-- 08, 24 R419: paused because its rows left power -/
  rowsDown : Bool := false
  /-- 19 Table 8.2: GRAPH_STOP awaits the next pitch boundary -/
  stopping : Bool := false
deriving DecidableEq, Repr

/-- The grid. -/
structure Grid where
  /-- 08 Table 8.4 WIDTH (boot) -/
  width : Nat := 0
  /-- 08 Table 8.4 ANCHOR_Y (boot) -/
  anchorY : Nat := 0
  /-- 08 Table 8.4 NARROWED (boot) -/
  narrowed : Bool := false
  /-- 08 Table 8.4 OUT_OF_SERVICE (boot) -/
  oos : Bool := false
  /-- 08 Table 8.4 GRID_NODE_j ROLE (boot) -/
  role : Vector Role 288 := Vector.replicate 288 .spare
  /-- 08 R160: logical numbers whose core is retired and not yet replaced -/
  toReplace : List Nat := []
  /-- 08 R161: new anchor row designated, FE0..FE7 not yet moved -/
  anchorDue : Option Nat := none
  /-- 08 R163 -/
  graph : Vector Graph 8 := Vector.replicate 8 {}
  /-- 16 Table 16.3 ON -/
  unison : Bool := false
  /-- 16 Table 16.3 WIDTH (boot) -/
  uwidth : BitVec 2 := 2
  /-- 16 Table 16.3 PENDING: staged UNISON -/
  uPending : Option Bool := none
  /-- 16 Table 16.3 WIDTH_CHANGED -/
  uChanged : Bool := false
  /-- 16 Table 16.3 GRID_UNISON_TAINT -/
  taint : BitVec 16 := 0
  /-- 08 R150 -/
  core : Vector Core 288 := Vector.replicate 288 {}
deriving DecidableEq, Repr

/-! ### Tiers, compression, KV, recurrence (12..15) -/

/-- Placement policies (Table 12.4). -/
inductive Policy where
  | pinHome
  | pinDram
  | preferHome
  | park
deriving DecidableEq, Repr

/-- A code table in an object's header (13 R258, Table 13.3). -/
structure CodeTable where
  /-- 13 R256: the group of tiles it codes -/
  group : Nat
  /-- 13 Table 13.3: tiles sampled by the census -/
  sampled : Nat
  /-- 13 R257: code length of each symbol -/
  lens : List Nat
deriving DecidableEq, Repr

/-- A U-space object. -/
structure Obj where
  /-- 19 R339: object id -/
  id : Nat
  /-- 12 R230: first tile -/
  base : Nat
  /-- 12 R230 -/
  tiles : Nat
  /-- 12 R231 -/
  cls : BitVec 4
  /-- 12 R231 -/
  cached : Bool
  /-- 13 R251: 0 NONE, 1 XE, 2 LR -/
  comp : BitVec 2
  /-- 13 R251 -/
  etype : BitVec 2
  /-- 13 R251: SEGMENT scope -/
  segment : Bool
  /-- 12 R239 -/
  policy : Policy
  /-- 12 R239: affinity, first and last logical core -/
  aff : Nat × Nat
  /-- 15 R281: stream whose bivouac slot holds the frames (STATE) -/
  slot : Option (Fin 16)
  /-- 21 R381: seat of the path that produced an audio object -/
  seat : Option (Fin 4)
  /-- 20 R374: pack handle whose loader made it -/
  pack : Option (Fin 24)
  /-- 13 R258: code tables -/
  tables : List CodeTable
  /-- 15 R283: PARK object stands in home memory -/
  restored : Bool
deriving DecidableEq, Repr

/-- Tiers of Table 12.2. -/
inductive Tier where
  | zero
  | home
  | dram
  | homeCopy
deriving DecidableEq, Repr

/-- A tile map entry (Table 12.2). -/
structure Entry where
  /-- 12 Table 12.2 -/
  tier : Tier := .zero
  /-- 12 Table 12.2 -/
  inflight : Bool := false
  /-- 12 Table 12.2 -/
  dirty : Bool := false
  /-- 12 Table 12.2 -/
  poison : Bool := false
  /-- 12 Table 12.2 -/
  fmt : BitVec 2 := 0
  /-- 12 Table 12.2 -/
  len : BitVec 6 := 0
  /-- 12 Table 12.2 -/
  node : Nat := 0
  /-- 12 Table 12.2 -/
  granule : Nat := 0
  /-- 12 Table 12.2 -/
  dframe : Nat := 0
  /-- 13: format and granules of the frame's copy when a home copy serves -/
  frameForm : BitVec 2 × BitVec 6 := (0, 0)
  /-- 12 R240: order of last use -/
  used : Nat := 0
deriving DecidableEq, Repr

/-- A run held by a bank of a core (12 R236). -/
structure Run where
  /-- 12 R236: physical node -/
  node : Nat
  /-- 12 R234 -/
  granule : Nat
  /-- 12 R234: granules -/
  len : Nat
  /-- 12 R236: tile number kept by the bank -/
  tile : Nat
  /-- 12 R241: closed to writes -/
  closed : Bool
deriving DecidableEq, Repr

/-- Why a hauler moves a tile (12 R244 priorities 1..4). -/
inductive MoveKind where
  | restore
  | demand
  | evict
  | place
deriving DecidableEq, Repr

/-- A hauler operation (12 R241, R244). -/
structure Move where
  /-- 12 R244 -/
  kind : MoveKind
  /-- 12 R241 -/
  tile : Nat
  /-- 12 R241: target: home (true) or frame -/
  toHome : Bool
  /-- 12 R241: the home copy is dropped, written back first when dirty -/
  drop : Bool
  /-- 12 R243: widen to a RAW run of 64 granules -/
  widen : Bool
  /-- 12 R246: from one home run to another -/
  relocate : Bool
deriving DecidableEq, Repr

/-- The move that a hauler has in progress. -/
structure Moving where
  /-- 12 R241 -/
  move : Move
  /-- 12 R241: 0 source closing, 1 source being read, 2 target being written, 3 copied -/
  phase : Nat
  /-- 12 R241: the source run: node, first granule, granules -/
  source : Option (Nat × Nat × Nat)
  /-- 12 R241: the target run -/
  target : Option (Nat × Nat × Nat)
deriving DecidableEq, Repr

/-- A KV column of a stream or prefix: its page numbers, one per layer; none when absent (14 R265). -/
abbrev Column := Option (List Nat)

/-- A prefix (14 R271). -/
structure Prefix where
  /-- 14 R271 -/
  handle : BitVec 8
  /-- 14 R271: input words -/
  words : List Word
  /-- 14 R271 -/
  cols : List Column
  /-- 14 R276: contents of dropped columns, which replay writes again bit for bit: column and the 12 KiB of each layer's page -/
  kept : List (Nat × List (List Byte))
  /-- 14 Table 14.5: order of the last attach -/
  used : Nat
deriving DecidableEq, Repr

/-- The KV context of a stream. -/
structure Kv where
  /-- 14 Table 14.3 LENGTH -/
  length : Nat := 0
  /-- 14 Table 14.2 -/
  cols : List Column := []
  /-- 14 R276: contents of dropped columns, which replay writes again bit for bit -/
  kept : List (Nat × List (List Byte)) := []
  /-- 14 Table 14.3 PREFIX -/
  handle : BitVec 8 := 0
  /-- 14 Table 14.3 PREFIX_LEN -/
  prefixLen : Nat := 0
  /-- 14 Table 14.3 MAP_EPOCH -/
  mapEpoch : Word := 0
  /-- 14 R267: token log -/
  log : List Word := []
  /-- 14 Table 14.5: Tempo of the last committed step -/
  stepAt : Nat := 0
  /-- 14 R270: CONTEXT_FULL was reported -/
  full : Bool := false
  /-- 14 R277: Tempo since which a step lacks pages -/
  waitAt : Option Nat := none
deriving DecidableEq, Repr

/-- The tiers. -/
structure Tiers where
  /-- 12 Table 12.5 TIER_BAR2 -/
  bar2 : BitVec 8 := 0
  /-- 12 R230 -/
  objs : List Obj := []
  /-- 12 R234: entries of tiles, rising; unlisted = ZERO -/
  map : List (Nat × Entry) := []
  /-- 12 R236: runs held by banks -/
  runs : List Run := []
  /-- 12 R234: DRAM contents by byte address -/
  dram : Mem := []
  /-- 12 Table 12.5 TIER_DRAM_LOST: frames out of service (boot) -/
  lostFrames : List Nat := []
  /-- 12 Table 12.5 -/
  moves : Word := 0
  /-- 12 Table 12.5 -/
  poison : Word := 0
  /-- 12 Table 12.5 -/
  eccCorr : Vector Word 8 := Vector.replicate 8 0
  /-- 12 Table 12.5 -/
  eccUnc : Vector (BitVec 16) 8 := Vector.replicate 8 0
  /-- 12 Table 12.5 TIER_SPARE_ROWS (boot; DESIGN CHOICE 5) -/
  spareRows : Vector (BitVec 16) 8 := Vector.replicate 8 0
  /-- 12 R248: spare rows used of a bank: channel, bank, rows -/
  spareUsed : List (Nat × Nat × Nat) := []
  /-- 12 R248, 09 R184: POISON tiles being rewritten by a TUPUT: tile, initiator, the 512 B parts written since POISON -/
  refill : List (Nat × Nat × BitVec 8) := []
  /-- 12 R244: queues of the haulers -/
  haul : Vector (List Move) 8 := Vector.replicate 8 []
  /-- 12 R241, R244: the moves in progress of each hauler, one for each destination core -/
  moving : Vector (List Moving) 8 := Vector.replicate 8 []
  /-- 12 R248: operating second of the last scrub of each channel -/
  scrubAt : Vector Nat 8 := Vector.replicate 8 0
  /-- 12 Table 12.5 TIER_MAP_SEL -/
  mapSel : BitVec 28 := 0
  /-- 27 R454: snapshot of the selected entry -/
  mapWin : BitVec 64 := 0
  /-- 12 R240: use order counter -/
  clock : Nat := 0
  /-- 13 Table 13.6 -/
  census : Word := 0
  /-- 13 Table 13.6 -/
  escape : Word := 0
  /-- 13 Table 13.6 -/
  tableMiss : Word := 0
  /-- 13 R253: 8-entry table caches of the expanders: channel or 8 + node, object and group -/
  tableCache : List (Nat × Nat × Nat) := []
  /-- 14 R263: pool object of the open session -/
  pool : Option Nat := none
  /-- 14 Table 14.6 PAGES -/
  pages : Nat := 0
  /-- 14 Table 14.6 LAYERS -/
  layers : Nat := 0
  /-- 14 Table 14.6 MARK -/
  mark : BitVec 13 := 64
  /-- 14 R272: reference counts of referenced pages -/
  refs : List (Nat × Nat) := []
  /-- 14 Table 14.6 -/
  drops : Word := 0
  /-- 14 Table 14.6 -/
  replay : Word := 0
  /-- 14 Table 14.6 -/
  cow : Word := 0
  /-- 14 R271 -/
  prefixes : List Prefix := []
  /-- 14 R265 -/
  kv : Vector Kv 16 := Vector.replicate 16 {}
  /-- 15 Table 15.1 -/
  parks : Word := 0
  /-- 15 Table 15.1 -/
  restores : Word := 0
  /-- 15 Table 15.1 -/
  restoreMax : Word := 0
deriving DecidableEq, Repr

/-! ### Sessions, streams, packs, holds (18_rings.md, 20_streams.md) -/

/-- Stream states (Table 20.1). -/
inductive StreamState where
  | closed
  | opened
  | listening
  | active
  | draining
  | paused
  | faulted
deriving DecidableEq, Repr

/-- A record in a page or the backlog: its words (18 R334). -/
structure Rec where
  /-- 18 Table 18.5 -/
  words : List Word
  /-- 18 R337: Tempo of its header -/
  tempo : Nat
  /-- 18 R334 -/
  rseq : Word
deriving DecidableEq, Repr

/-- A pending GAP (18 R337). -/
structure Gap where
  /-- 18 Table 18.5 -/
  rseq : Word
  /-- 18 Table 18.5 -/
  records : Word
  /-- 18 Table 18.5 -/
  bytes : Word
  /-- 18 Table 18.5 -/
  first : Nat
  /-- 18 Table 18.5 -/
  last : Nat
  /-- 18 R334: Tempo at which it was created -/
  tempo : Nat
deriving DecidableEq, Repr

/-- The page a stream fills (18 R332). -/
structure Page where
  /-- 18 R331: bus address -/
  addr : BitVec 64
  /-- 18 Table 18.4 BYTES used so far -/
  used : Nat
  /-- 18 R332: Tempo of its first record -/
  first : Nat
  /-- 18 R333: records in it, counted if the page is lost -/
  recs : List Rec
deriving DecidableEq, Repr

/-- A filled page that waits for its return entry (18 R333). -/
structure Return where
  /-- 18 Table 18.4 -/
  addr : BitVec 64
  /-- 18 Table 18.4 -/
  stream : Fin 16
  /-- 18 Table 18.4 -/
  reason : BitVec 3
  /-- 18 Table 18.4 -/
  bytes : Nat
  /-- 18 Table 18.4 -/
  pseq : Word
  /-- 18 R333 -/
  recs : List Rec
deriving DecidableEq, Repr

/-- A stream. -/
structure Stream where
  /-- 20 Table 20.1 -/
  state : StreamState := .closed
  /-- 19 Table 19.6 KIND: 0 SPEECH, 1 TEXT_IN, 2 TEXT_OUT -/
  kind : BitVec 2 := 0
  /-- 19 Table 19.6 -/
  seat : Fin 4 := 0
  /-- 19 Table 19.6 INCR -/
  incr : Bool := false
  /-- 19 Table 19.6 -/
  lang : BitVec 16 := 0
  /-- 19 Table 19.6 -/
  zones : BitVec 8 := 0
  /-- 04 R89: routing not yet committed: zones, ports outstanding, attenuation -/
  zonesSt : Option (BitVec 8 × BitVec 8 × BitVec 8) := none
  /-- 19 Table 19.6 stream attenuation -/
  atten : BitVec 8 := 0
  /-- 15 Table 15.1 IDLE_100MS -/
  idle100 : BitVec 16 := 20
  /-- 16 R288 -/
  seed : Word := 0
  /-- 20 Table 20.7 PACK -/
  pack : Fin 32 := 0
  /-- 20 Table 20.7 GRAPH -/
  graph : Fin 8 := 0
  /-- 18 R334: RSEQ of the next record -/
  rseq : Word := 0
  /-- 18 Table 18.4: PSEQ of the next page -/
  pseq : Word := 0
  /-- 18 R331: granted pages, oldest first -/
  granted : List (BitVec 64) := []
  /-- 18 R332 -/
  page : Option Page := none
  /-- 18 R331: pages filled and not yet returned count against the 16 -/
  held : Nat := 0
  /-- 18 R337: backlog, oldest first -/
  backlog : List Rec := []
  /-- 18 R337 -/
  gap : Option Gap := none
  /-- 18 Table 18.6 HIF_PG_LOST -/
  lost : Word := 0
  /-- 19 Table 19.6: texts pending: address, bytes, segment -/
  texts : List (BitVec 40 × Nat × Word) := []
  /-- 18 R335: segments open -/
  openSegs : List Word := []
  /-- 20 R365: pause awaits the next pitch boundary -/
  pausing : Bool := false
  /-- 20 R366: phrases of voice activity taken and not complete -/
  inputs : Nat := 0
  /-- 20 R366, 07 R147: the voice activity taken last has not ended -/
  inVad : Bool := false
  /-- 18 R336: Tempos of the voice-activity ends of the phrases taken, oldest first -/
  vadEnds : List Nat := []
  /-- 01 R23: the latency of the phrase in progress is under measurement or measured -/
  latDone : Bool := false
  /-- 01 R23, 18 R336: voice-activity end whose first synthesised sample has not reached a ball -/
  latAt : Option Nat := none
  /-- 18 R336: that sample has entered an output FIFO -/
  latIn : Bool := false
  /-- 15 R283: Tempo since which the stream is idle -/
  idleAt : Nat := 0
  /-- 15 R281: state object -/
  obj : Option Nat := none
  /-- 15 Table 15.1 PITCH -/
  pitch : BitVec 9 := 0
  /-- 15 R282: committed slot and pitch count -/
  slotWord : Word := 0
  /-- 15 Table 15.1 PARKED -/
  parked : Bool := false
  /-- 15 Table 15.1 MOVING: true while parking, none when not moving -/
  moving : Option Bool := none
  /-- 15 R284: Tempo of the restore trigger -/
  trigAt : Nat := 0
  /-- 04 R87: zone delivery word last reported -/
  zdw : BitVec 24 := 0
deriving DecidableEq, Repr

/-- A resident pack (20 R371). -/
structure Pack where
  /-- 20 Table 20.4 -/
  id : BitVec 16
  /-- 20 Table 20.4 -/
  version : BitVec 16
  /-- 20 Table 20.4 -/
  expiry : Word
  /-- 20 Table 20.4 -/
  numerics : BitVec 8
  /-- 20 R374: container object -/
  obj : Nat
  /-- 20 Table 20.5: LANGUAGES records -/
  langs : List Word
  /-- 20 Table 20.5: OPERATORS records -/
  opers : List (Word × Word)
deriving DecidableEq, Repr

/-- The session. -/
structure Session where
  /-- 20 Table 20.7 -/
  open_ : Bool := false
  /-- 20 Table 20.7 -/
  id : BitVec 8 := 0
  /-- 19 Table 19.6: id of the previous session -/
  prevId : BitVec 8 := 0
  /-- 01 R25: seats occupied -/
  occupied : BitVec 4 := 0
  /-- 01 R25: zone of each seat -/
  zone : Vector (BitVec 3) 4 := Vector.replicate 4 0
  /-- 01 R25: SPEAKS in 15..0, LISTENS in 31..16 -/
  langs : Vector Word 4 := Vector.replicate 4 0
deriving DecidableEq, Repr

/-- Holds (20 Table 20.6). -/
structure Holds where
  /-- 20 Table 20.7 KINDS -/
  kinds : BitVec 6 := 0
  /-- 20 Table 20.7 ZONES -/
  zones : BitVec 8 := 0
  /-- 20 Table 20.7 SEATS -/
  seats : BitVec 4 := 0
  /-- 20 Table 20.7 HOST_SAFE -/
  hostSafe : Bool := false
  /-- 20 Table 20.7 CLOCK_SAFE -/
  clockSafe : Bool := false
  /-- 02 R52: holds of ZMUTE pins -/
  pins : BitVec 8 := 0
deriving DecidableEq, Repr

/-! ### Host link, rings, conductor intake (17_host_link.md, 18_rings.md) -/

/-- Ring states (Table 18.6). -/
inductive RingState where
  | disabled
  | running
  | stalled
  | fault
  | draining
deriving DecidableEq, Repr

/-- A ring pair. -/
structure Ring where
  /-- 18 Table 18.6 EN -/
  en : Bool := false
  /-- 18 Table 18.6 PRIO -/
  prio : BitVec 2 := 0
  /-- 18 Table 18.6 SQ_LOG -/
  sqLog : BitVec 4 := 4
  /-- 18 Table 18.6 RQ_LOG -/
  rqLog : BitVec 4 := 4
  /-- 18 Table 18.6 -/
  state : RingState := .disabled
  /-- 18 Table 18.6 -/
  sqBase : BitVec 64 := 0
  /-- 18 Table 18.6 -/
  rqBase : BitVec 64 := 0
  /-- 18 Table 18.6 -/
  sqTail : BitVec 12 := 0
  /-- 18 Table 18.6 -/
  sqHead : BitVec 12 := 0
  /-- 18 Table 18.6 -/
  rqHead : BitVec 12 := 0
  /-- 18 Table 18.6 -/
  rqTail : BitVec 12 := 0
  /-- 18 R321 -/
  phase : Bool := true
  /-- 18 Table 18.6 RING_n_IRQ -/
  irq : BitVec 3 := 0
  /-- 18 Table 18.6 -/
  irqEn : BitVec 3 := 0
  /-- 18 Table 18.6 RING_n_SEQ -/
  seq : BitVec 16 := 0
  /-- 18 Table 18.6 BAD_SEQ -/
  badSeq : BitVec 16 := 0
  /-- 18 Table 18.6 STALLS -/
  stalls : BitVec 16 := 0
  /-- 18 R327: Tempo since which fetching is held back for space -/
  heldAt : Option Nat := none
  /-- 18 R326: reply slots that the next descriptor is known to need -/
  need : Nat := 1
  /-- 18 R322, R326: reply slots owed beyond those already written -/
  owed : Nat := 0
  /-- 18 R329: commands with a smaller number of acceptance have their replies discarded (accepted before PERST_N) -/
  floor : Nat := 0
deriving DecidableEq, Repr

/-- What an accepted command waits for. -/
inductive Wait where
  /-- FENCE (18 R324) -/
  | fence
  /-- ORDERED (18 R324) -/
  | ordered
  /-- QUEUE deferral (18 R325) -/
  | deferred
  /-- an uncommitted shadow (04 R91) -/
  | shadow
  /-- block boundaries of the ports in the mask (04 R89, R90) -/
  | ports (mask : BitVec 8)
  /-- the gates of a port's stop (04 R93) -/
  | sapStop (p : Fin 8)
  /-- the next hop boundary (07 R149) -/
  | hop
  /-- the next cabin frame boundary (19 Table 19.8) -/
  | cabin
  /-- the stream's next pitch boundary (15 R286) -/
  | pitch (s : Fin 16)
  /-- a switch of a graph (08 R165) -/
  | switch (g : Fin 8)
  /-- a common pitch boundary to stop a graph (08 Table 8.2) -/
  | stop (g : Fin 8)
  /-- the unison change (16 R291) -/
  | unison
  /-- a mode change (24 R419) -/
  | mode (m : BitVec 2)
  /-- a mode change in progress to end (24 R419) -/
  | modeBusy
  /-- the RTC commit to apply (03 R66) -/
  | rtc
  /-- a PMA job to complete (06 R128) -/
  | job
  /-- RESET_UNIT of the PMA to end (06 R136) -/
  | reset (unit : Nat)
  /-- tiles of an object to stand in place (12 R239) -/
  | place (obj : Nat)
  /-- dirty tiles of an object to be written back (12 R242) -/
  | flush (tiles : List Nat)
  /-- moves of an object to end (19 Table 19.5) -/
  | free (obj : Nat)
  /-- the guard table to apply (21 R387) -/
  | guard
  /-- Bus Master Enable (19 R346) -/
  | busMaster
deriving DecidableEq, Repr

/-- A command accepted and not finally answered. -/
structure Waiting where
  /-- 18 R324 -/
  cmd : Cmd
  /-- 18 R330 -/
  on : Wait
  /-- 18 R325, R330: Tempo at which the wait ends without its event -/
  deadline : Nat
  /-- 18 R321: result words of the reply to come -/
  res : Word × Word × Word × Word
deriving DecidableEq, Repr

/-- An upstream write held while Bus Master Enable is 0 (17 R298): address and words. -/
structure Up where
  /-- 17 R298 -/
  addr : BitVec 64
  /-- 17 R298 -/
  words : List Word
deriving DecidableEq, Repr

/-- An MSI-X table entry (17 R304). -/
structure Msix where
  /-- 17 R304 -/
  addr : BitVec 64 := 0
  /-- 17 R304 -/
  data : Word := 0
  /-- 17 R304: vector masked (base specification: 1 after reset, PRESUMED 6) -/
  masked : Bool := true
deriving DecidableEq, Repr

/-- A BAR2 read under way (17 R303). -/
structure HostRead where
  /-- model: its number -/
  id : Nat
  /-- 17 R297: the tag of the request -/
  tag : BitVec 10
  /-- 17 R303: BAR2 offset -/
  off : Nat
  /-- 17 R303: the bytes, zero until their part has been read -/
  bytes : List Byte
  /-- 12 R235: parts still being read -/
  left : Nat
deriving DecidableEq, Repr

/-- The host link, supervisor port and interrupt state. -/
structure Hif where
  /-- 17 Table 17.8 SPEED -/
  speed : BitVec 3 := 0
  /-- 17 Table 17.8 WIDTH -/
  width : BitVec 3 := 0
  /-- 17 Table 17.8 L1 -/
  l1 : Bool := false
  /-- 17 Table 17.8 L1_1 -/
  l11 : Bool := false
  /-- 17 Table 17.8 BME -/
  bme : Bool := false
  /-- 17 Table 17.8 MSE -/
  mse : Bool := false
  /-- 17 Table 17.8 D3HOT -/
  d3 : Bool := false
  /-- 17 Table 17.8 MSIX_EN -/
  msixEn : Bool := false
  /-- 17 R305 Function Mask -/
  fmask : Bool := false
  /-- 17 R300: ASPM L1 enabled by the host -/
  aspm : Bool := false
  /-- 17 R304 -/
  table : Vector Msix 64 := Vector.replicate 64 {}
  /-- 17 R304 pending bits -/
  pba : BitVec 64 := 0
  /-- 17 R305: messages sent, newest first: vector, address, data -/
  sent : List (Nat × BitVec 64 × Word) := []
  /-- 17 Table 17.8 HIF_ERR -/
  err : BitVec 7 := 0
  /-- 17 Table 17.8 HIF_ERR_ADDR -/
  errAddr : BitVec 27 := 0
  /-- 17 R299: errors reported through AER (HIF_ERR bit numbers, newest first) -/
  aer : List Nat := []
  /-- 17 Table 17.8 BAD_CRC, BAD_LENGTH, EARLY, DENIED -/
  cnt : Vector (BitVec 8) 4 := Vector.replicate 4 0
  /-- 17 Table 17.8 BAD_CMD, BUSY -/
  cnt2 : Vector (BitVec 8) 2 := Vector.replicate 2 0
  /-- 17 Table 17.8 HIF_SPV_ARG -/
  arg : Vector Word 4 := Vector.replicate 4 0
  /-- 17 Table 17.8 HIF_SPV_RES -/
  res : Vector Word 4 := Vector.replicate 4 0
  /-- 17 Table 17.8 BUSY -/
  busy : Bool := false
  /-- 17 Table 17.8 DONE -/
  done : Bool := false
  /-- 17 Table 17.8 OP -/
  op : BitVec 8 := 0
  /-- 17 Table 17.8 STATUS -/
  stat : BitVec 8 := 0
  /-- 17 R314: results and status of the EXEC in progress -/
  exec_ : Vector Word 4 × BitVec 8 := (Vector.replicate 4 0, 0)
  /-- 17 Table 17.8 HIF_SPV_ALERT -/
  alert : BitVec 5 := 0
  /-- 17 Table 17.8 HIF_SPV_ALERT_EN -/
  alertEn : BitVec 5 := 0
  /-- 17 R311: response to the previous frame (9 bytes, byte 0 in the high bits); of none at reset: status 0, zero fields, their CRC-8 -/
  resp : BitVec 72 := 0xDB
  /-- 17 R307: HI words latched, per source -/
  latch : List (Src × AtomicPair × Word) := []
  /-- 25 R432: words 1..7 of the newest event latched and not yet read, per source: word number and word -/
  peek : Vector (List (Nat × Word)) 3 := Vector.replicate 3 []
  /-- 17 R306: data of the last BAR0 or BAR2 read completed, as bytes -/
  rdata : List Byte := []
  /-- 17 R297: PCIe tag of the last BAR2 read completed -/
  rtag : BitVec 10 := 0
  /-- 17 R303: BAR2 reads under way -/
  reads : List HostRead := []
  /-- model: number of the next BAR2 access -/
  bar2Ctr : Nat := 0
  /-- 17 Table 17.4: the last BAR0 read was answered Unsupported Request -/
  ur : Bool := false
  /-- 18 Table 18.6 STALL_MS -/
  stallMs : BitVec 16 := 1000
  /-- 18 Table 18.6 COMMIT_MS -/
  commitMs : BitVec 8 := 20
  /-- 18 Table 18.6 FLUSH_MS -/
  flushMs : BitVec 10 := 50
  /-- 18 Table 18.6 HIF_PG_RET_BASE -/
  retBase : BitVec 64 := 0
  /-- 18 Table 18.6 EN -/
  retEn : Bool := false
  /-- 18 Table 18.6 LOG -/
  retLog : BitVec 4 := 4
  /-- 18 Table 18.6 -/
  retHead : BitVec 12 := 0
  /-- 18 Table 18.6 -/
  retTail : BitVec 12 := 0
  /-- 18 Table 18.6 HIF_PG_IRQ -/
  pgIrq : BitVec 3 := 0
  /-- 18 Table 18.6 -/
  pgIrqEn : BitVec 3 := 0
  /-- 18 R333: filled pages waiting for their return entry -/
  returns : List Return := []
  /-- 18 R333: no page is written from PERST_N until the return ring is enabled again -/
  pgHeld : Bool := false
  /-- 18 R317 -/
  ring : Vector Ring 16 := Vector.replicate 16 {}
  /-- 18 R319: ring served last (round-robin; DESIGN CHOICE 5) -/
  rr : Fin 16 := 15
  /-- 20 R375: host commands in intake, in arrival order -/
  intake : List Cmd := []
  /-- 20 R375: host commands the conductor has put in order, the next first -/
  ready : List Cmd := []
  /-- 18 R324: accepted commands that wait -/
  waits : List Waiting := []
  /-- 18 R324: numbers of acceptance -/
  nextId : Nat := 0
  /-- 20 R376: epochs and proposal ids on which the supervisor acted (0 = the RTC) -/
  spvActs : List (Nat × Nat) := []
  /-- 17 R298: upstream writes held while Bus Master Enable is 0 -/
  upq : List Up := []
  /-- 17 R298, 18 R321: host memory as the device has written it (log entry 3) -/
  mem : Mem := []
deriving DecidableEq, Repr

/-! ### Guard tables (21_guard.md) -/

/-- A pending proposal (21 R382..R386). -/
structure Proposal where
  /-- 21 R383 -/
  id : BitVec 8
  /-- 21 R382: table index, 0x80 for the ledger -/
  index : BitVec 8
  /-- 21 R382 -/
  nonce : Word
  /-- 21 R382: the image as copied -/
  image : List Byte
  /-- 21 R383 -/
  digest : BitVec 256
  /-- 21 R384: length of the window in ns, by the POLICY in force at acceptance -/
  window : Nat
  /-- 21 R384: Tempo at which the window ends -/
  ends : Nat
  /-- 21 R385 -/
  mismatches : Nat
deriving DecidableEq, Repr

/-- The guard tables. -/
structure Guard where
  /-- 21 Table 21.1 POLICY word 0 (16 B image, words 1-3 reserved) -/
  policy : Word := 0x003F0005
  /-- 21 Table 21.1 WINDOW word 0 -/
  window : Word := 3
  /-- 21 Table 21.1 PRIVACY word 0 -/
  privacy : Word := 0
  /-- 21 Table 21.1 RINGS words 0-1 -/
  rings : BitVec 64 := 2
  /-- 21 Table 21.1 KEY_0, KEY_1: the images, 80 B -/
  keys : Vector (List Byte) 2 := Vector.replicate 2 (List.replicate 80 0)
  /-- 21 Table 21.3 GRD_VERSION -/
  version : Vector Word 6 := Vector.replicate 6 0
  /-- 21 R383: digest of the proposal that set each table, none at the default -/
  digest : Vector (Option (BitVec 256)) 6 := Vector.replicate 6 none
  /-- 21 R384: the host's pending proposal -/
  host : Option Proposal := none
  /-- 21 R384: the supervisor's pending proposal -/
  spv : Option Proposal := none
  /-- 21 R383: id counter -/
  counter : BitVec 8 := 0
  /-- 21 Table 21.3 LAST_APPLIED -/
  lastApplied : BitVec 8 := 0
  /-- 21 R387: confirmed, to apply after the confirming epoch; that epoch, and whether the host proposed it -/
  confirmed : List (Proposal × Nat × Bool) := []
  /-- 21 Table 21.3 GRD_IRQ -/
  irq : BitVec 6 := 0
  /-- 21 Table 21.3 -/
  irqEn : BitVec 6 := 0
  /-- 21 Table 21.3 GRD_LOCK_CNT -/
  lockCnt : Word := 0
  /-- 21 Table 21.3 GRD_LOCK_LAST -/
  lockLast : BitVec 26 := 0
  /-- 21 Table 21.3 GRD_SPV_STAGE -/
  stage : Vector Word 20 := Vector.replicate 20 0
deriving DecidableEq, Repr

/-! ### Health, power, observation (23..25) -/

/-- A strike or row record in retention memory (23 R404). -/
structure Strikes where
  /-- 23 R404 -/
  unit : UnitRef
  /-- 23 R403: operating seconds of its events, newest first -/
  events : List Nat
deriving DecidableEq, Repr

/-- Health and the ledger. -/
structure Hlt where
  /-- 23 Table 23.5 HLT_OPTIME (kept) -/
  optime : Word := 0
  /-- 23 R401: the Tempo up to which HLT_OPTIME has counted -/
  secAt : Nat := 0
  /-- 23 R404: unit records (kept) -/
  units : List Strikes := []
  /-- 23 R404: row records (kept) -/
  rows : List Strikes := []
  /-- 23 Table 23.5 -/
  strikeLost : BitVec 16 := 0
  /-- 23 Table 23.5 HLT_IRQ -/
  irq : BitVec 5 := 0
  /-- 23 Table 23.5 -/
  irqEn : BitVec 5 := 0
  /-- 23 Table 23.5 HLT_LAST -/
  last : BitVec 64 := 0
  /-- 23 R403: units found permanent and not yet retired: class and count -/
  permanent : List (UnitRef × BitVec 2 × Nat) := []
  /-- 23 R405: retired units -/
  retired : List UnitRef := []
  /-- 23 Table 23.4: retirements since power-on reset -/
  count : BitVec 8 := 0
  /-- 23 R411: entries whose write has not ended -/
  toWrite : List (BitVec 64) := []
  /-- 23 R412: the extension -/
  ext : List (BitVec 64) := []
  /-- 23 Table 23.5 LEDG_LOST -/
  lost : BitVec 16 := 0
  /-- 23 Table 23.5 LEDG_SEL -/
  sel : BitVec 11 := 0
  /-- 27 R454: snapshot of the selected entry -/
  win : BitVec 64 := 0
  /-- 23 R402: last second a timeout struck each core -/
  coreStruck : List (Nat × Nat) := []
  /-- 23 Table 23.2: spare rows used, per node and bank -/
  rowsUsed : List (Nat × Nat) := []
deriving DecidableEq, Repr

/-- Power and thermal. -/
structure Pwr where
  /-- 24 Table 24.4 MODE -/
  mode : BitVec 2 := 0
  /-- 24 Table 24.4 TRANSITION: target of the change in progress -/
  target : Option (BitVec 2) := none
  /-- 24 Table 24.4 THROTTLE -/
  throttle : Bool := false
  /-- 24 Table 24.4 SHED -/
  shed : Bool := false
  /-- 24 Table 24.4 TSD_SEEN (kept) -/
  tsdSeen : Bool := false
  /-- 24 R427: silenced at this Tempo by a thermal shutdown -/
  tsdAt : Option Nat := none
  /-- 24 R427: domains off but for the service die -/
  down : Bool := false
  /-- 24 Table 24.4 PMBUS_FAIL -/
  pmbusFail : Bool := false
  /-- 24 Table 24.4 AUTO_WAKE -/
  autoWake : Bool := false
  /-- 24 R419, R420: an automatic wake waits for the mode change in progress to end -/
  wakeDue : Bool := false
  /-- 24 Table 24.4 QUIET_ROWS -/
  quietRows : Bool := false
  /-- 24 Table 24.4 -/
  activeMv : Nat := 750
  /-- 24 Table 24.4 -/
  quietMv : Nat := 600
  /-- 24 Table 24.4 -/
  reqMv : Nat := 750
  /-- 24 Table 24.4 -/
  measMv : Nat := 0
  /-- 24 Table 24.4 -/
  iout : Nat := 0
  /-- 24 R421: Tempo of the last step of the request -/
  stepAt : Nat := 0
  /-- 24 R425: thermal cap in mV (none: does not limit) -/
  thermCap : Option Nat := none
  /-- 24 R425: Tempo of the last step of the thermal cap -/
  thermAt : Nat := 0
  /-- 24 R423: current cap in mV -/
  curCap : Option Nat := none
  /-- 24 R423: Tempo of its last step -/
  curAt : Nat := 0
  /-- 24 R424: Tempo since which READ_VOUT is out of tolerance -/
  voutBad : Option Nat := none
  /-- 24 R424: FAULT_N asserted for it -/
  voutFault : Bool := false
  /-- 24 Table 24.4 PWR_TEMP -/
  tGrid : BitVec 8 := 0
  /-- 24 Table 24.4 -/
  tPhot : BitVec 8 := 0
  /-- 24 Table 24.4 -/
  tDram : BitVec 8 := 0
  /-- 24 R425: the highest, in degrees (DESIGN CHOICE 5) -/
  tj : Int := 0
  /-- 24 R426: Tempo since which Tj is below 110 -/
  coolAt : Option Nat := none
  /-- 24 Table 24.4 PWR_IRQ -/
  irq : BitVec 6 := 0
  /-- 24 Table 24.4 -/
  irqEn : BitVec 6 := 0
  /-- 24 Table 24.4 STEPS -/
  steps : BitVec 16 := 0
  /-- 24 Table 24.4 SHEDS -/
  sheds : BitVec 16 := 0
  /-- 24 R424: PMBus transactions issued, newest first: command code, word -/
  pmbus : List (BitVec 8 × BitVec 16) := []
deriving DecidableEq, Repr

/-- An event record (25 Table 25.1). -/
structure Event where
  /-- 25 Table 25.1 -/
  code : BitVec 8
  /-- 25 Table 25.1 -/
  src : BitVec 8
  /-- 25 Table 25.1 -/
  sev : BitVec 2
  /-- 25 Table 25.1 -/
  rtcValid : Bool
  /-- 25 Table 25.1 -/
  seq : Word
  /-- 25 Table 25.1 -/
  tempo : BitVec 64
  /-- 25 Table 25.1 -/
  time : Word
  /-- 25 Table 25.1 -/
  date : Word
  /-- 25 Table 25.1 -/
  arg0 : Word
  /-- 25 Table 25.1 -/
  arg1 : Word
deriving DecidableEq, Repr

/-- TAP instructions (25 Table 25.3). -/
inductive Tap where
  | bypass
  | idcode
  | sample
  | extest
  | clamp
  | dap
deriving DecidableEq, Repr

/-- Observation and debug. -/
structure Dbg where
  /-- 25 R429: records, oldest first -/
  log : List Event := []
  /-- 25 R431: records reserved by an EVENT_DRAIN taken in and not executed: command, and the SEQs -/
  resv : List (Nat × List Word) := []
  /-- 25 R432: newest record made -/
  newest : Option Event := none
  /-- 25 Table 25.4 NEXT -/
  seq : Word := 0
  /-- 25 Table 25.4 DBG_EVT_LOST -/
  lost : Word := 0
  /-- 25 Table 25.4 EN -/
  trEn : Bool := false
  /-- 25 Table 25.4 DIV -/
  trDiv : BitVec 4 := 0
  /-- 25 Table 25.4 EVENTS -/
  trEvents : Bool := false
  /-- 25 Table 25.4 CAIRNS -/
  trCairns : Bool := false
  /-- 25 R434: queue of the trace port: type nibble and words -/
  trQueue : List (Nat × List Word) := []
  /-- 25 R433: nibbles of the last record sent -/
  trOut : List Nat := []
  /-- 25 Table 25.4 DBG_TRACE_DROP -/
  trDrop : Word := 0
  /-- 25 Table 25.3: current instruction; IDCODE after a TAP reset -/
  tap : Tap := .idcode
  /-- 25 Table 25.3: boundary scan cells preloaded -/
  cells : List Bool := []
  /-- 25 Table 25.4 SESSION -/
  session : Bool := false
  /-- 25 Table 25.4 ACCESSES -/
  accesses : BitVec 16 := 0
  /-- 25 R436: result of the previous command: status and data -/
  result : BitVec 4 × Word := (0, 0)
  /-- 25 R436: the U-space access under way, by its number -/
  busy : Option Nat := none
  /-- 25 R436: what the last scan shifted out -/
  shifted : BitVec 76 := 0
deriving DecidableEq, Repr

/-! ### The machine -/

/-- The block. -/
structure State where
  /-- model: the queue of commands, first in first out -/
  pending : List Instr := []
  /-- model: number of the next free value (log entry 2; DESIGN CHOICE 5) -/
  freeCtr : Nat := 0
  gen : Gen := {}
  otp : Otp := {}
  boot : Boot := {}
  clk : Clk := {}
  rtc : Rtc := {}
  sap : Vector Sap 8 := Vector.replicate 8 {}
  zone : Vector Zone 8 := Vector.replicate 8 {}
  /-- 05 R110: gates not in their reset state -/
  gates : List (GateId × Gate) := []
  fe : Fe := {}
  /-- 04 R94, 05 R115: RESET_UNIT of the audio hub is stopping the ports -/
  hubReset : Bool := false
  pma : Pma := {}
  fab : Fab := {}
  grid : Grid := {}
  tiers : Tiers := {}
  sess : Session := {}
  stream : Vector Stream 16 := Vector.replicate 16 {}
  /-- 20 R374: resident packs by handle -/
  pack : Vector (Option Pack) 24 := Vector.replicate 24 none
  holds : Holds := {}
  hif : Hif := {}
  guard : Guard := {}
  hlt : Hlt := {}
  pwr : Pwr := {}
  dbg : Dbg := {}
deriving DecidableEq, Repr

/-- The machine right after power-on reset: every field at its default, which its docstring sources. -/
def State.reset : State := {}

/-- Why the machine stops with a fault. No meaning of this model raises one: every fault the spec describes is an effect
on State (log entry 1). -/
inductive Fault where
  /-- Raised by nobody: an access to an address that the spec says does not exist; the spec makes such an access read zero or
  be ignored instead. Safe. -/
  | noSuchAddress
deriving DecidableEq, Repr

/-- Why a command is turned away. -/
inductive Refusal where
  /-- Raised only by exec's own arms, for a command whose meaning is not written yet. Safe: the run stops. -/
  | notModelled (mnemonic : String)
deriving DecidableEq, Repr

end Sys2Proof.Machine
end

