-- ==== Sys2Proof/Machine/Ops.lean ====
section
/-! DEFINITION. Operations that many commands share: the outcome of a command, interrupt messages (17_host_link.md
R305), the event log (25_observation.md R429), free choices, writes to host memory (R298), replies (18_rings.md R321)
and the words of a command. -/

namespace Sys2Proof

/-- n bytes read from a byte memory. -/
def Mem.readN (m : Mem) (a n : Nat) : List Byte := (List.range n).map fun k => m.read (a + k)

/-- Bytes written to a byte memory at rising addresses. -/
def Mem.writeN (m : Mem) (a : Nat) : List Byte → Mem
  | [] => m
  | b :: bs => Mem.writeN (m.write a b) (a + 1) bs

/-- The byte memory that holds bytes from an address on, and nothing else. -/
def Mem.ofBytes (a : Nat) : List Byte → Mem
  | [] => []
  | b :: bs => if b = 0 then Mem.ofBytes (a + 1) bs else (a, b) :: Mem.ofBytes (a + 1) bs

/-- Word i of a command's descriptor. -/
def Cmd.w (c : Cmd) (i : Fin 16) : Word := c.desc[i]
/-- OPCODE (Table 18.1). -/
def Cmd.op (c : Cmd) : Nat := fld (c.w 0) 0 8
/-- A flag: 8 IRQ, 9 QUEUE, 10 REBUILD, 11 ORDERED, 12 FENCE (Table 18.1). -/
def Cmd.flag (c : Cmd) (i : Nat) : Bool := bit (c.w 0) i
/-- SESSION (Table 18.1). -/
def Cmd.session (c : Cmd) : Nat := fld (c.w 1) 0 8
/-- STREAM (Table 18.1). -/
def Cmd.stream (c : Cmd) : Nat := fld (c.w 1) 8 8
/-- The stream that a command names. -/
def Cmd.sid (c : Cmd) : Fin 16 := ⟨c.stream % 16, Nat.mod_lt _ (by decide)⟩
/-- A 64-bit parameter in words i (low) and j (high). -/
def Cmd.w64 (c : Cmd) (i j : Fin 16) : BitVec 64 := c.w j ++ c.w i

end Sys2Proof

namespace Sys2Proof.Machine

/-- The outcome of a command. -/
abbrev Out := Host.Outcome State Fault Refusal

/-- Nanoseconds in a microsecond and in a millisecond (00_scope.md R5). -/
def us : Nat := 1000
/-- Nanoseconds in a millisecond. -/
def ms : Nat := 1000000

/-- The elements of a list from a position to the end, of a vector as a list of index and element. -/
def ixs {α : Type} {n : Nat} (v : Vector α n) : List (Fin n × α) := (List.finRange n).map fun i => (i, v[i])

/-- A vector changed element by element. -/
def mapV {α β : Type} {n : Nat} (v : Vector α n) (f : Fin n → α → β) : Vector β n := Vector.ofFn fun i => f i v[i]

/-- The entry of an association list, or a default. -/
def look {α β : Type} [DecidableEq α] (l : List (α × β)) (a : α) (d : β) : β := (l.lookup a).getD d

/-- An association list with the entry of a replaced or added at its end. -/
def put {α β : Type} [DecidableEq α] (l : List (α × β)) (a : α) (b : β) : List (α × β) :=
  if l.any (fun x => decide (x.1 = a)) then l.map (fun x => if x.1 = a then (a, b) else x) else l ++ [(a, b)]

/-- Words from bytes, little-endian (R6); a tail shorter than a word is padded with zeros. -/
def wordOf (b : List Byte) : Word :=
  (b.take 4).foldr (fun x (acc : Word) => acc <<< 8 ||| x.setWidth 32) 0

/-- The bytes of a word, little-endian (R6). -/
def bytesOf (w : Word) : List Byte := [w.setWidth 8, (w >>> 8).setWidth 8, (w >>> 16).setWidth 8, (w >>> 24).setWidth 8]

/-- The bytes of words in order. -/
def bytesOfWords (ws : List Word) : List Byte := ws.flatMap bytesOf

/-- A number of bytes as a natural number, little-endian. -/
def natOf (b : List Byte) : Nat := b.foldr (fun x acc => acc * 256 + x.toNat) 0

/-- The n bytes of a natural number, little-endian. -/
def bytesN : Nat → Nat → List Byte
  | 0, _ => []
  | n + 1, x => BitVec.ofNat 8 x :: bytesN n (x / 256)

/-- A word of two halves. -/
def lo (x : BitVec 64) : Word := x.setWidth 32
/-- The high half. -/
def hi (x : BitVec 64) : Word := (x >>> 32).setWidth 32
/-- A natural number as a word, taken modulo 2^32. -/
def wd (n : Nat) : Word := BitVec.ofNat 32 n

/-- The time word of Table 3.8. -/
def calTime (c : Cal) : Word := wd (c.sub + c.second * 2 ^ 10 + c.minute * 2 ^ 16 + c.hour * 2 ^ 22)
/-- The date word of Table 3.8. -/
def calDate (c : Cal) : Word := wd (c.year + c.month * 2 ^ 12 + c.day * 2 ^ 16)

/-! ### What state the device is in -/

/-- The device has its supplies, is not held in reset (02_package.md R39, R41) and its domains are on (24_power.md R427). -/
def State.powered (s : State) : Bool := !s.gen.off && s.gen.low.isEmpty && !s.pwr.down

/-- Sterdo runs (22_startup.md Table 22.3). -/
def State.sterdo (s : State) : Bool := decide (s.boot.fw = .running)

/-- The BAR0 registers answer (22_startup.md R391 step 2 for the supervisor port, step 7 for the host). -/
def State.regsUp (s : State) : Bool := s.powered && bit s.boot.done 2

/-- The effects of SAFE_STATE are in force: the supervisor's hold, the host's own, the device's at a Tempo loss, or a
conductor lockstep mismatch (20_streams.md R377, R378; 03_timing.md R58; 23_repair.md R408). -/
def State.safe (s : State) : Bool := bit s.holds.kinds 4 || s.holds.hostSafe || s.holds.clockSafe || s.boot.lockstep

/-- Tempo as a 64-bit stamp. -/
def State.now (s : State) : BitVec 64 := BitVec.ofNat 64 s.clk.tempo

/-- A free choice among n allowed values; the counter steps on (log entry 2). -/
def State.pick (s : State) (n : Nat) : Nat × State := (Config.free s.freeCtr % n, { s with freeCtr := s.freeCtr + 1 })

/-! ### The guard table's DEBUG level (21_guard.md Table 21.1) -/

/-- POLICY.DEBUG: 0 CLOSED, 1 READ, 2 OPEN. -/
def State.debugLevel (s : State) : Nat := fld s.guard.policy 8 2

/-- Boundary scan may control the balls (25_observation.md Table 25.3): TESTEN = 1, or DEBUG = OPEN. -/
def State.scanFree (s : State) : Bool := s.gen.testen || decide (s.debugLevel = 2)

/-- EXTEST or CLAMP controls the balls (25_observation.md R435): audio output, the supervisor port and the host link lose theirs. -/
def State.ballsTaken (s : State) : Bool := (decide (s.dbg.tap = .extest) || decide (s.dbg.tap = .clamp)) && s.scanFree

/-! ### Event log (25_observation.md) -/

/-- The eight words of an event record (Table 25.1). -/
def Event.words (e : Event) : Vector Word 8 :=
  #v[wd (e.code.toNat + e.src.toNat * 2 ^ 8 + e.sev.toNat * 2 ^ 16 + b2n e.rtcValid * 2 ^ 18), e.seq, lo e.tempo, hi e.tempo,
     e.time, e.date, e.arg0, e.arg1]

/-- A record offered to the trace port's queue of 16 (R433, R434): type 1 cairn, 2 event. -/
def traceOffer (kind : Nat) (ws : List Word) (s : State) : State :=
  if s.dbg.trEn && (if kind = 1 then s.dbg.trCairns else s.dbg.trEvents) && decide (s.debugLevel ≠ 0) then
    if s.dbg.trQueue.length < 16 then { s with dbg := { s.dbg with trQueue := s.dbg.trQueue ++ [(kind, ws)] } }
    else { s with dbg := { s.dbg with trDrop := satAdd s.dbg.trDrop 1 } }
  else s

/-- The severity of an event (log entry 9): Table 25.1 names the field; the worked example of chapter 25 fixes 0x04. -/
def sevOf (code : BitVec 8) (a0 a1 : Word) : BitVec 2 := if code = 0x04 then 1 else Config.severity code a0 a1

/-- The oldest record that no EVENT_DRAIN has reserved (R431). -/
def Dbg.oldestFree (d : Dbg) : Option Nat := d.log.findIdx? fun e => !(d.resv.any fun r => r.2.contains e.seq)

/-- An event logged (R429..R431): with 1024 held, the oldest unreserved record goes; a record that finds every one reserved is lost. -/
def logEvent (code src : BitVec 8) (a0 a1 : Word) (s : State) : State :=
  let e : Event := { code := code, src := src, sev := sevOf code a0 a1, rtcValid := s.rtc.valid, seq := s.dbg.seq, tempo := s.now,
                     time := calTime s.rtc.now, date := calDate s.rtc.now, arg0 := a0, arg1 := a1 }
  let full := decide (1024 ≤ s.dbg.log.length)
  let log := if !full then s.dbg.log ++ [e]
    else match s.dbg.oldestFree with | some k => s.dbg.log.eraseIdx k ++ [e] | none => s.dbg.log
  traceOffer 2 e.words.toList
    { s with dbg := { s.dbg with
        log := log
        newest := some e
        seq := s.dbg.seq + 1
        lost := if full then satAdd s.dbg.lost 1 else s.dbg.lost } }

/-- A cause of the supervisor's alert set (17_host_link.md Table 17.8 HIF_SPV_ALERT). -/
def alert (k : Nat) (s : State) : State := { s with hif := { s.hif with alert := setBit s.hif.alert k true } }

/-! ### Interrupt messages (17_host_link.md R304, R305) -/

/-- The cause bits of a vector (Table 17.3) and their enables. -/
def causes (s : State) (v : Nat) : Nat × Nat :=
  if h : v < 16 then ((s.hif.ring[v]'h).irq.toNat, (s.hif.ring[v]'h).irqEn.toNat)
  else match v with
  | 16 => (s.hif.pgIrq.toNat, s.hif.pgIrqEn.toNat)
  | 17 => (s.sap.toList.foldr (fun p acc => acc * 512 + p.irq.toNat) 0,
           s.sap.toList.foldr (fun p acc => acc * 512 + p.irqEn.toNat) 0)
  | 18 => (s.guard.irq.toNat, s.guard.irqEn.toNat)
  | 19 => (s.hlt.irq.toNat, s.hlt.irqEn.toNat)
  | 20 => (s.pwr.irq.toNat, s.pwr.irqEn.toNat)
  | 21 => (s.fab.irq.toNat, s.fab.irqEn.toNat)
  | 22 => (s.pma.irq.toNat, s.pma.irqEn.toNat)
  | 23 => (s.clk.cmp.toList.foldr (fun c acc => acc * 2 + b2n c.match_)
             (b2n s.rtc.alarm + 2 * b2n s.rtc.rangeEvt + 4 * b2n s.clk.xtal32kLoss),
           s.clk.cmp.toList.foldr (fun c acc => acc * 2 + b2n c.irqEn) s.rtc.irqEn.toNat)
  | _ => (0, 0)

/-- A vector is asserted while a cause of it is set and enabled (R305). -/
def asserted (s : State) (v : Nat) : Bool := decide ((causes s v).1 &&& (causes s v).2 ≠ 0)

/-- A cause of the vector goes from 0 to 1 while enabled (R305). -/
def rises (s s' : State) (v : Nat) : Bool :=
  decide ((causes s' v).1 &&& (causes s' v).2 &&& ((causes s' v).1 ^^^ (causes s v).1) ≠ 0)

/-- The device may issue upstream requests: link up, Bus Master Enable, D0 (R298). -/
def Hif.upstream (h : Hif) : Bool := decide (h.speed ≠ 0) && h.bme && !h.d3

/-- The vector's message may be sent (R305, R298; 22_startup.md R396). -/
def canSend (h : Hif) (v : Nat) : Bool :=
  h.upstream && h.msixEn && !h.fmask && (if hv : v < 64 then !(h.table[v]'hv).masked else false)

/-- The message of a vector as sent: vector, address, data. -/
def message (h : Hif) (v : Nat) : Nat × BitVec 64 × Word :=
  if hv : v < 64 then (v, (h.table[v]'hv).addr, (h.table[v]'hv).data) else (v, 0, 0)

/-- One message, or its pending bit (R305); none before Sterdo runs (R396). -/
def sendVec (run : Bool) (v : Nat) (h : Hif) : Hif :=
  if !run then h
  else if canSend h v then { h with sent := message h v :: h.sent }
  else { h with pba := setBit h.pba v true }

/-- The messages of the causes that rose between two states (R305). -/
def irqScan (s s' : State) : State :=
  { s' with hif := (List.range 24).foldl (fun h v => if rises s s' v then sendVec s.sterdo v h else h) s'.hif }

/-- A command's effect: it takes place when the device is powered and the command's own condition holds; otherwise the
event does not take place and the state stands (log entry 1). The queue of waiting commands is not its to change. -/
def act (s : State) (ok : Bool) (s' : State) : Out :=
  .next (if s.powered && ok then { irqScan s s' with pending := s.pending } else s)

/-! ### Writes to host memory (17_host_link.md R298, R301) -/

/-- An upstream write: to host memory, held while Bus Master Enable is 0 or in D3hot, lost while the link is down. -/
def upWrite (addr : BitVec 64) (ws : List Word) (s : State) : State :=
  if s.hif.speed = 0 then s
  else if s.hif.upstream then { s with hif := { s.hif with mem := s.hif.mem.writeN addr.toNat (bytesOfWords ws) } }
  else { s with hif := { s.hif with upq := s.hif.upq ++ [{ addr := addr, words := ws }] } }

/-! ### Commands and replies (18_rings.md) -/

/-- 2^k entries, k 4..12; other values are taken as 4 (Table 18.6). -/
def logSize (k : BitVec 4) : Nat := 2 ^ (if 4 ≤ k.toNat ∧ k.toNat ≤ 12 then k.toNat else 4)

/-- Result words r0..r3 of a reply. -/
abbrev Res := Word × Word × Word × Word

/-- No results. -/
def res0 : Res := (0, 0, 0, 0)
/-- One result word. -/
def res1 (a : Word) : Res := (a, 0, 0, 0)

/-- A reply written (R321): its slot, PHASE, the wrap, the cause REPLY. final: no further reply of this command follows. -/
def replyWith (c : Cmd) (st : BitVec 8) (r : Res) (final : Bool) (s : State) : State :=
  let g := s.hif.ring[c.ring]
  if c.id < g.floor then s
  else
    let n := logSize g.rqLog
    let ws : List Word :=
      [wd (fld (c.w 0) 16 16 + st.toNat * 2 ^ 16 + c.op * 2 ^ 24),
       wd (fld (c.w 1) 16 16 + b2n g.phase * 2 ^ 16 + b2n (c.second && final) * 2 ^ 17 + c.ring.1 * 2 ^ 24),
       lo s.now, hi s.now, r.1, r.2.1, r.2.2.1, r.2.2.2]
    let t := (g.rqTail.toNat + 1) % n
    let pay := if final && !c.second && c.flag 9 then 2 else 1
    let s := upWrite (g.rqBase + BitVec.ofNat 64 (32 * g.rqTail.toNat)) ws s
    let g' : Ring :=
      { g with rqTail := BitVec.ofNat 12 t, phase := if t = 0 then !g.phase else g.phase
               irq := if c.flag 8 then setBit g.irq 0 true else g.irq, owed := g.owed - pay }
    { s with hif := { s.hif with ring := upd s.hif.ring c.ring g' } }

/-- The final reply of a command. -/
def reply (c : Cmd) (st : BitVec 8) (r : Res) (s : State) : State := replyWith c st r true s

/-- OK with no results. -/
def replyOk (c : Cmd) (s : State) : State := reply c 0x00 res0 s

/-- CONFIG_COMMIT_TIMEOUT in ns (18_rings.md R330, Table 18.6). -/
def commitNs (s : State) : Nat := (max 1 (min 200 s.hif.commitMs.toNat)) * ms

/-- A command set to wait (R324, R330); the deadline counts from the moment it starts to wait. -/
def waitOn (c : Cmd) (on : Wait) (ns : Nat) (r : Res) (s : State) : State :=
  { s with hif := { s.hif with waits := s.hif.waits ++ [{ cmd := c, on := on, deadline := s.clk.tempo + ns, res := r }] } }

/-- The waiting commands for which p holds receive the reply that f gives them; the others wait on. -/
def finishWaits (p : Waiting → Bool) (f : Waiting → BitVec 8 × Res) (s : State) : State :=
  let ended := s.hif.waits.filter p
  ended.foldl (fun s w => reply w.cmd (f w).1 (f w).2 s)
    { s with hif := { s.hif with waits := s.hif.waits.filter (fun w => !p w) } }

/-- The waiting commands for which p holds are answered OK with the results kept for them. -/
def finishOk (p : Waiting → Bool) (s : State) : State := finishWaits p (fun w => (0x00, w.res)) s

end Sys2Proof.Machine
end

