-- ==== Sys2Proof/Machine/Gates.lean ====
section
/-! DEFINITION. Tacet gates (05_audio_sync.md R110..R115) and the delivery status of zones (04_audio_ports.md R87). -/

namespace Sys2Proof.Machine

/-- A gate; one that is not listed stands CLOSED. -/
def State.gate (s : State) (g : GateId) : Gate := look s.gates g {}

/-- A gate set. -/
def setGate (g : GateId) (x : Gate) (s : State) : State := { s with gates := put s.gates g x }

/-- A change committed to a gate: true opens, false closes (Table 5.4). A change that reverses a waiting change cancels the
wait; one that meets a ramp waits until the ramp ends. -/
def Gate.commit (x : Gate) (opens : Bool) : Gate :=
  match x.st, opens with
  | .opened, false => { x with st := .waitClose, n := 0 }
  | .waitClose, true => { x with st := .opened, n := 0 }
  | .closed, true => { x with st := .waitOpen, n := 0 }
  | .waitOpen, false => { x with st := .closed, n := 0 }
  | .rampDown, b => { x with next := some b }
  | .rampUp, b => { x with next := some b }
  | _, _ => x

/-- A forced close with RAMP_DOWN from the next cabin frame (R114); a rising ramp falls from the gain it has reached. -/
def Gate.force (x : Gate) : Gate :=
  match x.st with
  | .opened => { x with st := .rampDown, n := 0, next := none }
  | .waitClose => { x with st := .rampDown, n := 0, next := none }
  | .rampUp => { x with st := .rampDown, n := 31 - x.n, next := none }
  | .rampDown => { x with next := none }
  | .waitOpen => { x with st := .closed, n := 0 }
  | .closed => x

/-- A change committed to one gate. -/
def gateCommit (opens : Bool) (g : GateId) (s : State) : State := setGate g ((s.gate g).commit opens) s

/-- A forced close of one gate. -/
def gateForce (g : GateId) (s : State) : State := setGate g (s.gate g).force s

/-- Every listed gate for which p holds changed by f. -/
def gatesMap (p : GateId → Bool) (f : Gate → Gate) (s : State) : State :=
  { s with gates := s.gates.map fun x => if p x.1 then (x.1, f x.2) else x }

/-- The gate passes nothing and awaits nothing. -/
def Gate.silent (x : Gate) : Bool := decide (x.st = .closed)

/-! ### Zones -/

/-- A member word (Table 4.9): present. -/
def memValid (w : BitVec 16) : Bool := bit w 0
/-- PORT of a member. -/
def memPort (w : BitVec 16) : Fin 8 := ⟨fld w 1 3, Nat.mod_lt _ (by decide)⟩
/-- SLOT of a member. -/
def memSlot (w : BitVec 16) : Fin 16 := ⟨fld w 4 4, Nat.mod_lt _ (by decide)⟩
/-- ATTEN of a member. -/
def memAtten (w : BitVec 16) : Nat := fld w 8 8

/-- The members of a zone as a port has committed them (R89): the shadow, once the port's boundary has taken it. -/
def State.memFor (s : State) (z p : Fin 8) : Vector (BitVec 16) 16 :=
  match (s.zone[z]).memSt with
  | some (m, due) => if bit due p.1 then (s.zone[z]).mem else m
  | none => (s.zone[z]).mem

/-- The members of a zone in force, with their indices: each port's as that port has committed them. -/
def State.membersIx (s : State) (z : Fin 8) : List (BitVec 16 × Nat) :=
  (List.finRange 8).flatMap fun p => (s.memFor z p).toList.zipIdx.filter fun (m, _) => memValid m && decide (memPort m = p)

/-- The members of a zone in force on its ports. -/
def State.members (s : State) (z : Fin 8) : List (BitVec 16) := (s.membersIx z).map (·.1)

/-- The zones to which a stream is routed as a port has committed them (R89). -/
def State.zonesFor (s : State) (i : Fin 16) (p : Fin 8) : BitVec 8 :=
  match (s.stream[i]).zonesSt with
  | some (m, due, _) => if bit due p.1 then (s.stream[i]).zones else m
  | none => (s.stream[i]).zones

/-- The stream's attenuation as a port has committed it (R89). -/
def State.attenFor (s : State) (i : Fin 16) (p : Fin 8) : BitVec 8 :=
  match (s.stream[i]).zonesSt with
  | some (_, due, a) => if bit due p.1 then (s.stream[i]).atten else a
  | none => (s.stream[i]).atten

/-- A supervisor MUTE or ZONE_MUTE hold covers the zone (Table 20.6). -/
def State.spvHeld (s : State) (z : Fin 8) : Bool := bit s.holds.kinds 0 || (bit s.holds.kinds 1 && bit s.holds.zones z.1)

/-- A supervisor or ZMUTE hold covers the zone (02_package.md R52). -/
def State.held (s : State) (z : Fin 8) : Bool := s.spvHeld z || bit s.holds.pins z.1

/-- DIR of a port: output (Table 4.7). -/
def Sap.out (p : Sap) : Bool := bit p.cfg 2

/-- The port runs as an output. -/
def State.playing (s : State) (p : Fin 8) : Bool := decide ((s.sap[p]).state = .running) && (s.sap[p]).out

/-- The zone's gates on the ports of its members are closed. -/
def State.zoneSilent (s : State) (z : Fin 8) : Bool :=
  (s.members z).all fun m => !s.playing (memPort m) || (s.gate (.zone z (memPort m))).silent

/-- The member's port plays and its slot is in the port's mask. -/
def State.memberPlays (s : State) (m : BitVec 16) : Bool :=
  memValid m && s.playing (memPort m) && bit (s.sap[memPort m]).mask (memSlot m).1

/-- The host's mute covers the zone (R87); it is reported from the frame at which the gates have closed (worked example of
chapter 5). -/
def State.muted (s : State) (z : Fin 8) : Bool := (s.zone[z]).hmute && s.zoneSilent z

/-- The delivery status of a zone (Table 4.5). -/
def State.zoneCode (s : State) (z : Fin 8) : Nat :=
  let ms := s.members z
  if ms.isEmpty then 0
  else if s.held z then 1
  else if s.muted z then 2
  else if ms.all (s.memberPlays ·) then 6
  else if ms.any (s.memberPlays ·) then 5
  else if ms.any (fun m => decide ((s.sap[memPort m]).state = .faulted)) then 3
  else 4

/-- DELIVERING of a zone: bit m for member m (Table 4.9, R87). -/
def State.delivering (s : State) (z : Fin 8) : Nat :=
  if s.held z || s.muted z then 0
  else ((s.membersIx z).map fun (m, i) => if s.memberPlays m then 2 ^ i else 0).foldl (· ||| ·) 0

/-- The zone delivery word (R87): zone n's code in bits 3n+2..3n. -/
def State.zdWord (s : State) : Nat := ((List.finRange 8).map fun z => s.zoneCode z * 8 ^ z.1).sum

end Sys2Proof.Machine
end

