-- ==== Sys2Proof/Machine/Pages.lean ====
section
/-! DEFINITION. Records, output pages, the backlog and the page-return ring (18_rings.md R331..R338). -/

namespace Sys2Proof.Machine

/-- A stream changed. -/
def setStream (i : Fin 16) (f : Stream → Stream) (s : State) : State := { s with stream := modAt s.stream i f }

/-- The length of a record in bytes. -/
def Rec.bytes (r : Rec) : Nat := 4 * r.words.length

/-- Bytes in a backlog, without the GAP record. -/
def backlogBytes (rs : List Rec) : Nat := (rs.map Rec.bytes).sum

/-- The words of a GAP record (Table 18.5). -/
def gapWords (i : Fin 16) (g : Gap) : List Word :=
  [wd (0x03 + i.1 * 2 ^ 8 + 40 * 2 ^ 16), g.rseq, lo (BitVec.ofNat 64 g.tempo), hi (BitVec.ofNat 64 g.tempo), g.records, g.bytes,
   lo (BitVec.ofNat 64 g.first), hi (BitVec.ofNat 64 g.first), lo (BitVec.ofNat 64 g.last), hi (BitVec.ofNat 64 g.last)]

/-- Records lost to the stream (R337, R333): the pending GAP is created or widened and HIF_PG_LOST counts them. -/
def loseRecords (i : Fin 16) (rs : List Rec) (s : State) : State :=
  match rs, rs.getLast? with
  | r :: _, some z =>
    let t := s.stream[i]
    let fresh := t.gap.isNone
    let g : Gap := match t.gap with
      | none => { rseq := r.rseq, records := wd rs.length, bytes := wd (backlogBytes rs), first := r.tempo, last := z.tempo,
                  tempo := s.clk.tempo }
      | some g => { g with records := g.records + wd rs.length, bytes := g.bytes + wd (backlogBytes rs), last := z.tempo }
    let s := setStream i (fun t => { t with gap := some g, lost := satAdd t.lost rs.length }) s
    if fresh then { s with hif := { s.hif with pgIrq := setBit s.hif.pgIrq 1 true } } else s
  | _, _ => s

/-- The entries of the return ring and its free room (R333, R317). -/
def Hif.retSize (h : Hif) : Nat := logSize h.retLog
/-- Free entries of the page-return ring. -/
def Hif.retFree (h : Hif) : Nat := (h.retHead.toNat + 2 * h.retSize - h.retTail.toNat - 1) % h.retSize

/-- Filled pages returned in fill order while the return ring is enabled and has room (R333). -/
def serveReturns : Nat → State → State
  | 0, s => s
  | k + 1, s =>
    match s.hif.returns with
    | [] => s
    | r :: rs =>
      if !s.hif.retEn then s
      else if s.hif.retFree = 0 then { s with hif := { s.hif with pgIrq := setBit s.hif.pgIrq 2 true } }
      else
        let s := upWrite (s.hif.retBase + BitVec.ofNat 64 (16 * s.hif.retTail.toNat))
          [lo r.addr, hi r.addr, wd (r.stream.1 + r.reason.toNat * 2 ^ 8 + r.bytes * 2 ^ 12), r.pseq] s
        let s := { s with hif := { s.hif with
          returns := rs
          retTail := BitVec.ofNat 12 ((s.hif.retTail.toNat + 1) % s.hif.retSize)
          pgIrq := setBit s.hif.pgIrq 0 true } }
        serveReturns k (setStream r.stream (fun t => { t with held := t.held - 1 }) s)

/-- Every waiting return served as far as the ring allows. -/
def drainReturns (s : State) : State := serveReturns s.hif.returns.length s

/-- A page returned with a reason (R332): its header is written last, then its return entry. -/
def returnPage (i : Fin 16) (reason : BitVec 3) (addr : BitVec 64) (used : Nat) (rs : List Rec) (s : State) : State :=
  let t := s.stream[i]
  let s := upWrite addr [wd (i.1 + s.sess.id.toNat * 2 ^ 8 + reason.toNat * 2 ^ 16), t.pseq, wd used, 0] s
  let s := setStream i (fun t => { t with pseq := t.pseq + 1 }) s
  drainReturns { s with hif := { s.hif with
    returns := s.hif.returns ++ [{ addr := addr, stream := i, reason := reason, bytes := used, pseq := t.pseq, recs := rs }] } }

/-- The current page of a stream returned, if it holds a record (R332). -/
def closePage (i : Fin 16) (reason : BitVec 3) (s : State) : State :=
  match (s.stream[i]).page with
  | none => s
  | some p =>
    if p.used ≤ 16 then s
    else returnPage i reason p.addr p.used p.recs (setStream i (fun t => { t with page := none }) s)

/-- The device may write output pages: upstream writes proceed (R298) and the return ring was enabled since PERST_N (R333). -/
def Hif.pagesOk (h : Hif) : Bool := h.upstream && !h.pgHeld

/-- A record's words written to the current page. -/
def fillPage (i : Fin 16) (p : Page) (ws : List Word) (rs : List Rec) (s : State) : State :=
  let s := upWrite (p.addr + BitVec.ofNat 64 p.used) ws s
  setStream i (fun t => { t with page := some { p with
    used := p.used + 4 * ws.length, first := if p.used ≤ 16 then s.clk.tempo else p.first, recs := p.recs ++ rs } }) s

/-- The pending GAP and the backlog moved into pages, in RSEQ order, as far as the granted pages reach (R337). -/
def drainBacklog : Nat → Fin 16 → State → State
  | 0, _, s => s
  | k + 1, i, s =>
    let t := s.stream[i]
    if !s.hif.pagesOk then s
    else match t.page with
    | none =>
      match t.granted with
      | [] => s
      | a :: more =>
        if t.gap.isNone && t.backlog.isEmpty then s
        else drainBacklog k i (setStream i (fun t => { t with
            granted := more, page := some { addr := a, used := 16, first := s.clk.tempo, recs := [] } }) s)
    | some p =>
      match t.gap, t.backlog with
      | some g, _ =>
        if p.used + 40 ≤ 4096 then drainBacklog k i (setStream i (fun t => { t with gap := none }) (fillPage i p (gapWords i g) [] s))
        else drainBacklog k i (closePage i 0 s)
      | none, r :: rs =>
        if p.used + r.bytes ≤ 4096 then drainBacklog k i (setStream i (fun t => { t with backlog := rs }) (fillPage i p r.words [r] s))
        else drainBacklog k i (closePage i 0 s)
      | none, [] => s

/-- The backlog of a stream drained. -/
def drainStream (i : Fin 16) (s : State) : State :=
  drainBacklog (3 * (s.stream[i]).backlog.length + 2 * (s.stream[i]).granted.length + 6) i s

/-- Oldest whole records that must go so that n bytes more fit the 65_496 B of the backlog (R337). -/
def overflow (n : Nat) : List Rec → List Rec
  | [] => []
  | r :: rs => if backlogBytes (r :: rs) + n ≤ 65496 then [] else r :: overflow n rs

/-- A record generated by a stream (R334, R337): into the current page, or behind the backlog. -/
def emit (i : Fin 16) (tempo : Nat) (ty : Nat) (body : List Word) (s : State) : State :=
  let t := s.stream[i]
  let len := 4 * (4 + body.length)
  let ws := [wd (ty + i.1 * 2 ^ 8 + len * 2 ^ 16), t.rseq, lo (BitVec.ofNat 64 tempo), hi (BitVec.ofNat 64 tempo)] ++ body
  let gone := overflow len t.backlog
  let s := loseRecords i gone s
  let s := setStream i (fun t => { t with
    rseq := t.rseq + 1
    backlog := t.backlog.drop gone.length ++ [{ words := ws, tempo := tempo, rseq := t.rseq }] }) s
  drainStream i s

/-- The code of a stream state (Table 20.1). -/
def StreamState.code : StreamState → Nat
  | .closed => 0 | .opened => 1 | .listening => 2 | .active => 3 | .draining => 4 | .paused => 5 | .faulted => 6

/-- An EVENT record (Table 18.5, R336); the zone delivery word is carried by SPEECH and TEXT_IN streams. -/
def emitEvent (i : Fin 16) (tempo code : Nat) (status : BitVec 8) (prev : StreamState) (value : BitVec 64) (s : State) : State :=
  let t := s.stream[i]
  let z := if t.kind = 2 then 0 else s.zdWord
  emit i tempo 0x02 [wd (code + status.toNat * 2 ^ 8 + t.state.code * 2 ^ 16 + prev.code * 2 ^ 20), wd z, lo value, hi value] s

/-- The deferred commands of a stream meet a standing safe state as its state changes (19_commands.md R343, Table 19.2): STREAM_START,
STREAM_RESUME and TEXT_SUBMIT end PREEMPTED. The close has its own answer. -/
def deferredHeld (i : Fin 16) (s : State) : State :=
  if s.safe && (s.stream[i]).state ≠ .closed then
    finishWaits (fun w => decide (w.on = .deferred) && decide (w.cmd.stream = i.1) && [0x23, 0x25, 0x2B].contains w.cmd.op) (fun _ => (0x15, res0)) s
  else s

/-- A change of a stream's state (20_streams.md R365): the EVENT record STATE, then the page returned with reason STATE. -/
def toState (i : Fin 16) (st : StreamState) (s : State) : State :=
  let prev := (s.stream[i]).state
  let s := setStream i (fun t => { t with state := st }) s
  deferredHeld i (closePage i 2 (emitEvent i s.clk.tempo 0x01 0 prev 0 s))

/-- The open segments of a stream closed with the work already committed (20_streams.md R367, R368): the stream holds no
segment open after it. -/
def closeSegments (i : Fin 16) (s : State) : State := setStream i (fun t => { t with openSegs := [], inputs := 0, inVad := false, vadEnds := [], latDone := false, latAt := none, latIn := false }) s

/-- The records of a page that will never be returned are lost (R333). -/
def losePage (i : Fin 16) (s : State) : State :=
  let s := match (s.stream[i]).page with
    | some p => loseRecords i p.recs s
    | none => s
  setStream i (fun t => { t with page := none, granted := [], held := 0 }) s

/-- Words padded to a multiple of 8 B. -/
def pad8 (b : List Byte) : List Byte := b ++ List.replicate ((8 - b.length % 8) % 8) 0

/-- KIND and LANG of a text of a stream (Table 18.5, 01_cabin.md R26): SPEECH gives transcripts in its seat's spoken language and
translations in its own, TEXT_OUT transcripts alone, TEXT_IN what it speaks. -/
def State.textForm (s : State) (t : Stream) (translation : Bool) : Nat × BitVec 16 :=
  if t.kind = 1 then (2, t.lang)
  else if t.kind = 0 && translation then (1, t.lang)
  else (0, (s.sess.langs[t.seat]).setWidth 16)

/-- A TEXT record (Table 18.5, R335). -/
def emitText (i : Fin 16) (x : TextRec) (s : State) : State :=
  let t := s.stream[i]
  let (kind, lang) := s.textForm t x.translation
  let ws := x.words.flatMap fun w => [wd (w.off.toNat + w.len.toNat * 2 ^ 16), w.start, w.dur]
  let bs := pad8 (bytesOfWords ws ++ x.text)
  let tail := (List.range (bs.length / 4)).map fun k => wordOf ((bs.drop (4 * k)).take 4)
  emit i x.tempo 0x01
    ([wd (kind + b2n x.final * 2 ^ 2 + b2n x.more * 2 ^ 3 + x.part.toNat * 2 ^ 4 + x.words.length * 2 ^ 8
          + x.text.length * 2 ^ 16), x.seg, wd (lang.toNat + t.seat.1 * 2 ^ 16), 0] ++ tail) s

/-- The change of a zone's status reported by the streams routed to it (04_audio_ports.md R87). -/
def reportZones (s : State) : State :=
  let now := s.zdWord
  (List.finRange 16).foldl (fun s i =>
    let t := s.stream[i]
    if t.state = .closed || t.kind = 2 || decide (t.zdw.toNat = now) then s
    else
      let changed := (List.finRange 8).any fun z => bit t.zones z.1 && decide (fld t.zdw (3 * z.1) 3 ≠ now / 8 ^ z.1 % 8)
      let s := setStream i (fun t => { t with zdw := BitVec.ofNat 24 now }) s
      if changed then emitEvent i s.clk.tempo 0x05 0 t.state 0 s else s) s

end Sys2Proof.Machine
end

