-- ==== Sys2Proof/Machine/Moves.lean ====
section
/-! DEFINITION. Objects, map entries, hauler queues, and the parking and restore of a stream's state object
(12_tiers.md R231, R234, R244; 15_recurrence.md R283..R285). -/

namespace Sys2Proof.Machine

/-- The tiers changed. -/
def setTiers (f : Tiers → Tiers) (s : State) : State := { s with tiers := f s.tiers }

/-- The object that holds a tile. -/
def State.objOf (s : State) (t : Nat) : Option Obj := s.tiers.objs.find? fun o => decide (o.base ≤ t) && decide (t < o.base + o.tiles)

/-- The object with an id. -/
def State.objId (s : State) (id : Nat) : Option Obj := s.tiers.objs.find? fun o => decide (o.id = id)

/-- An object changed. -/
def setObj (id : Nat) (f : Obj → Obj) (s : State) : State :=
  setTiers (fun x => { x with objs := x.objs.map fun o => if o.id = id then f o else o }) s

/-- The map entry of a tile; an unlisted tile is ZERO. -/
def State.entry (s : State) (t : Nat) : Entry := look s.tiers.map t {}

/-- The tiles of an object that are listed in the map. -/
def State.written (s : State) (o : Obj) : List (Nat × Entry) :=
  s.tiers.map.filter fun x => decide (o.base ≤ x.1) && decide (x.1 < o.base + o.tiles)

/-- The serving copy of a tile is at home. -/
def Entry.atHome (e : Entry) : Bool := decide (e.tier = .home) || decide (e.tier = .homeCopy)

/-- A move queued for the tile's owner, unless the same one is queued or under way. -/
def queueMove (m : Move) (s : State) : State :=
  let c : Fin 8 := ⟨m.tile % 8, Nat.mod_lt _ (by decide)⟩
  if s.tiers.haul[c].contains m || (s.tiers.moving[c]).any (fun x => decide (x.move = m)) then s
  else setTiers (fun x => { x with haul := modAt x.haul c (· ++ [m]) }) s

/-- A plain move. -/
def mv (k : MoveKind) (t : Nat) (home : Bool) : Move := { kind := k, tile := t, toHome := home, drop := false, widen := false, relocate := false }

/-! ### Parking and restore (15_recurrence.md R283..R285) -/

/-- The state object of a stream. -/
def State.stateObj (s : State) (i : Fin 16) : Option Obj := ((s.stream[i]).obj).bind s.objId

/-- The tile belongs to the object. -/
def Obj.owns (o : Obj) (t : Nat) : Bool := decide (o.base ≤ t) && decide (t < o.base + o.tiles)

/-- Parking begins (R283): every tile at home is queued into its frame at priority 4. -/
def beginPark (i : Fin 16) (s : State) : State :=
  match s.stateObj i with
  | none => s
  | some o =>
    let s := setStream i (fun t => { t with moving := some true }) (setObj o.id (fun o => { o with restored := false }) s)
    (s.written o).foldl (fun s x => if x.2.atHome then
      queueMove { kind := .place, tile := x.1, toHome := false, drop := true, widen := false, relocate := false } s else s) s

/-- A restore trigger (R284, R285): a parking under way is aborted, and the tiles in frames or on their way there come home at
priority 1. Nothing for a state object that is home or on its way home. -/
def restoreState (i : Fin 16) (s : State) : State :=
  match s.stateObj i with
  | none => s
  | some o =>
    if o.restored then s
    else
      let s := setStream i (fun t => { t with moving := some false, trigAt := s.clk.tempo }) (setObj o.id (fun o => { o with restored := true }) s)
      let s := setTiers (fun x => { x with haul := mapV x.haul fun _ q => q.filter fun m => !(o.owns m.tile && decide (m.kind = .place)) }) s
      (s.written o).foldl (fun s x => if x.2.tier = .dram || x.2.inflight then queueMove (mv .restore x.1 true) s else s) s

end Sys2Proof.Machine
end

