-- ==== Sys2Proof/Machine/Safe.lean ====
section
/-! DEFINITION. What opens and closes the gates (05_audio_sync.md R110, R114), safe state (20_streams.md R377, R378;
03_timing.md R58) and FAULT_N (02_package.md R50). -/

namespace Sys2Proof.Machine

/-- Where a gate is heading: true open. -/
def Gate.heading (x : Gate) : Bool :=
  match x.st with
  | .opened => true | .waitOpen => true | .closed => false | .waitClose => false
  | .rampUp => x.next.getD true | .rampDown => x.next.getD false

/-- A gate given the state it should head for (Table 5.4); nothing when it is heading there. -/
def Gate.want (x : Gate) (opens : Bool) : Gate := if x.heading = opens then x else x.commit opens

/-- A gate given the state it should head for. -/
def gateWant (opens : Bool) (g : GateId) (s : State) : State :=
  if (s.gate g).heading = opens then s else setGate g ((s.gate g).commit opens) s

/-- A channel byte of the front end (Table 7.6): valid. -/
def chanValid (b : Byte) : Bool := bit b 0
/-- PORT of a channel byte. -/
def chanPort (b : Byte) : Fin 8 := ⟨fld b 1 3, Nat.mod_lt _ (by decide)⟩
/-- SLOT of a channel byte. -/
def chanSlot (b : Byte) : Fin 16 := ⟨fld b 4 4, Nat.mod_lt _ (by decide)⟩

/-- The zone has a member on the port. -/
def State.zoneOn (s : State) (z p : Fin 8) : Bool := (s.members z).any fun m => decide (memPort m = p)

/-- The stream speaks: its contributions pass (R110 stream start, stop, pause, resume). -/
def Stream.speaks (t : Stream) : Bool :=
  decide (t.kind ≠ 2) && (decide (t.state = .listening) || decide (t.state = .active) || decide (t.state = .draining))

/-- Speech reaches the hub (01_cabin.md R22): with INCR 0 a SPEECH stream says nothing while the one phrase taken has not ended. -/
def Stream.mayUtter (t : Stream) : Bool := t.incr || decide (t.kind ≠ 0) || !(t.inVad && decide (t.inputs ≤ 1))

/-- Anti-noise is admitted (07_front_end.md R144, 05_audio_sync.md R105, R114, 06_photonic.md R134). -/
def State.antiOpen (s : State) : Bool :=
  s.fe.rncOn && !s.fe.suspended && !s.safe && !bit s.holds.kinds 3 && s.pma.switching.isEmpty && s.pwr.tsdAt.isNone

/-- The output side of the hub and RNC work: not in STANDBY, nor on the way into it (24_power.md R418). -/
def State.hubOn (s : State) : Bool := decide (s.pwr.mode ≠ 1) && decide (s.pwr.target ≠ some 1)

/-- Every change that has committed at the port reaches its gates (R110): zone signals, stream contributions, output
channels, anti-noise. -/
def syncGates (p : Fin 8) (s : State) : State :=
  let zs := (List.finRange 8).filter fun z => s.zoneOn z p
  let s := zs.foldl (fun s z => gateWant (!(s.zone[z]).hmute && !s.held z && !s.safe && s.pwr.tsdAt.isNone) (.zone z p) s) s
  let s := zs.foldl (fun s z => (List.finRange 16).foldl (fun s i =>
    let g := GateId.contrib i z p
    let want := (s.stream[i]).speaks && bit (s.zonesFor i p) z.1
    if want || s.gates.any (fun x => decide (x.1 = g)) then gateWant want g s else s) s) s
  let s := if (s.sap[p]).out then (List.finRange 16).foldl (fun s k =>
    let want := s.hubOn && decide ((s.sap[p]).state ≠ .stopped) && !(s.sap[p]).stopping && bit (s.sap[p]).mask k.1
    let g := GateId.chan p k
    if want || s.gates.any (fun x => decide (x.1 = g)) then gateWant want g s else s) s else s
  (s.fe.antis.toList.filter fun b => chanValid b && decide (chanPort b = p)).foldl
    (fun s b => gateWant (s.antiOpen && !(s.sap[p]).stopping) (.anti p (chanSlot b)) s) s

/-- A port that does not run takes a change at once (04_audio_ports.md R90). -/
def syncStopped (s : State) : State :=
  (List.finRange 8).foldl (fun s p => if (s.sap[p]).state = .running then s else syncGates p s) s

/-- A gate of anti-noise. -/
def GateId.isAnti : GateId → Bool
  | .anti _ _ => true
  | _ => false

/-- A gate that safe state closes: zone signals and anti-noise (R114). -/
def GateId.isOutput : GateId → Bool
  | .zone _ _ => true
  | .anti _ _ => true
  | _ => false

/-- RNC closed with RAMP_DOWN (07_front_end.md R144); the path is off until RNC_ENABLE, and one that is staged is PREEMPTED. -/
def rncClose (s : State) : State :=
  finishWaits (fun w => decide (w.on = .cabin)) (fun _ => (0x15, res0))
    (gatesMap GateId.isAnti Gate.force { s with
      fe := { s.fe with rncOn := false, rncPath := 0, suspended := false, rncSt := none }
      sap := mapV s.sap (fun _ x => { x with rncSusp := false }) })

/-- The stream stands at a pitch boundary of its own: no phrase in progress, no voice activity open on its seat, no text
awaiting synthesis (15_recurrence.md R283, R286). -/
def State.streamIdle (s : State) (i : Fin 16) : Bool :=
  let t := s.stream[i]
  t.inputs = 0 && (if t.kind = 1 then t.texts.isEmpty else !bit s.fe.vad t.seat.1)

/-- A pause takes effect at a pitch boundary (20_streams.md R368): open segments close, PAUSED, the gates close, the waiting
STREAM_PAUSE is answered. -/
def takePause (i : Fin 16) (s : State) : State :=
  let s := toState i .paused (closeSegments i (setStream i (fun t => { t with pausing := false }) s))
  finishOk (fun w => decide (w.on = .pitch i)) (syncStopped s)

/-- A stream set to pause (20_streams.md R365, Table 20.6, 24_power.md R426): a PAUSED stream stays resident, so a parked state
object comes home (15_recurrence.md R285). -/
def askPause (i : Fin 16) (s : State) : State := restoreState i (setStream i (fun t => { t with pausing := true }) s)

/-- Pauses of streams that stand at a boundary apply at once (15_recurrence.md R286). -/
def settlePauses (s : State) : State :=
  (List.finRange 16).foldl (fun s i => if (s.stream[i]).pausing && s.streamIdle i then takePause i s else s) s

/-- The effects of SAFE_STATE as they are placed (Table 20.6): output gates close, RNC closes, LISTENING and ACTIVE streams
become PAUSED at their next pitch boundary. -/
def enterSafe (s : State) : State :=
  let s := rncClose (gatesMap GateId.isOutput Gate.force s)
  let is := (List.finRange 16).filter fun i => decide ((s.stream[i]).state = .listening) || decide ((s.stream[i]).state = .active)
  reportZones (settlePauses (is.foldl (fun s i => askPause i s) s))

/-- The gates of safe state may open again; streams stay PAUSED (Table 20.6). -/
def leaveSafe (s : State) : State := reportZones (syncStopped s)

/-- Sets or clears a field and enters or leaves safe state when the effects begin or end. -/
def safeChange (f : State → State) (s : State) : State :=
  let s' := f s
  if !s.safe && s'.safe then enterSafe s' else if s.safe && !s'.safe then leaveSafe s' else s'

/-- A hold's event (Table 25.2 0x0C): ARG0 as HOLD_SET ARG_0; 1 placed, 2 cleared, 3 denied. -/
def logHold (kind mask what : Nat) (s : State) : State := logEvent 0x0C 0 (wd (kind + mask * 2 ^ 8)) (wd what) s

/-- FAULT_N is asserted (02_package.md R50; 03_timing.md Table 3.3; 22_startup.md R392, R395; 23_repair.md R408, R409;
24_power.md R424, R427). -/
def State.faultN (s : State) : Bool :=
  !s.powered || s.gen.testen || !s.boot.quietReady || s.safe || s.clk.lost || s.clk.safeFault || s.pwr.tsdAt.isSome
    || s.pwr.voutFault || s.boot.lockstep || s.boot.gridOos || s.boot.dramFail

/-- SPV_ALERT_N is driven low (17_host_link.md R315). -/
def State.spvAlertN (s : State) : Bool := decide (s.hif.alert &&& s.hif.alertEn ≠ 0)

end Sys2Proof.Machine
end

