-- ==== Sys2Proof/Machine/Access.lean ====
section
/-! DEFINITION. Who reaches the register file and when (17_host_link.md R306..R313, 27_registers.md R450..R455), and the
latches of the atomic pairs (R307). -/

namespace Sys2Proof.Machine

/-- The source's code (Table 17.8). -/
def Src.code : Src → Nat | .host => 0 | .spv => 1 | .dap => 2
/-- The source as an index. -/
def Src.ix : Src → Fin 3 | .host => 0 | .spv => 1 | .dap => 2

/-- The source's accesses are served (R298, R393; 02_package.md R47; 25_observation.md R436). -/
def State.canAccess (s : State) : Src → Bool
  | .host => s.powered && !s.ballsTaken && s.boot.cfgReady && bit s.boot.done 4 && bit s.boot.done 5 && decide (s.hif.speed ≠ 0) && s.hif.mse && !s.hif.d3 && !s.hif.l1
  | .spv => s.powered && !s.ballsTaken && (bit s.boot.done 2 || decide (s.boot.failStep = 2)) && !s.gen.vioBErr
  | .dap => s.powered && bit s.boot.done 2 && s.dbg.session

/-- The source may write registers: the debug access port only with DEBUG = OPEN (25_observation.md R436). -/
def State.mayWrite (s : State) (src : Src) : Bool := s.canAccess src && (decide (src ≠ .dap) || decide (s.debugLevel = 2))

/-- The data of a read returned: to the host as bytes (R306), to the debug access port as its result (25_observation.md R436). The
supervisor's data goes into its response frame (R311). -/
def returned (src : Src) (w : Word) (s : State) : State :=
  match src with
  | .host => { s with hif := { s.hif with rdata := bytesOf w, ur := false } }
  | .dap => { s with dbg := { s.dbg with result := (0, w) } }
  | .spv => s

/-- Offsets lo, lo + 4, … hi. -/
def span (off lo hi : Nat) : Bool := decide (lo ≤ off) && decide (off ≤ hi)

/-- The element of an array of registers at base + stride i that holds the offset, and the offset in it. -/
def slot (off base stride n : Nat) : Option (Fin n × Nat) :=
  if base ≤ off then if h : (off - base) / stride < n then some (⟨_, h⟩, (off - base) % stride) else none else none

/-- The registers marked S or S-W in Table 27.2 (R313, R452). -/
def spvReach (o : Nat) : Bool :=
  o == 0x80 || o == 0x100 || o == 0x104 || o == 0x11000 || o == 0x11004 || o == 0x11010 || o == 0x11014
  || span o 0x11020 0x11048 || o == 0x30000 || span o 0x30010 0x30024 || o == 0x30040 || o == 0x30044 || o == 0x30048
  || o == 0x30050 || o == 0x30054 || o == 0x30058 || o == 0x30070 || o == 0x30074 || span o 0x30400 0x3044C
  || (span o 0x40100 0x40138 && o != 0x40124)
  || (match slot o 0x58000 0x100 8 with | some (_, k) => k == 0x40 || k == 0x44 | none => false)
  || o == 0x60000 || o == 0x70000 || (match slot o 0x70100 0x100 4 with | some (_, k) => k == 0 | none => false)
  || o == 0xA0000 || o == 0xB0000 || o == 0xB0018 || span o 0xC0000 0xC000C || o == 0xC0018 || o == 0xC001C || o == 0xC0020
  || o == 0xC0028 || o == 0xC002C || o == 0xC0100 || o == 0xC0104 || o == 0xC0110 || o == 0xC0114
  || o == 0xD0000 || o == 0xD0004 || span o 0xD0020 0xD003C

/-- The source's latched high word of a pair, if one is pending. -/
def State.latched (s : State) (src : Src) (p : AtomicPair) : Option Word :=
  (s.hif.latch.find? fun x => decide (x.1 = src) && decide (x.2.1 = p)).map (·.2.2)

/-- A latch of the source's pair removed. -/
def unlatch (src : Src) (p : AtomicPair) (s : State) : State :=
  { s with hif := { s.hif with latch := s.hif.latch.filter fun x => !(decide (x.1 = src) && decide (x.2.1 = p)) } }

/-- The high word latched for the source (R307, R60). -/
def latch (src : Src) (p : AtomicPair) (h : Word) (s : State) : State :=
  let s := unlatch src p s
  { s with hif := { s.hif with latch := (src, p, h) :: s.hif.latch } }

/-- A partial or locked write noted (Table 17.4, Table 17.8). -/
def noteAddr (off : Nat) (src : Src) (lock : Bool) (s : State) : State :=
  { s with hif := { s.hif with errAddr := BitVec.ofNat 27 (off % 2 ^ 24 + Src.code src * 2 ^ 24 + b2n lock * 2 ^ 26) } }

/-- A bit of HIF_ERR set (Table 17.8): 0 PARTIAL_WR, 1 LOCK_VIOL, 2 BIG_RD, 3 BAR2_TO, 4 CPL_TO, 5 CPL_ERR, 6 POISON_RX. -/
def hifErr (k : Nat) (s : State) : State := { s with hif := { s.hif with err := setBit s.hif.err k true } }

/-- A write to a locked field refused (21_guard.md R390; Table 17.4): counted, noted, logged with the refused value. -/
def lockViol (off : Nat) (src : Src) (v : Word) (s : State) : State :=
  let s := hifErr 1 (noteAddr off src true s)
  let s := { s with guard := { s.guard with
    lockCnt := satAdd s.guard.lockCnt 1, lockLast := BitVec.ofNat 26 (off % 2 ^ 24 + Src.code src * 2 ^ 24) } }
  logEvent 0x04 (if off < 0x10000 then 0 else 2) (wd (off % 2 ^ 24 + Src.code src * 2 ^ 24)) v s

end Sys2Proof.Machine
end

