-- ==== Sys2Proof/Machine/Clock.lean ====
section
/-! DEFINITION. Clock losses, Tempo capture and compare, the calendar (03_timing.md R57..R72). -/

namespace Sys2Proof.Machine

/-! ### Clock losses (Table 3.3, R58) -/

/-- TEMPO_LOSS (R57): Tempo holds, CLOCK_SAFE is placed, FAULT_N is asserted. The loss event is logged at relock, when the
outage it carries is known (log entry 20). -/
def execTempoLoss (s : State) : Out :=
  act s s.clk.pllLock (logHold 4 0 1 (safeChange (fun s => { s with
    clk := { s.clk with pllLock := false, tempoLoss := true, lost := true }
    holds := { s.holds with clockSafe := true } }) s))

/-- TEMPO_RELOCK (R57): Tempo resumes; the event gives the SAFE-measured outage. -/
def execTempoRelock (outageUs : Nat) (s : State) : Out :=
  act s (!s.clk.pllLock && s.clk.lost)
    (logEvent 0x02 3 0 (wd outageUs) { s with clk := { s.clk with pllLock := true, relockAt := s.clk.tempo } })

/-- CLOCK_SAFE_CLEAR (R58): locked for 10 ms, the device clears its own hold. -/
def execClockSafeClear (s : State) : Out :=
  act s (s.clk.lost && s.clk.pllLock && decide (s.clk.relockAt + 10 * ms ≤ s.clk.tempo))
    (logHold 4 0 2 (safeChange (fun s => { s with
      clk := { s.clk with lost := false }, holds := { s.holds with clockSafe := false } }) s))

/-- The supervisor's RTC alert (R63). -/
def rtcAlert (s s' : State) : State :=
  if (s'.rtc.alarm && !s.rtc.alarm) || (s'.rtc.rangeEvt && !s.rtc.rangeEvt) || (s'.clk.xtal32kLoss && !s.clk.xtal32kLoss)
  then alert 4 s' else s'

/-- A step of the RTC domain: it runs from VRTC alone; the rest of the device follows only while powered. -/
def rtcAct (s : State) (ok : Bool) (bare full : State) : Out :=
  .next (if !ok then s else { (if s.powered then irqScan s (rtcAlert s full) else bare) with pending := s.pending })

/-- XTAL32K_LOSS (R57, R71): the RTC stops and is no longer valid. The event's outage is 0, for it is not known at the loss (DESIGN
CHOICE, log entry 52). -/
def execXtal32kLoss (s : State) : Out :=
  let bare := { s with clk := { s.clk with xtal32kRun := false }, rtc := { s.rtc with valid := false } }
  rtcAct s s.clk.xtal32kRun bare
    (logEvent 0x02 3 1 0 { bare with clk := { bare.clk with xtal32kLoss := true } })

/-- XTAL32K_RESUME (R66 step 6): the RTC advances again from the value it holds; VALID stays 0. -/
def execXtal32kResume (s : State) : Out :=
  let s' := { s with clk := { s.clk with xtal32kRun := true } }
  rtcAct s (!s.clk.xtal32kRun) s' s'

/-- SAFE_OSC_FAULT (R57, R58): FAULT_N is asserted; a health event, its outage 0 (log entry 52). -/
def execSafeOscFault (s : State) : Out :=
  act s (!s.clk.safeFault)
    (alert 1 (logEvent 0x02 3 2 0 { s with clk := { s.clk with safeErr := true, safeFault := true } }))

/-- SAFE_OSC_RECOVER (R58): in range for 10 ms; FAULT_N follows its other causes. The clearance's record repeats that of the fault, for
Table 25.2 gives it no code of its own (DESIGN CHOICE, log entry 52). -/
def execSafeOscRecover (s : State) : Out :=
  act s s.clk.safeFault (logEvent 0x02 3 2 0 { s with clk := { s.clk with safeFault := false } })

/-! ### Capture and compare (R61, R62) -/

/-- A capture channel changed. -/
def setCap (n : Fin 4) (f : Cap → Cap) (s : State) : State := { s with clk := { s.clk with cap := modAt s.clk.cap n f } }
/-- A compare channel changed. -/
def setCmp (n : Fin 4) (f : Cmp → Cmp) (s : State) : State := { s with clk := { s.clk with cmp := modAt s.clk.cmp n f } }

/-- An event on a capture channel (R61): recorded 0 to 3 ns after the edge, or counted as missed. -/
def capture (n : Fin 4) (s : State) : State :=
  if (s.clk.cap[n]).valid then setCap n (fun c => { c with miss := satAdd c.miss 1 }) s
  else
    let (d, s) := s.pick 4
    setCap n (fun c => { c with valid := true, value := BitVec.ofNat 64 (s.clk.tempo + d) }) s

/-- The sources that Table 3.5 lists besides off and software. -/
def capSource (k : Nat) : Bool := span k 0x10 0x1F || span k 0x20 0x27 || k == 0x30 || k == 0x31

/-- The source's input is not ignored: the FS input of a port on a bank that stays dark is (02_package.md R47). -/
def State.inputLive (s : State) (k : Nat) : Bool := match slot k 0x20 1 8 with | some (p, _) => !(s.sap[p]).bankOff | none => true

/-- The level that an edge leaves at a GPIO ball (Table 3.5, 02_package.md Table 2.10). -/
def edgeSeen (k : Nat) (fall : Bool) (s : State) : State :=
  if span k 0x10 0x1E then { s with gen := { s.gen with gpioIn := setBit s.gen.gpioIn (k - 0x10) (!fall) } } else s

/-- CAPTURE_EVENT (R61): an edge of a source reaches every channel that selects it. -/
def execCaptureEvent (sel : BitVec 6) (fall : Bool) (s : State) : Out :=
  act s (capSource sel.toNat && s.inputLive sel.toNat)
    ((List.finRange 4).foldl (fun s n =>
      if (s.clk.cap[n]).src = sel && (s.clk.cap[n]).fall = fall then capture n s else s) (edgeSeen sel.toNat fall s))

/-- A write of TMP_CAP_CFG_n (Table 3.5). -/
def writeCapCfg (n : Fin 4) (v : Word) (s : State) : State :=
  let s := setCap n (fun c => { c with src := v.setWidth 6, fall := bit v 6 }) s
  if bit v 7 && decide ((s.clk.cap[n]).src = 1) then capture n s else s

/-- TRIG (R61): a software event on a channel whose SRC is software. -/
def execTrig (src : Src) (n : Fin 4) (v : Word) (s : State) : Out :=
  act s (s.mayWrite src && bit v 7 && decide (src ≠ .spv)) (writeCapCfg n v s)

/-- A full read of TMP_CAP_HI_n clears VALID (R61). -/
def readCapHi (n : Fin 4) (s : State) : State := setCap n (fun c => { c with valid := false }) s


/-- TMP_CAP_HI_READ (R61). -/
def execTmpCapHiRead (src : Src) (n : Fin 4) (s : State) : Out :=
  act s (s.canAccess src && decide (src ≠ .spv)) (readCapHi n (returned src (hi (s.clk.cap[n]).value) s))

/-- A target that an armed channel has reached (R62): MATCH, ARM cleared, LATE as told. -/
def matched (n : Fin 4) (late : Bool) (s : State) : State :=
  if (s.clk.cmp[n]).arm && decide ((s.clk.cmp[n]).target.toNat ≤ s.clk.tempo) then
    setCmp n (fun c => { c with arm := false, match_ := true, late := c.late || late }) s
  else s

/-- A write of TMP_CMP_LO_n is staged per source (R62, R307). -/
def writeCmpLo (src : Src) (n : Fin 4) (v : Word) (s : State) : State :=
  setCmp n (fun c => { c with staged := upd c.staged (Src.ix src) (some v) }) s

/-- A target already passed when it is written or armed (R62): MATCH and LATE, whether or not ARM is set; ARM clears as on any match.
A target equal to Tempo counts as passed (DESIGN CHOICE, log entry 52). -/
def passed (n : Fin 4) (s : State) : State :=
  if (s.clk.cmp[n]).target.toNat ≤ s.clk.tempo then setCmp n (fun c => { c with arm := false, match_ := true, late := true }) s else s

/-- A write of TMP_CMP_HI_n applies both words (R62, R307), after a match of the target before it; with no LO staged the present LO
stays (log entry 21). -/
def writeCmpHi (src : Src) (n : Fin 4) (h : Word) (s : State) : State :=
  passed n (setCmp n (fun c => { c with
    target := h ++ (c.staged[Src.ix src]).getD (lo c.target), staged := upd c.staged (Src.ix src) none }) (matched n false s))

/-- TMP_CMP_LO_WRITE (R62). -/
def execTmpCmpLoWrite (src : Src) (n : Fin 4) (v : Word) (s : State) : Out :=
  act s (s.mayWrite src && decide (src ≠ .spv)) (writeCmpLo src n v s)

/-- TMP_CMP_HI_WRITE (R62): the HI word, or an 8-byte write of the pair. -/
def execTmpCmpHiWrite (src : Src) (n : Fin 4) (hi : Word) (lo : Option Word) (s : State) : Out :=
  act s (s.mayWrite src && decide (src ≠ .spv)) (writeCmpHi src n hi (match lo with | some l => writeCmpLo src n l s | none => s))

/-- A write of TMP_CMP_CFG_n (Table 3.6, R62): a target already passed when ARM is set gives MATCH and LATE. A match that falls at the
moment of the write outlasts the write's clear of MATCH (00_scope.md R8). -/
def writeCmpCfg (n : Fin 4) (v : Word) (s : State) : State :=
  let now_ := (s.clk.cmp[n]).arm && decide ((s.clk.cmp[n]).target.toNat = s.clk.tempo)
  let s := matched n false s
  let sets := bit v 0 && !(s.clk.cmp[n]).arm && !now_
  let s := setCmp n (fun c => { c with
    arm := bit v 0, irqEn := bit v 1, match_ := c.match_ && (!bit v 2 || now_), late := c.late && !bit v 3 }) s
  if sets then passed n s else matched n false s

/-- COMPARE_ARM (R62): a write of ARM = 1. -/
def execCompareArm (src : Src) (n : Fin 4) (v : Word) (s : State) : Out :=
  act s (s.mayWrite src && bit v 0 && decide (src ≠ .spv)) (writeCmpCfg n v s)

/-- COMPARE_MATCH (R62): Tempo has reached an armed target. -/
def execCompareMatch (n : Fin 4) (s : State) : Out :=
  act s ((s.clk.cmp[n]).arm && decide ((s.clk.cmp[n]).target.toNat ≤ s.clk.tempo)) (matched n false s)

/-! ### Calendar (R64..R72) -/

/-- A leap year (R65). -/
def leap (y : Nat) : Bool := y % 4 == 0 && (y % 100 != 0 || y % 400 == 0)

/-- Days of a month (R65). -/
def monthDays (y m : Nat) : Nat :=
  if m == 2 then (if leap y then 29 else 28) else if m == 4 || m == 6 || m == 9 || m == 11 then 30 else 31

/-- The value of a time word and a date word (Table 3.8). -/
def calOf (t d : Word) : Cal :=
  { year := fld d 0 12, month := fld d 12 4, day := fld d 16 5, hour := fld t 22 5, minute := fld t 16 6, second := fld t 10 6,
    sub := fld t 0 10 }

/-- The date check of R66 step 3. -/
def Cal.dateOk (c : Cal) : Bool :=
  decide (2000 ≤ c.year) && decide (c.year ≤ 2399) && decide (1 ≤ c.month) && decide (c.month ≤ 12) && decide (1 ≤ c.day)
    && decide (c.day ≤ monthDays c.year c.month)

/-- The check of R66 step 3. -/
def Cal.ok (c : Cal) : Bool :=
  c.dateOk && decide (c.hour ≤ 23) && decide (c.minute ≤ 59) && decide (c.second ≤ 59) && decide (c.sub ≤ 1023)

/-- The last value of the range (R64). -/
def Cal.last : Cal := { year := 2399, month := 12, day := 31, hour := 23, minute := 59, second := 59, sub := 1023 }

/-- The value one 1/1024 s later (R64, R65). -/
def Cal.next (c : Cal) : Cal :=
  if c.sub < 1023 then { c with sub := c.sub + 1 }
  else if c.second < 59 then { c with sub := 0, second := c.second + 1 }
  else if c.minute < 59 then { c with sub := 0, second := 0, minute := c.minute + 1 }
  else if c.hour < 23 then { c with sub := 0, second := 0, minute := 0, hour := c.hour + 1 }
  else if c.day < monthDays c.year c.month then { c with sub := 0, second := 0, minute := 0, hour := 0, day := c.day + 1 }
  else if c.month < 12 then { year := c.year, month := c.month + 1, day := 1 }
  else { year := c.year + 1, month := 1, day := 1 }

/-- The order of calendar values to the whole second. -/
def Cal.secs (c : Cal) : Nat :=
  ((((c.year * 13 + c.month) * 32 + c.day) * 24 + c.hour) * 60 + c.minute) * 60 + c.second

/-- The day's order: pack expiry compares whole days (R71). -/
def Cal.dayKey (c : Cal) : Nat := (c.year * 13 + c.month) * 32 + c.day

/-- The intake epoch of a Tempo (20_streams.md R375). -/
def epochOf (t : Nat) : Nat := t / 10000

/-- The queued commit applies now: its epoch has ended, or Tempo stands still (R67, R375). -/
def commitDue (s : State) : Bool :=
  match s.rtc.queued with
  | some q => decide (epochOf q.at_ < epochOf s.clk.tempo) || !s.clk.pllLock || !s.powered
  | none => false

/-- The waits of RTC_SET answered (R66). -/
def finishRtc (s : State) : State := finishOk (fun w => decide (w.on = .rtc)) s

/-- The calendar after one tick, without what the rest of the device does. -/
def tickBare (s : State) : State :=
  match s.rtc.queued, commitDue s with
  | some q, true => { s with rtc := { s.rtc with now := q.value, valid := true, range := false, queued := none } }
  | _, _ =>
    if s.rtc.range then s
    else if s.rtc.now = Cal.last then { s with rtc := { s.rtc with range := true } }
    else { s with rtc := { s.rtc with now := s.rtc.now.next } }

/-- A correlation pair (R70): at a tick whose sub-second is 0, 0 to 3 ns after the edge. -/
def correlate (s : State) : State :=
  let (d, s) := s.pick 4
  { s with rtc := { s.rtc with
    corrSeq := s.rtc.corrSeq + 1, corrValid := s.rtc.valid, corrTempo := BitVec.ofNat 64 (s.clk.tempo + d)
    corrTime := calTime s.rtc.now, corrDate := calDate s.rtc.now } }

/-- The alarm fires when armed and the RTC is at or past it (R69): past the words as they stand, also when they were rewritten while the
alarm was armed (DESIGN CHOICE, log entry 52). -/
def alarmFire (s : State) : State :=
  if s.rtc.alarmArm && decide ((calOf s.rtc.alarmTime s.rtc.alarmDate).secs ≤ s.rtc.now.secs) then
    { s with rtc := { s.rtc with alarm := true, alarmArm := false } }
  else s

/-- A tick seen by the powered device. -/
def tickFull (s : State) : State :=
  let s' := tickBare s
  let rolled := decide (s'.rtc.now.sub = 0) && (decide (s'.rtc.now ≠ s.rtc.now) || s'.rtc.queued.isNone && s.rtc.queued.isSome)
  let s' := if s'.rtc.range && !s.rtc.range then
    logEvent 0x06 3 (calTime s'.rtc.now) (calDate s'.rtc.now) { s' with rtc := { s'.rtc with rangeEvt := true } } else s'
  let s' := if rolled then correlate s' else s'
  let s' := alarmFire s'
  if s.rtc.queued.isSome && s'.rtc.queued.isNone then finishRtc s' else s'

/-- RTC_TICK (R64): the calendar advances 1/1024 s, or takes the committed value. -/
def execRtcTick (s : State) : Out := rtcAct s s.clk.xtal32kRun (tickBare s) (tickFull s)

/-- PREEMPT of a source (R67). -/
def preempt (src : Src) (s : State) : State :=
  { s with rtc := { s.rtc with preempt := upd s.rtc.preempt (Src.ix src) true } }

/-- An invalid staged value (R66 step 5). -/
def badDate (t d : Word) (s : State) : State := logEvent 0x06 3 t d { s with rtc := { s.rtc with badDate := true } }

/-- A commit of the source finds COMMIT_BUSY set and is ignored (R67); the supervisor's takes the place of another source's of its own
intake epoch. -/
def State.commitBusy (s : State) (src : Src) (at_ : Nat) : Bool :=
  match s.rtc.queued with
  | none => false
  | some o => !(decide (src = .spv) && decide (o.src ≠ .spv) && decide (epochOf o.at_ = epochOf at_))

/-- A valid value of a source set to wait for its tick (R66 step 4, R67): the supervisor's commit replaces the host's of the
same epoch and preempts it. -/
def queueCommit (src : Src) (at_ : Nat) (v : Cal) (s : State) : State :=
  let q : Commit := { src := src, at_ := at_, value := v }
  match s.rtc.queued with
  | none =>
    if decide (src ≠ .spv) && s.hif.spvActs.any (fun a => decide (a = (epochOf at_, 0))) then preempt src s
    else { s with rtc := { s.rtc with queued := some q } }
  | some o => if s.commitBusy src at_ then preempt src s else preempt o.src { s with rtc := { s.rtc with queued := some q } }

/-- The supervisor acted on a target in this epoch (20_streams.md R376); acts of epochs before
those of the commands not answered yet are forgotten. -/
def spvAct (k : Nat) (s : State) : State :=
  let e := epochOf s.clk.tempo
  let open_ := s.hif.intake ++ s.hif.ready ++ s.hif.waits.map (·.cmd)
  let first := open_.foldl (fun m c => min m (epochOf c.at_)) (e - 1)
  { s with hif := { s.hif with spvActs := (e, k) :: s.hif.spvActs.filter fun a => decide (first ≤ a.1) } }

/-- A write of RTC_CTRL.COMMIT = 1 by a source (R66, R67). -/
def commitOf (src : Src) (s : State) : State :=
  let t := s.rtc.stageTime[Src.ix src]
  let d := s.rtc.stageDate[Src.ix src]
  let v := calOf t d
  if s.commitBusy src s.clk.tempo then preempt src s
  else if !v.ok then badDate t d s
  else
    let s := queueCommit src s.clk.tempo v s
    if src = .spv then spvAct 0 s else s

/-- ALARM_ARM written (R69): the alarm value is checked, then armed, or BAD_DATE is set; an alarm that was armed is then disarmed (DESIGN
CHOICE, log entry 52). -/
def armAlarm (s : State) : State :=
  let v := calOf s.rtc.alarmTime s.rtc.alarmDate
  if { v with sub := 0 }.ok then { s with rtc := { s.rtc with alarmArm := true } }
  else { s with rtc := { s.rtc with badDate := true, alarmArm := false } }

/-- A write of RTC_CTRL (Table 3.9). -/
def writeRtcCtrl (src : Src) (v : Word) (s : State) : State :=
  let s := if bit v 1 then armAlarm s else { s with rtc := { s.rtc with alarmArm := false } }
  if bit v 0 then commitOf src s else s

/-- COMMIT (R66). -/
def execCommit (src : Src) (v : Word) (s : State) : Out := act s (s.mayWrite src && bit v 0) (writeRtcCtrl src v s)

/-- RTC_COMMIT_NO_CLOCK (R66 step 6): without XTAL32K the value loads, VALID stays 0. -/
def execRtcCommitNoClock (s : State) : Out :=
  match s.rtc.queued with
  | none => .next s
  | some q => act s (!s.clk.xtal32kRun && commitDue s)
      (finishRtc { s with rtc := { s.rtc with now := q.value, range := false, queued := none } })

/-- ALARM_ARM (R69). -/
def execAlarmArm (src : Src) (v : Word) (s : State) : Out := act s (s.mayWrite src && bit v 1) (writeRtcCtrl src v s)

/-! ### Registers of the block (Table 3.4) -/

/-- TMP_CLK_STAT (Table 3.7). -/
def clkStat (s : State) : Word :=
  wd (b2n s.clk.pllLock + 2 * b2n s.clk.xtal32kRun + 4 * b2n s.clk.tempoLoss + 8 * b2n s.clk.xtal32kLoss + 16 * b2n s.clk.safeErr)

/-- RTC_STATUS as a source reads it (Table 3.10). -/
def rtcStatus (src : Src) (s : State) : Word :=
  wd (b2n s.rtc.valid + 2 * b2n s.rtc.range + 4 * b2n s.rtc.badDate + 8 * b2n s.rtc.preempt[Src.ix src]
      + 16 * b2n s.rtc.queued.isSome + 32 * b2n s.rtc.alarm + 64 * b2n s.rtc.rangeEvt)

/-- A read of a TMP or RTC register; HI words are the live ones (latches are the reader's). -/
def readTmp (src : Src) (o : Nat) (s : State) : Option Word :=
  match o with
  | 0x40000 => some (lo s.now)
  | 0x40004 => some (hi s.now)
  | 0x400A0 => some (clkStat s)
  | 0x40100 => some (calTime s.rtc.now)
  | 0x40104 => some (calDate s.rtc.now)
  | 0x40108 => some s.rtc.stageTime[Src.ix src]
  | 0x4010C => some s.rtc.stageDate[Src.ix src]
  | 0x40110 => some (wd (2 * b2n s.rtc.alarmArm))
  | 0x40114 => some (rtcStatus src s)
  | 0x40118 => some s.rtc.alarmTime
  | 0x4011C => some s.rtc.alarmDate
  | 0x40120 => some (wd (s.rtc.corrSeq.toNat + b2n s.rtc.corrValid * 2 ^ 31))
  | 0x40128 => some (lo s.rtc.corrTempo)
  | 0x4012C => some (hi s.rtc.corrTempo)
  | 0x40130 => some s.rtc.corrTime
  | 0x40134 => some s.rtc.corrDate
  | 0x40138 => some (s.rtc.irqEn.setWidth 32)
  | _ =>
    match slot o 0x40020 0x10 4, slot o 0x40060 0x10 4 with
    | some (n, k), _ =>
      let c := s.clk.cap[n]
      if k = 0 then some (wd (c.src.toNat + b2n c.fall * 2 ^ 6 + b2n c.valid * 2 ^ 8 + c.miss.toNat * 2 ^ 16))
      else if k = 4 then some (lo c.value) else if k = 8 then some (hi c.value) else none
    | none, some (n, k) =>
      let c := s.clk.cmp[n]
      if k = 0 then some (wd (b2n c.arm + 2 * b2n c.irqEn + 4 * b2n c.match_ + 8 * b2n c.late))
      else if k = 8 then some (lo c.target) else if k = 12 then some (hi c.target) else none
    | none, none => none

/-- A full write of a TMP or RTC register by its access codes. -/
def writeTmp (src : Src) (o : Nat) (v : Word) (s : State) : State :=
  match o with
  | 0x400A0 => { s with clk := { s.clk with
      tempoLoss := s.clk.tempoLoss && !bit v 2, xtal32kLoss := s.clk.xtal32kLoss && !bit v 3, safeErr := s.clk.safeErr && !bit v 4 } }
  | 0x40108 => { s with rtc := { s.rtc with stageTime := upd s.rtc.stageTime (Src.ix src) (v &&& 0x07FFFFFF) } }
  | 0x4010C => { s with rtc := { s.rtc with stageDate := upd s.rtc.stageDate (Src.ix src) (v &&& 0x001FFFFF) } }
  | 0x40110 => writeRtcCtrl src v s
  | 0x40114 => { s with rtc := { s.rtc with
      badDate := s.rtc.badDate && !bit v 2, alarm := s.rtc.alarm && !bit v 5, rangeEvt := s.rtc.rangeEvt && !bit v 6
      preempt := upd s.rtc.preempt (Src.ix src) (s.rtc.preempt[Src.ix src] && !bit v 3) } }
  | 0x40118 => { s with rtc := { s.rtc with alarmTime := v &&& 0x07FFFFFF } }
  | 0x4011C => { s with rtc := { s.rtc with alarmDate := v &&& 0x001FFFFF } }
  | 0x40138 => if src = .host then { s with rtc := { s.rtc with irqEn := v.setWidth 3 } } else s
  | _ =>
    match slot o 0x40020 0x10 4, slot o 0x40060 0x10 4 with
    | some (n, 0), _ => writeCapCfg n v s
    | none, some (n, 0) => writeCmpCfg n v s
    | none, some (n, 8) => writeCmpLo src n v s
    | none, some (n, 12) => writeCmpHi src n v s
    | _, _ => s

/-- The side effects of a full read of a TMP register: the MISS counter (RC) and VALID (R61). -/
def readTmpEffect (o : Nat) (s : State) : State :=
  match slot o 0x40020 0x10 4 with
  | some (n, 0) => setCap n (fun c => { c with miss := 0 }) s
  | some (n, 8) => readCapHi n s
  | _ => s

end Sys2Proof.Machine
end

