-- ==== Sys2Proof/Machine/Health.lean ====
section
/-! DEFINITION. Strikes, permanence and the repair ledger's entries (23_repair.md R401..R412); faults of graphs and
streams (08_grid_cores.md R167, 20_streams.md R367). -/

namespace Sys2Proof.Machine

/-- Unit type codes (Table 23.2). -/
def uCore : BitVec 4 := 1
/-- SRAM_ROW. -/
def uSram : BitVec 4 := 2
/-- ROUTER. -/
def uRouter : BitVec 4 := 3
/-- LINK. -/
def uLink : BitVec 4 := 4
/-- DRAM_ROW. -/
def uDramRow : BitVec 4 := 5
/-- DRAM_CHANNEL. -/
def uDram : BitVec 4 := 6
/-- LASER. -/
def uLaser : BitVec 4 := 7
/-- PMA_CHANNEL. -/
def uChan : BitVec 4 := 8
/-- PMA_ROW. -/
def uRow : BitVec 4 := 9
/-- SECTION. -/
def uSection : BitVec 4 := 10
/-- CONDUCTOR. -/
def uCond : BitVec 4 := 11

/-- A unit of a type and physical id. -/
def unit (t : BitVec 4) (id : Nat) : UnitRef := { type := t, id := BitVec.ofNat 24 id }

/-- The window of 24 h in seconds of operating time (R401). -/
def window : Nat := 86400

/-- The unit is retired (R405). -/
def State.isRetired (s : State) (u : UnitRef) : Bool := s.hlt.retired.any fun x => decide (x = u)

/-- The strikes the unit holds. -/
def State.strikesOf (s : State) (u : UnitRef) : Nat :=
  ((s.hlt.units.find? fun r => decide (r.unit = u)).map fun r => r.events.length).getD 0

/-- A unit declared permanent (R403): class 0 HARD, 1 STRIKES, 2 ROW_ERRORS, and the count held. It is retired once, in the
order decided (R405). -/
def permanent (u : UnitRef) (cls : BitVec 2) (count : Nat) (s : State) : State :=
  if s.isRetired u || s.hlt.permanent.any (fun p => decide (p.1 = u)) then s
  else { s with hlt := { s.hlt with permanent := s.hlt.permanent ++ [(u, cls, count)] } }

/-- A hard failure (R403): the strikes held are its COUNT. -/
def hardFail (u : UnitRef) (s : State) : State := permanent u 0 (s.strikesOf u) s

/-- The events of the last 24 h of operating time (R403). -/
def recent (t : Nat) (es : List Nat) : List Nat := es.filter fun e => decide (t < e + window)

/-- An event recorded in a table of at most cap records (R404): none when every record is recent and the table is full. -/
def record (cap t : Nat) (u : UnitRef) (rs : List Strikes) : Option (List Strikes) :=
  if rs.any (fun r => decide (r.unit = u)) then
    some (rs.map fun r => if r.unit = u then { r with events := t :: recent t r.events } else r)
  else if rs.length < cap then some (rs ++ [{ unit := u, events := [t] }])
  else
    let latest := fun (r : Strikes) => r.events.headD 0
    match rs.foldl (fun (m : Option Strikes) r => match m with
        | none => some r
        | some x => if latest r < latest x then some r else some x) none with
    | some o => if t < latest o + window then none
                else some (rs.filter (fun r => !decide (r.unit = o.unit)) ++ [{ unit := u, events := [t] }])
    | none => none

/-- A strike (R402, R403): the third within 24 h makes the unit permanent. -/
def strike (u : UnitRef) (s : State) : State :=
  if s.isRetired u then s
  else
    let t := s.hlt.optime.toNat
    let s := { s with hlt := { s.hlt with irq := setBit s.hlt.irq 0 true } }
    match record 64 t u s.hlt.units with
    | none => { s with hlt := { s.hlt with strikeLost := satAdd s.hlt.strikeLost 1 } }
    | some us =>
      let s := { s with hlt := { s.hlt with units := us } }
      if 3 ≤ s.strikesOf u then permanent u 1 (s.strikesOf u) s else s

/-- A corrected error of an SRAM or DRAM row (R403): the fourth within 24 h makes the row permanent. -/
def rowError (u : UnitRef) (s : State) : State :=
  if s.isRetired u then s
  else
    let t := s.hlt.optime.toNat
    match record 128 t u s.hlt.rows with
    | none => { s with hlt := { s.hlt with strikeLost := satAdd s.hlt.strikeLost 1 } }
    | some us =>
      let s := { s with hlt := { s.hlt with rows := us } }
      let n := ((us.find? fun r => decide (r.unit = u)).map fun r => r.events.length).getD 0
      if 4 ≤ n then permanent u 2 n s else s

/-- Days since 2000-01-01 (R410). -/
def dayNumber (c : Cal) : Nat :=
  ((List.range (c.year - 2000)).map fun y => if leap (2000 + y) then 366 else 365).sum
    + ((List.range (c.month - 1)).map fun m => monthDays c.year (m + 1)).sum + (c.day - 1)

/-- A ledger entry (Table 23.3). -/
def ledgerEntry (u : UnitRef) (cls : BitVec 2) (count day : Nat) : BitVec 64 :=
  BitVec.ofNat 64 (u.type.toNat + u.id.toNat * 2 ^ 4 + cls.toNat * 2 ^ 28 + min count 15 * 2 ^ 32 + day * 2 ^ 36)

/-- The day of an entry made now: 0x3FFFF while the RTC is not valid. -/
def State.today (s : State) : Nat := if s.rtc.valid then dayNumber s.rtc.now else 0x3FFFF

/-- A unit's retirement takes effect on the records (R405, R411, R416): listed as retired, its ledger entry on its way, the
event, HLT_IRQ.RETIRED and the supervisor's HEALTH alert. -/
def recordRetire (u : UnitRef) (entry : BitVec 64) (s : State) : State :=
  let s := { s with hlt := { s.hlt with
    retired := s.hlt.retired ++ [u], count := satAdd s.hlt.count 1, last := entry, irq := setBit s.hlt.irq 1 true
    permanent := s.hlt.permanent.filter fun p => !decide (p.1 = u)
    units := s.hlt.units.filter fun r => !decide (r.unit = u)
    rows := s.hlt.rows.filter fun r => !decide (r.unit = u) } }
  alert 1 (logEvent 0x0B 11 (lo entry) (hi entry) s)

/-! ### Faults of streams and graphs -/

/-- A stream's fault (R367): segments closed, FAULT event with its cause, state FAULTED, gates closing. -/
def streamFault (i : Fin 16) (status : BitVec 8) (s : State) : State :=
  let t := s.stream[i]
  if t.state = .closed || t.state = .faulted then s
  else
    let s := closeSegments i s
    let s := emitEvent i s.clk.tempo 0x08 status t.state 0 s
    let s := logEvent 0x12 13 (wd i.1) (status.setWidth 32) s
    toState i .faulted (setStream i (fun t => { t with pausing := false }) s)

/-- A core changed. -/
def setCore (n : Fin 288) (f : Core → Core) (s : State) : State := { s with grid := { s.grid with core := modAt s.grid.core n f } }

/-- A graph changed. -/
def setGraph (g : Fin 8) (f : Graph → Graph) (s : State) : State := { s with grid := { s.grid with graph := modAt s.grid.graph g f } }

/-- The open streams bound to a graph. -/
def State.streamsOf (s : State) (g : Fin 8) : List (Fin 16) :=
  (List.finRange 16).filter fun i => decide ((s.stream[i]).state ≠ .closed) && decide ((s.stream[i]).graph = g)

/-- Every core that the graph binds halts. -/
def haltCores (g : Fin 8) (s : State) : State :=
  { s with grid := { s.grid with core := mapV s.grid.core (fun _ c =>
    if c.graph = some g then { c with run := .halted, atPitch := false, waitSince := none } else c) } }

/-- The commands that wait for a graph's switch or stop answered STATE_CONFLICT with FAULTED (08_grid_cores.md, staged switch
when a core is retired). -/
def failGraphWaits (g : Fin 8) (s : State) : State :=
  finishWaits (fun w => decide (w.on = .switch g) || decide (w.on = .stop g)) (fun _ => (0x12, res1 3)) s

/-- BUILD_ID echoed in an event of GRID (Table 8.3; which events echo it is log entry 56). -/
def buildEvent (b : BitVec 64) (s : State) : State := logEvent 0xFF 9 (lo b) (hi b) s

/-- A RUNNING graph's fault (R167): its cores halt, its staged switch is discarded, its streams enter FAULTED. The event names its image. -/
def graphFault (g : Fin 8) (status : BitVec 8) (s : State) : State :=
  if (s.grid.graph[g]).state = .running then
    let s := setGraph g (fun x => { x with state := .faulted, stagedImage := none, stagedPlan := none, stopping := false }) s
    let s := failGraphWaits g (haltCores g (buildEvent (s.grid.graph[g]).build s))
    (s.streamsOf g).foldl (fun s i => streamFault i status s) s
  else s

end Sys2Proof.Machine
end

