-- ==== Sys2Proof/Machine/Pma.lean ====
section
/-! DEFINITION. The Photonic Mixing Array: lanes, intonation, rings, lasers, rows, calibration (06_photonic.md R116..R135).
Its jobs are in Machine/PmaJobs.lean. -/

namespace Sys2Proof.Machine

/-- A section. -/
def State.sect (s : State) (i : Fin 4) : Sect := s.pma.sect[i]

/-- A section changed. -/
def setSect (i : Fin 4) (f : Sect → Sect) (s : State) : State := { s with pma := { s.pma with sect := modAt s.pma.sect i f } }

/-- A cause of PMA_IRQ: 0 LASER_SWITCH, 1 LANE_DROP, 2 SECT_RETIRED, 3 INTON_DONE, 4 INTON_FAIL, 5 FORCED_GAP, 6 CAL_FAIL. -/
def pmaCause (k : Nat) (s : State) : State := { s with pma := { s.pma with irq := setBit s.pma.irq k true } }

/-- A PMA failure event (Table 25.2 0x08). -/
def logPma (sec unit : Nat) (s : State) : State := logEvent 0x08 6 (wd (sec * 32 + unit)) (s.pma.irq.setWidth 32) s

/-- Channels usable in a section (R117): laser usable and rings locked. -/
def State.chans (s : State) (i : Fin 4) : BitVec 18 := (s.sect i).ringsOk &&& ~~~s.pma.dead

/-- The usable channels, rising. -/
def State.chanList (s : State) (i : Fin 4) : List Nat := (List.range 18).filter fun c => bit (s.chans i) c

/-- The healthy rows. -/
def rowCount (x : Sect) : Nat := ((List.range 17).filter fun r => bit x.rows r).length

/-- The channel that S0 and S1 keep for rotation (R117). -/
def reserve (i : Fin 4) : Nat := if i.1 < 2 then 1 else 0

/-- Lanes that the section's parts allow (R117). -/
def State.lanesRaw (s : State) (i : Fin 4) : Nat := min 16 (min (rowCount (s.sect i)) ((s.chanList i).length - reserve i))

/-- Lanes in service (R117, R118; 22_startup.md R393): as many as the parts allowed at the last boundary (Table 6.6). -/
def State.lanes (s : State) (i : Fin 4) : Nat := if (s.sect i).retired || !(s.sect i).ready then 0 else (s.sect i).carriers.length

/-- The section serves work. -/
def State.inService (s : State) (i : Fin 4) : Bool := (s.sect i).ready && !(s.sect i).retired

/-- The usable channels that carry no lane, rising. -/
def State.freeChans (s : State) (i : Fin 4) : List Nat := (s.chanList i).filter fun c => !(s.sect i).carriers.contains c

/-- The rotation channel of a section (R117): the first usable channel that carries no lane of its own; 31 if none. -/
def State.rotChan (s : State) (i : Fin 4) : Nat := if s.inService i then (s.freeChans i).headD 31 else 31

/-- The channel that carries a lane: during a rotation step the rotation channel carries the lane being calibrated (R130). -/
def State.laneChan (s : State) (i : Fin 4) (k : Nat) : Nat :=
  if (s.sect i).rotating = some k then s.rotChan i else ((s.sect i).carriers[k]?).getD 31

/-- The own channel of the lane that a rotation step calibrates (R130 step 3). -/
def State.rotOwn (s : State) (i : Fin 4) : Option Nat := (s.sect i).rotating.bind fun j => (s.sect i).carriers[j]?

/-- The lane is being moved by a laser switch (R134). -/
def State.laneMoving (s : State) (i : Fin 4) (k : Nat) : Bool :=
  s.pma.switching.any fun ms => ms.any fun m => decide (m.sec = i) && decide (m.lane = k)

/-- Lasers that carry lanes. -/
def State.laserLanes (s : State) : Nat :=
  (List.range 18).foldl (fun m c => if (List.finRange 4).any (fun i => (List.range (s.lanes i)).any fun k => decide (s.laneChan i k = c))
    then m + 2 ^ c else m) 0

/-- READY: S0 and S1 ready or retired. -/
def pmaReady (s : State) : State :=
  { s with pma := { s.pma with ready := ((s.sect 0).ready || (s.sect 0).retired) && ((s.sect 1).ready || (s.sect 1).retired) } }

/-- Filter states that fit the lanes of S0 (07_front_end.md Table 7.2, R141). -/
def fitStates (s : State) (n : Nat) : Nat :=
  let r := (s.fe.refs.toList.filter chanValid).length
  let a := (s.fe.antis.toList.filter chanValid).length
  min n (s.lanes 0 - max r a)

/-- S lowered to fit the lanes of S0 (R141): the highest states are dropped and an event is logged. -/
def lowerStates (s : State) : State :=
  let n := fitStates s s.fe.nState.toNat
  if s.fe.rncOn && s.inService 0 && decide (n < s.fe.nState.toNat) then
    logPma 0 0 { s with fe := { s.fe with
      nState := BitVec.ofNat 5 n, states := mapV s.fe.states (fun i x => if i.1 < n then x else 0) } }
  else s

/-! ### Lanes that move or drop (R117, R133, R134) -/

/-- Lanes on channels: a lane whose channel is usable stays, the others take the free channels in turn (Table 6.6); one that finds none
keeps its own. -/
def placeLanes (ok : Nat → Bool) : List Nat → List Nat → List Nat
  | [], _ => []
  | c :: cs, free =>
    if ok c then c :: placeLanes ok cs free
    else match free with
      | f :: fs => f :: placeLanes ok cs fs
      | [] => c :: placeLanes ok cs []

/-- The first n lanes of a section on usable channels, the preferred one taken first; with the moves that this makes. -/
def carry (i : Fin 4) (n : Nat) (pref : Option Nat) (s : State) : List LaneMove × State :=
  let own := (s.sect i).carriers.take n
  let free := (s.chanList i).filter fun c => !own.contains c
  let free := match pref with
    | some c => if free.contains c then c :: free.filter fun f => f ≠ c else free
    | none => free
  let new := placeLanes (fun c => bit (s.chans i) c) own free
  ((own.zip new).zipIdx.filterMap fun (m, k) => if m.1 = m.2 then none else some { sec := i, lane := k, onto := m.2 },
   setSect i (fun x => { x with carriers := new }) s)

/-- A job held up by a calibration step or a laser switch (Table 6.5 DELAYED). -/
def Job.late (j : Job) : Job := { j with delayed := true }

/-- The jobs of S2 and S3, running or queued, marked as delayed. -/
def delayJobs (s : State) : State :=
  [2, 3].foldl (fun s (i : Fin 4) => setSect i (fun x => { x with running := x.running.map Job.late, queue := x.queue.map Job.late }) s) s

/-- Lanes start moving onto other lasers (R134): anti-noise closes, jobs stop, LASER_SWITCH. A lane that was already moving goes to its
new laser only. -/
def beginSwitch (ms : List LaneMove) (s : State) : State :=
  if ms.isEmpty then s
  else
    let again := fun (m : LaneMove) => ms.any fun n => decide (n.sec = m.sec) && decide (n.lane = m.lane)
    gatesMap GateId.isAnti Gate.force (delayJobs (pmaCause 0 { s with pma := { s.pma with
      switching := (s.pma.switching.map fun l => l.filter fun m => !again m) ++ [ms] } }))

/-- A section retired (R118, R135). -/
def retireSection (i : Fin 4) (s : State) : State :=
  let s := setSect i (fun x => { x with retired := true, rotating := none, carriers := [] }) s
  pmaReady (hardFail (unit uSection i.1) (logPma i.1 31 (pmaCause 2 s)))

/-- At a boundary the section serves the lanes that its parts allow (Table 6.6, R117): fewer raise LANE_DROP, below 8 retire it. -/
def settleLanes (i : Fin 4) (s : State) : State :=
  let n := s.lanesRaw i
  if !s.inService i || decide (s.lanes i ≤ n) then s
  else
    let s := logPma i.1 30 (pmaCause 1 s)
    if n < 8 then retireSection i s
    else
      let (ms, s) := carry i n none (setSect i (fun x => { x with
        rotating := match x.rotating with | some j => if j < n then some j else none | none => none }) s)
      beginSwitch ms s

/-- The failed row of a section replaced by the spare row (Table 6.6). -/
def replaceRow (i : Fin 4) (s : State) : State :=
  match (s.sect i).rowDue with
  | none => s
  | some r => setSect i (fun x =>
      let rows := setBit x.rows r.1 false
      { x with rows := rows, rowDue := none, spareRow := bit rows 16 && decide (rows &&& 0xFFFF ≠ 0xFFFF) }) s

/-- A boundary of a section (Table 6.6): a CABIN frame for S0 and S1, a job boundary for S2 and S3. -/
def settleSect (i : Fin 4) (s : State) : State := settleLanes i (replaceRow i s)

/-- S2 and S3 stand at a job boundary while they run no job. -/
def settleIdle (s : State) : State :=
  [2, 3].foldl (fun s (i : Fin 4) => if (s.sect i).running.isNone then settleSect i s else s) s

/-- Channels of some sections have become unusable (R133, R134): their lanes move to free channels, a preferred one first; lanes that
find none drop at the next boundary. -/
def loseChans (is : List (Fin 4)) (pref : Fin 4 → Option Nat) (s : State) : State :=
  let (ms, s) := is.foldl (fun (ms, s) i =>
    if s.inService i then let (m, s) := carry i (s.lanes i) (pref i) s; (ms ++ m, s) else (ms, s)) ([], s)
  settleIdle (beginSwitch ms s)

/-! ### Rings (R120, R132) -/

/-- The unit a ring counts against (Table 23.1): the channel for a modulator ring, the row for a weight ring. -/
def ringUnit (r : PmaRing) : UnitRef :=
  match r.row with
  | none => unit uChan (r.sec.1 * 32 + r.chan.1)
  | some w => unit uRow (r.sec.1 * 32 + w.1)

/-- A ring marked out of lock; its re-intonation starts. -/
def ringLost (r : PmaRing) (s : State) : State :=
  if s.pma.retuning.any (fun x => decide (x = r)) then s else { s with pma := { s.pma with retuning := s.pma.retuning ++ [r] } }

/-- Rings that a calibration leaves beyond the bound of R122, among those in service that it covers: out of lock, CAL_FAIL. -/
def calBad (i : Fin 4) (covers : PmaRing → Bool) (bad : List PmaRing) (s : State) : State :=
  let serves := fun (r : PmaRing) => bit (s.chans i) r.chan.1 && (match r.row with | some w => bit (s.sect i).rows w.1 | none => true)
  let rs := bad.filter fun r => decide (r.sec = i) && covers r && serves r
  if rs.isEmpty then s else pmaCause 6 (rs.foldl (fun s r => ringLost r s) s)

/-! ### Intonation (R119) -/

/-- Channels of a section that are retired. -/
def State.deadChans (s : State) (i : Fin 4) : BitVec 18 :=
  (List.range 18).foldl (fun m c => if s.isRetired (unit uChan (i.1 * 32 + c)) then setBit m c true else m) 0
/-- Rows of a section that are retired. -/
def State.deadRows (s : State) (i : Fin 4) : BitVec 17 :=
  (List.range 17).foldl (fun m c => if s.isRetired (unit uRow (i.1 * 32 + c)) then setBit m c true else m) 0

/-- Intonation begins for the sections of a list: they serve nothing until it ends, and nothing of them moves. -/
def startIntonation (is : List (Fin 4)) (s : State) : State :=
  let s := is.foldl (fun s i => setSect i (fun x => { x with ready := false, rotating := none, gap := false, held := none }) s) s
  pmaReady { s with pma := { s.pma with
    intoning := true
    switching := (s.pma.switching.map fun ms => ms.filter fun m => !is.contains m.sec).filter fun ms => !ms.isEmpty
    retuning := s.pma.retuning.filter fun r => !is.contains r.sec } }

/-- The lasers found dead in step 1 retired. -/
def retireLasers (m : BitVec 18) (s : State) : State :=
  (List.range 18).foldl (fun s l => if bit m l && !bit s.pma.dead l then
    logPma 0 l (pmaCause 4 (hardFail (unit uLaser l) { s with pma := { s.pma with dead := setBit s.pma.dead l true } })) else s) s

/-- INTONATION_SECTION_DONE (R119, R118, R122): steps 2-5 end for a section, in the order S0..S3; step 1 counts with the
first section of a full run. The device deals the lanes to the lowest-numbered usable channels (R117); fewer lanes than were in service are
a lane drop (R133), and a ring that step 5 cannot bring within the bound is out of lock (R122). A run ends with its last section: S3, or S1 on leaving STANDBY (24_power.md R419). -/
def execIntonationSectionDone (sec : Fin 4) (r : IntonationResult) (s : State) : Out :=
  let turn := (List.finRange 4).all fun i => decide (sec ≤ i) || (s.sect i).ready
  act s (s.pma.intoning && turn && !(s.sect sec).ready)
    (let wake := decide (s.pma.s23 = 1)
     let s := if sec = 0 then
        let s := retireLasers r.deadLasers s
        { s with pma := { s.pma with lit := 0x1FFFF &&& ~~~s.pma.dead } }
      else s
     let was := (s.sect sec).carriers.length
     let rows := r.rows &&& ~~~s.deadRows sec
     let s := setSect sec (fun x => { x with
        ringsOk := r.chans &&& ~~~s.deadChans sec, rows := rows, ready := true, retired := false, rowDue := none
        spareRow := bit rows 16 && decide (rows &&& 0xFFFF ≠ 0xFFFF)
        ebCal := if r.ebCal.toNat ≤ 21 then r.ebCal else 21, gapAt := s.clk.tempo }) s
     let s := setSect sec (fun x => { x with carriers := (s.chanList sec).take (s.lanesRaw sec) }) s
     let s := if s.lanesRaw sec < was then logPma sec.1 30 (pmaCause 1 s) else s
     let s := if s.lanesRaw sec < 8 then retireSection sec (pmaCause 4 s) else calBad sec (fun _ => true) r.bad s
     let s := pmaReady s
     if (List.finRange 4).all fun i => (s.sect i).ready then
       let s := finishOk (fun w => decide (w.on = .reset 2)) (pmaCause 3 { s with pma := { s.pma with intoning := false, idleAt := s.clk.tempo } })
       if wake || decide (sec ≠ 3) then s
       else { s with pma := { s.pma with s23 := 2 }, boot := { s.boot with done := setBit s.boot.done 6 true } }
     else s)

/-- RING_LOCK_LOSS (R120). -/
def execRingLockLoss (r : PmaRing) (s : State) : Out :=
  act s ((s.sect r.sec).ready && !s.pma.retuning.any (fun x => decide (x = r))) (ringLost r s)

/-- A failed row waits for the next boundary: a CABIN frame of S0 and S1, a job boundary of S2 and S3 (Table 6.6). -/
def rowFail (i : Fin 4) (r : Fin 17) (s : State) : State :=
  let s := hardFail (unit uRow (i.1 * 32 + r.1)) (logPma i.1 r.1 (replaceRow i s))
  let s := setSect i (fun x => { x with rowDue := some r }) s
  if 2 ≤ i.1 && (s.sect i).running.isNone then settleSect i s else s

/-- A channel becomes unusable in a section (R117, Table 6.6): a rotation step in progress is abandoned, and the section's lane on it
moves to the next usable channel. -/
def dropChan (i : Fin 4) (c : Fin 18) (s : State) : State :=
  let own := s.rotOwn i
  let keep := if own = some c.1 then some (s.rotChan i) else none
  loseChans [i] (fun _ => keep) (setSect i (fun x => { x with ringsOk := setBit x.ringsOk c.1 false, rotating := none }) s)

/-- A failed modulator ring: its channel is unusable in that section (Table 6.6). -/
def chanFail (i : Fin 4) (c : Fin 18) (s : State) : State :=
  dropChan i c (hardFail (unit uChan (i.1 * 32 + c.1)) (logPma i.1 c.1 s))

/-- A failed weight ring (R117, Table 6.6): its channel is unusable in that section; where the channel carries a lane the row is not
healthy and is replaced, elsewhere the row stays. -/
def weightFail (i : Fin 4) (c : Fin 18) (w : Fin 17) (s : State) : State :=
  if (List.range (s.lanes i)).any fun k => decide (s.laneChan i k = c.1) then rowFail i w (dropChan i c s) else chanFail i c s

/-- RING_REINTONE_DONE (R120, R133): a relock is a strike, else a hard failure. -/
def execRingReintoneDone (r : PmaRing) (relocked : Bool) (s : State) : Out :=
  act s (s.pma.retuning.any (fun x => decide (x = r)))
    (let s := { s with pma := { s.pma with retuning := s.pma.retuning.filter fun x => !decide (x = r) } }
     if relocked then strike (ringUnit r) s
     else match r.row with
       | none => chanFail r.sec r.chan s
       | some w => weightFail r.sec r.chan w s)

/-- ROW_FAULT (R133). -/
def execRowFault (sec : Fin 4) (row : Fin 17) (s : State) : Out :=
  act s (bit (s.sect sec).rows row.1) (rowFail sec row s)

/-! ### Lasers (R133, R134) -/

/-- The standby laser takes over while it is dark and usable (Table 6.6). -/
def State.standby (s : State) (l : Fin 18) : Option Nat :=
  if !bit s.pma.dead 17 && !bit s.pma.lit 17 && decide (l ≠ 17) then some 17 else none

/-- A laser's failure (R133, R134): retired; rotation steps are abandoned, a lane whose own channel fails keeping the rotation channel that
carries it; the other lanes on the laser move to the standby laser, otherwise to the rotation spare. -/
def laserFail (l : Fin 18) (s : State) : State :=
  let keep : Vector (Option Nat) 4 := Vector.ofFn fun i =>
    if s.rotOwn i = some l.1 then some (s.rotChan i) else s.standby l
  let s := logPma 0 l.1 (hardFail (unit uLaser l.1) s)
  let s := (List.finRange 4).foldl (fun s i => setSect i (fun x => { x with rotating := none }) s) s
  loseChans (List.finRange 4) (fun i => keep[i]) { s with pma := { s.pma with
    dead := setBit s.pma.dead l.1 true, lit := setBit s.pma.lit l.1 false } }

/-- LASER_FAIL (R133). -/
def execLaserFail (l : Fin 18) (s : State) : Out := act s (!bit s.pma.dead l.1) (laserFail l s)

/-- LASER_SWITCH_DONE (R134): the oldest moves under way are complete, their lasers lit; with none left jobs resume and anti-noise
reopens through the tacet gate. -/
def execLaserSwitchDone (s : State) : Out :=
  match s.pma.switching with
  | [] => .next s
  | ms :: rest => act s true (
      let s := { s with pma := { s.pma with lit := ms.foldl (fun v (m : LaneMove) => setBit v m.onto true) s.pma.lit, switching := rest } }
      (s.fe.antis.toList.filter chanValid).foldl (fun s b => gateWant s.antiOpen (.anti (chanPort b) (chanSlot b)) s) s)

/-- LASER_WAVELENGTH_LOCK_REGAINED (23_repair.md R402): a strike against the laser. -/
def execLaserWavelengthLockRegained (l : Fin 18) (s : State) : Out :=
  act s (!bit s.pma.dead l.1) (strike (unit uLaser l.1) s)

/-! ### Calibration (R130, R131) -/

/-- A step ends in a section: counted, stamped, the figure set. -/
def calEnd (i : Fin 4) (eb : BitVec 5) (s : State) : State :=
  setSect i (fun x => { x with steps := satAdd x.steps 1, lastCal := s.now, ebCal := if eb.toNat ≤ 21 then eb else 21 }) s

/-- The lane that the next rotation step takes (R130): that of the next lane channel, rising, and the lowest after the last. -/
def State.rotLane (s : State) (i : Fin 4) : Nat :=
  let cs := (s.sect i).carriers
  let c := match (List.range 18).find? fun c => decide ((s.sect i).rotNext ≤ c) && cs.contains c with
    | some c => c
    | none => ((List.range 18).find? fun c => cs.contains c).getD 0
  cs.idxOf c

/-- A rotation step of a section is due (R130): every 500 ms, S1's 250 ms after S0's while S0 takes them. -/
def State.rotDue (s : State) (sec : Fin 4) : Bool :=
  let x := s.sect sec
  let own := match x.rotAt with | some t => decide (t + 500 * ms ≤ s.clk.tempo) | none => true
  x.calDue || (
    if sec.1 = 1 && s.inService 0 && decide (s.rotChan 0 ≠ 31) then
      match (s.sect 0).rotAt with
      | none => false
      | some t => decide (t + 250 * ms ≤ s.clk.tempo) && (match x.rotAt with | some u => decide (u < t) | none => true)
    else own)

/-- ROTATION_STEP (R130): every 500 ms a lane of S0 or S1 moves to the rotation channel; S1's steps fall 250 ms after S0's. -/
def execRotationStep (sec : Fin 4) (s : State) : Out :=
  let x := s.sect sec
  act s (decide (sec.1 < 2) && s.inService sec && x.rotating.isNone && decide (s.rotChan sec ≠ 31) && s.pma.switching.isEmpty && s.rotDue sec)
    (setSect sec (fun x => { x with rotating := some (s.rotLane sec), rotAt := some s.clk.tempo, calDue := false }) s)

/-- ROTATION_RETURN (R130): the lane returns to its own column; a ring of that column beyond its bound is out of lock. -/
def execRotationReturn (sec : Fin 4) (ebCal : BitVec 5) (bad : List PmaRing) (s : State) : Out :=
  match s.rotOwn sec with
  | none => .next s
  | some c => act s true (
      calBad sec (fun r => decide (r.chan.1 = c)) bad
        (calEnd sec ebCal (setSect sec (fun x => { x with rotating := none, rotNext := c + 1 }) s)))

/-- S2 and S3 are on (Table 6.8). -/
def State.s23On (s : State) : Bool := decide (s.pma.s23 = 2)

/-- GAP_STEP_START (R131): an idle section at least 10 ms after its last step. -/
def execGapStepStart (sec : Fin 4) (s : State) : Out :=
  let x := s.sect sec
  act s (decide (2 ≤ sec.1) && s.s23On && s.inService sec && x.running.isNone && x.queue.isEmpty && !x.gap
      && (x.calDue || decide (x.gapAt + 10 * ms ≤ s.clk.tempo)))
    (setSect sec (fun x => { x with gap := true, calDue := false }) s)

/-- The rows of a gap step: four from a first row on, in turn. -/
def gapRows (first : Nat) (r : Fin 17) : Bool := decide ((r.1 + 17 - first % 17) % 17 < 4)

/-- GAP_STEP_END (R131): the held matrix is restored and waiting jobs run; a ring beyond its bound is out of lock. -/
def execGapStepEnd (sec : Fin 4) (ebCal : BitVec 5) (bad : List PmaRing) (s : State) : Out :=
  let first := (s.sect sec).gapRow
  act s (s.sect sec).gap
    (calBad sec (fun r => match r.row with | some w => gapRows first w | none => true) bad
      (calEnd sec ebCal (setSect sec (fun x => { x with gap := false, gapAt := s.clk.tempo, gapRow := (x.gapRow + 4) % 17 }) s)))

/-- The job that waits first in a section's queue, and its copy in the other section of a pair, marked as delayed. -/
def delayHead (sec : Fin 4) (s : State) : State :=
  match (s.sect sec).queue with
  | [] => s
  | j :: _ => [2, 3].foldl (fun s (i : Fin 4) =>
      setSect i (fun x => { x with queue := x.queue.map fun k => if k.id = j.id then k.late else k }) s) s

/-- FORCED_GAP_STEP (R131): 100 ms without a completed step; the next queued job waits. -/
def execForcedGapStep (sec : Fin 4) (s : State) : Out :=
  let x := s.sect sec
  act s (decide (2 ≤ sec.1) && s.s23On && s.inService sec && x.running.isNone && !x.gap
      && decide (x.gapAt + 100 * ms ≤ s.clk.tempo))
    (pmaCause 5 (setSect sec (fun x => { x with gap := true, forced := satAdd x.forced 1 }) (delayHead sec s)))

/-! ### The S2/S3 power group (R129) -/

/-- A belay of a domain begins (11_fabric_service.md Table 11.2 step 1). -/
def belayBegin (d : Domain) (off : Bool) (s : State) : State :=
  { s with fab := { s.fab with belays := s.fab.belays ++ [{ dom := d, off := off, step := .request, since := s.clk.tempo }] } }

/-- S23_IDLE_TIMEOUT (R129): the conductor belays the idle group off. -/
def execS23IdleTimeout (s : State) : Out :=
  let idle := [2, 3].all fun (i : Fin 4) => (s.sect i).running.isNone && (s.sect i).queue.isEmpty && !(s.sect i).gap
  act s (s.s23On && idle && decide (s.pma.idleAt + (max 1 s.pma.idleMs.toNat) * ms ≤ s.clk.tempo)
      && !s.fab.belays.any (fun b => decide (b.dom = .s23)))
    (belayBegin .s23 true { s with pma := { s.pma with s23 := 3 } })

/-- A domain's belay is over: its holds lift. -/
def belayEnd (d : Domain) (s : State) : State :=
  { s with fab := { s.fab with belays := s.fab.belays.filter fun b => !decide (b.dom = d) } }

/-- The wake of S2 and S3 has ended: its intonation is done. -/
def State.s23Awake (s : State) : Bool := decide (s.pma.s23 = 1) && (s.sect 2).ready && (s.sect 3).ready

/-- S2 and S3 on. -/
def s23Woken (s : State) : State := belayEnd .s23 { s with pma := { s.pma with s23 := 2, idleAt := s.clk.tempo } }

/-- S23_WAKE_DONE (R129): the wake's intonation has ended; waiting jobs run. -/
def execS23WakeDone (s : State) : Out := act s s.s23Awake (s23Woken s)

/-! ### Registers (Tables 6.7, 6.8) -/

/-- PMA_STATUS. -/
def pmaStatus (s : State) : Word := wd (b2n s.pma.ready + 2 * b2n s.pma.intoning + s.pma.s23.toNat * 4)

/-- PMA_Sn_STAT. -/
def sectStat (i : Fin 4) (s : State) : Word :=
  let x := s.sect i
  wd (s.lanes i + b2n x.retired * 2 ^ 5 + b2n x.rotating.isSome * 2 ^ 6 + b2n x.spareRow * 2 ^ 7 + x.ebCal.toNat * 2 ^ 8
      + s.rotChan i * 2 ^ 13 + min 7 x.queue.length * 2 ^ 18)

/-- PMA_Sn_LANEMAP_m. -/
def laneMap (i : Fin 4) (m : Nat) (s : State) : Word :=
  wd (((List.range 4).map fun k =>
    let l := 4 * m + k
    (if l < s.lanes i then s.laneChan i l + 128 else 0) * 2 ^ (8 * k)).sum)

/-- A read of a PMA register. -/
def readPma (o : Nat) (s : State) : Option Word :=
  match o with
  | 0x70000 => some (pmaStatus s)
  | 0x70004 => some (wd s.laserLanes)
  | 0x70008 => some (wd ((~~~s.pma.dead &&& ~~~(BitVec.ofNat 18 s.laserLanes)).toNat))
  | 0x7000C => some (s.pma.dead.setWidth 32)
  | 0x70010 => some (s.pma.irq.setWidth 32)
  | 0x70014 => some (s.pma.irqEn.setWidth 32)
  | 0x70018 => some (s.pma.idleMs.setWidth 32)
  | _ =>
    match slot o 0x70100 0x100 4 with
    | none => none
    | some (i, k) =>
      let x := s.sect i
      if k = 0 then some (sectStat i s)
      else if k = 4 then some (x.rows.setWidth 32)
      else if k = 8 then some ((s.chans i).setWidth 32)
      else if k = 0x10 || k = 0x14 || k = 0x18 || k = 0x1C then some (laneMap i ((k - 0x10) / 4) s)
      else if k = 0x20 then some x.jobs
      else if k = 0x24 then some (wd (x.steps.toNat + x.forced.toNat * 2 ^ 16))
      else if k = 0x28 then some (lo x.lastCal)
      else if k = 0x2C then some (hi x.lastCal)
      else none

/-- A full write of a PMA register. -/
def writePma (o : Nat) (v : Word) (s : State) : State :=
  match o with
  | 0x70010 => { s with pma := { s.pma with irq := s.pma.irq &&& ~~~(v.setWidth 7) } }
  | 0x70014 => { s with pma := { s.pma with irqEn := v.setWidth 7 } }
  | _ => s

/-- The RC clears of a full read of a PMA register. -/
def readPmaEffect (o : Nat) (s : State) : State :=
  match slot o 0x70100 0x100 4 with
  | some (i, 0x20) => setSect i (fun x => { x with jobs := 0 }) s
  | some (i, 0x24) => setSect i (fun x => { x with steps := 0, forced := 0 }) s
  | _ => s

end Sys2Proof.Machine
end

