-- ==== Sys2Proof/Machine/FrontEnd.lean ====
section
/-! DEFINITION. The front end: RNC configuration, tap and paths, staged configurations (07_front_end.md R137..R145,
05_audio_sync.md R105, R106). The separation hop is in Machine/Hop.lean. -/

namespace Sys2Proof.Machine

/-- The valid channel bytes of a list. -/
def validChans (v : List Byte) : List Byte := v.filter chanValid

/-- The ports that the RNC path names. -/
def State.rncPorts (s : State) : List (Fin 8) :=
  ((validChans s.fe.refs.toList ++ validChans s.fe.antis.toList ++ validChans s.fe.errs.toList).map chanPort).eraseDups

/-- A port carries an enabled RNC path. -/
def State.carriesRnc (s : State) (p : Fin 8) : Bool := s.fe.rncOn && s.rncPorts.any fun q => decide (q = p)

/-- The filter is evaluated: the path is enabled, or its gates have not closed yet (R144); a suspended path is frozen. -/
def State.rncWorks (s : State) : Bool := !s.fe.suspended && (s.fe.rncOn || s.gates.any fun g => GateId.isAnti g.1 && !g.2.silent)

/-- The port is synchronous (05_audio_sync.md R102): not one that has stopped being so and awaits its boundary. -/
def Sap.inSync (x : Sap) : Bool := x.sync && decide (x.syncDue ≠ some false)

/-- The path in force: S0, or the digital fallback (R145, R137). -/
def State.rncPathNow (s : State) : BitVec 2 := if s.inService 0 then 1 else 2

/-- The separation path that the mode of operation and S1 give (Table 7.1, R149, 24_power.md R418): 0 off, 1 S1, 2 FE6-FE7, 3 in
unison. With no microphone configured it is off (Table 7.6: reset 0; log entry 17). -/
def State.sepPathNow (s : State) : BitVec 2 :=
  if !s.hubOn || !s.fe.loaded || (validChans s.fe.mics.toList).isEmpty then 0 else if s.grid.unison then 3 else if s.inService 1 then 1 else 2

/-- A port changed. -/
def setSap (p : Fin 8) (f : Sap → Sap) (s : State) : State := { s with sap := modAt s.sap p f }

/-- A cause of SAPn_SYNC_IRQ (Table 5.6): 0 CLASS_CHG, 1 DRIFT, 2 CLK_LOSS, 3 CLK_BACK, 4 LOCK, 5 UNLOCK, 6 SYNC_GAIN,
7 SYNC_LOSS, 8 RNC_SUSP. -/
def sapCause (p : Fin 8) (k : Nat) (s : State) : State := setSap p (fun x => { x with irq := setBit x.irq k true }) s

/-- A port event (Table 25.2 0x07). -/
def logPort (p : Fin 8) (s : State) : State := logEvent 0x07 4 (wd p.1) ((s.sap[p]).irq.setWidth 32) s

/-- The path suspended because a port stopped being synchronous (05_audio_sync.md R105). -/
def rncSuspend (p : Fin 8) (s : State) : State :=
  if s.carriesRnc p && !s.fe.suspended then
    let s := gatesMap GateId.isAnti Gate.force { s with fe := { s.fe with suspended := true, rncPath := 3 } }
    logPort p (s.rncPorts.foldl (fun s q => sapCause q 8 (setSap q (fun x => { x with rncSusp := true }) s)) s)
  else s

/-- The path resumed once every port of it is synchronous again (R105). -/
def rncResume (s : State) : State :=
  if s.fe.rncOn && s.fe.suspended && s.hubOn && s.rncPorts.all (fun q => (s.sap[q]).inSync && decide ((s.sap[q]).state = .running) && !(s.sap[q]).stopping) then
    let s := { s with fe := { s.fe with suspended := false, rncPath := s.rncPathNow, antiQ := [], tapGot := none } }
    let s := s.rncPorts.foldl (fun s q => setSap q (fun x => { x with rncSusp := false }) s) s
    (validChans s.fe.antis.toList).foldl (fun s b => gateWant s.antiOpen (.anti (chanPort b) (chanSlot b)) s) s
  else s

/-- Byte k of the words from i on (19_commands.md R353). -/
def descByte (d : Vector Word 16) (i k : Nat) : Byte :=
  if h : i + k / 4 < 16 then (d[i + k / 4] >>> (8 * (k % 4))).setWidth 8 else 0

/-- A staged RNC_ENABLE takes effect at a CABIN frame boundary (19_commands.md Table 19.8); on a port that has lost its synchronous
status since the intake, and in STANDBY, the path is suspended (05_audio_sync.md R105, 24_power.md R418). -/
def applyRnc (s : State) : State :=
  match s.fe.rncSt with
  | none => s
  | some d =>
    let old := validChans s.fe.antis.toList
    let s := { s with fe := { s.fe with
      kRnc := d[2].setWidth 4
      refs := Vector.ofFn fun i => descByte d 3 i.1
      antis := Vector.ofFn fun i => descByte d 5 i.1
      errs := Vector.ofFn fun i => descByte d 7 i.1
      rncOn := true, suspended := false, rncSt := none, antiQ := [], tapGot := some 0 }, sap := mapV s.sap (fun _ x => { x with rncSusp := false }) }
    let s := { s with fe := { s.fe with
      nState := BitVec.ofNat 5 (if s.inService 0 then fitStates s (fld d[2] 8 5) else fld d[2] 8 5), rncPath := s.rncPathNow } }
    let s := old.foldl (fun s b => if (validChans s.fe.antis.toList).any (fun c => decide (c = b)) then s
      else gateWant false (.anti (chanPort b) (chanSlot b)) s) s
    let s := if s.hubOn then s else { s with fe := { s.fe with suspended := true, rncPath := 3 } }
    let s := match s.rncPorts.find? fun q => !(s.sap[q]).inSync with | some q => rncSuspend q s | none => s
    (validChans s.fe.antis.toList).foldl (fun s b => gateWant s.antiOpen (.anti (chanPort b) (chanSlot b)) s) s

/-- RNC closed through the tacet gate (R144): RNC_DISABLE and the RNC_OFF hold. -/
def rncOff (s : State) : State :=
  let s := { s with fe := { s.fe with rncOn := false, rncPath := 0, suspended := false, rncSt := none } }
  let s := (List.finRange 8).foldl (fun s q => setSap q (fun x => { x with rncSusp := false }) s) s
  (validChans s.fe.antis.toList).foldl (fun s b => gateWant false (.anti (chanPort b) (chanSlot b)) s) s

/-- The samples of a tap frame: what the slots of a port bring to the reference channels on it (05_audio_sync.md R106). -/
def tapFrame (p : Fin 8) (slots : Vector Word 16) (s : State) : State :=
  { s with fe := { s.fe with tap := mapV s.fe.tap (fun i x =>
    let b := s.fe.refs[i]
    if chanValid b && decide (chanPort b = p) then slots[chanSlot b] else x) } }

/-- The ports that carry references. -/
def State.refPorts (s : State) : List (Fin 8) := ((validChans s.fe.refs.toList).map chanPort).eraseDups

/-- EB of a front-end result of S0 or S1 in half bits (R139; 06_photonic.md R121): the lower of the noise and the calibration figure. A
digital path has no analogue figure: 0 (log entry 14). -/
def State.feEb (s : State) (i : Fin 4) (k : BitVec 4) : BitVec 5 :=
  if s.inService i then BitVec.ofNat 5 (min (11 + k.toNat) (s.sect i).ebCal.toNat) else 0

/-- The filter evaluated on a tap frame (R142): anti-noise samples and next states, whose numbers no rule states, are free
(log entry 14); the result carries its EB. -/
def rncEval (s : State) : State :=
  let n := s.freeCtr
  let anti : Vector Word 8 := Vector.ofFn fun i => BitVec.ofNat 32 (Config.free (n + i.1))
  { s with
    freeCtr := n + 24
    fe := { s.fe with
      antiQ := (s.fe.antiQ ++ [(s.clk.tempo, s.feEb 0 s.fe.kRnc, anti)]).drop (s.fe.antiQ.length - 3)
      states := mapV s.fe.states (fun i _ => if i.1 < s.fe.nState.toNat then BitVec.ofNat 16 (Config.free (n + 8 + i.1)) else 0) } }

/-- The tap of a synchronous input port (05_audio_sync.md R106, R142): the filter is evaluated once the frame has come on every port
that carries references. -/
def rncTap (p : Fin 8) (slots : Vector Word 16) (s : State) : State :=
  if s.rncWorks && (s.sap[p]).inSync && s.refPorts.any (fun q => decide (q = p)) then
    let s := tapFrame p slots s
    match s.fe.tapGot with
    | none => s
    | some got =>
      let got := setBit got p.1 true
      if s.refPorts.all fun q => bit got q.1 then rncEval { s with fe := { s.fe with tapGot := some 0 } }
      else { s with fe := { s.fe with tapGot := some got } }
  else s

/-- The tap of the separation microphones (05_audio_sync.md R106); one that is lost brings zero (R148). -/
def micTap (p : Fin 8) (slots : Vector Word 16) (s : State) : State :=
  { s with fe := { s.fe with mic := mapV s.fe.mic (fun i x =>
    let b := s.fe.mics[i]
    if bit s.fe.micOff i.1 then 0 else if chanValid b && decide (chanPort b = p) then slots[chanSlot b] else x) } }

/-- The microphone samples that enter the spatial products (R137, R148): a valid microphone is the lane of its rank; the lane of S1 that a
laser switch moves contributes zero (06_photonic.md R134). -/
def State.micVector (s : State) : Vector Word 16 :=
  mapV s.fe.mic (fun i x =>
    let lane := ((List.finRange 16).filter fun k => decide (k.1 < i.1) && chanValid s.fe.mics[k]).length
    if !chanValid s.fe.mics[i] || bit s.fe.micOff i.1 || decide (s.fe.sepPath = 1) && s.laneMoving 1 lane then 0 else x)

/-- The spatial products of one cabin frame (Table 7.1): analogue or rubato numbers are free and carry their EB (R139; log entry 14); in
unison the fixed-point path takes the samples in with its configuration (R149). -/
def spatialStep (s : State) : State :=
  let v := s.micVector
  match s.fe.sepPath.toNat with
  | 0 => s
  | 3 =>
    let taken := s.fe.kSep.toNat :: s.fe.mics.toList.map (·.toNat) ++ v.toList.map (·.toNat)
    { s with fe := { s.fe with sepState := Config.sepStep s.fe.sepState taken } }
  | p => { s with
      freeCtr := s.freeCtr + 16
      fe := { s.fe with
        products := Vector.ofFn fun i => BitVec.ofNat 32 (Config.free (s.freeCtr + i.1))
        sepEb := if p = 1 then s.feEb 1 s.fe.kSep else 0 } }

/-- A cabin frame collected for the mask hop (R146): 192 of them, 4 ms, make one. -/
def hopCollect (s : State) : State :=
  if !s.hubOn || !s.fe.loaded then { s with fe := { s.fe with hopFrames := 0 } }
  else { s with fe := { s.fe with
    hopFrames := s.fe.hopFrames + 1
    hopFirst := if s.fe.hopFrames = 0 then s.clk.tempo else s.fe.hopFirst
    hopNext := if s.fe.hopFrames = 192 then s.clk.tempo else s.fe.hopNext } }

/-- D: from the input frame's FS edge to the first output frame that may carry its anti-noise (R142). -/
def State.rncDelay (s : State) : Nat :=
  if s.fe.rncPath = 2 || (decide (s.fe.rncPath = 0) && decide (s.rncPathNow = 2)) then 35000 else 15000

/-- The anti-noise of an output frame that starts now (R142): the newest computed from a frame at least D old. -/
def State.antiNow (s : State) : Option (Nat × BitVec 5 × Vector Word 8) :=
  (s.fe.antiQ.filter fun e => decide (e.1 + s.rncDelay ≤ s.clk.tempo)).getLast?

/-- The loop time recorded (Table 7.6 FE_RNC_LAT). -/
def rncLatency (s : State) : State :=
  match s.antiNow with
  | none => s
  | some e =>
    let t := BitVec.ofNat 16 (min 65535 (s.clk.tempo - e.1))
    { s with fe := { s.fe with latLast := t, latMax := if s.fe.latMax.toNat < t.toNat then t else s.fe.latMax } }

/-- RNC_PATH_MOVE (R145): at a CABIN frame boundary RNC leaves a retired S0 for FE4-FE5 or returns to it; separation moves in
the same way with S1. Matrix and states stay, no gate closes, an event is logged. -/
def execRncPathMove (s : State) : Out :=
  let rnc := s.fe.rncOn && decide (s.fe.rncPath = 1 ∨ s.fe.rncPath = 2) && decide (s.fe.rncPath ≠ s.rncPathNow)
  let sepNow := s.sepPathNow
  let sep := decide (s.fe.sepPath = 1 ∨ s.fe.sepPath = 2) && decide (sepNow = 1 ∨ sepNow = 2) && decide (s.fe.sepPath ≠ sepNow)
  act s (rnc || sep)
    (let s' := { s with fe := { s.fe with
        rncPath := if rnc then s.rncPathNow else s.fe.rncPath, sepPath := if sep then sepNow else s.fe.sepPath } }
     let s' := if rnc && decide (s'.fe.rncPath = 1) then lowerStates s' else s'
     logEvent 0xFF 5 (wd s'.fe.rncPath.toNat) (wd s'.fe.sepPath.toNat) s')

/-! ### Registers (Table 7.6) -/

/-- FE_STAT. -/
def feStat (s : State) : Word :=
  wd (s.fe.rncPath.toNat + b2n (bit s.holds.kinds 3) * 4 + s.fe.sepPath.toNat * 8 + s.fe.vad.toNat * 2 ^ 5
      + (if s.sess.open_ then s.sess.occupied.toNat else 0) * 2 ^ 9 + b2n s.fe.micLost * 2 ^ 13)

/-- Valid channels of a vector. -/
def countOf {n : Nat} (v : Vector Byte n) : Nat := (validChans v.toList).length

/-- A read of an FE register. -/
def readFe (o : Nat) (s : State) : Option Word :=
  match o with
  | 0x60000 => some (feStat s)
  | 0x60004 => some (wd (s.fe.kRnc.toNat + countOf s.fe.refs * 2 ^ 4 + countOf s.fe.antis * 2 ^ 8 + countOf s.fe.errs * 2 ^ 12
      + s.fe.nState.toNat * 2 ^ 16))
  | 0x60008 => some (wd (s.fe.kSep.toNat + countOf s.fe.mics * 2 ^ 4))
  | 0x600C0 => some (wd (s.fe.latLast.toNat + s.fe.latMax.toNat * 2 ^ 16))
  | 0x600C4 => some s.fe.miss
  | _ =>
    match slot o 0x60010 4 8, slot o 0x60030 4 8, slot o 0x60050 4 8, slot o 0x60070 4 16 with
    | some (i, 0), _, _, _ => some (s.fe.refs[i].setWidth 32)
    | _, some (i, 0), _, _ => some (s.fe.antis[i].setWidth 32)
    | _, _, some (i, 0), _ => some (s.fe.errs[i].setWidth 32)
    | _, _, _, some (i, 0) => some (s.fe.mics[i].setWidth 32)
    | _, _, _, _ => none

/-- The RC clear of FE_MISS. -/
def readFeEffect (o : Nat) (s : State) : State :=
  if o = 0x600C4 then { s with fe := { s.fe with miss := 0 } } else s

end Sys2Proof.Machine
end

