-- ==== Sys2Proof/Machine/Audio.lean ====
section
/-! DEFINITION. The audio ports and the hub: frames, blocks, commits, gates, rate windows, ASRC locks
(04_audio_ports.md R73..R94, 05_audio_sync.md R95..R115). -/

namespace Sys2Proof.Machine

/-! ### Samples -/

/-- A value saturated at full scale. -/
def sat32 (x : Int) : Int := max (-(2 ^ 31)) (min (2 ^ 31 - 1) x)

/-- The whole part of x times 10^(-code/40), the gain of code/2 dB of attenuation: the largest y with y^40 10^code ≤ x^40, found bit by
bit. -/
def attenFloor (code x : Nat) : Nat :=
  (List.range 32).foldl (fun y k => let z := y + 2 ^ (31 - k); if z ^ 40 * 10 ^ code ≤ x ^ 40 then z else y) 0

/-- A sample times a gain of code/2 dB of attenuation (R85): 0 is unity, 0xFF is silent; whether an inexact product is rounded away from
zero is free (log entry 11). -/
def atten (code : Nat) (x : Int) : Int :=
  if code = 0 then x
  else if code = 255 then 0
  else
    let y := attenFloor code x.natAbs
    x.sign * (y + b2n (decide (y ^ 40 * 10 ^ code ≠ x.natAbs ^ 40) && Config.attenuate code x) : Nat)

/-- The falling gains 0.5 (1 + cos(π(k+1)/32)) of R113 for k = 0..30 in units of 2^-64, rounded down. -/
def rampGains : List Nat :=
  [18402331016348079736, 18269519566284701867, 18049588770385652086, 17744656682441840802,
   17357659965153002312, 16892325608460553228, 16353135036597076691, 15745280949521166914,
   15074617314378209376, 14347602988596666802, 13571239517560272444, 12753003705898550691,
   11900775611770997585, 11022762657599326902, 10127420588102915568, 9223372036854775808,
   8319323485606636047, 7423981416110224713, 6545968461938554030, 5693740367811000924,
   4875504556149279171, 4099141085112884813, 3372126759331342239, 2701463124188384701,
   2093609037112474924, 1554418465248998387, 1089084108556549303, 702087391267710813,
   397155303323899529, 177224507424849748, 44413057361471879]

/-- A sample times a ramp's gain at frame k (R113): the 32nd frame of a fall is zero, of a rise unity; the rising gain at k is the falling
gain at 30 - k; whether an inexact product is rounded away from zero is free (log entry 11). -/
def rampGain (up : Bool) (k : Nat) (x : Int) : Int :=
  if 31 ≤ k then (if up then x else 0)
  else
    let y := x.natAbs * rampGains.getD (if up then 30 - k else k) 0
    x.sign * (y / 2 ^ 64 + b2n (decide (y % 2 ^ 64 ≠ 0) && Config.ramp up k x) : Nat)

/-- What a gate lets pass (Table 5.4). -/
def Gate.pass (g : Gate) (x : Int) : Int :=
  match g.st with
  | .opened => x
  | .waitClose => x
  | .rampDown => rampGain false g.n x
  | .closed => 0
  | .waitOpen => 0
  | .rampUp => rampGain true g.n x

/-- A zero crossing (R111). -/
def crossing (prev x : Int) : Bool := decide (x = 0) || decide (x.sign ≠ prev.sign)

/-- The crossing of a waiting gate taken, which applies from this very frame (R111). -/
def Gate.cross (g : Gate) (x : Int) : Gate :=
  if crossing g.prev x then
    match g.st with
    | .waitClose => { g with st := .closed, n := 0 }
    | .waitOpen => { g with st := .opened, n := 0 }
    | _ => g
  else g

/-- A cabin frame of the gate passed: a wait or a ramp counts it. -/
def Gate.count (g : Gate) (x : Int) : Gate :=
  match g.st with
  | .opened => { g with prev := x }
  | .closed => { g with prev := x }
  | _ => { g with prev := x, n := g.n + 1 }

/-- A gate acts on one sample of its signal. One that is not listed stands CLOSED with a signal of zero so far. -/
def gateStep (g : GateId) (x : Int) (s : State) : Int × State :=
  if s.gates.any (fun e => decide (e.1 = g)) || decide (x ≠ 0) then
    let y := (s.gate g).cross x
    (y.pass x, setGate g (y.count x) s)
  else (0, s)

/-! ### Port formats (R73, R74, R78..R81) -/

/-- Slots of a frame. -/
def Sap.slots (p : Sap) : Nat := fld p.cfg 4 4 + 1
/-- SWIDTH in bits. -/
def Sap.swidth (p : Sap) : Nat := match fld p.cfg 8 2 with | 0 => 16 | 1 => 24 | _ => 32
/-- WLEN in bits. -/
def Sap.wlen (p : Sap) : Nat := match fld p.cfg 10 2 with | 0 => 16 | 1 => 20 | 2 => 24 | _ => 32
/-- ROLE: controller. -/
def Sap.controller (p : Sap) : Bool := bit p.cfg 3
/-- The enabled slots in ascending order (R81). -/
def Sap.enabled (p : Sap) : List (Fin 16) := (List.finRange 16).filter fun k => bit p.mask k.1
/-- B. -/
def Sap.b (p : Sap) : Nat := p.block.toNat
/-- SYNC_MODE: ASRC always. -/
def Sap.forced (p : Sap) : Bool := bit p.syncCfg 0
/-- FILL_MODE: repeat the last frame. -/
def Sap.repeats (p : Sap) : Bool := bit p.syncCfg 1
/-- TACET_TO_MS in cabin frames (R113). -/
def Sap.tacetFrames (p : Sap) : Nat := fld p.syncCfg 8 7 * 48
/-- DRIFT_PPM. -/
def Sap.driftPpm (p : Sap) : Nat := fld p.syncCfg 16 13

/-- The top n bits of a word kept. -/
def topBits (n : Nat) (w : Word) : Word := w &&& ~~~(wd (2 ^ (32 - min n 32) - 1))

/-- An input sample of a slot: its first WLEN bits (R74), those that an early edge cut off taken as zero (R78). -/
def inSample (p : Sap) (missing : Nat) (k : Fin 16) (w : Word) : Word :=
  topBits (min p.wlen (p.slots * p.swidth - missing - k.1 * p.swidth)) w

/-- An output sample: bits [31:32-WLEN], rounded half up from the bits below, saturated (R81). -/
def outSample (p : Sap) (x : Int) : Word :=
  let q : Int := 2 ^ (32 - p.wlen)
  let r := if p.wlen = 32 then x else (x + q / 2) / q * q
  BitVec.ofInt 32 (min (2 ^ 31 - q) (max (-(2 ^ 31)) r))

/-- What the slots of a frame drive (R74, R79): none is high impedance. -/
def drives (p : Sap) (words : List Word) : List (Option Word) :=
  (List.finRange p.slots).map fun k =>
    if bit p.mask k.1 then words[k.1]? else if bit p.cfg 16 then none else some 0

/-! ### FIFO and slips (R107..R109) -/

/-- A count of frames inserted, dropped. -/
def slipIns (p : Fin 8) (n : Nat) (s : State) : State := setSap p (fun x => { x with slipIns := satAdd x.slipIns n }) s
/-- Frames dropped. -/
def slipDrop (p : Fin 8) (n : Nat) (s : State) : State := setSap p (fun x => { x with slipDrop := satAdd x.slipDrop n }) s

/-- The frame inserted by FILL_MODE (R107). -/
def fillFrame (x : Sap) (width : Nat) : List Word := if x.repeats && !x.lastFrame.isEmpty then x.lastFrame else List.replicate width 0

/-- SLIPS written into a block's header (Table 4.4 word 5). -/
def withSlips (ws : List Word) (n : Nat) : List Word := ws.set 5 (wd (min 255 n))

/-- The blocks at the head of an input FIFO whose last frame has left are released with their SLIPS (R109). -/
def release : Nat → Sap → Sap
  | 0, x => x
  | k + 1, x =>
    match x.flight with
    | (q, ws, n) :: more =>
      if x.fifo.any (fun f => decide (f.1 = q)) then x else release k { x with flight := more, lastBlock := withSlips ws n }
    | [] => x

/-- One slip counted against an input block in the FIFO. -/
def slipOf (q : Word) (x : Sap) : Sap :=
  { x with flight := x.flight.map fun f => if f.1 = q then (f.1, f.2.1, f.2.2 + 1) else f }

/-- The n oldest frames of the FIFO dropped, each a slip of its block (R107, R109). -/
def dropOldest (p : Fin 8) (n : Nat) (s : State) : State :=
  slipDrop p n (setSap p (fun x =>
    if x.out then { x with fifo := x.fifo.drop n, blkSlips := x.blkSlips + n }
    else release x.flight.length ((x.fifo.take n).foldl (fun y f => slipOf f.1 y) { x with fifo := x.fifo.drop n })) s)

/-- A frame put into the FIFO; at 4 blocks the oldest is dropped (R107). -/
def push (p : Fin 8) (f : Word × List Word) (s : State) : State :=
  let x := s.sap[p]
  let s := if 4 * x.b ≤ x.fifo.length then dropOldest p (x.fifo.length + 1 - 4 * x.b) s else s
  setSap p (fun x => { x with fifo := x.fifo ++ [f] }) s

/-- A frame taken from the FIFO; an empty one gives an inserted frame (R107). -/
def pop (p : Fin 8) (width : Nat) (s : State) : List Word × State :=
  let x := s.sap[p]
  match x.fifo with
  | f :: more => (f.2, setSap p (fun x => release x.flight.length { x with fifo := more, lastFrame := f.2 }) s)
  | [] =>
    let f := fillFrame x width
    (f, slipIns p 1 (setSap p (fun x =>
      if x.out then { x with blkSlips := x.blkSlips + 1 } else { x with insBefore := x.insBefore + 1 }) s))

/-- Width of a frame in the FIFO: 16 slots for an output, the channels for an input. -/
def Sap.width (x : Sap) : Nat := if x.out then 16 else x.enabled.length

/-- n slips of a port booked to a block beside its counters (R109): an output's block in progress; of an input the block that the cabin
side is reading, else the next one. -/
def bookSlips (p : Fin 8) (n : Nat) (s : State) : State :=
  setSap p (fun x =>
    if x.out then { x with blkSlips := x.blkSlips + n }
    else match x.flight with
      | (q, ws, k) :: more => { x with flight := (q, ws, k + n) :: more }
      | [] => { x with insBefore := x.insBefore + n }) s

/-- Whole frames inserted or dropped until the fill is again 2 blocks (R108). -/
def refill (p : Fin 8) (s : State) : State :=
  let x := s.sap[p]
  let n := x.fifo.length
  if n < 2 * x.b then
    slipIns p (2 * x.b - n) (setSap p (fun x =>
      let y := { x with fifo := List.replicate (2 * x.b - n) ((if x.out then 0 else x.nextSeq - 1), fillFrame x x.width) ++ x.fifo }
      if x.out then { y with blkSlips := x.blkSlips + (2 * x.b - n) } else { y with insBefore := x.insBefore + (2 * x.b - n) }) s)
  else dropOldest p (n - 2 * x.b) s

/-- The FIFO at the fill of 2 blocks with which it starts (R107). -/
def Sap.fresh (x : Sap) : Sap :=
  { x with fifo := List.replicate (2 * x.b) ((if x.out then 0 else x.nextSeq - 1), fillFrame x x.width), flight := [] }

/-- 43 frames inserted or dropped on the cabin side by a switch (R103): inserted ones fill the next 43 cabin frames; dropped ones are those
inside the ASRC, whose words no rule states. -/
def switchSlips (p : Fin 8) (gain : Bool) (s : State) : State :=
  let s := if gain then slipDrop p 43 s else slipIns p 43 (setSap p (fun x => { x with insertLeft := 43 }) s)
  bookSlips p 43 s

/-! ### Commits at a boundary (R89..R91) -/

/-- The shadows that a command finds busy (R91): those of the tables it changes. -/
def State.shadowBusy (s : State) (c : Cmd) : Bool :=
  let p : Fin 8 := ⟨fld (c.w 2) 0 3, Nat.mod_lt _ (by decide)⟩
  match c.op with
  | 0x30 => (s.sap[p]).maskSt.isSome && c.desc[2].getLsbD 9 || (s.sap[p]).blockSt.isSome && c.desc[2].getLsbD 10
      || (s.sap[p]).syncCfgSt.isSome && c.desc[2].getLsbD 11
  | 0x33 => (s.zone[p]).memSt.isSome
  | 0x34 => if h : c.stream < 16 then (s.stream[c.stream]'h).zonesSt.isSome else false
  | 0x35 => ((List.finRange 8).any fun z => bit (c.w 2) z.1 && decide ((s.zone[z]).muteDue ≠ 0))
  | _ => false

/-- Commands that waited for a shadow and find it free go back to be run, before what the conductor holds in order. -/
def wakeShadow (s : State) : State :=
  let free := fun (w : Waiting) => decide (w.on = .shadow) && !s.shadowBusy w.cmd
  { s with hif := { s.hif with
    ready := (s.hif.waits.filter free).map (·.cmd) ++ s.hif.ready, waits := s.hif.waits.filter fun w => !free w } }

/-- A port's bit of the commands that wait for boundaries; those whose last port it is are answered (R345). -/
def portsDone (p : Fin 8) (s : State) : State :=
  let s := { s with hif := { s.hif with waits := s.hif.waits.map fun w => match w.on with
    | .ports m => { w with on := .ports (setBit m p.1 false) }
    | _ => w } }
  finishOk (fun w => decide (w.on = .ports 0)) s

/-- A shadow of the members: the port takes it; the last port makes it the table. -/
def commitZone (p : Fin 8) (z : Zone) : Zone :=
  let z := { z with muteDue := setBit z.muteDue p.1 false }
  match z.memSt with
  | some (m, due) => if setBit due p.1 false = 0 then { z with mem := m, memSt := none }
                     else { z with memSt := some (m, setBit due p.1 false) }
  | none => z

/-- A shadow of a stream's routing, likewise. -/
def commitRoute (p : Fin 8) (t : Stream) : Stream :=
  match t.zonesSt with
  | some (m, due, a) => if setBit due p.1 false = 0 then { t with zones := m, atten := a, zonesSt := none }
                        else { t with zonesSt := some (m, setBit due p.1 false, a) }
  | none => t

/-- A change that steps the port's epoch is in a shadow (R89, 19_commands.md R351). -/
def State.epochStep (s : State) (p : Fin 8) : Bool :=
  let x := s.sap[p]
  x.epochDue || x.maskSt.isSome || x.blockSt.isSome || x.syncCfgSt.isSome
    || s.zone.toList.any (fun z => match z.memSt with | some (_, due) => bit due p.1 | none => false)
    || s.stream.toList.any (fun t => match t.zonesSt with | some (_, due, _) => bit due p.1 | none => false)

/-- A port stops being synchronous (R102): its RNC path suspends at once (R105), the switch follows at the boundary; one that has
qualified and awaits its boundary qualifies no longer. -/
def syncLose (p : Fin 8) (s : State) : State :=
  if (s.sap[p]).inSync then rncSuspend p (setSap p (fun x => { x with syncDue := some false }) s)
  else setSap p (fun x => { x with syncDue := if x.syncDue = some true then none else x.syncDue }) s

/-- A partial input block whose mask or length changes while its port stands is discarded and counted (log entry 16): a block holds B frames
of one mask (R83). -/
def dropPartial (p : Fin 8) (s : State) : State :=
  let x := s.sap[p]
  if x.maskSt.isSome || x.blockSt.isSome then
    let s := if x.out then s else bookSlips p x.blk.length (slipDrop p x.blk.length s)
    setSap p (fun x => { x with blk := [] }) s
  else s

/-- Everything staged for a port takes effect (R89, R90): with an epoch step at a boundary, without one on a port that does
not run. SYNC_MODE = 1 ends synchronous status (R102). -/
def commitPort (p : Fin 8) (boundary : Bool) (s : State) : State :=
  let steps := boundary && s.epochStep p
  let s := if boundary then s else dropPartial p s
  let s := setSap p (fun x => { x with
      mask := x.maskSt.getD x.mask, maskSt := none, block := x.blockSt.getD x.block, blockSt := none
      syncCfg := x.syncCfgSt.getD x.syncCfg, syncCfgSt := none, epoch := if steps then x.epoch + 1 else x.epoch, epochDue := false }) s
  let s := if (s.sap[p]).forced && (s.sap[p]).state = .running then syncLose p s else s
  let s := { s with zone := mapV s.zone (fun _ z => commitZone p z), stream := mapV s.stream (fun _ t => commitRoute p t) }
  let s := if boundary then s else syncGates p s
  wakeShadow (portsDone p s)

/-- Every port that does not run takes what is staged for it at once (R90). -/
def commitStopped (s : State) : State :=
  (List.finRange 8).foldl (fun s p => if (s.sap[p]).state = .running then s else commitPort p false s) s

/-! ### Synchronous status (R102..R105) -/

/-- The switch between bypass and ASRC (R103). A synchronous controller starts on the bypass and drops no frame. -/
def syncSwitch (p : Fin 8) (s : State) : State :=
  match (s.sap[p]).syncDue with
  | none => s
  | some g =>
    let s := setSap p (fun x => { x with sync := g, syncDue := none, locked := false, quals := [], unramp := 0, acc := 0, trim := 0 }) s
    switchSlips p g (sapCause p (if g then 6 else 7) s)

/-- MIC_LOST (07_front_end.md R148) as the port's boundary finds its synchronous status. -/
def micCheck (p : Fin 8) (s : State) : State :=
  let off := (List.finRange 16).foldl (fun (m : BitVec 16) i =>
    let b := s.fe.mics[i]
    if chanValid b && decide (chanPort b = p) then setBit m i.1 (!(s.sap[p]).inSync) else m) s.fe.micOff
  { s with fe := { s.fe with micOff := off, micLost := decide (off ≠ 0) } }

/-! ### Rate windows (R95..R97, R102) -/

/-- Nominal rates of Table 5.1 in 0.01 Hz, from class 1 on. -/
def nominals : List Nat :=
  [800000, 1102500, 1200000, 1600000, 2205000, 2400000, 3200000, 4410000, 4800000, 6400000, 8820000, 9600000, 12800000, 17640000,
   19200000]

/-- Nominal rate of a class; 0 has none. -/
def nominal (c : BitVec 4) : Option Nat := if c = 0 then none else nominals[c.toNat - 1]?

/-- The class of a measured rate (R96). -/
def classOf (rate : Nat) : BitVec 4 :=
  match nominals.findIdx? fun (n : Nat) => decide (((rate : Int) - (n : Int)).natAbs * 1000000 ≤ 2000 * n) with
  | some k => BitVec.ofNat 4 (k + 1)
  | none => 0

/-- The rate of a window (R95): the intervals inside it over the span from its first to its last edge. -/
def windowRate (edges spanNs : Nat) : Nat :=
  if edges < 2 || spanNs = 0 then 0 else ((edges - 1) * 10 ^ 11 * 2 + spanNs) / (2 * spanNs)

/-- Class adoption and drift (R96, R97). -/
def adopt (p : Fin 8) (rate : Nat) (s : State) : State :=
  let x := s.sap[p]
  let c := classOf rate
  let s := setSap p (fun x => { x with rateMeas := BitVec.ofNat 25 rate, lastCls := some c }) s
  if some c = x.lastCls && c ≠ x.cls then
    let s := sapCause p 0 (setSap p (fun x => { x with cls := c, rateRef := BitVec.ofNat 25 rate }) s)
    if c ≠ 9 && !x.controller then syncLose p s else s
  else match nominal x.cls with
    | none => s
    | some n =>
      if x.driftPpm * n < ((rate : Int) - x.rateRef.toNat).natAbs * 1000000 then
        sapCause p 1 (setSap p (fun x => { x with rateRef := BitVec.ofNat 25 rate }) s)
      else s

/-- The phase test of a 48 kHz target over 4 consecutive whole windows (R102, Table 5.2). -/
def qualify (p : Fin 8) (w : RateWin) (s : State) : State :=
  let x := s.sap[p]
  if x.controller || x.forced || x.sync || decide (x.cls ≠ 9) || w.edges = 0 then setSap p (fun x => { x with quals := [], qualifying := false }) s
  else
    let q := (x.quals ++ [(w.phLo, w.phHi)]).drop ((x.quals.length + 1) - 4)
    let least := q.foldl (fun m e => min m e.1) w.phLo
    let most := q.foldl (fun m e => max m e.2) w.phHi
    if q.length = 4 && decide (most - least ≤ 40) then
      setSap p (fun x => { x with quals := [], qualifying := false, syncDue := some true, qualPh := x.phase.toInt }) s
    else setSap p (fun x => { x with quals := q, qualifying := true }) s

/-- Length of a rate window (R95). -/
def windowNs : Nat := 62500000

/-- A window of a port ends (R95): its rate is measured, a tracking ASRC's ratio follows it (R100), the next window begins. -/
def windowEnd (p : Fin 8) (s : State) : State :=
  let w := (s.sap[p]).win
  let rate := windowRate w.edges (w.last - w.first)
  let s := adopt p rate s
  let s := setSap p (fun x => if x.controller || rate = 0 then x
    else { x with ratio := BitVec.ofNat 35 ((rate * 2 ^ 33 + 4800000) / 9600000) }) s
  let s := if w.whole then qualify p w s else s
  setSap p (fun x => { x with win := { start := w.start + windowNs, whole := true } }) s

/-- The windows of a port that are over end in turn; after two without an edge nothing changes any more, so of more than three the rest are
passed over. -/
def closeWindows (p : Fin 8) (s : State) : State :=
  let past := fun (s : State) => decide ((s.sap[p]).win.start + windowNs ≤ s.clk.tempo)
  let s := (List.range 3).foldl (fun s _ => if past s then windowEnd p s else s) s
  if past s then setSap p (fun x => { x with win := { x.win with start := s.clk.tempo - s.clk.tempo % windowNs } }) s else s

/-- The first window of a port that begins to run: it may be cut short. -/
def firstWin (now : Nat) : RateWin := { start := now - now % windowNs }

/-- An FS active edge noted in the window (R95, R102) and for the clock monitor (R98). -/
def noteEdge (p : Fin 8) (ph : Int) (s : State) : State :=
  let now := s.clk.tempo
  setSap p (fun x =>
    let w := x.win
    { x with
      lastEdge := some now, phase := BitVec.ofInt 32 ph
      win := if w.edges = 0 then { w with edges := 1, first := now, last := now, phLo := ph, phHi := ph }
        else { w with edges := w.edges + 1, last := now, phLo := min w.phLo ph, phHi := max w.phHi ph } }) s

/-- RATE_WINDOW_END (R95): a window is over; its edges, their span and their phases are those counted from the port's frames. -/
def execRateWindowEnd (p : Fin 8) (edges spanNs : Nat) (phMin phMax : Int) (s : State) : Out :=
  let x := s.sap[p]
  let w := x.win
  act s (decide (x.state = .running) && decide (w.start + windowNs ≤ s.clk.tempo)
      && decide ((edges, spanNs, phMin, phMax) = (w.edges, w.last - w.first, w.phLo, w.phHi))) (closeWindows p s)

/-! ### Frames (R78, R81, R106) -/

/-- A frame added to the block in progress; the first is stamped 0 to 3 ns after the edge (Table 4.3). -/
def addFrame (p : Fin 8) (f : List Word) (s : State) : State :=
  if (s.sap[p]).blk.isEmpty then
    let (d, s) := s.pick 4
    setSap p (fun x => { x with blk := [f], blkTs := BitVec.ofNat 64 (s.clk.tempo + d) }) s
  else setSap p (fun x => { x with blk := x.blk ++ [f] }) s

/-- Free sample words: what an ASRC delivers is not stated (log entry 15). -/
def freeWords (n : Nat) (s : State) : List Word × State :=
  ((List.range n).map (fun k => BitVec.ofNat 32 (Config.free (s.freeCtr + k))), { s with freeCtr := s.freeCtr + n })

/-- The anti-noise of an output channel as its gate passes it (R86 step 3, R106). -/
def antiSample (p : Fin 8) (k : Fin 16) (s : State) : Int :=
  match s.antiNow with
  | none => 0
  | some (_, _, v) => ((List.finRange 8).map fun i =>
      let b := s.fe.antis[i]
      if chanValid b && decide (chanPort b = p) && decide (chanSlot b = k) then (s.gate (.anti p k)).pass v[i].toInt else 0).sum

/-- The first synthesised sample of a phrase leaves in this frame (01_cabin.md R23; 18_rings.md R336): the streams of a mask report the time
from voice-activity end to the FS edge. -/
def sayLatency (m : Word) (s : State) : State :=
  (List.finRange 16).foldl (fun s i =>
    match (s.stream[i]).latAt with
    | some t => if bit m i.1 then
        emitEvent i s.clk.tempo 0x06 0 (s.stream[i]).state (BitVec.ofNat 64 (s.clk.tempo - t))
          (setStream i (fun t => { t with latAt := none, latIn := false }) s)
      else s
    | none => s) s

/-- An output frame: R86 steps 3 and 4 on what the FIFO holds, then the balls. -/
def outFrame (p : Fin 8) (s : State) : State :=
  let m := ((s.sap[p]).fifo.head?.map (·.1)).getD 0
  let (ws, s) := pop p 16 s
  let x := s.sap[p]
  let sums := (List.finRange 16).map fun k => outSample x (sat32 ((ws[k.1]?.getD 0).toInt + antiSample p k s))
  let s := if x.inSync && s.carriesRnc p && s.rncWorks then rncLatency s else s
  sayLatency m
    (addFrame p (x.enabled.map fun k => sums[k.1]?.getD 0) (setSap p (fun x => { x with driven := if s.ballsTaken then [] else drives x sums }) s))

/-- An input frame: memory words, the taps, the block. -/
def inFrame (p : Fin 8) (missing : Nat) (slots : Vector Word 16) (s : State) : State :=
  let x := s.sap[p]
  let f := x.enabled.map fun k => inSample x missing k slots[k]
  let v := mapV slots fun k w => inSample x missing k w
  let s := addFrame p f s
  if x.inSync then rncTap p v (micTap p v s) else s

/-- RESET_UNIT of the audio hub ends once every port stands still (R94, R115; 07_front_end.md Table 7.6): SAP and ZONE configuration and
every count as after reset, every gate CLOSED; map epochs and the loop times of FE_RNC_LAT, which are no count, stay. -/
def endHubReset (s : State) : State :=
  if s.hubReset && s.sap.toList.all (fun x => decide (x.state = .stopped)) then
    let s := { s with
      sap := mapV s.sap (fun _ x => { ({} : Sap) with bankOff := x.bankOff, epoch := x.epoch }), zone := Vector.replicate 8 {}
      gates := s.gates.map fun g => (g.1, { ({} : Gate) with prev := g.2.prev })
      fe := { s.fe with rncOn := false, suspended := false, rncPath := 0, rncSt := none, antiQ := [], miss := 0 }
      hubReset := false }
    reportZones (finishOk (fun w => decide (w.on = .reset 1) || decide (w.on = .cabin)) s)
  else s

/-- A stopped port (R93): a partial input block is discarded and counted, its gates are closed; synchronous status ends. -/
def stopPort (p : Fin 8) (s : State) : State :=
  let x := s.sap[p]
  let s := if !x.out then slipDrop p x.blk.length s else s
  let s := if x.sync then rncSuspend p (sapCause p 7 s) else s
  let s := setSap p (fun x => { x with
    state := .stopped, stopping := false, blk := [], sync := false, syncDue := none, locked := false, quals := [], qualifying := false
    unramp := 0, insertLeft := 0, cabin := [], lastCls := none, lastEdge := none, driven := [], flight := [], lastBlock := (x.flight.getLast?.map fun f => withSlips f.2.1 f.2.2).getD x.lastBlock }) s
  let s := commitPort p false (micCheck p s)
  endHubReset (reportZones (finishOk (fun w => decide (w.on = .sapStop p)) s))

/-- The gates of a port's output channels, anti-noise among them, are all closed (R93). -/
def State.chansSilent (s : State) (p : Fin 8) : Bool :=
  !(s.sap[p]).out || (List.finRange 16).all fun k => (s.gate (.chan p k)).silent && (s.gate (.anti p k)).silent

/-- A 48 kHz controller: clocked from CABIN (R77). -/
def Sap.cabinClocked (x : Sap) : Bool := x.controller && decide (x.rate = 48000)

/-- The phase of an FS active edge to its CABIN edge: fixed on a port clocked from CABIN (R77), else as it came. -/
def Sap.phaseOf (x : Sap) (ph : Int) : Int := if x.cabinClocked then x.qualPh else ph

/-- A FAULTED port runs again from this frame (R98, R108): measurement, lock and qualification start afresh. -/
def clkBack (p : Fin 8) (s : State) : State :=
  refill p (sapCause p 3 (setSap p (fun x => { x with state := .running, win := firstWin s.clk.tempo, lastCls := none }) s))

/-- SAP_FRAME (R78): one frame from its FS active edge, with the phase of that edge to the CABIN edge and, on an input, what
the slots carry. A stopping port stops at the first frame at which its gates are closed (R93). -/
def execSapFrame (p : Fin 8) (edge : FsEdge) (ph : Int) (slots : Vector Word 16) (s : State) : Out :=
  let x := s.sap[p]
  act s (decide (x.state ≠ .stopped) && decide (x.blk.length < x.b)) (
    if x.stopping && s.chansSilent p then stopPort p s
    else
      let back := decide (x.state = .faulted)
      let s := if back then clkBack p s else closeWindows p s
      let ph := x.phaseOf ph
      let err := decide (edge ≠ .onTime) && !x.controller
      let s := noteEdge p ph (setSap p (fun x => { x with frameErr := if err then satAdd x.frameErr 1 else x.frameErr }) s)
      let y := s.sap[p]
      let s := if (y.sync || decide (y.syncDue = some true)) && !x.controller && decide (100 < (ph - y.qualPh).natAbs) then syncLose p s else s
      let missing := match edge with | .early n => if x.controller then 0 else n | _ => 0
      let s := if x.out then outFrame p s else inFrame p missing slots s
      if back then reportZones (rncResume s) else s)

/-! ### Blocks (R82..R84, R89) -/

/-- The header of a completed block (Table 4.4). -/
def blockHeader (p : Fin 8) (x : Sap) : List Word :=
  [wd (p.1 + b2n x.out * 2 ^ 3 + b2n x.sync * 2 ^ 4 + x.enabled.length * 2 ^ 8 + x.b * 2 ^ 16), x.nextSeq, lo x.blkTs, hi x.blkTs,
   wd (x.epoch.toNat + x.mask.toNat * 2 ^ 16), 0, 0, 0]

/-- The way in which an ASRC trims its ratio (log entry 15): an input with more than 2 blocks waiting, or an output with less, is short of
speed. -/
def Sap.trimOf (x : Sap) : Int :=
  let d : Int := (x.fifo.length : Int) - 2 * x.b
  if x.sync || !x.locked then 0 else if x.out then -d.sign else d.sign

/-- A completed block: an output block ends with its last frame; an input block goes into the FIFO to the cabin side; in STANDBY it is
discarded (24_power.md R418). -/
def endBlock (p : Fin 8) (s : State) : State :=
  let x := s.sap[p]
  let ws := blockHeader p x ++ x.blk.flatten
  let q := x.nextSeq
  let s := setSap p (fun x => { x with seq := q, nextSeq := q + 1, lastTs := x.blkTs, blk := [] }) s
  if x.out then setSap p (fun x => { x with lastBlock := withSlips ws x.blkSlips, blkSlips := 0, trim := x.trimOf }) s
  else if !s.hubOn then s
  else
    let s := x.blk.foldl (fun s f => push p (q, f) s)
      (setSap p (fun x => { x with flight := x.flight ++ [(q, ws, x.insBefore)], insBefore := 0 }) s)
    setSap p (fun x => { x with trim := x.trimOf }) s

/-- BLOCK_BOUNDARY (R82): the block of B frames is complete; the shadows commit, the epoch steps once, the switch of R103
happens, changes reach their gates (R110). -/
def execBlockBoundary (p : Fin 8) (s : State) : Out :=
  let x := s.sap[p]
  act s (decide (x.state = .running) && decide (x.b ≤ x.blk.length)) (
    let s := commitPort p true (endBlock p s)
    let s := rncResume (micCheck p (syncSwitch p s))
    reportZones (syncGates p s))

/-- SHADOW_COMMIT_TIMEOUT (R91): the k-th waiting command never found its shadow free. -/
def execShadowCommitTimeout (k : Nat) (s : State) : Out :=
  match s.hif.waits[k]? with
  | none => .next s
  | some w => act s (decide (w.on = .shadow) && decide (w.deadline ≤ s.clk.tempo))
      (reply w.cmd 0x14 res0 { s with hif := { s.hif with waits := s.hif.waits.eraseIdx k } })

/-! ### The cabin frame (R86) -/

/-- The zone signal of a zone on a port (R86 step 1): contributions, their sum, the zone gate. -/
def zoneSignal (z p : Fin 8) (speech : Vector Word 16) (s : State) : Int × State :=
  let (sum, s) := (List.finRange 16).foldl (fun (a : Int × State) i =>
    let (y, s) := gateStep (.contrib i z p) (atten (a.2.attenFor i p).toNat speech[i].toInt) a.2
    (a.1 + y, s)) ((0 : Int), s)
  gateStep (.zone z p) (sat32 sum) s

/-- The output words of a port (R86 step 2), before anti-noise. -/
def portFrame (p : Fin 8) (speech : Vector Word 16) (s : State) : List Word × State :=
  let (zs, s) := (List.finRange 8).foldl (fun (a : List Int × State) z =>
    if a.2.zoneOn z p then let (y, s) := zoneSignal z p speech a.2; (a.1 ++ [y], s) else (a.1 ++ [0], a.2)) (([] : List Int), s)
  (List.finRange 16).foldl (fun (a : List Word × State) k =>
    let sum := ((List.finRange 8).map fun z =>
      (((a.2.memFor z p).toList.filter fun m => memValid m && decide (memPort m = p) && decide (memSlot m = k)).map fun m =>
        atten (memAtten m) (zs[z.1]?.getD 0)).sum).sum
    let (y, s) := gateStep (.chan p k) (sat32 sum) a.2
    (a.1 ++ [BitVec.ofInt 32 y], s)) (([] : List Word), s)

/-! Between FIFO and cabin (R100, R101, R103, R107, R108; 01_cabin.md R15) -/

/-- Port frames that pass the ASRC in one cabin frame, and its fraction after it: one on the bypass, else by the ratio (R100), trimmed by
2^-12 at most (log entry 15). -/
def Sap.asrcFrames (x : Sap) : Nat × Nat :=
  if x.sync then (1, x.acc)
  else
    let t := ((x.acc : Int) + x.ratio.toNat + x.trim * 2 ^ 20).toNat
    (t / 2 ^ 32, t % 2 ^ 32)

/-- n frames taken from the FIFO; the last of them. -/
def popN (p : Fin 8) (width : Nat) : Nat → List Word → State → List Word × State
  | 0, f, s => (f, s)
  | n + 1, _, s => let (f, s) := pop p width s; popN p width n f s

/-- The words that an ASRC delivers: while it works free, in the channels of a mask (04_audio_ports.md R86); during the ramp of R101 times
the falling gain. -/
def asrcWords (p : Fin 8) (n : Nat) (live : BitVec 16) (s : State) : List Word × State :=
  let x := s.sap[p]
  let (ws, s) := freeWords n s
  (ws.mapIdx fun k w => if !bit live k then 0 else if x.locked then w else BitVec.ofInt 32 (rampGain false (32 - x.unramp) w.toInt), s)

/-- The FIFO side of an ASRC that has not locked: it takes the frames of an input beyond 2 blocks and gives an output zeros up to 2 blocks,
without a slip (log entry 15). -/
def idleAsrc (p : Fin 8) (s : State) : State :=
  setSap p (fun x =>
    if x.out then { x with fifo := x.fifo ++ List.replicate (2 * x.b - x.fifo.length) ((0 : Word), List.replicate 16 0) }
    else release x.flight.length { x with fifo := x.fifo.drop (x.fifo.length - 2 * x.b) }) s

/-- The ASRC delivers: it has locked, or still ramps (R100, R101). -/
def Sap.asrcWorks (x : Sap) : Bool := x.locked || decide (0 < x.unramp)

/-- An input's part of the cabin frame: what reaches the cabin at the cabin rate (01_cabin.md R15). In STANDBY nothing does (24_power.md
R418). -/
def cabinIn (p : Fin 8) (s : State) : State :=
  let x := s.sap[p]
  let w := x.width
  let (n, acc) := x.asrcFrames
  let give := fun (f : List Word) (s : State) => setSap p (fun y => { y with cabin := f }) s
  if !s.hubOn then give [] s
  else if 0 < x.insertLeft then
    give (fillFrame x w) (setSap p (fun y => { y with insertLeft := y.insertLeft - 1 }) (if x.state = .running then idleAsrc p s else s))
  else if x.sync || x.state = .faulted then
    let (f, s) := popN p w n x.cabin s
    give f (setSap p (fun y => { y with acc := acc }) s)
  else if x.asrcWorks then
    let (_, s) := popN p w n [] s
    let (f, s) := asrcWords p w (BitVec.allOnes 16) s
    give f (setSap p (fun y => { y with acc := acc, unramp := y.unramp - 1 }) s)
  else give (List.replicate w 0) (idleAsrc p s)

/-- The frames of an output's ASRC move on by one (R103): what the oldest carried, and the channels that are not silent through the whole
of the 44. -/
def lineStep (p : Fin 8) (m : Word) (ws : List Word) (s : State) : Word × BitVec 16 × State :=
  let nz := (List.finRange 16).foldl (fun (a : BitVec 16) k => setBit a k.1 (decide (ws[k.1]?.getD 0 ≠ 0))) 0
  let l := (s.sap[p]).line ++ [(m, nz)]
  let live := l.foldl (fun (a : BitVec 16) e => a ||| e.2) 0
  if 43 < l.length then ((l.head?.map (·.1)).getD 0, live, setSap p (fun y => { y with line := l.drop 1 }) s)
  else (0, live, setSap p (fun y => { y with line := l }) s)

/-- n frames given to an output's FIFO: the first carries the mask of a latency report, each its own words. -/
def pushN (p : Fin 8) (m : Word) (words : State → List Word × State) : Nat → State → State
  | 0, s => s
  | n + 1, s => let (ws, s) := words s; pushN p 0 words n (push p (m, ws) s)

/-- A mask not yet sent goes with the oldest frame inside the ASRC. -/
def keepMask (m : Word) : List (Word × BitVec 16) → List (Word × BitVec 16)
  | [] => []
  | e :: l => (e.1 ||| m, e.2) :: l

/-- An output's part of the cabin frame: the hub writes its words through bypass or ASRC into the FIFO. -/
def cabinOut (p : Fin 8) (m : Word) (ws : List Word) (s : State) : State :=
  let x := s.sap[p]
  let (n, acc) := x.asrcFrames
  let (late, live, s) := lineStep p m ws s
  let zeros := fun (s : State) => (List.replicate 16 (0 : Word), s)
  if x.sync then push p (m, ws) s
  else if 0 < x.insertLeft then push p (0, fillFrame x 16) (setSap p (fun y => { y with insertLeft := y.insertLeft - 1 }) s)
  else if x.state = .faulted then pushN p 0 zeros n (setSap p (fun y => { y with acc := acc }) s)
  else if x.asrcWorks then
    let s := pushN p late (asrcWords p 16 live) n s
    setSap p (fun y => { y with acc := acc, unramp := y.unramp - 1, line := if n = 0 then keepMask late y.line else y.line }) s
  else idleAsrc p s

/-- The streams whose awaited first sample enters the port in this frame (01_cabin.md R23). -/
def State.firstSamples (s : State) (p : Fin 8) (speech : Vector Word 16) : Word :=
  if !s.playing p then 0
  else (List.finRange 16).foldl (fun (m : Word) i =>
    let t := s.stream[i]
    setBit m i.1 (t.latAt.isSome && decide (speech[i] ≠ 0) && (List.finRange 8).any fun z => bit (s.zonesFor i p) z.1 && s.zoneOn z p)) 0

/-- A port's part of the cabin frame: an output's words are written, an input's frame is read (R107, R108). -/
def cabinPort (speech : Vector Word 16) (late : BitVec 16) (p : Fin 8) (s : State) : State :=
  let x := s.sap[p]
  if x.state = .stopped then s
  else if x.out then
    let m := s.firstSamples p speech &&& late.setWidth 32
    let (ws, s) := portFrame p speech s
    cabinOut p m ws s
  else cabinIn p s

/-- The streams whose first sample no FIFO has taken yet. -/
def State.latDue (s : State) : BitVec 16 :=
  (List.finRange 16).foldl (fun (m : BitVec 16) i => setBit m i.1 ((s.stream[i]).latAt.isSome && !(s.stream[i]).latIn)) 0

/-- A first sample has entered the FIFOs of its ports: it is not looked for again. -/
def markLate (speech : Vector Word 16) (s : State) : State :=
  (List.finRange 16).foldl (fun s i =>
    if (s.stream[i]).latAt.isSome && (List.finRange 8).any fun p => (s.sap[p]).out && bit (s.firstSamples p speech) i.1 then
      setStream i (fun t => { t with latIn := true }) s
    else s) s

/-- The anti-noise gates take one cabin frame of their signals. -/
def antiStep (s : State) : State :=
  let v := (s.antiNow.map (·.2.2)).getD (Vector.replicate 8 0)
  (List.finRange 8).foldl (fun s i =>
    let b := s.fe.antis[i]
    if chanValid b then (gateStep (.anti (chanPort b) (chanSlot b)) v[i].toInt s).2 else s) s

/-- The newest anti-noise sample not ready: sent as zero and counted (R143). -/
def antiMiss (s : State) : State :=
  if s.rncWorks then { s with fe := { s.fe with
    miss := satAdd s.fe.miss 1
    antiQ := s.fe.antiQ.dropLast ++ ((s.fe.antiQ.getLast?.map fun e => (e.1, e.2.1, Vector.replicate 8 (0 : Word))).toList) } }
  else s

/-- A row of the RNC matrix rewritten (07_front_end.md R140). -/
def rewriteRow (r : RowRewrite) (s : State) : State :=
  if s.fe.rncOn && !s.fe.frozen then { s with fe := { s.fe with matrix := upd s.fe.matrix r.row r.coeffs } } else s

/-- A row of the spatial matrix rewritten in the same way. -/
def rewriteSpatial (r : RowRewrite) (s : State) : State :=
  if s.fe.sepPath ≠ 0 && !s.fe.frozen then { s with fe := { s.fe with spatial := upd s.fe.spatial r.row r.coeffs } } else s

/-- The tap waits for whole input vectors from a cabin frame boundary on (07_front_end.md R142). -/
def tapBegin (s : State) : State := { s with fe := { s.fe with tapGot := some (s.fe.tapGot.getD 0) } }

/-- CABIN_FRAME (R86): the hub computes every output channel; separation takes the frame; a row replacement (06_photonic.md R133), a
lower number of filter states (07_front_end.md R141), row rewrites and a staged RNC configuration take effect at the frame boundary. -/
def execCabinFrame (speech : Vector Word 16) (rows : RowRewrites) (missed : Bool) (s : State) : Out :=
  act s s.clk.pllLock (
    let speech := mapV speech fun i w => if (s.stream[i]).mayUtter then w else 0
    let s := if missed then antiMiss s else s
    let s := antiStep (markLate speech ((List.finRange 8).foldl (fun s' p => cabinPort speech s.latDue p s') s))
    let s := hopCollect (spatialStep (tapBegin s))
    let s := lowerStates (settleSect 1 (settleSect 0 s))
    let s := match rows.rnc with | some r => rewriteRow r s | none => s
    let s := match rows.spatial with | some r => rewriteSpatial r s | none => s
    let s := applyRnc s
    reportZones (finishWaits (fun w => decide (w.on = .cabin)) (fun _ => (0x00, res1 (s.fe.nState.setWidth 32))) s))

/-! ### Clock loss and ASRC lock (R98, R100, R101) -/

/-- CLK_LOSS (R98): a target without an FS active edge for 1 ms after its last is FAULTED, logged; synchronous status and ASRC lock end, and
what is staged takes effect at once (R90). A block whose B frames have come is complete; the frames of a partial one are kept (log entry
16). -/
def execClkLoss (p : Fin 8) (s : State) : Out :=
  let x := s.sap[p]
  act s (decide (x.state = .running) && !x.controller && x.lastEdge.any fun t => decide (t + ms ≤ s.clk.tempo)) (
    let s := if x.b ≤ x.blk.length then endBlock p s else s
    let s := micCheck p (rncSuspend p s)
    let s := sapCause p 2 (setSap p (fun x => { x with
      state := .faulted, sync := false, syncDue := none, locked := false, quals := [], qualifying := false, unramp := 0, acc := 0, trim := 0
      lastCls := none }) s)
    let s := if x.sync then switchSlips p false (sapCause p 7 s) else s
    let s := commitPort p false (logPort p (micCheck p s))
    if x.stopping then stopPort p s else reportZones s)

/-- ASRC_LOCK (R100): a target at an adopted class, or a controller that does not run at 48 kHz. -/
def execAsrcLock (p : Fin 8) (s : State) : Out :=
  let x := s.sap[p]
  act s (decide (x.state = .running) && !x.sync && !x.locked && (x.controller || decide (x.cls ≠ 0)))
    (sapCause p 4 (setSap p (fun x => { x with locked := true, unramp := 0 }) s))

/-- ASRC_UNLOCK (R101): the phase error passed 4 frames; the frames lost and gained across it are counted (R109). -/
def execAsrcUnlock (p : Fin 8) (slips : AsrcSlips) (s : State) : Out :=
  let x := s.sap[p]
  act s (decide (x.state = .running) && x.locked && !x.controller)
    (bookSlips p (slips.lost + slips.gained) (slipIns p slips.gained (slipDrop p slips.lost
      (sapCause p 5 (setSap p (fun x => { x with locked := false, unramp := 32, trim := 0 }) s)))))

/-! ### Gates in time (R112, R113) -/

/-- The port that carries a gate's change. -/
def gatePort : GateId → Fin 8
  | .contrib _ _ p => p
  | .zone _ p => p
  | .chan p _ => p
  | .anti p _ => p

/-- TACET_TIMEOUT (R113): the wait ends in a ramp of 32 frames and the port counts it, unless the frame at which it expires, whose sample of
the gated signal the row brings, shows a crossing. -/
def execTacetTimeout (e : GateFrame) (s : State) : Out :=
  let g := e.gate
  let x := s.gate g
  let st := if x.st = .waitClose then GateState.rampDown else .rampUp
  act s ((decide (x.st = .waitClose) || decide (x.st = .waitOpen)) && decide ((s.sap[gatePort g]).tacetFrames ≤ x.n) && !crossing x.prev e.sample)
    (setSap (gatePort g) (fun y => { y with tacetTo := satAdd y.tacetTo 1 }) (setGate g { x with st := st, n := 0, next := none } s))

/-- RAMP_END (R112): CLOSED or OPEN; a change that met the ramp enters from there. -/
def execRampEnd (g : GateId) (s : State) : Out :=
  let x := s.gate g
  let st := if x.st = .rampDown then GateState.closed else .opened
  let y := { x with st := st, n := 0, next := none }
  act s ((decide (x.st = .rampDown) || decide (x.st = .rampUp)) && decide (32 ≤ x.n))
    (reportZones (setGate g (match x.next with | some b => y.commit b | none => y) s))

/-! ### Registers (Tables 4.6..4.9, 5.5, 5.6) -/

/-- Code of a port state. -/
def PortState.code : PortState → Nat | .stopped => 0 | .running => 1 | .faulted => 2

/-- FIFO fill in whole blocks (Table 5.6): its starting fill of 2 where the direction is not in use. -/
def fillOf (x : Sap) (out : Bool) : Nat :=
  if x.out = out && x.state ≠ .stopped then min 7 (x.fifo.length / max 1 x.b) else 2

/-- SAPn_SYNC_STAT. -/
def syncStat (x : Sap) : Word :=
  wd (x.cls.toNat + b2n x.sync * 2 ^ 4 + b2n x.locked * 2 ^ 5 + b2n x.qualifying * 2 ^ 6 + b2n x.rncSusp * 2 ^ 7
      + fillOf x false * 2 ^ 8 + fillOf x true * 2 ^ 12)

/-- A read of a port register at its offset in the port's page. -/
def readSapReg (x : Sap) (k : Nat) : Option Word :=
  match k with
  | 0x000 => some (x.cfg.setWidth 32)
  | 0x004 => some (x.rate.setWidth 32)
  | 0x008 => some (x.div.setWidth 32)
  | 0x00C => some (wd (x.mask.toNat + (x.maskSt.getD 0).toNat * 2 ^ 16))
  | 0x010 => some (x.block.setWidth 32)
  | 0x014 => some (wd (x.state.code + b2n x.bankOff * 4 + x.epoch.toNat * 2 ^ 16))
  | 0x018 => some x.seq
  | 0x020 => some (lo x.lastTs)
  | 0x024 => some (hi x.lastTs)
  | 0x028 => some (x.frameErr.setWidth 32)
  | 0x100 => some x.syncCfg
  | 0x104 => some (syncStat x)
  | 0x108 => some (x.rateMeas.setWidth 32)
  | 0x10C => some (x.rateRef.setWidth 32)
  | 0x110 => some (x.ratio.setWidth 32)
  | 0x114 => some ((x.ratio >>> 32).setWidth 32)
  | 0x118 => some (x.irq.setWidth 32)
  | 0x11C => some (x.irqEn.setWidth 32)
  | 0x120 => some x.slipIns
  | 0x124 => some x.slipDrop
  | 0x128 => some (x.tacetTo.setWidth 32)
  | 0x12C => some x.phase
  | _ => none

/-- The streams routed to a zone (ZONE_z_STREAMS). -/
def zoneStreams (z : Fin 8) (s : State) : Nat :=
  ((ixs s.stream).map fun (i, t) => if t.state ≠ .closed && bit t.zones z.1 then 2 ^ i.1 else 0).sum

/-- A read of a SAP or ZONE register. -/
def readSap (o : Nat) (s : State) : Option Word :=
  match slot o 0x58000 0x100 8, slot o 0x50000 0x1000 8 with
  | some (z, k), _ =>
    if k = 0x40 then some (wd (b2n (s.zone[z]).hmute + 2 * b2n (s.spvHeld z) + 4 * b2n (bit s.holds.pins z.1)))
    else if k = 0x44 then some (wd (s.zoneCode z + s.delivering z * 2 ^ 16))
    else if k = 0x48 then some (wd (zoneStreams z s))
    else match slot k 0 4 16 with
      | some (m, 0) => some (((s.zone[z]).mem[m]).setWidth 32)
      | _ => none
  | none, some (p, k) => readSapReg s.sap[p] k
  | none, none => none

/-- A full write of a SAP register: only the interrupt registers take one. -/
def writeSap (o : Nat) (v : Word) (s : State) : State :=
  match slot o 0x50000 0x1000 8 with
  | some (p, 0x118) => setSap p (fun x => { x with irq := x.irq &&& ~~~(v.setWidth 9) }) s
  | some (p, 0x11C) => setSap p (fun x => { x with irqEn := v.setWidth 9 }) s
  | _ => s

/-- The RC clears of a full read of a SAP register. -/
def readSapEffect (o : Nat) (s : State) : State :=
  match slot o 0x50000 0x1000 8 with
  | some (p, 0x028) => setSap p (fun x => { x with frameErr := 0 }) s
  | some (p, 0x120) => setSap p (fun x => { x with slipIns := 0 }) s
  | some (p, 0x124) => setSap p (fun x => { x with slipDrop := 0 }) s
  | some (p, 0x128) => setSap p (fun x => { x with tacetTo := 0 }) s
  | _ => s

end Sys2Proof.Machine
end

