-- ==== Sys2Proof/Machine/Compress.lean ====
section
/-! DEFINITION. Lossless tile compression as functions on the 4096 bytes of a tile: XE coding and expansion, the census code,
the LR form (13_compression.md R250..R262), and the engine-ready layouts (12_tiers.md Table 12.1). -/

namespace Sys2Proof.Machine

/-! ### Layouts (Table 12.1) -/

/-- Byte of element (r, c) of 8 bits. -/
def at8 (r c : Nat) : Nat := 64 * r + 8 * (c / 8 ^^^ r % 8) + c % 8
/-- First byte of element (r, c) of 16 bits. -/
def at16 (r c : Nat) : Nat := 64 * r + 8 * (c / 4 ^^^ r % 8) + 2 * (c % 4)
/-- Byte of INT4 element (r, c); even c is the low nibble. -/
def at4 (r c : Nat) : Nat := 64 * r + 8 * (c / 16 ^^^ r % 8) + c % 16 / 2

/-- A signed number of w bits. -/
def signed (w x : Nat) : Int := let y := x % 2 ^ w; if 2 ^ (w - 1) ≤ y then (y : Int) - 2 ^ w else y

/-- The low w bits of a number in two's complement. -/
def unsign (w : Nat) (x : Int) : Nat := (x % 2 ^ w).toNat

/-! ### Symbols (R254, R255) -/

/-- An XE element type: bits of an element, bits of the mantissa, E. -/
structure XeType where
  bits : Nat
  mant : Nat
  e : Nat

/-- Table 13.1. -/
def xeType (etype : BitVec 2) : XeType :=
  match etype.toNat with
  | 0 => { bits := 8, mant := 3, e := 16 }
  | 1 => { bits := 8, mant := 2, e := 32 }
  | 2 => { bits := 16, mant := 7, e := 256 }
  | _ => { bits := 16, mant := 10, e := 32 }

/-- Alphabet size. -/
def XeType.alphabet (t : XeType) : Nat := t.e + 28

/-- Elements in ascending byte address, n of them. -/
def elements (t : XeType) : Nat → List Byte → List Nat
  | 0, _ => []
  | n + 1, b => natOf (b.take (t.bits / 8)) :: elements t n (b.drop (t.bits / 8))

/-- A symbol with the bits that follow its code: their number and value. -/
abbrev Sym := Nat × Nat × Nat

/-- The symbols of n zero elements (R255): greedy runs of at most 64. -/
def zeroRun (t : XeType) : Nat → Nat → List Sym
  | 0, _ => []
  | fuel + 1, n =>
    if n = 0 then []
    else if n = 1 then [(t.e, 0, 0)]
    else
      let l := min n 64
      let s : Sym := if l ≤ 16 then (t.e + 1 + (l - 2), 0, 0) else (t.e + 1 + 15 + (l - 17) / 4, 2, (l - 17) % 4)
      s :: zeroRun t fuel (n - l)

/-- The symbols of a segment's elements, with a count of zeros seen before them. -/
def symbols (t : XeType) : Nat → List Nat → List Sym
  | z, [] => zeroRun t (z + 1) z
  | z, x :: xs =>
    if x = 0 then symbols t (z + 1) xs
    else
      let sign := x / 2 ^ (t.bits - 1)
      let m := x % 2 ^ t.mant
      zeroRun t (z + 1) z ++ (x / 2 ^ t.mant % t.e, t.mant + 1, sign * 2 ^ t.mant + m) :: symbols t 0 xs

/-- Bytes of the segment s of a tile. -/
def segment (b : List Byte) (s : Nat) : List Byte := (b.drop (512 * s)).take 512

/-- The symbols of a segment. -/
def segSyms (t : XeType) (b : List Byte) : List Sym := symbols t 0 (elements t (4096 / t.bits) b)

/-! ### Codes (R256..R258) -/

/-- A weighted item of the package-merge: weight and the symbols in it. -/
abbrev Item := Nat × List Nat

/-- Two lists of items in weight order merged; on equal weights the first list's item leads. -/
def mergeItems (xs ys : List Item) : List Item := xs.merge ys (fun a b => decide (a.1 ≤ b.1))

/-- An item inserted behind those of no larger weight. -/
def insertItem (x : Item) : List Item → List Item
  | [] => [x]
  | y :: ys => if y.1 ≤ x.1 then y :: insertItem x ys else x :: y :: ys

/-- Neighbours packed in pairs. -/
def pairs : List Item → List Item
  | a :: b :: r => (a.1 + b.1, a.2 ++ b.2) :: pairs r
  | _ => []

/-- The lengths of the optimal prefix code with at most 12 bits for counts of at least 1 (R256), ties by symbol number
(log entry 23). -/
def codeLengths (counts : List Nat) : List Nat :=
  let leaves := (counts.zipIdx.map fun (w, i) => ((w, [i]) : Item)).foldl (fun l x => insertItem x l) []
  let top := (List.range 11).foldl (fun l _ => mergeItems leaves (pairs l)) leaves
  let used := (top.take (2 * counts.length - 2)).foldl
    (fun (a : Array Nat) x => x.2.foldl (fun a i => a.modify i (· + 1)) a) (Array.replicate counts.length 0)
  used.toList

/-- The canonical codes (R258): length and code of each symbol. -/
def canonical (lens : List Nat) : List (Nat × Nat × Nat) :=
  let order := (List.range 13).flatMap fun l => (lens.zipIdx.filter fun x => x.1 = l && l ≠ 0)
  (order.foldl (fun (a : Nat × Nat × List (Nat × Nat × Nat)) x =>
    let code := if a.2.2.isEmpty then 0 else (a.1 + 1) * 2 ^ (x.1 - a.2.1)
    (code, x.1, (x.2, x.1, code) :: a.2.2)) (0, 0, [])).2.2.reverse

/-- The symbols that a list of tiles would produce, counted, each count raised by 1 (R256). -/
def censusCounts (t : XeType) (tiles : List (List Byte)) : List Nat :=
  (tiles.foldl (fun a b => (List.range 8).foldl (fun a s =>
    (segSyms t (segment b s)).foldl (fun (a : Array Nat) y => a.modify y.1 (· + 1)) a) a)
    (Array.replicate t.alphabet 1)).toList

/-- The n bits of a number, high first. -/
def bitsOf (n x : Nat) : List Bool := ((List.range n).map fun k => x.testBit k).reverse

/-- Bytes from bits, packed from bit 7 downward, padded with zero bits. -/
def packBits : Nat → List Bool → List Byte
  | 0, _ => []
  | n + 1, b =>
    if b.isEmpty then []
    else BitVec.ofNat 8 ((b.take 8 ++ List.replicate (8 - (b.take 8).length) false).foldl (fun a x => 2 * a + b2n x) 0)
      :: packBits n (b.drop 8)

/-- A coded segment. -/
def codeSegment (t : XeType) (codes : Array (Nat × Nat)) (b : List Byte) : List Byte :=
  let bits := (segSyms t b).flatMap fun y =>
    let c := codes[y.1]?.getD (0, 0)
    bitsOf c.1 c.2 ++ bitsOf y.2.1 y.2.2
  packBits (bits.length / 8 + 1) bits

/-- Bytes padded with zeros to whole granules of 64 B. -/
def granules (b : List Byte) : List Byte := b ++ List.replicate ((64 - b.length % 64) % 64) 0

/-- A tile coded as XE (Table 13.2); none when it would not be shorter than 4096 B (R261). -/
def xeCode (etype : BitVec 2) (table : Nat) (lens : List Nat) (b : List Byte) : Option (List Byte) :=
  let t := xeType etype
  let codes := (canonical lens).foldl (fun (a : Array (Nat × Nat)) x => a.set! x.1 (x.2.1, x.2.2)) (Array.replicate t.alphabet (0, 0))
  let segs := (List.range 8).map fun s => codeSegment t codes (segment b s)
  let offs := segs.foldl (fun (a : List Nat × Nat) s => (a.1 ++ [a.2], a.2 + s.length)) (([] : List Nat), 16)
  let out := granules (bytesN 2 table ++ (offs.1.drop 1).flatMap (bytesN 2) ++ segs.flatten)
  if out.length < 4096 then some out else none

/-! ### Expansion (R255, R262) -/

/-- A symbol read from bits: bit by bit until a code matches; missing bits read as 0. -/
def readSym (codes : List (Nat × Nat × Nat)) : Nat → Nat → Nat → List Bool → Nat × List Bool
  | 0, _, _, b => (0, b)
  | fuel + 1, len, code, b =>
    let code := 2 * code + b2n (b.headD false)
    match codes.find? fun x => x.2.1 = len + 1 && x.2.2 = code with
    | some x => (x.1, b.drop 1)
    | none => readSym codes fuel (len + 1) code (b.drop 1)

/-- n bits read as a number, missing bits 0. -/
def readBits (n : Nat) (b : List Bool) : Nat := (List.range n).foldl (fun a k => 2 * a + b2n (b[k]?.getD false)) 0

/-- The elements of a coded segment, want of them at most; each symbol gives at least one. -/
def expandSegment (t : XeType) (codes : List (Nat × Nat × Nat)) : Nat → Nat → List Bool → List Nat
  | 0, _, _ => []
  | fuel + 1, want, b =>
    if want = 0 then []
    else
      let (y, b) := readSym codes 12 0 0 b
      if y < t.e then
        let r := readBits (t.mant + 1) b
        ((r / 2 ^ t.mant) * 2 ^ (t.bits - 1) + y * 2 ^ t.mant + r % 2 ^ t.mant)
          :: expandSegment t codes fuel (want - 1) (b.drop (t.mant + 1))
      else if y = t.e then 0 :: expandSegment t codes fuel (want - 1) b
      else
        let k := y - t.e - 1
        let n := if k < 15 then 2 + k else 17 + 4 * (k - 15) + readBits 2 b
        List.replicate (min n want) 0 ++ expandSegment t codes fuel (want - n) (if k < 15 then b else b.drop 2)

/-- The bits of bytes, bit 7 first. -/
def unpackBits (b : List Byte) : List Bool := b.flatMap fun x => bitsOf 8 x.toNat

/-- A coded XE tile expanded to 4096 bytes, whatever it holds (R262). -/
def xeExpand (etype : BitVec 2) (tables : List (List Nat)) (b : List Byte) : List Byte :=
  let t := xeType etype
  let ix := natOf (b.take 2)
  let codes := canonical ((tables[ix]? <|> tables[0]?).getD [])
  (List.range 8).flatMap fun s =>
    let off := if s = 0 then 16 else min b.length (natOf ((b.drop (2 * s)).take 2) % 4096)
    let n := 4096 / t.bits
    let els := expandSegment t codes n n (unpackBits (b.drop off))
    (els ++ List.replicate (n - els.length) 0).flatMap (bytesN (t.bits / 8))

/-! ### LR (R259, R260) -/

/-- Columns of the logical matrix. -/
def lrCols (int4 : Bool) : Nat := if int4 then 128 else 64

/-- Element (i, j) of a tile read as an LR matrix. -/
def lrGet (int4 : Bool) (b : Array Byte) (i j : Nat) : Int :=
  if int4 then
    let x := (b[at4 i j]?.getD 0).toNat
    signed 4 (if j % 2 = 0 then x % 16 else x / 16)
  else signed 8 (b[at8 i j]?.getD 0).toNat

/-- The bytes of an LR matrix in the engine-ready layout. -/
def lrPut (int4 : Bool) (w : Nat → Nat → Int) : List Byte :=
  ((List.range 64).foldl (fun (a : Array Byte) i => (List.range (lrCols int4)).foldl (fun a j =>
    if int4 then a.modify (at4 i j) (· ||| BitVec.ofNat 8 (unsign 4 (w i j) * (if j % 2 = 0 then 1 else 16)))
    else a.set! (at8 i j) (BitVec.ofNat 8 (unsign 8 (w i j)))) a) (Array.replicate 4096 0)).toList

/-- Q[i][j] of R259. -/
def lrQ (r sh c : Nat) (u v : Array Int) (i j : Nat) : Int :=
  let p := (List.range r).foldl (fun a k => a + u[i * r + k]?.getD 0 * v[k * c + j]?.getD 0) (0 : Int)
  let p := signed 32 (unsign 32 p)
  if sh = 0 then p else (p + 2 ^ (sh - 1)) / 2 ^ sh

/-- A tile coded as LR from a low-rank form (Table 13.4), whatever its length; none when a condition of R260 fails. -/
def lrCode (int4 : Bool) (form : Nat × Nat × List Int × List Int) (b : List Byte) : Option (List Byte) :=
  let (r1, sh, ul, vl) := form
  let r := r1 + 1
  let c := lrCols int4
  let (a, u, v) := (b.toArray, ul.toArray, vl.toArray)
  let res := (List.range (64 * c)).filterMap fun k =>
    let d := lrGet int4 a (k / c) (k % c) - lrQ r sh c u v (k / c) (k % c)
    if d = 0 then none else some (k, d)
  let out := granules ([BitVec.ofNat 8 r1, BitVec.ofNat 8 sh, BitVec.ofNat 8 (b2n int4), 0] ++ bytesN 2 res.length
    ++ List.replicate 10 0 ++ (ul ++ vl).map (fun x => BitVec.ofNat 8 (unsign 8 x)) ++ res.flatMap (fun x => bytesN 2 x.1)
    ++ res.map (fun x => BitVec.ofNat 8 (unsign 8 x.2)))
  if r1 < 64 && sh < 16 && ul.length = 64 * r && vl.length = r * c && (ul ++ vl).all (fun x => decide (-128 ≤ x ∧ x ≤ 127))
      && decide (res.length ≤ 8 * c) && res.all (fun x => decide (-128 ≤ x.2 ∧ x.2 ≤ 127)) then some out
  else none

/-- A coded LR tile expanded to 4096 bytes, whatever it holds (R259, R262). -/
def lrExpand (b : List Byte) : List Byte :=
  let a := b.toArray
  let g := fun (k : Nat) => (a[k]?.getD 0).toNat
  let r := g 0 % 64 + 1
  let sh := g 1 % 16
  let int4 := decide (g 2 % 2 = 1)
  let c := lrCols int4
  let n := g 4 + 256 * g 5
  let u := (Array.range (64 * r)).map fun k => signed 8 (g (16 + k))
  let v := (Array.range (r * c)).map fun k => signed 8 (g (16 + 64 * r + k))
  let p0 := 16 + 64 * r + r * c
  let res := (List.range n).foldl (fun (s : Array Int) k =>
    let pos := g (p0 + 2 * k) + 256 * g (p0 + 2 * k + 1)
    if pos < 64 * c then s.set! pos (signed 8 (g (p0 + 2 * n + k))) else s) (Array.replicate (64 * c) 0)
  lrPut int4 fun i j => lrQ r sh c u v i j + res[i * c + j]?.getD 0

/-! ### One door -/

/-- The 4096 bytes of a tile stored in a format (Table 12.2 FMT). -/
def expandTile (fmt : BitVec 2) (etype : BitVec 2) (tables : List (List Nat)) (b : List Byte) : List Byte :=
  match fmt.toNat with
  | 0 => (b ++ List.replicate (4096 - b.length) 0).take 4096
  | 3 => lrExpand b
  | _ => xeExpand etype tables b

end Sys2Proof.Machine
end

