-- ==== Sys2Proof/Machine/CoreMap.lean ====
section
/-! DEFINITION. Nodes, the core map, spares and the anchor row (08_grid_cores.md R154..R162), and the reach of XY routes
(10_fabric_routing.md R199). -/

namespace Sys2Proof.Machine

/-! ### Nodes and routes -/

/-- Physical x of a node (node = 18 y + x). -/
def nodeX (j : Nat) : Nat := j % 18
/-- Physical y. -/
def nodeY (j : Nat) : Nat := j / 18
/-- The node at (x, y). -/
def nodeAt (x y : Nat) : Nat := 18 * y + x

/-- Neighbour in a direction (R193): 0 N, 1 E, 2 S, 3 W. -/
def neighbour (j : Nat) (d : Nat) : Nat :=
  match d with
  | 0 => nodeAt (nodeX j) ((nodeY j + 15) % 16)
  | 1 => nodeAt ((nodeX j + 1) % 18) (nodeY j)
  | 2 => nodeAt (nodeX j) ((nodeY j + 1) % 16)
  | _ => nodeAt ((nodeX j + 17) % 18) (nodeY j)

/-- The link crossed when leaving a node in a direction (Table 10.7): 2j the E link of j, 2j + 1 its S link. -/
def linkOf (j : Nat) (d : Nat) : Nat :=
  match d with
  | 0 => 2 * neighbour j 0 + 1
  | 1 => 2 * j
  | 2 => 2 * j + 1
  | _ => 2 * neighbour j 3

/-- The hop is a wrap link (R193). -/
def isWrap (j : Nat) (d : Nat) : Bool :=
  match d with
  | 0 => nodeY j == 0
  | 1 => nodeX j == 17
  | 2 => nodeY j == 15
  | _ => nodeX j == 0

/-- The XY step of R199: none ejects. -/
def xyDir (here dest : Nat) : Option Nat :=
  let dx := (nodeX dest + 18 - nodeX here) % 18
  let dy := (nodeY dest + 16 - nodeY here) % 16
  if dx ≠ 0 then some (if dx ≤ 9 then 1 else 3) else if dy ≠ 0 then some (if dy ≤ 8 then 2 else 0) else none

/-- The hops of an XY path: nodes left and directions. -/
def xyPath : Nat → Nat → Nat → List (Nat × Nat)
  | 0, _, _ => []
  | fuel + 1, here, dest =>
    match xyDir here dest with
    | none => []
    | some d => (here, d) :: xyPath fuel (neighbour here d) dest

/-- Hop count of an XY path. -/
def hops (a b : Nat) : Nat :=
  let dx := (nodeX b + 18 - nodeX a) % 18
  let dy := (nodeY b + 16 - nodeY a) % 16
  min dx (18 - dx) + min dy (16 - dy)

/-- The XY path meets no retired link or router. -/
def State.xyOk (s : State) (a b : Nat) : Bool :=
  (xyPath 18 a b).all fun (j, d) => !s.fab.deadLinks.contains (linkOf j d) && !s.fab.deadRouters.contains (neighbour j d)

/-- The routers of the services (Table 10.1), by initiator index 288..299 (11_fabric_service.md R228). -/
def serviceNode (i : Nat) : Nat :=
  match i with
  | 288 => nodeAt 8 15
  | 289 => nodeAt 8 0
  | 290 => nodeAt 9 0
  | 291 => nodeAt 0 8
  | _ => if i < 296 then nodeAt (2 + 4 * (i - 292)) 5 else nodeAt (2 + 4 * (i - 296)) 10

/-- The service number of an initiator index of 288 or more. -/
def serviceNum (i : Nat) : Nat := if i < 292 then 0x200 + (i - 288) else 0x208 + (i - 292)
/-- The initiator index of a service number. -/
def serviceIx (n : Nat) : Option Nat :=
  if 0x200 ≤ n ∧ n ≤ 0x203 then some (288 + (n - 0x200)) else if 0x208 ≤ n ∧ n ≤ 0x20F then some (292 + (n - 0x208)) else none

/-! ### The core map (R154..R157) -/

/-- The fused width of the grade (00_scope.md Table 0.1). -/
def State.fused (s : State) : Nat := match s.otp.grade.1 with | 0 => 256 | 1 => 192 | _ => 128

/-- A healthy core (R154). -/
def State.healthy (s : State) (j : Nat) : Bool := !s.isRetired (unit uCore j) && !s.fab.deadRouters.contains j

/-- The healthy cores of a row in ascending x. -/
def State.healthyRow (s : State) (y : Nat) : List Nat := ((List.range 18).map fun x => nodeAt x y).filter fun j => s.healthy j

/-- The rows in the order of R156. -/
def anchorOrder : List Nat := [7, 8, 6, 9, 5, 10, 4, 11, 3, 12, 2, 13, 1, 14, 0, 15]

/-- The anchor row that R156 chooses. -/
def State.anchorRow (s : State) : Option Nat := anchorOrder.find? fun y => decide (8 ≤ (s.healthyRow y).length)

/-- Torus distance of rows. -/
def rowDist (a b : Nat) : Nat := let d := (a + 16 - b) % 16; min d (16 - d)

/-- The nearest of the spares to a row (R157, R160): least distance, then lower y, then lowest x. -/
def nearestSpare (y : Nat) (spares : List Nat) : Option Nat :=
  spares.foldl (fun (m : Option Nat) j => match m with
    | none => some j
    | some k =>
      let a := (rowDist (nodeY j) y, nodeY j, nodeX j)
      let b := (rowDist (nodeY k) y, nodeY k, nodeX k)
      if a.1 < b.1 || (a.1 = b.1 && (a.2.1 < b.2.1 || (a.2.1 = b.2.1 && a.2.2 < b.2.2))) then some j else some k) none

/-- Spares borrowed by a row that lacks n cores: the cores taken, and the spares left. -/
def borrow (y : Nat) : Nat → List Nat → List Nat → List Nat × List Nat
  | 0, got, spares => (got, spares)
  | n + 1, got, spares =>
    match nearestSpare y spares with
    | none => (got, spares)
    | some j => borrow y n (got ++ [j]) (spares.filter fun k => k ≠ j)

/-- The mapped cores for a width and an anchor row (R157 steps 1, 2). -/
def State.mapped (s : State) (n ay : Nat) : List Nat :=
  let q := n / 16
  let rows := (List.range 16).map fun y => s.healthyRow y
  let own := rows.flatMap fun r => r.take q
  let spares := (rows.zipIdx.filter fun x => x.2 ≠ ay).flatMap fun x => x.1.drop q
  let order := ay :: (List.range 16).filter fun y => y ≠ ay
  (order.foldl (fun (a : List Nat × List Nat) y =>
    let lack := q - ((rows[y]?.getD []).length)
    let (got, left) := borrow y lack [] a.2
    (a.1 ++ got, left)) (own, spares)).1

/-- The roles of all nodes (R157 steps 3, 4). -/
def State.mapRoles (s : State) (n ay : Nat) : Vector Role 288 :=
  let m := s.mapped n ay
  let fe := ((List.range 18).map fun x => nodeAt x ay).filter (fun j => m.contains j) |>.take 8
  let rest := (List.range 288).filter fun j => m.contains j && !fe.contains j
  let num := fe.zipIdx.map (fun x => (x.1, n - 8 + x.2)) ++ rest.zipIdx.map (fun x => (x.1, x.2))
  Vector.ofFn fun j => match num.lookup j.1 with
    | some l => .mapped l
    | none => if s.healthy j.1 then .spare else .retired

/-- Number of healthy cores. -/
def State.healthyCount (s : State) : Nat := ((List.range 288).filter fun j => s.healthy j).length

/-- The width that R155 gives, at most a bound. -/
def State.fitWidth (s : State) (top : Nat) : Option Nat :=
  [256, 192, 128].find? fun n => decide (n ≤ top) && decide (n ≤ s.healthyCount) && s.anchorRow.isSome

/-- The code of a width (Table 16.3). -/
def widthCode (n : Nat) : BitVec 2 := if 256 ≤ n then 2 else if 192 ≤ n then 1 else 0

/-- A core that is out of the grid or in it again: its run-time state. -/
def freshCore : Core := {}

/-- The map built for a width (R157), the grid in service. -/
def buildMap (n ay : Nat) (s : State) : State :=
  { s with grid := { s.grid with
    width := n, anchorY := ay, narrowed := decide (n < s.fused), oos := false, role := s.mapRoles n ay, toReplace := [], anchorDue := none } }

/-- The grid is out of service (R162, R155): GEN_BOOT.GRID_OOS, FAULT_N by R409. -/
def gridOut (s : State) : State :=
  { s with grid := { s.grid with width := 0, narrowed := true, oos := true, toReplace := [], anchorDue := none
                                 role := Vector.ofFn fun j => if s.healthy j.1 then .spare else .retired }
           boot := { s.boot with gridOos := true } }

/-! ### Numbers -/

/-- The node that carries a logical number. -/
def State.nodeOf (s : State) (l : Nat) : Option (Fin 288) :=
  (List.finRange 288).find? fun j => decide (s.grid.role[j] = .mapped l)

/-- The logical number of a node. -/
def State.logicalOf (s : State) (j : Fin 288) : Option Nat := match s.grid.role[j] with | .mapped l => some l | _ => none

/-- The node carries one of FE0..FE7. -/
def State.isFe (s : State) (j : Fin 288) : Bool := match s.grid.role[j] with | .mapped l => decide (s.grid.width ≤ l + 8) | _ => false

/-- Healthy spares (GRID_SPARES). -/
def State.spares (s : State) : List Nat := ((List.finRange 288).filter fun j => decide (s.grid.role[j] = .spare)).map (·.1)

/-- A role set. -/
def setRole (j : Nat) (r : Role) (s : State) : State :=
  if h : j < 288 then { s with grid := { s.grid with role := upd s.grid.role ⟨j, h⟩ r } } else s

/-! ### Registers (Table 8.4, Table 16.3) -/

/-- GRID_STAT. -/
def gridStat (s : State) : Word :=
  wd (s.grid.width + (if bit s.boot.done 2 then s.fused else 0) * 2 ^ 9 + s.grid.anchorY * 2 ^ 18 + b2n s.grid.narrowed * 2 ^ 22
      + b2n s.grid.oos * 2 ^ 23)

/-- Code of a graph state. -/
def GraphState.code : GraphState → Nat | .empty => 0 | .loaded => 1 | .running => 2 | .faulted => 3

/-- GRID_MAP_i. -/
def gridMap (i : Nat) (s : State) : Word :=
  match s.nodeOf i with
  | none => 0
  | some j =>
    let g := s.grid.core[j].graph
    wd (nodeX j.1 + nodeY j.1 * 2 ^ 5 + 2 ^ 9 + b2n (s.isFe j) * 2 ^ 10 + ((g.map (·.1)).getD 0) * 2 ^ 11 + b2n g.isSome * 2 ^ 14)

/-- The numerics profile in force: that of the graphs that run, else of the graphs loaded (DEDUCED, log entry 24). -/
def State.numericsNow (s : State) : Nat :=
  match s.grid.graph.toList.find? (fun g => decide (g.state = .running)),
        s.grid.graph.toList.find? (fun g => decide (g.state ≠ .empty)) with
  | some g, _ => g.numerics.toNat
  | none, some g => g.numerics.toNat
  | none, none => 0

/-- A read of a GRID register. -/
def readGrid (o : Nat) (s : State) : Option Word :=
  match o with
  | 0xA0000 => some (gridStat s)
  | 0xA0004 => some (wd s.spares.length)
  | 0xA0010 => some (wd (b2n s.grid.unison + s.grid.uwidth.toNat * 2 + b2n s.grid.uPending.isSome * 8 + b2n s.grid.uChanged * 16
      + s.numericsNow * 2 ^ 8 + (if s.sterdo then s.boot.sterdo.toNat / 2 ^ 16 else 0) * 2 ^ 16))
  | 0xA0014 => some (s.grid.taint.setWidth 32)
  | _ =>
    match slot o 0xA0100 4 256, slot o 0xA0800 4 288, slot o 0xA0C80 4 8 with
    | some (i, 0), _, _ => some (gridMap i.1 s)
    | _, some (j, 0), _ => some (match s.grid.role[j] with
      | .mapped l => wd (l * 2 ^ 8)
      | .spare => 1
      | .retired => 2)
    | _, _, some (g, 0) =>
      let x := s.grid.graph[g]
      some (wd (x.state.code + x.cores.length * 4 + x.epoch.toNat * 2 ^ 16))
    | _, _, _ => none

end Sys2Proof.Machine
end

