-- ==== Sys2Proof/Machine/Tiers.lean ====
section
/-! DEFINITION. Objects, the tile map, home runs and frames, reads and writes of tiles, hauler moves
(12_tiers.md R230..R248, 13_compression.md R250..R257). -/

namespace Sys2Proof.Machine

/-! ### Objects and entries -/

/-- An entry put into the rising list; the ZERO entry is not listed. -/
def putEntry (t : Nat) (e : Entry) : List (Nat × Entry) → List (Nat × Entry)
  | [] => if e = {} then [] else [(t, e)]
  | x :: m =>
    if t < x.1 then (if e = {} then x :: m else (t, e) :: x :: m)
    else if x.1 = t then (if e = {} then m else (t, e) :: m)
    else x :: putEntry t e m

/-- An entry set. -/
def setEntry (t : Nat) (e : Entry) (s : State) : State := setTiers (fun x => { x with map := putEntry t e x.map }) s

/-- The 64 bits of an entry (Table 12.2). -/
def Entry.word (e : Entry) : BitVec 64 :=
  let tier := match e.tier with | .zero => 0 | .home => 1 | .dram => 2 | .homeCopy => 3
  BitVec.ofNat 64 (tier + b2n e.inflight * 2 ^ 2 + b2n e.dirty * 2 ^ 3 + b2n e.poison * 2 ^ 4 + e.fmt.toNat * 2 ^ 5 + e.len.toNat * 2 ^ 7
    + e.node % 512 * 2 ^ 16 + e.granule % 2 ^ 15 * 2 ^ 25 + e.dframe % 2 ^ 22 * 2 ^ 40)

/-- The tiles of an object. -/
def Obj.tileList (o : Obj) : List Nat := (List.range o.tiles).map (o.base + ·)

/-! ### Frames (R231, R245; the places of the regions are log entry 25) -/

/-- Frames of the map region. -/
def mapFrames : Nat := 65536
/-- Frames of the bivouac. -/
def bivFrames : Nat := 8192
/-- Frames of the DRAM. -/
def allFrames : Nat := 4194304

/-- TIER_DRAM_FREE. -/
def State.dramFree (s : State) : Nat :=
  allFrames - mapFrames - bivFrames - s.tiers.lostFrames.length - ((s.tiers.objs.filter fun o => o.cls ≠ 3).map (·.tiles)).sum

/-- The first frame from f on, in steps, that no entry holds and that is not lost. -/
def firstFree (used : List Nat) (step : Nat) : Nat → Nat → Option Nat
  | 0, _ => none
  | fuel + 1, f => if f < allFrames then (if used.contains f then firstFree used step fuel (f + step) else some f) else none

/-- A frame for a tile: of the stream's bivouac slot for a STATE object, else a pool frame of the owner's channel. -/
def State.pickFrame (s : State) (o : Obj) (t : Nat) : Option Nat :=
  let used := (s.tiers.map.filterMap fun x => if x.2.dframe = 0 then none else some x.2.dframe) ++ s.tiers.lostFrames
  let base := mapFrames + bivFrames
  let pool := match firstFree used 8 (used.length + 1) (base + t % 8) with
    | some f => some f
    | none => firstFree used 1 (used.length + 1) base
  match o.slot with
  | some i =>
    let f := mapFrames + 512 * i.1 + (t - o.base) % 512
    if s.tiers.lostFrames.contains f then pool else some f
  | none => pool

/-! ### Home runs (R153, R234, R239, R240) -/

/-- A row that is off, or is being emptied to be switched off (R246): it takes no run. -/
def State.rowLeaves (s : State) (y : Nat) : Bool :=
  (s.fab.belays.any fun b => b.off && (match b.dom with | .row r => decide (r.1 = y) | _ => false))
    || (s.pwr.quietRows && decide (s.pwr.target = some 2) && decide (s.pwr.mode = 3) && decide (y ≠ s.grid.anchorY))

/-- The banks of a node's tier pool. -/
def State.poolBanks (s : State) (j : Fin 288) : Nat :=
  let c := s.grid.core[j]
  if !bit s.boot.done 4 || s.isFe j || decide (s.grid.role[j] = .retired) || !s.healthy j.1 then 0
  else if s.rowLeaves (nodeY j.1) then 0
  else if c.graph.isSome then 16 - c.scratch else 16

/-- Granules of the pool. -/
def State.poolSize (s : State) (j : Fin 288) : Nat := 2048 * s.poolBanks j

/-- A run lies within the pool of its node (R153): not in a program's scratch, an FE core, a row that leaves power or a retired core. -/
def State.inPool (s : State) (node granule n : Nat) : Bool := if h : node < 288 then decide (granule + n ≤ s.poolSize ⟨node, h⟩) else false

/-- The runs of a node. -/
def State.runsOf (s : State) (j : Nat) : List Run := s.tiers.runs.filter fun r => decide (r.node = j)

/-- Free granules of the pool. -/
def State.poolFree (s : State) (j : Fin 288) : Nat := s.poolSize j - ((s.runsOf j.1).map (·.len)).sum

/-- TIER_HOME_FREE in units of 4 KiB. -/
def State.homeFree (s : State) : Nat := ((List.finRange 288).map fun j => s.poolFree j).sum / 64

/-- The lowest place for a run of n granules within one bank of the pool. -/
def State.fitRun (s : State) (j : Fin 288) (n : Nat) : Option Nat :=
  let rs := s.runsOf j.1
  let starts := (List.range (s.poolBanks j)).map (2048 * ·) ++ rs.map fun r => r.granule + r.len
  let ok := fun (g : Nat) => decide (g / 2048 < s.poolBanks j) && decide (g % 2048 + n ≤ 2048)
    && rs.all fun r => decide (g + n ≤ r.granule) || decide (r.granule + r.len ≤ g)
  (starts.filter ok).foldl (fun (m : Option Nat) g => match m with | none => some g | some x => some (min x g)) none

/-- The cores in the order in which R239 tries them for a tile: the affinity range from the tile's own core on, then the
others by hop count, ties to the lower logical number, spares last. -/
def State.homeOrder (s : State) (o : Obj) (t : Nat) : List (Fin 288) :=
  let hi := min o.aff.2 (s.grid.width - 9)
  let n := hi + 1 - o.aff.1
  let range := if n = 0 then [] else (List.range n).filterMap fun k => s.nodeOf (o.aff.1 + (t + k) % n)
  let here := (range.head?.map (·.1)).getD 0
  let key := fun (j : Fin 288) => hops here j.1 * 1024 + (match s.logicalOf j with | some l => l | none => 512 + j.1)
  let others := (List.finRange 288).filter fun j => !range.contains j && decide (0 < s.poolBanks j)
  range ++ others.foldl (fun (l : List (Fin 288)) j => l.takeWhile (fun k => decide (key k ≤ key j)) ++ j ::
    l.dropWhile (fun k => decide (key k ≤ key j))) []

/-- The place of a home run of n granules for a tile. -/
def State.placeRun (s : State) (o : Obj) (t n : Nat) : Option (Fin 288 × Nat) :=
  (s.homeOrder o t).findSome? fun j => (s.fitRun j n).map fun g => (j, g)

/-- The run is the serving copy of its tile (R237). -/
def State.serving (s : State) (r : Run) : Bool :=
  let e := s.entry r.tile
  e.atHome && decide (e.node = r.node) && decide (e.granule = r.granule)

/-- A tile's run released. -/
def freeRun (t : Nat) (s : State) : State := setTiers (fun x => { x with runs := x.runs.filter fun r => !decide (r.tile = t) }) s

/-- A run taken for a tile. -/
def takeRun (t : Nat) (j : Fin 288) (g n : Nat) (s : State) : State :=
  setTiers (fun x => { x with runs := x.runs ++ [{ node := j.1, granule := g, len := n, tile := t, closed := false }] }) s

/-! ### Stored bytes -/

/-- Bytes put into a node's home memory. -/
def putHome (j a : Nat) (b : List Byte) (s : State) : State :=
  if h : j < 288 then setCore ⟨j, h⟩ (fun c => { c with home := c.home.writeN a b }) s else s

/-- Bytes of a node's home memory. -/
def State.homeBytes (s : State) (j a n : Nat) : List Byte := if h : j < 288 then (s.grid.core[j]'h).home.readN a n else List.replicate n 0

/-- Bytes put into DRAM. -/
def putDram (a : Nat) (b : List Byte) (s : State) : State := setTiers (fun x => { x with dram := x.dram.writeN a b }) s

/-- The stored bytes of the serving copy. -/
def State.stored (s : State) (e : Entry) : List Byte :=
  let n := 64 * (e.len.toNat + 1)
  if e.atHome then s.homeBytes e.node (64 * e.granule) n else s.tiers.dram.readN (4096 * e.dframe) n

/-- The expanded 4096 bytes of a tile; ZERO gives zeros, POISON none. -/
def State.tileBytes (s : State) (t : Nat) : Option (List Byte) :=
  let e := s.entry t
  if e.poison then none
  else if e.tier = .zero then some (List.replicate 4096 0)
  else
    let o := s.objOf t
    some (expandTile e.fmt ((o.map (·.etype)).getD 0) ((o.map fun o => o.tables.map (·.lens)).getD []) (s.stored e))

/-- The tile is poisoned and counted (R247, R248). -/
def poison (t : Nat) (s : State) : State :=
  if (s.entry t).poison then s
  else setTiers (fun x => { x with poison := satAdd x.poison 1 }) (setEntry t { s.entry t with poison := true } s)

/-- A use of a tile: its order for R240. -/
def touch (t : Nat) (s : State) : State :=
  let e := s.entry t
  if e.tier = .zero then s
  else setEntry t { e with used := s.tiers.clock + 1 } (setTiers (fun x => { x with clock := x.clock + 1 }) s)

/-! ### Census and code tables (R250..R257, R261) -/

/-- The group of a tile within its object (R256). -/
def Obj.groupOf (o : Obj) (t : Nat) : Nat := if o.segment then (t - o.base) / 64 else 0

/-- The code table of a tile's group, built by the census when the group has none. -/
def tableFor (o : Obj) (t : Nat) (s : State) : (Nat × List Nat) × State :=
  let g := o.groupOf t
  match o.tables.findIdx? (fun x => decide (x.group = g)) with
  | some k => ((k, ((o.tables[k]?).map (·.lens)).getD []), s)
  | none =>
    let tiles := ((s.written o).filter fun x => decide (o.groupOf x.1 = g)).take 1024
    let lens := codeLengths (censusCounts (xeType o.etype) (tiles.filterMap fun x => s.tileBytes x.1))
    ((o.tables.length, lens),
      setTiers (fun x => { x with census := satAdd x.census 1 }) (setObj o.id (fun o => { o with tables := o.tables ++ [⟨g, tiles.length, lens⟩] }) s))

/-- A code table as the object's header stores it (R258, Table 13.3). -/
def CodeTable.bytes (c : CodeTable) (etype : BitVec 2) : List Byte :=
  let l := c.lens ++ List.replicate (288 - c.lens.length) 0
  [BitVec.ofNat 8 etype.toNat, 0] ++ bytesN 2 c.lens.length ++ bytesN 4 c.sampled
    ++ (List.range 144).map (fun k => BitVec.ofNat 8 (l.getD (2 * k) 0 + 16 * l.getD (2 * k + 1) 0)) ++ List.replicate 8 0

/-- A tile stored RAW because its coded form is no shorter: counted (R261). -/
def escapeRaw (b : List Byte) (s : State) : (BitVec 2 × List Byte) × State :=
  ((0, b), setTiers (fun x => { x with escape := satAdd x.escape 1 }) s)

/-- A tile coded as XE, or RAW where that is no shorter (R255, R261): format and bytes. -/
def xeForm (o : Obj) (t : Nat) (b : List Byte) (s : State) : (BitVec 2 × List Byte) × State :=
  let ((k, lens), s) := tableFor o t s
  match xeCode o.etype k lens b with
  | some c => ((if o.etype.toNat < 2 then 1 else 2, c), s)
  | none => escapeRaw b s

/-- The form in which a hauler stores a tile in a frame (R250, R251, R261): format and bytes. -/
def frameForm (o : Obj) (t : Nat) (b : List Byte) (s : State) : (BitVec 2 × List Byte) × State :=
  if o.comp = 1 then xeForm o t b s else ((0, b), s)

/-- Granules of stored bytes, less one. -/
def lenOf (b : List Byte) : BitVec 6 := BitVec.ofNat 6 (b.length / 64 - 1)

/-- An expander's table cache (R253): a table missing from its 8 entries is fetched and counted. -/
def fetchTable (expander : Nat) (o : Obj) (t : Nat) (s : State) : State :=
  let k := (expander, o.id, o.groupOf t)
  if s.tiers.tableCache.contains k then s
  else
    let own := s.tiers.tableCache.filter fun x => x.1 = expander
    let rest := if 8 ≤ own.length then s.tiers.tableCache.filter (fun x => !decide (some x = own.head?)) else s.tiers.tableCache
    setTiers (fun x => { x with tableCache := rest ++ [k], tableMiss := satAdd x.tableMiss 1 }) s

/-- The expander that serves a use of a tile has its table: the home node's beside a tier pool, the frame's channel's for DRAM
(R235, R252). -/
def expandFetch (t : Nat) (s : State) : State :=
  let e := s.entry t
  match s.objOf t with
  | some o => if e.fmt = 1 || e.fmt = 2 then fetchTable (if e.atHome then 8 + e.node else e.dframe % 8) o t s else s
  | none => s

/-! ### Hauler queues (R244) -/

/-- A pool short of room evicts PREFER_HOME tiles, least recently used first (R240). -/
def evictPool (j : Fin 288) (s : State) : State :=
  if 16 * s.poolFree j < s.poolSize j then
    let tiles := (s.runsOf j.1).filterMap fun r => match s.objOf r.tile with
      | some o => if o.policy = .preferHome then some (r, (s.entry r.tile).used) else none
      | none => none
    let lru := tiles.foldl (fun (l : List (Run × Nat)) x => l.takeWhile (fun y => decide (y.2 ≤ x.2)) ++ x ::
      l.dropWhile (fun y => decide (y.2 ≤ x.2))) []
    (lru.foldl (fun (a : Nat × State) x =>
      if s.poolSize j ≤ 8 * a.1 then a
      else (a.1 + x.1.len, queueMove { kind := .evict, tile := x.1.tile, toHome := false, drop := true, widen := false, relocate := false } a.2))
      (s.poolFree j, s)).2
  else s

/-- What a use of a tile asks for (R239): under PREFER_HOME a demand move of a DRAM tile, under PARK the restore of the whole object, whatever
tile is used first. -/
def demand (t : Nat) (s : State) : State :=
  match s.objOf t with
  | none => s
  | some o => match o.policy with
    | .preferHome =>
      if (s.entry t).tier = .dram && (s.placeRun o t ((s.entry t).len.toNat + 1)).isSome then queueMove (mv .demand t true) s else s
    | .park =>
      if o.restored then s
      else match o.slot with
        | some i => restoreState i s
        | none => (s.written o).foldl (fun s x => if x.2.tier = .dram then queueMove (mv .demand x.1 true) s else s)
             (setObj o.id (fun o => { o with restored := true }) s)
    | _ => s

/-! ### Writes (R235, R242, R243) -/

/-- A tile given 4096 raw bytes in a fresh frame or run, as its policy directs. -/
def storeNew (o : Obj) (t : Nat) (b : List Byte) (s : State) : State :=
  let wantHome := decide (o.policy = .pinHome) || (decide (o.policy = .park) && o.restored)
  let place := if wantHome then s.placeRun o t 64 else none
  match place, s.pickFrame o t with
  | some (j, g), frame =>
    let s := putHome j.1 (64 * g) b (takeRun t j g 64 s)
    if o.cached then
      let f := frame.getD 0
      evictPool j (setEntry t { tier := .homeCopy, dirty := true, len := 63, node := j.1, granule := g, dframe := f, frameForm := (0, 63) } s)
    else evictPool j (setEntry t { tier := .home, len := 63, node := j.1, granule := g } s)
  | none, some f => setEntry t { tier := .dram, len := 63, dframe := f, frameForm := (0, 63) } (putDram (4096 * f) b s)
  | none, none => poison t (setEntry t { tier := .dram, len := 63 } s)

/-- Bytes over part of a tile. -/
def merge (old : List Byte) (off : Nat) (b : List Byte) : List Byte := old.take off ++ b ++ old.drop (off + b.length)

/-- A tile made RAW in its serving copy with new bytes. A home run too short moves to one of 64 granules (R243). -/
def storeRaw (o : Obj) (t : Nat) (b : List Byte) (s : State) : State :=
  let e := s.entry t
  if e.atHome then
    if e.len = 63 then
      setEntry t { e with fmt := 0, dirty := e.dirty || o.cached } (putHome e.node (64 * e.granule) b s)
    else
      let s := freeRun t s
      match s.placeRun o t 64 with
      | some (j, g) =>
        setEntry t { e with fmt := 0, len := 63, node := j.1, granule := g, dirty := e.dirty || o.cached }
          (putHome j.1 (64 * g) b (takeRun t j g 64 s))
      | none =>
        let f := if e.dframe = 0 then (s.pickFrame o t).getD 0 else e.dframe
        setEntry t { tier := .dram, len := 63, dframe := f, used := e.used, frameForm := (0, 63) } (putDram (4096 * f) b s)
  else setEntry t { e with fmt := 0, len := 63, frameForm := (0, 63) } (putDram (4096 * e.dframe) b s)

/-- A write of bytes within one tile of an object (R235, R243). A full-tile write clears POISON (R248). The use that restores a parked object
comes first: a tile written for the first time then stands at home. -/
def writeTile (t off : Nat) (b : List Byte) (s : State) : State :=
  let s := if (s.objOf t).any fun o => decide (o.policy = .park) then demand t s else s
  match s.objOf t with
  | none => s
  | some o =>
    let e := s.entry t
    let full := off = 0 && b.length = 4096
    let s := if full then s else expandFetch t s
    let old := (s.tileBytes t).getD (List.replicate 4096 0)
    let new := merge old off b
    let s := if e.tier = .zero then storeNew o t new s else storeRaw o t new s
    let s := if full && (s.entry t).poison then setEntry t { s.entry t with poison := false } s else s
    touch t (demand t s)

/-- A read of a tile by a service or the host: its bytes, none when POISON; the use is noted and its demand made. -/
def readTile (t : Nat) (s : State) : Option (List Byte) × State := (s.tileBytes t, demand t (touch t (expandFetch t s)))

/-- Bytes of U-space from an address on, n of them, as a service reads them; none when a tile is POISON or in no object. -/
def State.uBytes (s : State) (a n : Nat) : Option (List Byte) :=
  ((List.range ((a + n + 4095) / 4096 - a / 4096)).map (a / 4096 + ·)).foldl (fun (acc : Option (List Byte)) t =>
    match acc, s.objOf t, s.tileBytes t with
    | some l, some _, some b =>
      let from_ := if t = a / 4096 then a % 4096 else 0
      let dst := if t = (a + n - 1) / 4096 then (a + n - 1) % 4096 + 1 else 4096
      some (l ++ (b.drop from_).take (dst - from_))
    | _, _, _ => none) (some [])

/-- Bytes written to U-space from an address on; tiles outside every object take nothing. -/
def uPut : Nat → Nat → List Byte → State → State
  | 0, _, _, s => s
  | fuel + 1, a, b, s =>
    if b.isEmpty then s
    else
      let n := 4096 - a % 4096
      uPut fuel (a + n) (b.drop n) (writeTile (a / 4096) (a % 4096) (b.take n) s)

/-- Bytes written to U-space. -/
def uWriteBytes (a : Nat) (b : List Byte) (s : State) : State := uPut (b.length / 4096 + 2) a b s

/-! ### Moves (R241, R244) -/

/-- Priority of a move (R244). -/
def MoveKind.prio : MoveKind → Nat | .restore => 0 | .demand => 1 | .evict => 2 | .place => 3

/-- Granules that a move's target takes. -/
def State.moveLen (s : State) (m : Move) : Nat := if m.widen then 64 else (s.entry m.tile).len.toNat + 1

/-- The target run of a move: none when no pool has room. A POISON tile has nothing to carry: it only leaves. -/
def State.moveTarget (s : State) (m : Move) : Option (Fin 288 × Nat) := (s.objOf m.tile).bind fun o => s.placeRun o m.tile (s.moveLen m)

/-- The move takes a home run. -/
def State.wantsRun (s : State) (m : Move) : Bool := (m.toHome || m.widen) && !(s.entry m.tile).poison

/-- The move needs no home run, or a pool has room for it. -/
def State.moveFits (s : State) (m : Move) : Bool := !s.wantsRun m || (s.moveTarget m).isSome

/-- The tile is of an object that still exists, and the move is still one that the object's policy (R239, R240), a row or core that is
left (R246, R247) or a write (R243) asks for. A demand move for which no pool has room any longer is not made (Table 12.4). -/
def State.moveDue (s : State) (m : Move) : Bool :=
  let e := s.entry m.tile
  match s.objOf m.tile with
  | none => false
  | some o =>
    let home := decide (o.policy = .pinHome) || (decide (o.policy = .park) && o.restored)
    decide (e.tier ≠ .zero) && (!e.poison || (e.atHome && (m.relocate || m.drop)))
      && (if m.widen then e.atHome && decide (e.len ≠ 63)
          else if m.relocate then e.atHome && !s.inPool e.node e.granule (e.len.toNat + 1)
          else if m.toHome then decide (e.tier = .dram) && (home || (decide (o.policy = .preferHome) && decide (m.kind = .demand) && s.moveFits m))
          else e.atHome && (if m.drop then !home else e.dirty))

/-- Core to which a move carries its tile: none for a frame. -/
def State.moveDest (s : State) (m : Move) : Option Nat := if s.wantsRun m then (s.moveTarget m).map (·.1.1) else none

/-- The next move of a queue (R244): the first of the highest class whose target has room. It waits while its hauler moves another tile to
the same core or, like it, to a frame; no later move of its class passes it (log entry 55). -/
def State.nextMove (s : State) (q : List Move) (busy : List (Option Nat)) : Option Nat :=
  let heads := (List.range 4).filterMap fun k => q.findIdx? fun x => x.kind.prio = k
  match heads.find? fun i => (q[i]?).any fun m => s.moveFits m with
  | none => none
  | some i => if (q[i]?).any fun m => busy.contains (s.moveDest m) || s.tiers.moving.toList.any (·.any fun x => decide (x.move.tile = m.tile))
    then none else some i

/-- The moves of a hauler's queue that have nothing to do leave it. -/
def pruneHaul (c : Fin 8) (s : State) : State := setTiers (fun x => { x with haul := modAt x.haul c fun q => q.filter fun m => s.moveDue m }) s

/-- The run of a tile at a node that starts at a granule. -/
def Run.at_ (r : Run) (tile node granule : Nat) : Bool := decide (r.tile = tile) && decide (r.node = node) && decide (r.granule = granule)

/-- A run's closing to writes changed (R236). -/
def closeRun (tile node granule : Nat) (closed : Bool) (s : State) : State :=
  setTiers (fun x => { x with runs := x.runs.map fun r => if r.at_ tile node granule then { r with closed := closed } else r }) s

/-- A run released (H_FREE). -/
def dropRun (tile node granule : Nat) (s : State) : State :=
  setTiers (fun x => { x with runs := x.runs.filter fun r => !r.at_ tile node granule }) s

/-- The home source of a move. -/
def Entry.run (e : Entry) : Option (Nat × Nat × Nat) := if e.atHome then some (e.node, e.granule, e.len.toNat + 1) else none

/-- The move of a tile that a hauler has in progress. -/
def State.movingOf (s : State) (c : Fin 8) (t : Nat) : Option Moving := (s.tiers.moving[c]).find? fun m => decide (m.move.tile = t)

/-- A move starts (R241 step 1): INFLIGHT set, its target run taken. A home source is to be closed first; a copy that is only dropped
needs no data. -/
def moveBegin (m : Move) (c : Fin 8) (s : State) : State :=
  let e := s.entry m.tile
  let tgt := if s.wantsRun m then (s.moveTarget m).map fun x => (x.1, x.2, s.moveLen m) else none
  let s := match tgt with | some (j, g, n) => takeRun m.tile j g n s | none => s
  let x : Moving := { move := m, phase := if e.atHome then 0 else if tgt.isSome then 2 else 3, source := e.run
                      target := tgt.map fun x => (x.1.1, x.2.1, x.2.2) }
  setEntry m.tile { e with inflight := true } (setTiers (fun y => { y with moving := modAt y.moving c (· ++ [x]) }) s)

/-- The next move of a hauler begins (TILE_MOVE_START): the tile that it moves. -/
def moveNext (c : Fin 8) (s : State) : Option Nat × State :=
  let s := pruneHaul c s
  let q := s.tiers.haul[c]
  let busy := (s.tiers.moving[c]).map fun m => m.target.map (·.1)
  match (s.nextMove q busy).bind fun k => (q[k]?).map fun m => (k, m) with
  | none => (none, s)
  | some (k, m) => (some m.tile, moveBegin m c (setTiers (fun x => { x with haul := upd x.haul c (q.eraseIdx k) }) s))

/-- The bytes that a move carries to its home target (R241 step 3): unexpanded, or RAW when it widens. -/
def State.moveBytes (s : State) (m : Moving) : List Byte :=
  if m.move.widen then (s.tileBytes m.move.tile).getD [] else s.stored (s.entry m.move.tile)

/-- The entry of a tile that has come to its home target (R241 step 4). -/
def arriveHome (o : Obj) (m : Moving) (node granule : Nat) (s : State) : State :=
  let t := m.move.tile
  let e := s.entry t
  let n := (s.moveBytes m).length
  let e' : Entry := { e with
    fmt := if m.move.widen then 0 else e.fmt, len := BitVec.ofNat 6 (n / 64 - 1), node := node, granule := granule, inflight := false }
  let s := setEntry t (if e.atHome then e' else if o.cached then { e' with tier := .homeCopy, frameForm := (e.fmt, e.len) }
    else { e' with tier := .home, dframe := 0, frameForm := (0, 0) }) s
  if h : node < 288 then evictPool ⟨node, h⟩ s else s

/-- The entry of a tile that has come to its frame, or whose clean home copy is dropped (R241 steps 3, 4). A RAW tile is compressed as its
object's format and census require; a coded one goes as it is stored, unexpanded. -/
def arriveDram (o : Obj) (m : Moving) (s : State) : State :=
  let t := m.move.tile
  let e := s.entry t
  if o.cached && !e.dirty then
    if m.move.drop then setEntry t { e with
      tier := .dram, inflight := false, fmt := e.frameForm.1, len := e.frameForm.2, node := 0, granule := 0 } s
    else setEntry t { e with inflight := false } s
  else
    let f := if e.dframe = 0 then (s.pickFrame o t).getD 0 else e.dframe
    if e.poison then setEntry t { tier := .dram, len := 63, dframe := f, frameForm := (0, 63), used := e.used, poison := true } s else
    let ((fmt, c), s) := if e.fmt = 0 then frameForm o t ((s.tileBytes t).getD []) s else ((e.fmt, s.stored e), s)
    let s := putDram (4096 * f) c s
    if o.cached && !m.move.drop then setEntry t { e with inflight := false, dirty := false, frameForm := (fmt, lenOf c) } s
    else setEntry t { tier := .dram, fmt := fmt, len := lenOf c, dframe := f, frameForm := (fmt, lenOf c), used := e.used } s

/-- Every tile of an object stands where its policy puts it (R239). -/
def State.placed (s : State) (o : Obj) : Bool :=
  (s.written o).all fun x => x.2.poison || match o.policy with
    | .pinHome => x.2.atHome
    | .pinDram => decide (x.2.tier = .dram)
    | .preferHome => true
    | .park => o.restored || decide (x.2.tier = .dram)

/-- A tile that does not stand where its object's policy puts it is moved there at priority 4 (R239). -/
def replace1 (o : Obj) (t : Nat) (s : State) : State :=
  let e := s.entry t
  match o.policy with
  | .pinHome => if e.tier = .dram && !e.poison then queueMove (mv .place t true) s else s
  | .preferHome => s
  | p => if e.atHome && !(decide (p = .park) && o.restored) then
      queueMove { kind := .place, tile := t, toHome := false, drop := true, widen := false, relocate := false } s else s

/-- No move of the object is under way. -/
def State.still (s : State) (o : Obj) : Bool := (s.written o).all fun x => !x.2.inflight

/-- Everything of an object released (R231, 19_commands.md Table 19.5 OBJ_FREE). -/
def dropObj (id : Nat) (s : State) : State :=
  match s.objId id with
  | none => s
  | some o =>
    let mine := fun (t : Nat) => decide (o.base ≤ t) && decide (t < o.base + o.tiles)
    setTiers (fun x => { x with
      objs := x.objs.filter fun y => y.id ≠ id, map := x.map.filter fun e => !mine e.1, runs := x.runs.filter fun r => !mine r.tile
      haul := mapV x.haul (fun _ q => q.filter fun m => !mine m.tile)
      tableCache := x.tableCache.filter fun k => k.2.1 ≠ id }) s

/-- The commands that waited for moves (R239, R242; OBJ_FREE) answered. A tile that has been written back once leaves the list of its
OBJ_FLUSH. -/
def finishMoves (s : State) : State :=
  let freed := s.hif.waits.filterMap fun w => match w.on with
    | .free id => match s.objId id with | some o => if s.still o then some id else none | none => some id
    | _ => none
  let s := freed.foldl (fun s id => dropObj id s) s
  let s := { s with hif := { s.hif with waits := s.hif.waits.map fun w => match w.on with
    | .flush ts => { w with on := .flush (ts.filter fun t => (s.entry t).dirty) }
    | _ => w } }
  finishOk (fun w => match w.on with
    | .place id => match s.objId id with | some o => s.placed o && s.still o | none => true
    | .flush ts => ts.isEmpty
    | .free id => (s.objId id).isNone
    | _ => false) s

/-- A hauler is done with a tile. -/
def endMoving (c : Fin 8) (t : Nat) (s : State) : State :=
  setTiers (fun x => { x with moving := modAt x.moving c fun l => l.filter fun m => !decide (m.move.tile = t) }) s

/-- A completed move counted. -/
def countMove (s : State) : State := setTiers (fun x => { x with moves := satAdd x.moves 1 }) s

/-- A move ends (R241 step 4): the entry rewritten, the move counted; a source that no longer serves is to be released. What a service
wrote to the tile meanwhile comes with it; a tile that no longer fits its target run stays where it is. A policy that changed
meanwhile asks for its own move (R239). -/
def moveEnd (c : Fin 8) (m : Moving) (s : State) : State :=
  let t := m.move.tile
  let s := endMoving c t s
  match s.objOf t with
  | none => s
  | some o =>
    let s := match m.target with
      | some (j, g, n) =>
        let b := s.moveBytes m
        let stands := decide (b.length = 64 * n) && decide (m.source = (s.entry t).run)
          && s.tiers.runs.any fun r => r.at_ t j g
        if stands then countMove (putHome j (64 * g) b (arriveHome o m j g s))
        else setEntry t { s.entry t with inflight := false } (dropRun t j g s)
      | none => countMove (arriveDram o m s)
    replace1 o t s

/-- A move given up: INFLIGHT cleared, the source open again, the target run released. -/
def moveAbandon (c : Fin 8) (m : Moving) (s : State) : State :=
  let e := s.entry m.move.tile
  let s := if e.tier = .zero then s else setEntry m.move.tile { e with inflight := false } s
  let s := match m.source with | some (j, g, _) => closeRun m.move.tile j g false s | none => s
  let s := match m.target with | some (j, g, _) => dropRun m.move.tile j g s | none => s
  endMoving c m.move.tile s

/-! ### DRAM rows (R248) -/

/-- A frame leaves service (R248): its tile moves to an unreserved frame, or is poisoned with an event. -/
def loseFrame (f : Nat) (s : State) : State :=
  if s.tiers.lostFrames.contains f then s
  else
    let free := s.dramFree
    let s := setTiers (fun x => { x with lostFrames := x.lostFrames ++ [f] }) s
    match s.tiers.map.find? fun x => decide (x.2.dframe = f) && decide (f ≠ 0) with
    | none => s
    | some (t, e) =>
      match (if free = 0 then none else (s.objOf t).bind fun o => s.pickFrame { o with slot := none } t) with
      | some f' => setEntry t { e with dframe := f' } (putDram (4096 * f') (s.tiers.dram.readN (4096 * f) 4096) s)
      | none => logEvent 0xFF 8 (wd t) 0 (poison t s)

/-- A DRAM row retired (R248): a spare row of its bank takes its contents; with none left, its frame leaves service. Which rows share a bank,
and how many spare rows a bank has, no rule gives (log entry 31). -/
def dramRowOut (id : Nat) (s : State) : State :=
  let c : Fin 8 := ⟨id / 2 ^ 21 % 8, Nat.mod_lt _ (by decide)⟩
  let b := Config.dramBank c.1 (id % 2 ^ 21)
  let used := ((s.tiers.spareUsed.find? fun x => decide (x.1 = c.1) && decide (x.2.1 = b)).map (·.2.2)).getD 0
  if used < Config.bankSpareRows c.1 b then setTiers (fun x => { x with
    spareRows := modAt x.spareRows c fun n => if n = 0 then 0 else n - 1
    spareUsed := (c.1, b, used + 1) :: x.spareUsed.filter fun x => !(decide (x.1 = c.1) && decide (x.2.1 = b)) }) s
  else loseFrame (id % 2 ^ 21 * 8 + c.1) s

/-! ### Registers (Tables 12.5, 13.6) -/

/-- A read of a TIER or CMP register; HI words are live. -/
def readTier (o : Nat) (s : State) : Option Word :=
  match o with
  | 0x90000 => some (s.tiers.bar2.setWidth 32)
  | 0x90004 => some (wd s.tiers.objs.length)
  | 0x90008 => some (wd s.homeFree)
  | 0x9000C => some (wd s.dramFree)
  | 0x90010 => some (wd s.tiers.lostFrames.length)
  | 0x90014 => some s.tiers.moves
  | 0x90018 => some s.tiers.poison
  | 0x900A0 => some (wd (((ixs s.stream).map fun (i, t) => if t.parked then 2 ^ i.1 else 0).sum))
  | 0x900C0 => some (s.tiers.mapSel.setWidth 32)
  | 0x900C8 => some (lo s.tiers.mapWin)
  | 0x900CC => some (hi s.tiers.mapWin)
  | 0x90100 => some s.tiers.census
  | 0x90104 => some (wd ((s.tiers.objs.map fun o => o.tables.length).sum))
  | 0x90108 => some s.tiers.escape
  | 0x9010C => some s.tiers.tableMiss
  | _ =>
    match slot o 0x90020 4 8, slot o 0x90040 4 8, slot o 0x90060 4 8, slot o 0x90080 4 8 with
    | some (c, 0), _, _, _ => some s.tiers.eccCorr[c]
    | _, some (c, 0), _, _ => some (s.tiers.eccUnc[c].setWidth 32)
    | _, _, some (c, 0), _ => some (s.tiers.spareRows[c].setWidth 32)
    | _, _, _, some (c, 0) => some (wd s.tiers.haul[c].length)
    | _, _, _, _ => none

/-- The RC clears of a full read of a TIER or CMP register. -/
def readTierEffect (o : Nat) (s : State) : State :=
  match o with
  | 0x90014 => setTiers (fun x => { x with moves := 0 }) s
  | 0x90018 => setTiers (fun x => { x with poison := 0 }) s
  | 0x90100 => setTiers (fun x => { x with census := 0 }) s
  | 0x90108 => setTiers (fun x => { x with escape := 0 }) s
  | 0x9010C => setTiers (fun x => { x with tableMiss := 0 }) s
  | _ =>
    match slot o 0x90020 4 8, slot o 0x90040 4 8 with
    | some (c, 0), _ => setTiers (fun x => { x with eccCorr := upd x.eccCorr c 0 }) s
    | _, some (c, 0) => setTiers (fun x => { x with eccUnc := upd x.eccUnc c 0 }) s
    | _, _ => s

end Sys2Proof.Machine
end

