-- ==== Sys2Proof/Machine/Fabric.lean ====
section
/-! DEFINITION. Network interfaces, routers, cairns, timers (10_fabric_routing.md R193..R210, 11_fabric_service.md
R211..R229). Initiators are numbered as R228 numbers them: a core's NI by its node, the services from 288 on. -/

namespace Sys2Proof.Machine

/-- The fabric changed. -/
def setFab (f : Fab → Fab) (s : State) : State := { s with fab := f s.fab }
/-- A network interface. -/
def State.ni (s : State) (i : Fin 300) : Ni := s.fab.ni[i]
/-- A network interface changed. -/
def setNi (i : Fin 300) (f : Ni → Ni) (s : State) : State := setFab (fun x => { x with ni := modAt x.ni i f }) s

/-- The NI of a core. -/
def coreNi (n : Fin 288) : Fin 300 := ⟨n.1, by omega⟩
/-- The NI of a service by its index from 0: PMA bridge, conductor, PCIe bridge, audio hub, DRAM channels. -/
def svcNi (k : Fin 12) : Fin 300 := ⟨288 + k.1, by omega⟩
/-- The NI of DRAM channel c. -/
def dramNi (c : Fin 8) : Fin 300 := ⟨292 + c.1, by omega⟩
/-- The node of an NI's router. -/
def niNode (i : Fin 300) : Nat := if i.1 < 288 then i.1 else serviceNode i.1

/-- The number by which an initiator names itself (Table 10.2 SRC): its logical number, or its service number; a spare core's
tier store uses 0x3FF (log entry 26). -/
def State.srcOf (s : State) (i : Fin 300) : Nat :=
  if h : i.1 < 288 then (s.logicalOf ⟨i.1, h⟩).getD 0x3FF else serviceNum i.1

/-- Destinations of 0x400 and above name a tier store by its node (log entry 26). -/
def storeDest (node : Nat) : Nat := 0x400 + node

/-! ### Topo tables (R207) -/

/-- The entry that the core map gives: XY, VALID (Table 10.5). -/
def State.plainEntry (s : State) (dest : Nat) : BitVec 64 :=
  if 0x400 ≤ dest then BitVec.ofNat 64 (dest - 0x400 + 2 ^ 13)
  else match serviceIx dest with
  | some i => BitVec.ofNat 64 (serviceNode i + 2 ^ 9 + 2 ^ 13)
  | none => match s.nodeOf dest with
    | some j => BitVec.ofNat 64 (j.1 + 2 ^ 13)
    | none => 0

/-- The topo entry of an initiator for a destination. -/
def State.topo (s : State) (i : Fin 300) (dest : Nat) : BitVec 64 :=
  match s.fab.topo.find? fun e => decide (e.1 = i.1) && decide (e.2.1 = dest) with
  | some e => e.2.2
  | none => s.plainEntry dest

/-- VALID of an entry. -/
def topoValid (e : BitVec 64) : Bool := bit e 13

/-- The NI at an entry's node and port. -/
def topoNi (e : BitVec 64) : Option (Fin 300) :=
  let n := fld e 0 9
  if bit e 9 then
    match (List.finRange 12).find? fun k => serviceNode (288 + k.1) = n with
    | some k => some (svcNi k)
    | none => none
  else if h : n < 288 then some ⟨n, by omega⟩ else none

/-! ### Packets (Tables 10.2, 10.4) -/

/-- Virtual network of a command: 0 REQ, 1 RSP, 2 MSG. -/
def vnOf (cmd : BitVec 8) : Nat :=
  let c := cmd.toNat
  if c < 0x40 then 0 else if c < 0x80 then 1 else if c < 0xC0 then 2 else if c < 0xC4 then 1 else 0

/-- Head flit bits 63..0. -/
def Packet.head64 (p : Packet) : BitVec 64 :=
  BitVec.ofNat 64 (p.dest % 2 ^ 9 + b2n p.dportV * 2 ^ 9 + p.src.toNat * 2 ^ 10 + p.mode.toNat * 2 ^ 20 + p.cls.toNat * 2 ^ 22
    + p.cmd.toNat * 2 ^ 24 + p.tag.toNat * 2 ^ 32 + p.gen.toNat * 2 ^ 42 + p.len.toNat * 2 ^ 44 + p.seq.toNat * 2 ^ 49
    + p.mb.toNat * 2 ^ 52 + p.status.toNat * 2 ^ 56)

/-- A packet with every field zero. -/
def blank : Packet :=
  { dest := 0, dportV := false, src := 0, mode := 0, cls := 0, cmd := 0, tag := 0, gen := 0, len := 0, seq := 0, mb := 0, status := 0
    addr := 0, tree := 0, srcLen := 0, firstDir := 0, turnIx := 0, turns := 0, opa := 0, opb := 0, body := 0, poison := false
    at_ := 0, vc := false, dir := none, since := 0, slot := 0 }

/-- A packet given the route of an entry, at its NI's router. -/
def routed (s : State) (i : Fin 300) (dest : Nat) (p : Packet) : Packet :=
  let e := s.topo i dest
  if p.mode = 2 then { p with at_ := niNode i, vc := false, dir := none, since := s.clk.tempo, turnIx := 0 }
  else { p with
    dest := fld e 0 9, dportV := bit e 9, mode := BitVec.ofNat 2 (fld e 10 1), srcLen := BitVec.ofNat 4 (fld e 14 4)
    firstDir := BitVec.ofNat 2 (fld e 18 2), turns := hi e, turnIx := 0, at_ := niNode i, vc := false, dir := none
    since := s.clk.tempo }

/-! ### Issue, credits, tags -/

/-- Payload bytes as the body of a packet. -/
def bodyOf (b : List Byte) : BitVec 4096 := BitVec.ofNat 4096 (natOf b)
/-- Bytes of a body. -/
def bodyBytes (x : BitVec 4096) (n : Nat) : List Byte := bytesN n x.toNat

/-- Under what a credit is counted: a service's credits toward a core and toward that core's tier store are the same ones (R168,
R238), counted under the tier store's number. -/
def State.creditKey (s : State) (i : Fin 300) (dest : Nat) : Nat :=
  if 288 ≤ i.1 && dest < 0x200 then (match s.nodeOf dest with | some j => storeDest j.1 | none => dest) else dest

/-- Credits an initiator holds at boot (R168, R206, R238, 09 R182; the split of the 16 service credits and a core's credits toward a
tier store are log entry 27). -/
def bootCredits (i : Fin 300) (dest : Nat) : Nat :=
  if 0x400 ≤ dest then (if i.1 < 288 then 64 else if i.1 < 292 then 2 else 1)
  else if dest < 0x200 then 0
  else if dest = 0x200 then 1
  else if 0x208 ≤ dest then (match i.1 with | 290 => 64 | 289 => 32 | 288 => 16 | 291 => 16 | k => if k < 288 then 2 else 0)
  else 0

/-- Credits now held toward a destination. -/
def State.credit (s : State) (i : Fin 300) (dest : Nat) : Nat := look (s.ni i).credits (s.creditKey i dest) (bootCredits i (s.creditKey i dest))

/-- Credits set. -/
def setCredit (i : Fin 300) (dest n : Nat) (s : State) : State :=
  setNi i (fun x => { x with credits := put x.credits (s.creditKey i dest) n }) s

/-- The credits that an initiator has toward a destination when none is in use: a core's toward another by the plan of its graph, others as
at boot. -/
def State.creditCap (s : State) (i : Fin 300) (dest : Nat) : Nat :=
  if h : i.1 < 288 then
    if dest < 0x200 then
      match s.grid.core[(⟨i.1, h⟩ : Fin 288)].graph, s.logicalOf ⟨i.1, h⟩ with
      | some g, some self => ((((s.grid.graph[g]).plan.map (·.credits)).getD []).find? fun l =>
          decide (l.1 = dest) && decide (l.2.1 = self)).elim 0 (·.2.2)
      | _, _ => 0
    else bootCredits i dest
  else bootCredits i (s.creditKey i dest)

/-- One credit restored (R185, R186). A reply from before the counts started anew restores none beyond them (log entry 27). -/
def addCredit (i : Fin 300) (dest : Nat) (s : State) : State :=
  if s.credit i dest < s.creditCap i dest then setCredit i dest (s.credit i dest + 1) s else s

/-- Requests outstanding: injected and not answered. -/
def Ni.outstanding (x : Ni) : List Req := x.reqs.filter fun r => r.sent.isSome

/-- A tag is in use, kept for a reissue, or in quarantine. -/
def Ni.tagBusy (x : Ni) (t : BitVec 10) : Bool :=
  (x.reqs.any fun r => (r.sent.isSome || r.again) && decide (r.pkt.tag = t)) || x.quarantine.any fun q => decide (q.tag = t)

/-- The next free tag from the one to try on. -/
def Ni.freeTag (x : Ni) : Option (BitVec 10) := ((List.range 1024).map fun k => x.nextTag + BitVec.ofNat 10 k).find? fun t => !x.tagBusy t

/-- The generation of a tag. -/
def Ni.genOf (x : Ni) (t : BitVec 10) : BitVec 2 := look x.gens t 0

/-- A request or message put among those an NI is to inject. -/
def issue (i : Fin 300) (dst : Nat) (o : Owner) (p : Packet) (s : State) : State :=
  let r : Req := { pkt := { p with src := BitVec.ofNat 10 (s.srcOf i) }, dst := dst, owner := o, sent := none, reissues := 0
                   busyUntil := none, got := 0, worst := 0 }
  setNi i (fun x => { x with reqs := x.reqs ++ [r] }) s

/-- The packet's commands that a core's tier store serves. -/
def tierCmd (cmd : BitVec 8) : Bool := cmd == 0x06 || cmd == 0x07 || cmd == 0xC4 || cmd == 0xC5 || cmd == 0xC6 || cmd == 0xC7

/-- The slot that a request holds at its target until the reply is injected (R205, 12_tiers.md R236); a message's is freed by RECV. -/
def slotOf (cmd : BitVec 8) : Nat := if vnOf cmd ≠ 0 then 0 else if tierCmd cmd then 2 else 1

/-- A reply put among those an NI is to inject: routed by its own entry for the request's SRC. -/
def respond (i : Fin 300) (p : Packet) (cmd status : BitVec 8) (f : Packet → Packet) (s : State) : State :=
  let r : Packet := f { blank with
    dest := p.src.toNat, src := BitVec.ofNat 10 (s.srcOf i), cls := p.cls, cmd := cmd, tag := p.tag, gen := p.gen, seq := p.seq, status := status
    slot := slotOf p.cmd }
  setNi i (fun x => { x with rsp := x.rsp ++ [r] }) s

/-- An acknowledgement. -/
def ack (i : Fin 300) (p : Packet) (status : BitVec 8) (s : State) : State := respond i p 0x41 status id s

/-! ### Cairns (R224..R226) -/

/-- A trace record written (R226): 2048 records, WRAP or stop, one per 4 ns; records that a TRACE_DUMP will write are not overwritten
(25_observation.md). -/
def traceRecord (k : Fin 16) (node port : Nat) (out : Bool) (p : Packet) (s : State) : State :=
  let c := s.fab.cairn[k]
  let fast := match s.fab.traceAt with | some t => decide (s.clk.tempo < t + 4) | none => false
  let full := decide (2048 ≤ s.fab.trace.length)
  if fast || (full && (!s.fab.wrap || s.fab.dumps.any fun d => decide (0 < d.2))) then
    setFab (fun x => { x with
      lost := satAdd x.lost 1, lostRun := x.lostRun + 1, stopped := x.stopped || (full && !x.wrap)
      irq := if full && !x.wrap && !x.stopped then setBit x.irq 3 true else x.irq }) s
  else
    let (d, s) := s.pick 6
    let t := BitVec.ofNat 64 (s.clk.tempo + d)
    let ws : Vector Word 8 := #v[lo t, hi t,
      wd (k.1 + node * 2 ^ 4 + port * 2 ^ 13 + b2n out * 2 ^ 16 + vnOf p.cmd * 2 ^ 17 + b2n p.vc * 2 ^ 19 + min 255 s.fab.lostRun * 2 ^ 24),
      lo p.head64, hi p.head64, p.addr.setWidth 32, (p.addr >>> 32).setWidth 32, c.rseq]
    let s := setFab (fun x => { x with
      trace := (if full then x.trace.drop 1 else x.trace) ++ [ws], lostRun := 0, traceAt := some s.clk.tempo
      cairn := modAt x.cairn k fun c => { c with rseq := c.rseq + 1 }
      stopped := x.stopped || (decide (x.trace.length = 2047) && !x.wrap)
      irq := if decide (x.trace.length = 2047) && !x.wrap then setBit x.irq 3 true else x.irq }) s
    traceOffer 1 ws.toList s

/-- A head flit passes a port of a router (R224, R225): a cairn on a port of a retired router or link sees nothing. -/
def cairnSee (node port : Nat) (out : Bool) (p : Packet) (s : State) : State :=
  if s.fab.deadRouters.contains node || (decide (port < 4) && s.fab.deadLinks.contains (linkOf node port)) then s
  else (List.finRange 16).foldl (fun s k =>
    let c := s.fab.cairn[k]
    if bit c.cfg 0 && fld c.cfg 3 9 = node && fld c.cfg 12 3 = port && bit c.cfg 15 = out && bit c.cfg (16 + vnOf p.cmd)
        && decide ((p.head64 ^^^ c.match_) &&& c.mask = 0) then
      let s := setFab (fun x => { x with cairn := modAt x.cairn k fun c => { c with
        pkts := satAdd c.pkts 1, flits := satAdd c.flits (1 + p.len.toNat), triggered := c.triggered || fld c.cfg 1 2 = 1 } }) s
      let open_ := !bit c.cfg 24 || (s.fab.cairn[(⟨fld c.cfg 20 4, Nat.mod_lt _ (by decide)⟩ : Fin 16)]).triggered
      if fld c.cfg 1 2 = 2 && open_ then traceRecord k node port out p s else s
    else s) s

/-! ### Injection (R211..R215) -/

/-- The default metronome of an initiator and class (Table 11.1): RATE code and BURST. -/
def bootMet (fe : Bool) (i : Fin 300) (c : Fin 4) : BitVec 13 × BitVec 12 :=
  match c.1 with
  | 0 => if i.1 = 291 then (0x1FFF, 1024) else if i.1 = 288 ∨ i.1 = 289 then (0x1FFF, 512) else if i.1 < 288 && fe then (800, 128) else (0, 1)
  | 1 => if i.1 < 288 then (1600, 256) else if i.1 = 290 then (2400, 512) else (0, 1)
  | 2 => if i.1 < 288 then (800, 256) else if 292 ≤ i.1 then (2400, 512) else if i.1 < 292 then (0x1FFF, 512) else (0, 1)
  | _ => (32, 64)

/-- The tokens of a class at this arbitration, in thousandths of a quarter flit (R212). -/
def Ni.tokensNow (x : Ni) (c : Fin 4) (t : Nat) : Int :=
  min (4000 * (x.burst[c].toNat : Int)) (x.tokens[c] + (x.rate[c].toNat * (t - x.tlast[c]) : Nat))

/-- The class may inject (R212): RATE 0 blocks it. -/
def Ni.mayInject (x : Ni) (c : Fin 4) (t : Nat) : Bool :=
  decide (x.rate[c] = 0x1FFF) || (decide (x.rate[c] ≠ 0) && decide (0 < x.tokensNow c t))

/-- Tokens spent on F flits. -/
def Ni.spend (x : Ni) (c : Fin 4) (t flits : Nat) : Ni :=
  if x.rate[c] = 0x1FFF then x
  else { x with tokens := upd x.tokens c (x.tokensNow c t - 4000 * flits), tlast := upd x.tlast c t }

/-- The request's destination takes new injections (R208). -/
def Ni.open_ (x : Ni) (dest : Nat) : Bool := !x.hold.contains dest

/-- A domain that holds a node's row, or a service (Table 11.3). -/
def Domain.covers (d : Domain) (s : State) (dest : Nat) : Bool :=
  match d with
  | .row y => match s.nodeOf dest with
    | some j => decide (nodeY j.1 = y.1)
    | none => decide (0x400 ≤ dest) && decide (nodeY (dest - 0x400) = y.1)
  | .s23 => decide (dest = 0x200)
  | .dram => decide (0x208 ≤ dest) && decide (dest < 0x210)
  | .hostLink => decide (dest = 0x202)

/-- The domain of an initiator. -/
def Domain.has (d : Domain) (i : Fin 300) : Bool :=
  match d with
  | .row y => decide (i.1 < 288) && decide (nodeY i.1 = y.1)
  | .s23 => decide (i.1 = 288)
  | .dram => decide (292 ≤ i.1)
  | .hostLink => decide (i.1 = 290)

/-- A belay holds the initiator's own injections or those toward the destination (Table 11.2 step 1). The PMA bridge itself stays on while
S2 and S3 are off: a job that it accepts is what wakes them (Table 11.3). -/
def State.belayed (s : State) (i : Fin 300) (dest : Nat) : Bool := s.fab.belays.any fun b =>
  (Domain.has b.dom i || Domain.covers b.dom s dest) && !(decide (b.dom = .s23) && decide (b.step = .switched))

/-- The destinations that a multicast packet serves together (R204): those of one SENDM that its tree reaches. -/
def Req.together (r q : Req) : Bool :=
  match r.owner, q.owner with
  | .mcast a _, .mcast b _ => decide (a = b) && decide (r.pkt.mode = 2) && decide (q.pkt.mode = 2) && q.sent.isNone
  | _, _ => false

/-- Multicast copies need no credit of their own here: SENDM took one toward each destination (R204). -/
def Owner.isMcast : Owner → Bool | .mcast _ _ => true | _ => false

/-- A U-space access. -/
def isU (cmd : BitVec 8) : Bool := cmd == 0x06 || cmd == 0x07

/-- The access comes from the host (17_host_link.md R303): the number of its BAR2 access. -/
def Owner.bar2 : Owner → Option Nat | .hostRead id _ _ _ => some id | .hostWrite id => some id | _ => none

/-- An earlier request of the NI has to end first: one to the same tile by another instruction or operation (12_tiers.md R237), or, for the
host, an earlier BAR2 access (R249). -/
def Req.waitsFor (r q : Req) : Bool :=
  isU r.pkt.cmd && isU q.pkt.cmd && decide (q.owner ≠ r.owner)
    && (decide (q.pkt.addr.toNat / 4096 = r.pkt.addr.toNat / 4096)
      || (r.owner.bar2.isSome && q.owner.bar2.isSome && decide (r.owner.bar2 ≠ q.owner.bar2)))

/-- DATA packets that a request expects. -/
def Req.want (r : Req) : Nat := if r.pkt.cmd = 0xC4 then (r.pkt.opb.toNat + 7) / 8 else 8

/-- The command is a message. -/
def isMsg (cmd : BitVec 8) : Bool := cmd == 0x80 || cmd == 0x81

/-- What the quarantine of a tag remembers of a request whose reply may still come (R217). -/
def Req.late (r : Req) (t : Nat) : Late :=
  { tag := r.pkt.tag, since := t, dst := r.dst, msg := isMsg r.pkt.cmd, multi := r.owner.isMcast
    last := if r.pkt.cmd == 0x01 || r.pkt.cmd == 0x06 || r.pkt.cmd == 0xC4 then BitVec.ofNat 3 (r.want - 1) else 0 }

/-! ### Channels and their buffers (R196) -/

/-- A channel: the input port of a router, a virtual network and a virtual channel. -/
def chanOf (node port vn : Nat) (vc : Bool) : Nat := ((node * 6 + port) * 3 + vn) * 2 + b2n vc

/-- Flits of a packet. -/
def Packet.flits (p : Packet) : Nat := 1 + p.len.toNat

/-- What a trail says of a channel: the flits that have left it and those that have entered it. -/
def spanIn (c : Nat) : Nat → List (Nat × Nat) → Option (Nat × Nat)
  | _, [] => none
  | left, x :: xs => if x.1 = c then some (left, x.2) else spanIn c x.2 xs

/-- The same of a flight. -/
def Flight.span (f : Flight) (c : Nat) : Option (Nat × Nat) := spanIn c 0 f.trail

/-- Flits of a packet that have entered a channel, by whichever of its branches saw most. -/
def State.entered (s : State) (id c : Nat) : Nat :=
  (s.fab.net.filterMap fun f => if f.id = id then (f.span c).map (·.2) else none).foldl max 0

/-- Flits of a packet that have left a channel: a flit leaves when every branch has taken it (R204). -/
def State.departed (s : State) (id c : Nat) : Nat :=
  (s.fab.net.filterMap fun f => if f.id = id then (f.span c).map (·.1) else none).foldl min 17

/-- Buffers of a channel that hold a flit. -/
def State.occupied (s : State) (c : Nat) : Nat :=
  ((((s.fab.net.filter fun f => (f.span c).isSome).map (·.id)).eraseDups).map fun id => s.entered id c - s.departed id c).sum

/-- Buffer credits that the sender of a channel holds: 4 less the buffers in use; a buffer freed returns its credit at once (R196; the time
that LCRED takes is not modelled, log entry 53). -/
def State.bufCredits (s : State) (c : Nat) : Nat := 4 - s.occupied c

/-- Flits of a trail move forward as far as credits allow, the head-most first: f has its k-th channel still to fill. -/
def fillChan (k j : Nat) (s : State) : State :=
  match s.fab.net[j]? with
  | none => s
  | some f =>
    match f.trail[k]? with
    | none => s
    | some (c, e) =>
      let from_ := ((f.trail[k + 1]?).map (·.2)).getD f.pkt.flits
      let room := s.bufCredits c + (s.entered f.id c - e)
      setFab (fun x => { x with net := x.net.set j { f with trail := f.trail.set k (c, e + min (from_ - e) room) } }) s

/-- A trail without the channels that every flit has left. -/
def trimTrail (n : Nat) : List (Nat × Nat) → List (Nat × Nat)
  | [] => []
  | x :: xs => if n ≤ x.2 then [x] else x :: trimTrail n xs

/-- The body flits of every packet follow their head (R196). -/
def flow (s : State) : State :=
  let n := s.fab.net.length
  let s := (List.range n).foldl (fun s _ => (List.range n).foldl (fun s j =>
    (List.range (((s.fab.net[j]?).map (·.trail.length)).getD 0)).foldl (fun s k => fillChan k j s) s) s) s
  setFab (fun x => { x with net := x.net.map fun f => { f with trail := trimTrail f.pkt.flits f.trail } }) s

/-- The channel by which an NI's packets enter its router: port L or V, virtual channel 0 (R199). -/
def niChan (i : Fin 300) (vn : Nat) : Nat := chanOf (niNode i) (if i.1 < 288 then 4 else 5) vn false

/-- The NI may start a packet of a virtual network: it holds a buffer credit, and the packet before has left it wholly. -/
def State.niRoom (s : State) (i : Fin 300) (vn : Nat) : Bool :=
  decide (0 < s.bufCredits (niChan i vn))
    && s.fab.net.all fun f => (f.span (niChan i vn)).all fun x => decide (f.pkt.flits ≤ x.2)

/-! ### Arbitration at an NI -/

/-- The request can go now: credit, destination open, the requests it waits for ended, a tag, room among the 64 outstanding of a core
(R184, R187), a buffer credit. earlier: the requests before it. -/
def State.canGo (s : State) (i : Fin 300) (earlier : List Req) (r : Req) : Bool :=
  let with_ := r :: ((s.ni i).reqs.filter fun q => decide (q.dst ≠ r.dst) && r.together q)
  (with_.all fun q => (s.ni i).open_ q.dst && !s.belayed i q.dst) && !(earlier.any fun q => r.waitsFor q)
    && (r.owner.isMcast || decide (0 < s.credit i r.dst)) && (r.again || (s.ni i).freeTag.isSome)
    && (decide (288 ≤ i.1) || decide ((s.ni i).outstanding.length + with_.length ≤ 64)) && s.niRoom i (vnOf r.pkt.cmd)

/-- The first waiting request of a class, with its place. -/
def Ni.nextOf (x : Ni) (c : Nat) : Option (Nat × Req) :=
  (x.reqs.zipIdx.map fun (r, k) => (k, r)).find? fun (_, r) => r.sent.isNone && r.busyUntil.isNone && decide (r.pkt.cls.toNat = c)

/-- The request that arbitration takes: the highest class whose first waiting request is eligible (R213). -/
def State.candidate (s : State) (i : Fin 300) : Option (Nat × Req) :=
  (List.finRange 4).findSome? fun c => match (s.ni i).nextOf c.1 with
    | some (k, r) => if (s.ni i).mayInject c s.clk.tempo && s.canGo i ((s.ni i).reqs.take k) r then some (k, r) else none
    | none => none

/-- Statistics of an injected packet (R228). -/
def countInject (i : Fin 300) (p : Packet) (s : State) : State :=
  setNi i (fun x => { x with stats := { x.stats with pkts := satAdd x.stats.pkts 1, bytes := satAdd x.stats.bytes (32 * p.len.toNat) } }) s

/-- A packet enters the fabric at its NI's router, its flits as far as the buffers take them. -/
def enter (i : Fin 300) (p : Packet) (s : State) : State :=
  let p := { p with slot := 0 }
  let f : Flight := { pkt := p, id := s.fab.flights, taken := [], trail := [(niChan i (vnOf p.cmd), 1)] }
  let s := flow (countInject i p (setFab (fun x => { x with net := x.net ++ [f], flights := x.flights + 1 }) s))
  cairnSee (niNode i) (if i.1 < 288 then 4 else 5) false p s

/-- A request injected: tag, generation, credit, tokens, timer (R211..R216). A reissue keeps its tag (R198). -/
def injectReq (i : Fin 300) (k : Nat) (r : Req) (tag : BitVec 10) (s : State) : State :=
  let x := s.ni i
  let tag := if r.again then r.pkt.tag else tag
  let p := routed s i r.dst { r.pkt with tag := tag, gen := x.genOf tag }
  let c : Fin 4 := ⟨r.pkt.cls.toNat, r.pkt.cls.isLt⟩
  let s := if r.owner.isMcast then s else setCredit i r.dst (s.credit i r.dst - 1) s
  let s := setNi i (fun x => { x.spend c s.clk.tempo (1 + p.len.toNat) with
    nextTag := if r.again then x.nextTag else tag + 1
    reqs := (x.reqs.set k { r with pkt := p, sent := some s.clk.tempo, got := 0, again := false }).map fun q =>
      if r.together q then { q with pkt := { p with dest := q.dst }, sent := some s.clk.tempo, got := 0 } else q }) s
  enter i p s

/-- PACKET_INJECT (R213): a reply first, never metered; else the eligible request of the highest class. The virtual networks do not wait
for one another: a reply without a buffer credit leaves the requests their turn. -/
def execPacketInject (i : Fin 300) (s : State) : Out :=
  match (s.ni i).rsp, s.niRoom i 1, s.candidate i with
  | p :: more, true, _ => act s true (enter i (routed s i p.dest p) (setNi i (fun x => { x with rsp := more }) s))
  | _, _, some (k, r) => act s true (injectReq i k r ((s.ni i).freeTag.getD 0) s)
  | _, _, none => .next s

/-! ### Routers (R198..R204, R209) -/

/-- Direction opposite to one of travel: 0 N, 1 E, 2 S, 3 W. -/
def opposite (d : Nat) : Nat := (d + 2) % 4

/-- Left of a direction of travel (R201): E to N, N to W, W to S, S to E. -/
def leftOf (d : Nat) : Nat := (d + 3) % 4
/-- Right of it. -/
def rightOf (d : Nat) : Nat := (d + 1) % 4

/-- Where a packet goes from its router: none ejects; and the next turn index. -/
def Packet.nextDir (p : Packet) : Option Nat × BitVec 5 :=
  let xy := (xyDir p.at_ p.dest, p.turnIx)
  if p.mode ≠ 1 then xy
  else match p.dir with
    | none => (some p.firstDir.toNat, 0)
    | some d =>
      if p.turnIx.toNat = p.srcLen.toNat + 1 then xy
      else match fld p.turns (2 * p.turnIx.toNat) 2 with
        | 0 => (some d.toNat, p.turnIx + 1)
        | 1 => (some (leftOf d.toNat), p.turnIx + 1)
        | 2 => (some (rightOf d.toNat), p.turnIx + 1)
        | _ => (none, p.turnIx)

/-- The virtual channel of a hop (R199). -/
def hopVc (p : Packet) (d : Nat) : Bool :=
  let same := match p.dir with | some o => decide (o.toNat % 2 = d % 2) | none => true
  (same && p.vc) || isWrap p.at_ d

/-- A packet one hop on, in the next router. -/
def Packet.hop (p : Packet) (d : Nat) (ix : BitVec 5) (t : Nat) : Packet :=
  { p with at_ := neighbour p.at_ d, dir := some (BitVec.ofNat 2 d), vc := hopVc p d, turnIx := ix, since := t }

/-- The NI of a node's L or V port. -/
def portNi (node : Nat) (v : Bool) : Option (Fin 300) := topoNi (BitVec.ofNat 64 (node + b2n v * 2 ^ 9))

/-- A discarded packet (R198, R209): counted and logged with the link or node. -/
def dropPacket (where_ : Nat) (s : State) : State :=
  logEvent 0x09 7 (wd where_) 0 (setFab (fun x => { x with headDrop := satAdd x.headDrop 1 }) s)

/-- Slots in use of a core's landing store (R205): requests until their reply is injected, messages until RECV takes them. -/
def State.landingUsed (s : State) (n : Fin 288) : Nat :=
  let x := s.ni (coreNi n)
  let c := s.grid.core[n]
  (x.rx.filter fun p => decide (vnOf p.cmd ≠ 1) && !tierCmd p.cmd).length + (x.rsp.filter fun p => decide (p.slot = 1)).length
    + (c.box.toList.map (·.length)).sum + c.landing.length

/-- Slots in use of a core's tier store (12_tiers.md R236). -/
def Ni.tierUsed (x : Ni) : Nat := (x.rx.filter fun p => tierCmd p.cmd).length + (x.rsp.filter fun p => decide (p.slot = 2)).length

/-- An NI can take a packet: a request or message of a core needs a landing slot, which its credit holds for it (R205). -/
def State.canEject (s : State) (i : Fin 300) (p : Packet) : Bool :=
  if h : i.1 < 288 then decide (vnOf p.cmd = 1) || tierCmd p.cmd || decide (s.landingUsed ⟨i.1, h⟩ < 128) else true

/-- A packet reaches an NI. A tier store whose 32 slots are full answers U_BUSY (12_tiers.md R236). A retired core takes only what
empties its pool (R247); its requesters time out (08_grid_cores.md R160). -/
def eject (i : Fin 300) (p : Packet) (s : State) : State :=
  if decide (i.1 < 288) && !tierCmd p.cmd && s.isRetired (unit uCore i.1) then s
  else if decide (i.1 < 288) && isU p.cmd && decide (32 ≤ (s.ni i).tierUsed) then respond i p 0xC2 0 (fun r => { r with slot := 0 }) s
  else setNi i (fun x => { x with rx := x.rx ++ [p] }) s

/-- An NI checks the flits it receives (R198). -/
def niReceive (p : Packet) (v : Bool) (e : FlitError) (s : State) : State :=
  match portNi p.at_ v with
  | none => s
  | some i => match e with
    | .doubleHead => dropPacket p.at_ s
    | .cpar => dropPacket p.at_ s
    | .doubleBody => eject i { p with poison := true } s
    | _ => eject i p s

/-- The ports in a tree's mask at a router: 0..3 N, E, S, W, 4 L, 5 V (R203). -/
def State.treePorts (s : State) (tree : BitVec 8) (node : Nat) : List Nat :=
  match s.fab.trees.find? fun t => decide (t.1 = tree) with
  | none => []
  | some (_, m) => (List.range 6).filter fun d => bit (look m node (0 : BitVec 6)) d

/-- The output ports that a packet is to leave its router by. -/
def State.outputs (s : State) (p : Packet) : List Nat :=
  if p.mode = 2 then s.treePorts p.tree p.at_ else match p.nextDir.1 with | some d => [d] | none => [if p.dportV then 5 else 4]

/-- The link on which a packet arrived. -/
def Packet.inLink (p : Packet) : Option Nat := p.dir.map fun d => linkOf p.at_ (opposite d.toNat)

/-- The channel that a flight's head is in. -/
def Flight.head (f : Flight) : Nat := (f.trail.head?.map (·.1)).getD 0

/-- The flight's head is the oldest flit of its channel (R200: buffers are first in, first out). k: its place. -/
def State.headOfLine (s : State) (k : Nat) (f : Flight) : Bool :=
  ((s.fab.net.take k).all fun g => decide (g.head ≠ f.head))
    && s.fab.net.all fun g => decide (g.id = f.id) || decide (g.head = f.head) || (g.span f.head).isNone

/-- A packet other than this one holds an output port toward a neighbour: its tail has not passed (R200). -/
def State.portHeld (s : State) (id node d : Nat) : Bool :=
  s.fab.net.any fun g => decide (g.id ≠ id) && g.trail.any fun x =>
    decide (x.1 / 6 = neighbour node d * 6 + opposite d) && decide (x.2 < g.pkt.flits)

/-- A branch can be taken: the packet's virtual channel at the next router has a buffer and the port is free, or the NI has room. A hop onto
a retired link takes nothing: the packet is discarded (R209). -/
def State.canTake (s : State) (f : Flight) (o : Nat) : Bool :=
  let p := f.pkt
  if o < 4 then
    s.fab.deadLinks.contains (linkOf p.at_ o)
      || (decide (0 < s.bufCredits (chanOf (neighbour p.at_ o) (opposite o) (vnOf p.cmd) (hopVc p o))) && !s.portHeld f.id p.at_ o)
  else match portNi p.at_ (o == 5) with
    | some i => s.canEject i p
    | none => true

/-- The branches that a flight still has to take. -/
def State.wants (s : State) (f : Flight) : List Nat := (s.outputs f.pkt).filter fun o => !f.taken.contains o

/-- An output port's turn: the flight's input virtual channel comes next after the one granted last, among those that contend (R200). -/
def State.granted (s : State) (f : Flight) (o : Nat) : Bool :=
  let turn := fun (g : Flight) => (g.head % 36 + 35 - look s.fab.grants (8 * f.pkt.at_ + o) 35) % 36
  s.fab.net.zipIdx.all fun (g, k) =>
    !(decide (g.pkt.at_ = f.pkt.at_) && decide (g.id ≠ f.id) && s.headOfLine k g && (s.wants g).contains o && s.canTake g o)
      || decide (turn f ≤ turn g)

/-- A packet leaves its router through a direction or a port. -/
def forward (f : Flight) (o : Nat) (e : FlitError) (s : State) : State :=
  let p := f.pkt
  let s := setFab (fun x => { x with grants := put x.grants (8 * p.at_ + o) (f.head % 36) }) s
  if o < 4 then
    if s.fab.deadLinks.contains (linkOf p.at_ o) then dropPacket (linkOf p.at_ o) s
    else
      let q := p.hop o (if p.mode = 2 then p.turnIx else p.nextDir.2) s.clk.tempo
      let s := cairnSee p.at_ o true { p with vc := q.vc } s
      let g : Flight := { f with pkt := q, taken := [], trail := (chanOf q.at_ (opposite o) (vnOf q.cmd) q.vc, 1) :: f.trail }
      cairnSee q.at_ (opposite o) false q (setFab (fun x => { x with net := x.net ++ [g] }) s)
  else niReceive p (o == 5) e (cairnSee p.at_ o true p s)

/-- A flight taken out of the fabric; every buffer it held is free. -/
def dropFlight (k : Nat) (s : State) : State := setFab (fun x => { x with net := x.net.eraseIdx k }) s

/-- What a router's check of a packet does to it (R198): the packet that goes on, none when it is discarded. -/
def checkFlits (e : FlitError) (p : Packet) (s : State) : Option Packet × State :=
  let link := p.inLink
  let discard := (none, dropPacket (link.getD p.at_) (match link with | some l => strike (unit uLink l) s | none => s))
  match e with
  | .doubleHead => discard
  | .cpar => discard
  | .doubleBody => (some { p with poison := true }, s)
  | .single => (some p, match link with
    | some l => setFab (fun x => { x with linkErrs := put x.linkErrs l (look x.linkErrs l 0 + 1) }) s
    | none => s)
  | .none => (some p, s)

/-- A router checks a packet and sends it on by the ports granted to it; a branching router keeps it until every branch has taken it
(R204). A retired router's packets are discarded (R209), and so is a multicast packet of a tree that no longer stands. -/
def routeFlight (k : Nat) (f : Flight) (e : FlitErrors) (s : State) : State :=
  if s.fab.deadRouters.contains f.pkt.at_ then dropPacket f.pkt.at_ (dropFlight k s)
  else
    let (p, s) := if f.taken.isEmpty then checkFlits e.router f.pkt s else (some f.pkt, s)
    match p with
    | none => dropFlight k s
    | some p =>
      let f := { f with pkt := p }
      let now := (s.wants f).filter fun o => s.canTake f o && s.granted f o
      let later := (s.wants f).filter fun o => !now.contains o
      let s := if later.isEmpty then dropFlight k s
        else setFab (fun x => { x with net := x.net.set k { f with taken := f.taken ++ now } }) s
      if (s.outputs p).isEmpty then dropPacket p.at_ s else now.foldl (fun s o => forward f o e.ni s) s

/-- The k-th flight can go on: its head is first in its channel and a port is granted to it, or it is to be discarded. -/
def State.canHop (s : State) (k : Nat) (f : Flight) (e : FlitErrors) : Bool :=
  s.headOfLine k f && (s.fab.deadRouters.contains f.pkt.at_ || (s.outputs f.pkt).isEmpty
    || (f.taken.isEmpty && (e.router == .doubleHead || e.router == .cpar))
    || (s.wants f).any fun o => s.canTake f o && s.granted f o)

/-- PACKET_HOP (R199): the k-th packet in the fabric, with what its flits show. -/
def execPacketHop (k : Nat) (e : FlitErrors) (s : State) : Out :=
  match s.fab.net[k]? with
  | none => .next s
  | some f => act s (s.canHop k f e) (flow (routeFlight k f e s))

/-- STALL_PURGE (R218). -/
def execStallPurge (k : Nat) (s : State) : Out :=
  match s.fab.net[k]? with
  | none => .next s
  | some f => act s (decide (f.pkt.since + ms < s.clk.tempo))
      (logEvent 0x09 7 (wd f.pkt.at_) 0 (flow (setFab (fun x => { x with
        net := x.net.eraseIdx k, stallPurge := satAdd x.stallPurge 1, irq := setBit x.irq 1 true }) s)))

/-- A packet partly sent across a link. -/
def Flight.across (f : Flight) (l : Nat) : Bool := f.trail.any fun x =>
  let port := x.1 / 6 % 6
  decide (port < 4) && decide (linkOf (x.1 / 36) port = l) && decide (x.2 < f.pkt.flits)

/-- A link retired (R209): its packets, those that wait for it or are partly across it, are discarded. -/
def purgeLink (l : Nat) (s : State) : State :=
  let queued := fun (f : Flight) => (s.wants f).any fun o => decide (o < 4) && decide (linkOf f.pkt.at_ o = l)
  let lost := s.fab.net.filter fun f => f.across l || queued f
  flow (lost.foldl (fun s _ => dropPacket l s) (setFab (fun x => { x with net := x.net.filter fun f => !lost.contains f }) s))

/-- A router retired (R209): what waits in it is discarded, and what its four links hold. -/
def purgeRouter (n : Nat) (s : State) : State :=
  let lost := s.fab.net.filter fun f => decide (f.pkt.at_ = n)
  let s := lost.foldl (fun s _ => dropPacket n s) (setFab (fun x => { x with net := x.net.filter fun f => !lost.contains f }) s)
  (List.range 4).foldl (fun s d => purgeLink (linkOf n d) s) s

/-! ### Topo writes and holds (R208) -/

/-- The hops of a packet from its router on: node, direction and virtual channel; and the router where it ends. -/
def Packet.walk : Nat → Packet → List (Nat × Nat × Bool) × Nat
  | 0, p => ([], p.at_)
  | fuel + 1, p =>
    match p.nextDir with
    | (none, _) => ([], p.at_)
    | (some d, ix) =>
      let (hs, z) := Packet.walk fuel (p.hop d ix 0)
      ((p.at_, d, hopVc p d) :: hs, z)

/-- The hops that an entry gives a packet of an NI. -/
def entryWalk (i : Fin 300) (e : BitVec 64) : List (Nat × Nat × Bool) × Nat :=
  Packet.walk 64 { blank with
    dest := fld e 0 9, mode := BitVec.ofNat 2 (fld e 10 1), srcLen := BitVec.ofNat 4 (fld e 14 4)
    firstDir := BitVec.ofNat 2 (fld e 18 2), turns := hi e, at_ := niNode i }

/-- The channels used in succession on a walk (R202): the edges of the channel-dependency graph. -/
def edgesOf (hs : List (Nat × Nat × Bool)) : List ((Nat × Nat × Bool) × (Nat × Nat × Bool)) := hs.zip (hs.drop 1)

/-- Edges whose source no edge enters taken away, time after time: a graph without cycles loses all. -/
def peel : Nat → List ((Nat × Nat × Bool) × (Nat × Nat × Bool)) → List ((Nat × Nat × Bool) × (Nat × Nat × Bool))
  | 0, es => es
  | n + 1, es => peel n (es.filter fun e => es.any fun f => decide (f.2 = e.1))

/-- Every XY path's edges. -/
def xyEdges : List ((Nat × Nat × Bool) × (Nat × Nat × Bool)) :=
  (List.range 288).flatMap fun a => (List.range 288).flatMap fun b => edgesOf (Packet.walk 64 { blank with dest := b, at_ := a }).1

/-- The edges of the source routes installed. -/
def State.routeEdges (s : State) : List ((Nat × Nat × Bool) × (Nat × Nat × Bool)) :=
  s.fab.topo.flatMap fun t => if h : t.1 < 300 then (if fld t.2.2 10 2 = 1 then edgesOf (entryWalk ⟨t.1, h⟩ t.2.2).1 else []) else []

/-- The turn rule of R202, and the limit of R218: no route longer than 40 links. -/
def State.turnRule (s : State) (i : Fin 300) (e : BitVec 64) : Bool :=
  let (hs, z) := entryWalk i e
  let ring := fun (h : Nat × Nat × Bool) => if h.2.1 % 2 = 0 then nodeX h.1 else nodeY h.1
  let wraps := (hs.filter fun h => isWrap h.1 h.2.1).map fun h => linkOf h.1 h.2.1
  decide (z = fld e 0 9) && decide (hs.length ≤ 40)
    && hs.all (fun h => hs.all fun k => !(decide (k.2.1 = opposite h.2.1) && decide (ring h = ring k)))
    && decide (wraps.eraseDups.length = wraps.length)
    && hs.all (fun h => !s.fab.deadLinks.contains (linkOf h.1 h.2.1) && !s.fab.deadRouters.contains (neighbour h.1 h.2.1))
    && (peel 2304 ((xyEdges ++ s.routeEdges ++ edgesOf hs).eraseDups)).isEmpty

/-- TOPO_ENTRY_WRITE (R208, R202): a source route only under the turn rule; the new entry governs later injections; ORDERED holds them while earlier ones are open. -/
def execTopoEntryWrite (i : Fin 300) (dest : Nat) (e : BitVec 64) (s : State) : Out :=
  act s (s.sterdo && (decide (dest < s.grid.width) || (serviceIx dest).isSome)
      && (decide (fld e 10 2 ≠ 1) || s.turnRule i e))
    (let s := setFab (fun x => { x with topo := x.topo.filter (fun t => !(t.1 = i.1 && t.2.1 = dest)) ++ [(i.1, dest, e)] }) s
     if bit e 12 && ((s.ni i).outstanding.any fun r => r.dst = dest) && !(s.ni i).hold.contains dest then
       setNi i (fun x => { x with hold := x.hold ++ [dest] }) s
     else s)

/-- ORDERED_HOLD_END (R208). -/
def execOrderedHoldEnd (i : Fin 300) (dest : Nat) (s : State) : Out :=
  act s ((s.ni i).hold.contains dest && !(s.ni i).outstanding.any fun r => decide (r.dst = dest))
    (setNi i (fun x => { x with hold := x.hold.filter fun d => d ≠ dest }) s)

/-! ### Registers (Tables 10.7, 11.5) -/

/-- Words of a dead-unit bitmap. -/
def bitmap (l : List Nat) (m : Nat) : Word := (List.range 32).foldl (fun (w : Word) k => if l.contains (32 * m + k) then setBit w k true else w) 0

/-- FAB_BELAY_ACTIVE. -/
def belayActive (s : State) : Nat :=
  s.fab.belays.foldl (fun m b => m ||| 2 ^ (match b.dom with | .row y => y.1 | .s23 => 16 | .dram => 17 | .hostLink => 18)) 0

/-- Destinations that an initiator reaches by source route. -/
def State.sourceRoutes (s : State) : Nat := (s.fab.topo.filter fun t => fld t.2.2 10 2 = 1 && bit t.2.2 13).length

/-- A read of a FAB register; HI words are live. -/
def readFab (o : Nat) (s : State) : Option Word :=
  let w := s.fab.window
  match o with
  | 0x80090 => some (wd (min 511 s.sourceRoutes + s.fab.trees.length * 2 ^ 16))
  | 0x80094 => some s.fab.headDrop
  | 0x80098 => some s.fab.poison
  | 0x80400 => some (s.fab.sel.setWidth 32)
  | 0x80440 => some ((w.map fun x => lo x.stats.bytes).getD 0)
  | 0x80444 => some ((w.map fun x => hi x.stats.bytes).getD 0)
  | 0x80448 => some ((w.map fun x => lo x.stats.pkts).getD 0)
  | 0x8044C => some ((w.map fun x => hi x.stats.pkts).getD 0)
  | 0x80450 => some ((w.map fun x => x.stats.timeouts).getD 0)
  | 0x80454 => some ((w.map fun x => x.stats.late).getD 0)
  | 0x804C0 => some (wd (belayActive s))
  | 0x804C4 => some (s.fab.belayAbort.setWidth 32)
  | 0x804C8 => some s.fab.stallPurge
  | 0x804D0 => some (s.fab.irq.setWidth 32)
  | 0x804D4 => some (s.fab.irqEn.setWidth 32)
  | 0x80A00 => some (wd (b2n s.fab.wrap + s.fab.trace.length * 2 + b2n s.fab.stopped * 2 ^ 13))
  | 0x80A04 => some s.fab.lost
  | _ =>
    match slot o 0x80010 4 18, slot o 0x80060 4 9, slot o 0x80410 4 4, slot o 0x80420 4 4, slot o 0x80480 4 16, slot o 0x80800 0x20 16 with
    | some (m, 0), _, _, _, _, _ => some (bitmap s.fab.deadLinks m.1)
    | _, some (m, 0), _, _, _, _ => some (bitmap s.fab.deadRouters m.1)
    | _, _, some (c, 0), _, _, _ => some ((w.map fun x => wd (x.rate[c].toNat + x.burst[c].toNat * 2 ^ 16)).getD 0)
    | _, _, _, some (c, 0), _, _ => some ((w.map fun x => x.toUs[c].setWidth 32).getD (if 300 ≤ s.fab.sel.toNat then 0 else 200))
    | _, _, _, _, some (k, 0), _ => some ((w.map fun x => x.stats.hist[k]).getD 0)
    | _, _, _, _, _, some (n, k) =>
      let c := s.fab.cairn[n]
      match k with
      | 0x00 => some (wd (c.cfg.toNat + b2n c.triggered * 2 ^ 25))
      | 0x04 => some (lo c.match_)
      | 0x08 => some (hi c.match_)
      | 0x0C => some (lo c.mask)
      | 0x10 => some (hi c.mask)
      | 0x14 => some c.pkts
      | 0x18 => some c.flits
      | _ => none
    | _, _, _, _, _, _ => none

/-- A full write of a FAB register; FAB_SEL has its own row. -/
def writeFab (o : Nat) (v : Word) (s : State) : State :=
  match o with
  | 0x804D0 => setFab (fun x => { x with irq := x.irq &&& ~~~(v.setWidth 4) }) s
  | 0x804D4 => setFab (fun x => { x with irqEn := v.setWidth 4 }) s
  | _ => s

/-- The RC clears of a full read of a FAB register. -/
def readFabEffect (o : Nat) (s : State) : State :=
  match o with
  | 0x80094 => setFab (fun x => { x with headDrop := 0 }) s
  | 0x80098 => setFab (fun x => { x with poison := 0 }) s
  | 0x804C4 => setFab (fun x => { x with belayAbort := 0 }) s
  | 0x804C8 => setFab (fun x => { x with stallPurge := 0 }) s
  | 0x80A04 => setFab (fun x => { x with lost := 0 }) s
  | _ =>
    match slot o 0x80800 0x20 16 with
    | some (n, 0x14) => setFab (fun x => { x with cairn := modAt x.cairn n fun c => { c with pkts := 0 } }) s
    | some (n, 0x18) => setFab (fun x => { x with cairn := modAt x.cairn n fun c => { c with flits := 0 } }) s
    | _ => s

end Sys2Proof.Machine
end

