-- ==== Sys2Proof/Machine/Flags.lean ====
section
/-! DEFINITION. Arithmetic of the core's element types (09_core_isa.md R174, Table 9.2): IEEE 754 formats with rounding to
nearest, ties to even, and subnormals; E4M3 saturates; comparisons that set a predicate (Table 9.3 CMP, PRED). The part has
no flags register: predicates are its flags. -/

namespace Sys2Proof.Machine

/-- A signed value of w bits. -/
def sint (w x : Nat) : Int := let y := x % 2 ^ w; if 2 ^ (w - 1) ≤ y then (y : Int) - 2 ^ w else y
/-- The low w bits of an integer. -/
def uint (w : Nat) (x : Int) : Nat := (x % 2 ^ w).toNat

/-! ### Formats -/

/-- A floating-point format: exponent bits, mantissa bits, infinity or not. -/
structure Fmt where
  eb : Nat
  mb : Nat
  inf : Bool

/-- Width of a format. -/
def Fmt.width (f : Fmt) : Nat := f.eb + f.mb + 1
/-- Bias. -/
def Fmt.bias (f : Fmt) : Int := 2 ^ (f.eb - 1) - 1

/-- FP8 E4M3. -/
def fE4M3 : Fmt := { eb := 4, mb := 3, inf := false }
/-- FP8 E5M2. -/
def fE5M2 : Fmt := { eb := 5, mb := 2, inf := true }
/-- bfloat16. -/
def fBf16 : Fmt := { eb := 8, mb := 7, inf := true }
/-- FP16. -/
def fFp16 : Fmt := { eb := 5, mb := 10, inf := true }
/-- FP32. -/
def fFp32 : Fmt := { eb := 8, mb := 23, inf := true }

/-- A value: NaN, an infinity, or sign, magnitude m and exponent e with value m 2^e. -/
inductive Fl where
  | nan
  | inf (neg : Bool)
  | num (neg : Bool) (m : Nat) (e : Int)

/-- The value of bits. -/
def Fl.ofBits (f : Fmt) (x : Nat) : Fl :=
  let neg := decide (x / 2 ^ (f.eb + f.mb) % 2 = 1)
  let e := x / 2 ^ f.mb % 2 ^ f.eb
  let m := x % 2 ^ f.mb
  if e = 2 ^ f.eb - 1 && f.inf then (if m = 0 then .inf neg else .nan)
  else if e = 2 ^ f.eb - 1 && m = 2 ^ f.mb - 1 then .nan
  else if e = 0 then .num neg m (1 - f.bias - f.mb)
  else .num neg (m + 2 ^ f.mb) (e - f.bias - f.mb)

/-- m / 2^r rounded to nearest, ties to even. -/
def shiftRne (m r : Nat) : Nat :=
  let q := m / 2 ^ r
  let rem := 2 * (m % 2 ^ r)
  if rem < 2 ^ r then q else if 2 ^ r < rem then q + 1 else q + q % 2

/-- A sign and a magnitude in a format. -/
def withSign (f : Fmt) (neg : Bool) (x : Nat) : Nat := if neg then 2 ^ (f.eb + f.mb) + x else x

/-- The overflow of a format: infinity, or 448 for E4M3. -/
def overBits (f : Fmt) : Nat := if f.inf then (2 ^ f.eb - 1) * 2 ^ f.mb else (2 ^ f.eb - 1) * 2 ^ f.mb + 2 ^ f.mb - 2

/-- m 2^e rounded into a format (R174). -/
def roundBits (f : Fmt) (neg : Bool) (m : Nat) (e : Int) : Nat :=
  if m = 0 then withSign f neg 0
  else
    let top := (Nat.log2 m : Int) + e
    let q := max top (1 - f.bias) - f.mb
    let x := if q ≤ e then m * 2 ^ (e - q).toNat else shiftRne m (q - e).toNat
    let (x, q) := if x = 2 ^ (f.mb + 1) then (2 ^ f.mb, q + 1) else (x, q)
    let bits := if x < 2 ^ f.mb then x else ((q + f.mb + f.bias).toNat) * 2 ^ f.mb + (x - 2 ^ f.mb)
    withSign f neg (if bits < overBits f || (bits = overBits f && !f.inf) then bits else overBits f)

/-- A NaN result: quiet, its sign and payload open (log entry 10); E4M3 has one NaN magnitude. -/
def nanBits (f : Fmt) (op a b : Nat) : Nat :=
  let r := Config.nanPayload f.width op a b
  if f.inf then withSign f (r % 2 = 1) ((2 ^ f.eb - 1) * 2 ^ f.mb + 2 ^ (f.mb - 1) + r / 2 % 2 ^ (f.mb - 1))
  else withSign f (r % 2 = 1) (2 ^ (f.eb + f.mb) - 1)

/-- The bits of a value in a format; op, a, b name a NaN's source. -/
def Fl.bits (f : Fmt) (op a b : Nat) : Fl → Nat
  | .nan => nanBits f op a b
  | .inf n => withSign f n (overBits f)
  | .num n m e => roundBits f n m e

/-- A sign times a magnitude. -/
def smul (n : Bool) (m : Nat) : Int := if n then -(m : Int) else m

/-- The exact sum. A zero sum is +0 unless both are -0. -/
def Fl.add : Fl → Fl → Fl
  | .nan, _ => .nan
  | _, .nan => .nan
  | .inf a, .inf b => if a = b then .inf a else .nan
  | .inf a, _ => .inf a
  | _, .inf b => .inf b
  | .num a m e, .num b n g =>
    let k := min e g
    let x := smul a (m * 2 ^ (e - k).toNat) + smul b (n * 2 ^ (g - k).toNat)
    if x = 0 then .num (a && b) 0 k else .num (decide (x < 0)) x.natAbs k

/-- The exact product. -/
def Fl.mul : Fl → Fl → Fl
  | .nan, _ => .nan
  | _, .nan => .nan
  | .inf a, .inf b => .inf (a != b)
  | .inf a, .num b n _ => if n = 0 then .nan else .inf (a != b)
  | .num a m _, .inf b => if m = 0 then .nan else .inf (a != b)
  | .num a m e, .num b n g => .num (a != b) (m * n) (e + g)

/-- The negation. -/
def Fl.neg : Fl → Fl
  | .nan => .nan
  | .inf a => .inf (!a)
  | .num a m e => .num (!a) m e

/-- x is less than y; -0 lies below +0. -/
def Fl.lt : Fl → Fl → Bool
  | .inf true, .inf true => false
  | .inf true, _ => true
  | _, .inf true => false
  | .inf false, _ => false
  | _, .inf false => true
  | .num a m e, .num b n g =>
    let k := min e g
    let x := smul a (m * 2 ^ (e - k).toNat)
    let y := smul b (n * 2 ^ (g - k).toNat)
    decide (x < y) || (decide (x = y) && a && !b)
  | _, _ => false

/-- Lesser of two; NaN with either operand (log entry 10). -/
def Fl.min : Fl → Fl → Fl
  | .nan, _ => .nan
  | _, .nan => .nan
  | a, b => if Fl.lt b a then b else a

/-- Greater of two. -/
def Fl.max : Fl → Fl → Fl
  | .nan, _ => .nan
  | _, .nan => .nan
  | a, b => if Fl.lt a b then b else a

/-- The nearest integer, ties to even; none for NaN and infinity. -/
def Fl.toInt : Fl → Option Int
  | .num a m e => some (smul a (if 0 ≤ e then m * 2 ^ e.toNat else shiftRne m (-e).toNat))
  | _ => none

/-- An integer as a value. -/
def Fl.ofInt (x : Int) : Fl := .num (decide (x < 0)) x.natAbs 0

/-! ### Element types (Table 9.2) -/

/-- An element type: an integer of some bits, or a format. -/
inductive Elem where
  | int (w : Nat)
  | flt (f : Fmt)

/-- The vector type of a DT. -/
def vecElem (dt : Nat) : Elem :=
  match dt with
  | 0 => .int 8 | 1 => .int 16 | 2 => .int 32 | 3 => .flt fE4M3 | 4 => .flt fE5M2 | 5 => .flt fBf16 | 6 => .flt fFp16 | _ => .flt fFp32

/-- The tensor type of an FN; 6 and 7 are reserved. -/
def tenElem (fn : Nat) : Option Elem :=
  match fn with
  | 0 => some (.int 8) | 1 => some (.int 4) | 2 => some (.flt fE4M3) | 3 => some (.flt fE5M2) | 4 => some (.flt fBf16)
  | 5 => some (.flt fFp16) | _ => none

/-- Bits of an element. -/
def Elem.width : Elem → Nat | .int w => w | .flt f => f.width

/-- A lane-wise operation on bits: VALU FN 0x00..0x08, d the old destination (VFMA). -/
def laneOp (t : Elem) (fn d a b : Nat) : Nat :=
  let w := t.width
  match fn, t with
  | 6, _ => a &&& b
  | 7, _ => a ||| b
  | 8, _ => a ^^^ b
  | 0, .int _ => (a + b) % 2 ^ w
  | 1, .int _ => (a + 2 ^ w - b) % 2 ^ w
  | 2, .int _ => a * b % 2 ^ w
  | 3, .int _ => (d + a * b) % 2 ^ w
  | 4, .int _ => if sint w a ≤ sint w b then a else b
  | 5, .int _ => if sint w a ≤ sint w b then b else a
  | fn, .flt f =>
    let x := Fl.ofBits f a
    let y := Fl.ofBits f b
    Fl.bits f fn a b (match fn with
      | 0 => x.add y
      | 1 => x.add y.neg
      | 2 => x.mul y
      | 3 => (Fl.ofBits f d).add (x.mul y)
      | 4 => x.min y
      | _ => x.max y)
  | _, _ => a

/-- A value clamped to a signed range. -/
def clampInt (w : Nat) (x : Int) : Int := max (-(2 ^ (w - 1))) (min (2 ^ (w - 1) - 1) x)

/-- A conversion of one element (VCVT): none where no rule states the value (NaN to an integer, an infinity to a wrapped one). -/
def convert (a b : Elem) (sat : Bool) (x : Nat) : Option Nat :=
  let toI := fun (w : Nat) (v : Int) => uint w (if sat then clampInt w v else v)
  match a, b with
  | .int v, .int w => some (toI w (sint v x))
  | .int v, .flt f => some (Fl.bits f 0x14 x 0 (Fl.ofInt (sint v x)))
  | .flt f, .int w =>
    match Fl.ofBits f x with
    | .nan => none
    | .inf n => if sat then some (uint w (if n then -(2 ^ (w - 1)) else 2 ^ (w - 1) - 1)) else none
    | y => (y.toInt).map (toI w)
  | .flt f, .flt g => some (Fl.bits g 0x14 x 0 (Fl.ofBits f x))

/-! ### Scalar comparisons and predicates (Table 9.3) -/

/-- CMP: FN 0 EQ, 1 NE, 2 LT, 3 LTU, 4 GE, 5 GEU. -/
def cmpFlag (fn : Nat) (a b : Word) : Bool :=
  match fn with
  | 0 => decide (a = b)
  | 1 => decide (a ≠ b)
  | 2 => decide (a.toInt < b.toInt)
  | 3 => decide (a.toNat < b.toNat)
  | 4 => decide (b.toInt ≤ a.toInt)
  | _ => decide (b.toNat ≤ a.toNat)

/-- PRED: FN 0 AND, 1 OR, 2 XOR, 3 ANDN. -/
def predFlag (fn : Nat) (a b : Bool) : Bool :=
  match fn with
  | 0 => a && b
  | 1 => a || b
  | 2 => a != b
  | _ => a && !b

/-! ### Special functions (Table 9.3 VSPEC: error at most 2 units in the last place) -/

/-- A term x^k / k! of the exponential series after another, in units of 2^-256. -/
def expStep (x : Nat) (a : Nat × Nat) (k : Nat) : Nat × Nat :=
  let t := a.2 * x / 2 ^ 256 / (k + 1)
  (a.1 + t, t)

/-- e^x, x below 256, both in units of 2^-256: the series at x / 512, then nine squarings. -/
def expFix (x : Nat) : Nat :=
  let y := ((List.range 48).foldl (expStep (x / 512)) (2 ^ 256, 2 ^ 256)).1
  (List.range 9).foldl (fun y _ => y * y / 2 ^ 256) y

/-- The square root of a number below 4^n, rounded down. -/
def isqrt (n a : Nat) : Nat :=
  (List.range n).reverse.foldl (fun r k => if (r + 2 ^ k) * (r + 2 ^ k) ≤ a then r + 2 ^ k else r) 0

/-- A positive quotient p / q rounded into a format; 600 bits decide the rounding. -/
def ratBits (f : Fmt) (neg : Bool) (p q : Nat) : Nat :=
  roundBits f neg (p * 2 ^ 600 / q * 2 + (if p * 2 ^ 600 % q = 0 then 0 else 1)) (-601)

/-- The value of VSPEC as a sign and a quotient: FN 0 EXP, 1 RECIP, 2 RSQRT, 3 TANH, 4 SIGMOID. None where there is no real one. -/
def specialReal (fn : Nat) : Fl → Option (Bool × Nat × Nat)
  | .nan => none
  | .inf neg =>
    match fn with
    | 0 => if neg then some (false, 0, 1) else some (false, 2 ^ 600, 1)
    | 1 => some (neg, 0, 1)
    | 2 => if neg then none else some (false, 0, 1)
    | 3 => some (neg, 1, 1)
    | _ => some (false, if neg then 0 else 1, 1)
  | .num neg m e =>
    let x := if 0 ≤ e + 256 then m * 2 ^ (e + 256).toNat else m / 2 ^ (-(e + 256)).toNat
    let big := decide (2 ^ (256 + 7) ≤ x)
    let a := if big then 0 else expFix x
    let b := if big then 0 else expFix (2 * x)
    match fn with
    | 0 => if big then some (false, if neg then 0 else 2 ^ 600, 1) else if neg then some (false, 2 ^ 256, a) else some (false, a, 2 ^ 256)
    | 1 => if m = 0 then none else if 0 ≤ e then some (neg, 1, m * 2 ^ e.toNat) else some (neg, 2 ^ (-e).toNat, m)
    | 2 =>
      if m = 0 || neg then none
      else
        let (m, e) := if e % 2 = 0 then (m, e) else (2 * m, e - 1)
        let r := isqrt 260 (2 ^ 512 / m)
        if 0 ≤ e then some (false, r, 2 ^ (256 + (e / 2).toNat)) else some (false, r * 2 ^ (-(e / 2)).toNat, 2 ^ 256)
    | 3 => if big then some (neg, 1, 1) else some (neg, b - 2 ^ 256, b + 2 ^ 256)
    | _ =>
      if big then some (false, if neg then 0 else 1, 1)
      else some (false, if neg then 2 ^ 256 else a, a + 2 ^ 256)

/-- A magnitude c of a format lies within 2 units in the last place of p / q, the unit that of the nearest value b. -/
def within2 (f : Fmt) (p q b c : Nat) : Bool :=
  match Fl.ofBits f c, Fl.ofBits f (if b = overBits f then b - 1 else b) with
  | .num _ m e, .num _ _ u =>
    let x := m * 2 ^ (e + 600).toNat * q
    let y := p * 2 ^ 600
    decide (x - y + (y - x) ≤ 2 * 2 ^ (u + 600).toNat * q)
  | .inf _, _ => decide (b = overBits f)
  | _, _ => false

/-- A VSPEC result: any value within 2 units in the last place, which one Config.special says; a NaN of a NaN; where no real result
exists, Config.special alone (log entry 10). -/
def special (fn dt x : Nat) : Nat :=
  let f := if dt = 5 then fBf16 else fFp32
  let raw := Config.special fn dt x
  match Fl.ofBits f x with
  | .nan => nanBits f (0x15 + 2 ^ 8 * fn) x 0
  | v =>
    match specialReal fn v with
    | none => raw % 2 ^ f.width
    | some (neg, p, q) =>
      let b := ratBits f false p q
      let c := b + raw % 9 - 4
      withSign f neg (if c ≤ overBits f && within2 f p q b c then c else b)

end Sys2Proof.Machine
end

