-- ==== Sys2Proof/Machine/Operands.lean ====
section
/-! DEFINITION. The operand forms of a grid core's instructions (09_core_isa.md Table 9.1), fetch, guards, scratch
addresses and exceptions (R173, R179, R180, R192). -/

namespace Sys2Proof.Machine

/-- A core. -/
def State.core (s : State) (n : Fin 288) : Core := s.grid.core[n]

/-! ### Formats (Table 9.1); w holds bits 25..0 -/

/-- PG [25:23]. -/
def fPg (w : BitVec 26) : Nat := fld w 23 3
/-- RD [22:18] of formats A, I, U and M. -/
def fRd (w : BitVec 26) : Nat := fld w 18 5
/-- RS1 [17:13] of formats A, I and M. -/
def fRs1 (w : BitVec 26) : Nat := fld w 13 5
/-- RS2 [12:8] of formats A and M. -/
def fRs2 (w : BitVec 26) : Nat := fld w 8 5
/-- FN [7:0] of formats A and V. -/
def fFn (w : BitVec 26) : Nat := fld w 0 8
/-- IMM [12:0] of format I, signed. -/
def fImm (w : BitVec 26) : Int := sint 13 (fld w 0 13)
/-- IMM [17:0] of format U. -/
def fImmU (w : BitVec 26) : Nat := fld w 0 18
/-- OFF [22:0] of format B, signed words. -/
def fOffB (w : BitVec 26) : Int := sint 23 (fld w 0 23)
/-- VD [22:19] of formats V and VM. -/
def fVd (w : BitVec 26) : Nat := fld w 19 4
/-- VS1 [18:15] of format V. -/
def fVs1 (w : BitVec 26) : Nat := fld w 15 4
/-- VS2 [14:11] of format V. -/
def fVs2 (w : BitVec 26) : Nat := fld w 11 4
/-- DT [10:8] of format V. -/
def fDt (w : BitVec 26) : Nat := fld w 8 3
/-- RS1 [18:14] of format VM. -/
def fVmRs1 (w : BitVec 26) : Nat := fld w 14 5
/-- OFF [13:0] of format VM, signed, in 64 B units. -/
def fVmOff (w : BitVec 26) : Int := sint 14 (fld w 0 14)
/-- TD [22:20] of format T. -/
def fTd (w : BitVec 26) : Nat := fld w 20 3
/-- TS [19:17] of format T. -/
def fTs (w : BitVec 26) : Nat := fld w 17 3
/-- TT [16:14] of format T. -/
def fTt (w : BitVec 26) : Nat := fld w 14 3
/-- RS1 [13:9] of format T. -/
def fTRs1 (w : BitVec 26) : Nat := fld w 9 5
/-- RS2 [8:4] of format T. -/
def fTRs2 (w : BitVec 26) : Nat := fld w 4 5
/-- FN [3:0] of format T. -/
def fTFn (w : BitVec 26) : Nat := fld w 0 4
/-- MB [7:5] of format M. -/
def fMb (w : BitVec 26) : Nat := fld w 5 3
/-- LEN [4:1] of format M. -/
def fLen (w : BitVec 26) : Nat := fld w 1 4
/-- NB [0] of format M. -/
def fNb (w : BitVec 26) : Bool := bit w 0

/-! ### Registers -/

/-- g[r]. -/
def Core.getG (c : Core) (r : Nat) : Word := if h : r < 32 then c.g[r] else 0
/-- g[r] written. -/
def Core.setG (c : Core) (r : Nat) (x : Word) : Core := if h : r < 32 then { c with g := c.g.set r x } else c
/-- p[i]; p0 reads 1. -/
def Core.getP (c : Core) (i : Nat) : Bool := i % 8 == 0 || bit c.p (i % 8)
/-- p[i] written; p0 ignores writes. -/
def Core.setP (c : Core) (i : Nat) (b : Bool) : Core := if i % 8 = 0 then c else { c with p := setBit c.p (i % 8) b }
/-- v[i]. -/
def Core.getV (c : Core) (i : Nat) : VReg := if h : i < 16 then c.v[i] else 0
/-- v[i] written. -/
def Core.setV (c : Core) (i : Nat) (x : VReg) : Core := if h : i < 16 then { c with v := c.v.set i x } else c
/-- t[i]. -/
def Core.getT (c : Core) (i : Nat) : Tile := if h : i < 8 then c.t[i] else 0
/-- t[i] and its status written. -/
def Core.setT (c : Core) (i : Nat) (x : Tile) (st : BitVec 8) : Core :=
  if h : i < 8 then { c with t := c.t.set i x, tst := c.tst.set i st } else c
/-- The status of t[i]. -/
def Core.getTst (c : Core) (i : Nat) : BitVec 8 := if h : i < 8 then c.tst[i] else 0
/-- The status of t[i] written. -/
def Core.setTst (c : Core) (i : Nat) (st : BitVec 8) : Core := if h : i < 8 then { c with tst := c.tst.set i st } else c
/-- a[i]. -/
def Core.getA (c : Core) (i : Nat) : Acc := if h : i < 4 then c.acc[i] else 0
/-- a[i] and the class it received written. -/
def Core.setA (c : Core) (i : Nat) (x : Acc) (cls : Option Bool) : Core :=
  if h : i < 4 then { c with acc := c.acc.set i x, accFp := c.accFp.set i cls } else c

/-- No listed g register awaits a result (the scoreboard of R181). -/
def Core.free (c : Core) (rs : List Nat) : Bool := rs.all fun r => !bit c.gBusy r

/-! ### Fetch and retirement -/

/-- The core issues instructions. -/
def State.coreRuns (s : State) (n : Fin 288) : Bool := decide ((s.core n).run = .running)

/-- The instruction word at the program counter. -/
def State.fetch (s : State) (n : Fin 288) : Nat := natOf ((s.core n).imem.readN (s.core n).pc.toNat 4)

/-- The next instruction in order. -/
def coreNext (n : Fin 288) (s : State) : State := setCore n (fun c => { c with pc := c.pc + 4 }) s

/-- The core changed and the next instruction in order. -/
def retire (n : Fin 288) (f : Core → Core) (s : State) : State := coreNext n (setCore n f s)

/-! ### Exceptions (R192, Table 9.9) -/

/-- ILLEGAL. -/
def xIllegal : Nat := 1
/-- IMEM_RANGE. -/
def xRange : Nat := 2
/-- ALIGN. -/
def xAlign : Nat := 3
/-- ACCESS. -/
def xAccess : Nat := 4
/-- DEST. -/
def xDest : Nat := 5
/-- TILE_STATUS. -/
def xTile : Nat := 6
/-- ECC. -/
def xEcc : Nat := 7
/-- MAILBOX. -/
def xMailbox : Nat := 8

/-- An exception of a core (R192): the handler at EVEC, or the halt and the graph's fault. The faulting instruction has no
other effect. -/
def raise (n : Fin 288) (cause : Nat) (info : Word) (s : State) : State :=
  let c := s.core n
  if c.evec ≠ 0 && !c.handler then
    setCore n (fun c => { c with xpc := c.pc, xcause := wd cause, xinfo := info, pc := c.evec, handler := true }) s
  else
    let s := setCore n (fun c => { c with run := .halted }) s
    let s := logEvent 0x0A 9 (wd (cause + (s.logicalOf n).getD 0 * 2 ^ 8 + n.1 * 2 ^ 18)) info s
    match c.graph with
    | some g => graphFault g 0x3F s
    | none => s

/-- ILLEGAL of the instruction at hand (R173). -/
def illegal (n : Fin 288) (s : State) : State := raise n xIllegal (wd (s.fetch n)) s

/-- An instruction of a core: it takes place when the core runs and its word stands at the program counter. A guard that
awaits an AMO waits; a guard of 0 retires with no effect. The body answers none where the instruction has to wait. -/
def coreRow (n : Fin 288) (op : Nat) (w : BitVec 26) (fn : Bool) (s : State) (body : State → Option State) : Out :=
  let c := s.core n
  act s (s.coreRuns n && decide (s.fetch n = op * 2 ^ 26 + w.toNat) && fn)
    (if c.pBusy && decide (fPg w = 7) then s
     else if c.getP (fPg w) then (body s).getD s
     else coreNext n s)

/-- A body that waits until the registers it names are ready. -/
def whenFree (n : Fin 288) (rs : List Nat) (s : State) (k : Core → State) : Option State :=
  if (s.core n).free rs then some (k (s.core n)) else none

/-! ### Scratch addresses (R153, R179, R180) -/

/-- The first offset of the program's scratch. -/
def Core.scratchBase (c : Core) : Nat := (16 - c.scratch) * 0x20000

/-- A range of bytes lies in the scratch. -/
def Core.inScratch (c : Core) (a len : Nat) : Bool := decide (c.scratchBase ≤ a) && decide (a + len ≤ 0x200000)

/-- The tile operations that use local memory: TLD reads, TST writes (R180). -/
def TileOp.touches (o : TileOp) (a len : Nat) : Bool :=
  (o.op == 0x18 || o.op == 0x19) && decide (o.a.toNat < a + len) && decide (a < o.a.toNat + 4096)

/-- An earlier TST overlaps a range that is to be read. -/
def Core.readWaits (c : Core) (a len : Nat) : Bool := c.tq.any fun o => o.op == 0x19 && o.touches a len

/-- An earlier TLD or TST overlaps a range that is to be written. -/
def Core.writeWaits (c : Core) (a len : Nat) : Bool := c.tq.any fun o => o.touches a len

/-- The SRAM row that holds an offset of a node's home memory (23_repair.md Table 23.2). -/
def sramRow (n : Fin 288) (a : Nat) : UnitRef := unit uSram (n.1 * 2 ^ 15 + a / 0x20000 % 16 * 2 ^ 11 + a / 64 % 2048)

/-- What SECDED does to a read of a row (08_grid_cores.md R152): a corrected error is counted, an uncorrectable one makes
the row permanent and is logged. -/
def sramEcc (n : Fin 288) (a : Nat) (e : Ecc) (s : State) : State :=
  match e with
  | .clean => s
  | .corrected => rowError (sramRow n a) (setCore n (fun c => { c with eccCorr := c.eccCorr + 1 }) s)
  | .uncorrectable => alert 1 (hardFail (sramRow n a) (logEvent 0xFF 11 (wd (sramRow n a).id.toNat) (wd a) s))

/-- A local access of len bytes, aligned to al (R179): ALIGN, then ACCESS, else the access. -/
def localAccess (n : Fin 288) (a : Word) (len al : Nat) (s : State) (k : State → Option State) : Option State :=
  if a.toNat % al ≠ 0 then some (raise n xAlign a s)
  else if !(s.core n).inScratch a.toNat len then some (raise n xAccess a s)
  else k s

end Sys2Proof.Machine
end

