-- ==== Sys2Proof/Machine/CoreVector.lean ====
section
/-! DEFINITION. The vector group of a grid core (09_core_isa.md R174, R175, Tables 9.2, 9.3). -/

namespace Sys2Proof.Machine

/-- Lane i of lanes w bits wide. -/
def lane (v : VReg) (w i : Nat) : Nat := fld v (w * i) w

/-- A vector from its lanes, lane 0 first. -/
def ofLanes (w : Nat) (xs : List Nat) : VReg :=
  BitVec.ofNat 512 (xs.foldr (fun x acc => acc * 2 ^ w + x % 2 ^ w) 0)

/-- The lanes of a vector. -/
def lanesOf (v : VReg) (w : Nat) : List Nat := (List.range (512 / w)).map fun i => lane v w i

/-- The counter of free values moved on by n (log entry 2). -/
def stepFree (n : Nat) (s : State) : State := { s with freeCtr := s.freeCtr + n }

/-- VALU (R175): lane-wise in DT; FN 0x09 and above are reserved. -/
def execValu (n : Fin 288) (w : BitVec 26) (s : State) : Out :=
  coreRow n 0x10 w true s fun s =>
    let c := s.core n
    let t := vecElem (fDt w)
    if 9 ≤ fFn w then some (illegal n s)
    else
      let xs := (List.range (512 / t.width)).map fun i =>
        laneOp t (fFn w) (lane (c.getV (fVd w)) t.width i) (lane (c.getV (fVs1 w)) t.width i) (lane (c.getV (fVs2 w)) t.width i)
      some (retire n (fun c => c.setV (fVd w) (ofLanes t.width xs)) s)

/-- The address of VLD and VST. -/
def vldAddr (c : Core) (w : BitVec 26) : Word := c.getG (fVmRs1 w) + BitVec.ofInt 32 (64 * fVmOff w)

/-- Bytes as a vector. -/
def vecOf (b : List Byte) : VReg := BitVec.ofNat 512 (natOf b)
/-- The 64 bytes of a vector. -/
def vecBytes (v : VReg) : List Byte := bytesN 64 v.toNat

/-- VLD (R175, R152). -/
def execVld (n : Fin 288) (w : BitVec 26) (ecc : Ecc) (s : State) : Out :=
  coreRow n 0x11 w true s fun s =>
    let c := s.core n
    if !c.free [fVmRs1 w] then none
    else
      let a := vldAddr c w
      localAccess n a 64 64 s fun s =>
        if c.readWaits a.toNat 64 then none
        else if ecc = .uncorrectable then some (raise n xEcc a (sramEcc n a.toNat ecc s))
        else some (retire n (fun c => c.setV (fVd w) (vecOf (c.home.readN a.toNat 64))) (sramEcc n a.toNat ecc s))

/-- VST (R175). -/
def execVst (n : Fin 288) (w : BitVec 26) (s : State) : Out :=
  coreRow n 0x12 w true s fun s =>
    let c := s.core n
    if !c.free [fVmRs1 w] then none
    else
      let a := vldAddr c w
      localAccess n a 64 64 s fun s =>
        if c.writeWaits a.toNat 64 then none
        else some (retire n (fun c => { c with home := c.home.writeN a.toNat (vecBytes (c.getV (fVd w))) }) s)

/-- One level of the pairwise tree: neighbours combined in ascending lane index. -/
def pairUp (f : Nat → Nat → Nat) : List Nat → List Nat
  | a :: b :: xs => f a b :: pairUp f xs
  | xs => xs

/-- The pairwise tree of VRED; at most 6 levels for 64 lanes. -/
def tree (f : Nat → Nat → Nat) : Nat → List Nat → Nat
  | 0, xs => xs.headD 0
  | k + 1, xs => tree f k (pairUp f xs)

/-- VRED (R175): 0 SUM, 1 MAX, 2 MIN of VS1 into lane 0, other lanes zero. -/
def execVred (n : Fin 288) (w : BitVec 26) (s : State) : Out :=
  coreRow n 0x13 w true s fun s =>
    let c := s.core n
    let t := vecElem (fDt w)
    let op := match fFn w with | 0 => some 0 | 1 => some 5 | 2 => some 4 | _ => none
    match op with
    | none => some (illegal n s)
    | some k =>
      let x := tree (fun a b => laneOp t k 0 a b) 6 (lanesOf (c.getV (fVs1 w)) t.width)
      some (retire n (fun c => c.setV (fVd w) (ofLanes t.width [x])) s)

/-- VCVT (R175): DT to the type FN [2:0], FN [3] saturates integers. Destination lanes with no source lane, and values no
rule states, are free, the same for the same inputs (R174, log entry 2). -/
def execVcvt (n : Fin 288) (w : BitVec 26) (s : State) : Out :=
  coreRow n 0x14 w true s fun s =>
    let c := s.core n
    let a := vecElem (fDt w)
    let b := vecElem (fFn w % 8)
    if 16 ≤ fFn w then some (illegal n s)
    else
      let xs := (List.range (512 / b.width)).map fun i =>
        let x := lane (c.getV (fVs1 w)) a.width i
        let open_ := Config.coreResult 0x14 (fDt w + 16 * fFn w)
        if i < 512 / a.width then (convert a b (bit w 3) x).getD (open_ x 0) else open_ (c.getV (fVs1 w)).toNat (1 + i)
      some (retire n (fun c => c.setV (fVd w) (ofLanes b.width xs)) s)

/-- VSPEC (R175): bfloat16 or FP32; the result is free within 2 units in the last place (log entry 10). -/
def execVspec (n : Fin 288) (w : BitVec 26) (s : State) : Out :=
  coreRow n 0x15 w true s fun s =>
    let c := s.core n
    let t := vecElem (fDt w)
    if 5 ≤ fFn w || (fDt w != 5 && fDt w != 7) then some (illegal n s)
    else
      let xs := (lanesOf (c.getV (fVs1 w)) t.width).map fun x => special (fFn w) (fDt w) x
      some (retire n (fun c => c.setV (fVd w) (ofLanes t.width xs)) s)

/-- A tile operation that uses an accumulator (R176). -/
def TileOp.acc (o : TileOp) : Option Nat :=
  match o.op with
  | 0x20 => some (o.td % 4)
  | 0x21 => some (o.td % 4)
  | 0x22 => some (o.ts % 4)
  | 0x23 => some (o.td % 4)
  | _ => none

/-- Word k of an accumulator. -/
def accWord (a : Acc) (k : Nat) : Nat := fld a (32 * k) 32

/-- n words of an accumulator from word k on, replaced. -/
def accSet (a : Acc) (k n : Nat) (v : Nat) : Acc :=
  let low := a.toNat % 2 ^ (32 * k)
  let high := a.toNat / 2 ^ (32 * (k + n))
  BitVec.ofNat 131072 (low + (v % 2 ^ (32 * n)) * 2 ^ (32 * k) + high * 2 ^ (32 * (k + n)))

/-- VACC (R175): a quarter row between an accumulator and a vector. No rule states what a row number of 64 or more means: the
row is then any of the 64 (log entry 2). -/
def execVacc (n : Fin 288) (w : BitVec 26) (s : State) : Out :=
  coreRow n 0x16 w true s fun s =>
    let c := s.core n
    let a := fld w 1 2
    if 32 ≤ fFn w then some (illegal n s)
    else if !c.free [fVs1 w] || c.tq.any (fun o => decide (o.acc = some a)) then none
    else
      let g := (c.getG (fVs1 w)).toNat
      let row := if g < 64 then g else Config.coreResult 0x16 0 g 0 % 64
      let k := 64 * row + 16 * fld w 3 2
      if bit w 0 then some (retire n (fun c => c.setA a (accSet (c.getA a) k 16 (c.getV (fVd w)).toNat) ((c.accFp[a]?).getD none)) s)
      else some (retire n (fun c => c.setV (fVd w) (BitVec.ofNat 512 (fld (c.getA a) (32 * k) 512))) s)

/-- VPERM (R175): 0 broadcast lane 0, 1 permute by the indices of VS2 (an index past the last lane gives a free value, log
entry 2), 2 shift lanes up by g[VS2], zeros entering. -/
def execVperm (n : Fin 288) (w : BitVec 26) (s : State) : Out :=
  coreRow n 0x17 w true s fun s =>
    let c := s.core n
    let t := (vecElem (fDt w)).width
    let src := c.getV (fVs1 w)
    let m := 512 / t
    match fFn w with
    | 0 => some (retire n (fun c => c.setV (fVd w) (ofLanes t (List.replicate m (lane src t 0)))) s)
    | 1 =>
      let xs := (List.range m).map fun i =>
        let k := lane (c.getV (fVs2 w)) t i
        if k < m then lane src t k else Config.coreResult 0x17 (t + 64 * k) src.toNat i
      some (retire n (fun c => c.setV (fVd w) (ofLanes t xs)) s)
    | 2 => whenFree n [fVs2 w] s fun c =>
        let k := (c.getG (fVs2 w)).toNat
        retire n (fun c => c.setV (fVd w) (ofLanes t ((List.range m).map fun i => if k ≤ i then lane src t (i - k) else 0))) s
    | _ => some (illegal n s)

end Sys2Proof.Machine
end

