-- ==== Sys2Proof/Machine/CoreTile.lean ====
section
/-! DEFINITION. Tile and tensor instructions of a grid core (09_core_isa.md R176..R180, R184, Table 9.4): they issue in
program order into the tile queue, and TILE_COMPLETE ends them. -/

namespace Sys2Proof.Machine

/-! ### The queue -/

/-- The tile register whose contents or status an operation sets (R176). -/
def TileOp.sets (o : TileOp) : Option Nat :=
  match o.op with
  | 0x18 => some o.td | 0x1A => some o.td | 0x1C => some o.td | 0x1F => some o.td | 0x22 => some o.td | 0x24 => some o.td
  | 0x19 => some o.ts | 0x1B => some o.ts | 0x1D => some o.ts
  | _ => none

/-- The tile registers an operation names. -/
def TileOp.regs (o : TileOp) : List Nat :=
  match o.op with
  | 0x18 => [o.td] | 0x1A => [o.td] | 0x1C => [o.td] | 0x19 => [o.ts] | 0x1B => [o.ts] | 0x1D => [o.ts]
  | 0x1F => if o.fn = 0 then [o.td, o.ts] else [o.td]
  | 0x20 => [o.ts, o.tt] | 0x22 => [o.td] | 0x23 => [o.ts] | 0x24 => [o.td, o.ts]
  | _ => []

/-- Two operations have to take effect in program order: a shared tile register or accumulator (R176), or local memory that
one of them writes (R180). -/
def TileOp.clash (o p : TileOp) : Bool :=
  (o.regs.any fun r => p.regs.contains r) || (o.acc.isSome && decide (o.acc = p.acc))
    || ((o.op == 0x19 || p.op == 0x19) && p.touches o.a.toNat 4096 && (o.op == 0x18 || o.op == 0x19))

/-- Pending work sets the register or its status: its readers wait (R176). -/
def Core.tilePending (c : Core) (r : Nat) : Bool := c.tq.any fun o => decide (o.sets = some r)

/-- An instruction that reads tile registers: it waits for pending work, then raises TILE_STATUS on a status that is not OK
(R178). -/
def readTiles (n : Fin 288) (rs : List Nat) (s : State) (k : State → Option State) : Option State :=
  let c := s.core n
  if rs.any fun r => c.tilePending r then none
  else match rs.find? fun r => c.getTst r ≠ 0 with
    | some r => some (raise n xTile (wd (r * 256 + (c.getTst r).toNat)) s)
    | none => k s

/-- The operation of the instruction at hand. -/
def tileOpOf (c : Core) (op : Nat) (w : BitVec 26) : TileOp :=
  { id := c.tid, op := BitVec.ofNat 6 op, td := fTd w, ts := fTs w, tt := fTt w, fn := fTFn w, a := c.getG (fTRs1 w)
    b := c.getG (fTRs2 w), buf := 0, worst := none }

/-- A tile instruction issues and retires (R176). -/
def issueTile (n : Fin 288) (op : Nat) (w : BitVec 26) (s : State) : State :=
  retire n (fun c => { c with tq := c.tq ++ [tileOpOf c op w], tid := c.tid + 1 }) s

/-! ### Requests of a core (R182, R184) -/

/-- The destination is a core of the program's graph that holds a credit line for this core in the committed plan, with a
VALID topo entry (R182, R207). -/
def State.destOk (s : State) (n : Fin 288) (dest : Nat) : Bool :=
  match (s.core n).graph, s.logicalOf n with
  | some g, some self =>
    let x := s.grid.graph[g]
    x.cores.contains dest && ((x.plan.map (·.credits)).getD []).any (fun l => decide (l.1 = dest) && decide (l.2.1 = self))
      && topoValid (s.topo (coreNi n) dest)
  | _, _ => false

/-- The class of a core's messages and core-to-core requests (11_fabric_service.md R211). -/
def State.coreClass (s : State) (n : Fin 288) : BitVec 2 :=
  match (s.core n).graph with
  | some g => ((s.grid.graph[g]).plan.map (·.cls)).getD 1
  | none => 1

/-- The 32 KiB reply store has room (R184). -/
def State.replyRoom (s : State) (n : Fin 288) (bytes : Nat) : Bool := decide ((s.ni (coreNi n)).reserved + bytes ≤ 32768)

/-- Reply space reserved. -/
def reserve_ (n : Fin 288) (bytes : Nat) (s : State) : State := setNi (coreNi n) (fun x => { x with reserved := x.reserved + bytes }) s

/-- A request packet of a core. -/
def corePkt (s : State) (n : Fin 288) (cmd : Nat) (addr : Nat) : Packet :=
  { blank with cmd := BitVec.ofNat 8 cmd, addr := BitVec.ofNat 40 addr, cls := s.coreClass n }

/-- The cached redirect of a tile. -/
def Ni.redirect (x : Ni) (t : Nat) : Option (Nat × Nat) := (x.redirects.find? fun r => decide (r.1 = t)).map fun r => (r.2.1, r.2.2.1)

/-- A U-space access sent on its way (12_tiers.md R235): to a cached location, else to the owner hauler. The run's granule
rides in OPA (log entry 26). -/
def issueU (i : Fin 300) (o : Owner) (p : Packet) (s : State) : State :=
  let t := p.addr.toNat / 4096
  match (s.ni i).redirect t with
  | some (node, g) => issue i (storeDest node) o { p with opa := wd g } s
  | none => issue i (0x208 + t % 8) o { p with opa := 0 } s

/-- The hauler of a tile has a VALID topo entry (10_fabric_routing.md R207). -/
def State.haulerValid (s : State) (n : Fin 288) (t : Nat) : Bool := topoValid (s.topo (coreNi n) (0x208 + t % 8))

/-! ### Instructions that move tiles -/

/-- TLD (R176, R152). -/
def execTld (n : Fin 288) (w : BitVec 26) (ecc : Ecc) (s : State) : Out :=
  coreRow n 0x18 w true s fun s =>
    let c := s.core n
    if !c.free [fTRs1 w] then none
    else
      let a := c.getG (fTRs1 w)
      localAccess n a 4096 4096 s fun s =>
        if c.readWaits a.toNat 4096 then none
        else
          let (k, s) := s.pick 64
          let s := sramEcc n (a.toNat + 64 * k) ecc s
          if ecc = .uncorrectable then some (raise n xEcc a s) else some (issueTile n 0x18 w s)

/-- TST (R176). -/
def execTst (n : Fin 288) (w : BitVec 26) (s : State) : Out :=
  coreRow n 0x19 w true s fun s =>
    let c := s.core n
    if !c.free [fTRs1 w] then none
    else localAccess n (c.getG (fTRs1 w)) 4096 4096 s fun s => readTiles n [fTs w] s fun s => some (issueTile n 0x19 w s)

/-- A remote tile address and its destination checked (R179, R182). -/
def remoteTile (n : Fin 288) (w : BitVec 26) (s : State) (k : State → Option State) : Option State :=
  let c := s.core n
  let dest := c.getG (fTRs1 w)
  let a := c.getG (fTRs2 w)
  if !c.free [fTRs1 w, fTRs2 w] then none
  else if a.toNat % 4096 ≠ 0 then some (raise n xAlign a s)
  else if !s.destOk n dest.toNat then some (raise n xDest dest s)
  else k s

/-- TGET (R176): one RD_TILE request. -/
def execTget (n : Fin 288) (w : BitVec 26) (s : State) : Out :=
  coreRow n 0x1A w true s fun s => remoteTile n w s fun s =>
    let c := s.core n
    if !s.replyRoom n 4096 then none
    else some (issueTile n 0x1A w (issue (coreNi n) (c.getG (fTRs1 w)).toNat (.tile c.tid)
      (corePkt s n 0x01 (c.getG (fTRs2 w)).toNat) (reserve_ n 4096 s)))

/-- The bytes 512 k .. 512 k + 511 of a tile as a packet body. -/
def tilePart (t : Tile) (k : Nat) : BitVec 4096 := BitVec.ofNat 4096 (fld t (4096 * k) 4096)

/-- TPUT (R184): eight WR_512 packets with the tile captured at issue. -/
def execTput (n : Fin 288) (w : BitVec 26) (s : State) : Out :=
  coreRow n 0x1B w true s fun s => remoteTile n w s fun s => readTiles n [fTs w] s fun s =>
    let c := s.core n
    if !s.replyRoom n 256 then none
    else
      let send := fun (s : State) (k : Nat) => issue (coreNi n) (c.getG (fTRs1 w)).toNat (.tile c.tid)
        { corePkt s n 0x02 ((c.getG (fTRs2 w)).toNat + 512 * k) with
          len := 16, seq := BitVec.ofNat 3 k, body := tilePart (c.getT (fTs w)) k } s
      some (issueTile n 0x1B w ((List.range 8).foldl send (reserve_ n 256 s)))

/-- TUGET (R176, R235). -/
def execTuget (n : Fin 288) (w : BitVec 26) (s : State) : Out :=
  coreRow n 0x1C w true s fun s =>
    let c := s.core n
    let t := (c.getG (fTRs1 w)).toNat
    if !c.free [fTRs1 w] then none
    else if !s.haulerValid n t then some (raise n xDest (wd (0x208 + t % 8)) s)
    else if !s.replyRoom n 4096 then none
    else
      some (issueTile n 0x1C w (issueU (coreNi n) (.tile c.tid) { corePkt s n 0x06 (4096 * t) with cls := 2 } (reserve_ n 4096 s)))

/-- TUPUT (R184): eight U_WR packets, each resolved on its own. -/
def execTuput (n : Fin 288) (w : BitVec 26) (s : State) : Out :=
  coreRow n 0x1D w true s fun s =>
    let c := s.core n
    let t := (c.getG (fTRs1 w)).toNat
    if !c.free [fTRs1 w] then none
    else if !s.haulerValid n t then some (raise n xDest (wd (0x208 + t % 8)) s)
    else readTiles n [fTs w] s fun s =>
      if !s.replyRoom n 4096 then none
      else
        let send := fun (s : State) (k : Nat) => issueU (coreNi n) (.tile c.tid)
          { corePkt s n 0x07 (4096 * t + 512 * k) with cls := 2, len := 16, seq := BitVec.ofNat 3 k, body := tilePart (c.getT (fTs w)) k } s
        some (issueTile n 0x1D w ((List.range 8).foldl send (reserve_ n 4096 s)))

/-- TSTAT (R178): the status once pending work completes. -/
def execTstat (n : Fin 288) (w : BitVec 26) (s : State) : Out :=
  coreRow n 0x1E w true s fun s =>
    let c := s.core n
    if !c.free [fTRs1 w] || c.tilePending (fTs w) then none
    else some (retire n (fun c => c.setG (fTRs1 w) ((c.getTst (fTs w)).setWidth 32)) s)

/-- TMOV (R176): FN 0 copies, FN 1 zeroes. -/
def execTmov (n : Fin 288) (w : BitVec 26) (s : State) : Out :=
  coreRow n 0x1F w true s fun s =>
    if 2 ≤ fTFn w then some (illegal n s)
    else readTiles n (if fTFn w = 0 then [fTs w] else []) s fun s => some (issueTile n 0x1F w s)

/-! ### Tensor instructions -/

/-- TMMA (R177): reserved types, TD [22] and unused fields raise ILLEGAL (R176). -/
def execTmma (n : Fin 288) (w : BitVec 26) (s : State) : Out :=
  coreRow n 0x20 w true s fun s =>
    if (tenElem (fTFn w)).isNone || bit w 22 || fld w 4 10 != 0 then some (illegal n s)
    else readTiles n [fTs w, fTt w] s fun s => some (issueTile n 0x20 w s)

/-- TZERO (R176). -/
def execTzero (n : Fin 288) (w : BitVec 26) (s : State) : Out :=
  coreRow n 0x21 w true s fun s => some (issueTile n 0x21 w s)

/-- TPACK (R176). -/
def execTpack (n : Fin 288) (w : BitVec 26) (s : State) : Out :=
  coreRow n 0x22 w true s fun s =>
    let c := s.core n
    if (tenElem (fTFn w % 8)).isNone || bit w 22 || bit w 19 || fld w 14 3 != 0 || fld w 4 5 != 0 then some (illegal n s)
    else if !c.free [fTRs1 w] then none
    else some (issueTile n 0x22 w s)

/-- TUNPACK (R176). -/
def execTunpack (n : Fin 288) (w : BitVec 26) (s : State) : Out :=
  coreRow n 0x23 w true s fun s =>
    if (tenElem (fTFn w)).isNone || bit w 22 || fld w 14 3 != 0 || fld w 4 10 != 0 then some (illegal n s)
    else readTiles n [fTs w] s fun s => some (issueTile n 0x23 w s)

/-- TXP (R176). -/
def execTxp (n : Fin 288) (w : BitVec 26) (s : State) : Out :=
  coreRow n 0x24 w true s fun s => readTiles n [fTs w] s fun s => some (issueTile n 0x24 w s)

/-! ### What they compute (12_tiers.md Table 12.1) -/

/-- Element (r, c) of a tile with elements of 8, 16 or 4 bits, in the engine-ready layouts. -/
def tileElem (w : Nat) (t : Tile) (r c : Nat) : Nat :=
  match w with
  | 16 => fld t (8 * (64 * r + 8 * ((c / 4) ^^^ (r % 8)) + 2 * (c % 4))) 16
  | 4 => fld t (8 * (64 * r + 8 * ((c / 16) ^^^ (r % 8)) + c % 16 / 2) + 4 * (c % 2)) 4
  | _ => fld t (8 * (64 * r + 8 * ((c / 8) ^^^ (r % 8)) + c % 8)) 8

/-- Columns of a tile of elements of w bits. -/
def tileCols (w : Nat) : Nat := 512 / w

/-- A tile from its elements: the element that lies at each place of each row. -/
def tileOf (w : Nat) (f : Nat → Nat → Nat) : Tile :=
  let per := 64 / w
  let row := fun r => (List.range (tileCols w)).map fun k => f r (((k / per) ^^^ (r % 8)) * per + k % per)
  BitVec.ofNat 32768 (((List.range 64).flatMap row).foldr (fun x acc => acc * 2 ^ w + x % 2 ^ w) 0)

/-- An accumulator from its elements. -/
def accOf (f : Nat → Nat → Nat) : Acc :=
  BitVec.ofNat 131072 (((List.range 4096).map fun k => f (k / 64) (k % 64)).foldr (fun x acc => acc * 2 ^ 32 + x % 2 ^ 32) 0)

/-- One sum of R177 added to an accumulator word. -/
def dot (t : Elem) (a b : Tile) (i j old : Nat) : Nat :=
  let ks := List.range (tileCols t.width)
  match t with
  | .int w => uint 32 (sint 32 old + (ks.map fun k => sint w (tileElem w a i k) * sint w (tileElem w b j k)).sum)
  | .flt f =>
    let sum := ks.foldl (fun acc k =>
      let p := (Fl.ofBits f (tileElem f.width a i k)).mul (Fl.ofBits f (tileElem f.width b j k))
      Fl.bits fFp32 0x20 acc k ((Fl.ofBits fFp32 acc).add p)) 0
    Fl.bits fFp32 0x20 old sum ((Fl.ofBits fFp32 old).add (Fl.ofBits fFp32 sum))

/-- The class of a type: floating point or integer. -/
def Elem.isFp : Elem → Bool | .int _ => false | .flt _ => true

/-- Arithmetic right shift, round half up (TPACK). -/
def shiftHalfUp (x : Int) (k : Nat) : Int := if k = 0 then x else if 32 ≤ k then 0 else (x + 2 ^ (k - 1)) / 2 ^ k

/-- One accumulator word packed (TPACK): integer accumulators to integers by shift, round and saturation; values no rule
states, such as a floating-point accumulator to an integer type, are none. -/
def packElem (t : Elem) (cls : Option Bool) (shift x : Nat) : Option Nat :=
  match t, cls with
  | .int _, some true => none
  | .int w, _ => some (uint w (clampInt w (shiftHalfUp (sint 32 x) shift)))
  | .flt f, some false => some (Fl.bits f 0x22 x 0 (Fl.ofInt (sint 32 x)))
  | .flt f, _ => some (Fl.bits f 0x22 x 0 (Fl.ofBits fFp32 x))

/-- The tile that TPACK makes. Element (r, k) comes from column k, or 32 + k for the upper half of 16-bit types; columns that
no rule states are free. -/
def packTile (fn : Nat) (t : Elem) (cls : Option Bool) (shift : Nat) (a : Acc) : Tile :=
  tileOf t.width fun r k =>
    let col := if t.width = 16 && decide (8 ≤ fn) then 32 + k else k
    let x := accWord a (64 * r + col)
    let open_ := Config.coreResult 0x22 (fn + 16 * shift)
    if col < 64 then (packElem t cls shift x).getD (open_ x 0) else open_ a.toNat (1 + 128 * r + k)

/-- A tile element widened (TUNPACK). -/
def widen (t : Elem) (x : Nat) : Nat :=
  match t with
  | .int w => uint 32 (sint w x)
  | .flt f => Fl.bits fFp32 0x23 x 0 (Fl.ofBits f x)

/-- The accumulator that TUNPACK makes; columns past the tile's are free. -/
def unpackAcc (fn : Nat) (t : Elem) (x : Tile) : Acc :=
  accOf fun i j => if j < tileCols t.width then widen t (tileElem t.width x i j) else Config.coreResult 0x23 fn x.toNat (64 * i + j)

/-! ### Completion -/

/-- Requests of a tile operation are still open. -/
def State.tileOpen (s : State) (n : Fin 288) (id : Nat) : Bool := (s.ni (coreNi n)).reqs.any fun r => decide (r.owner = .tile id)

/-- The operation can complete: its requests have ended, and no earlier one clashes with it. -/
def State.tileReady (s : State) (n : Fin 288) (k : Nat) (o : TileOp) : Bool :=
  !s.tileOpen n o.id && ((s.core n).tq.take k).all fun p => !o.clash p

/-- The completion status of an operation. -/
def TileOp.status (o : TileOp) : BitVec 8 := (o.worst.map (·.2)).getD 0

/-- The effect of an operation on its core; k numbers its free values. -/
def tileEffect (o : TileOp) (k : Nat) (c : Core) : Core :=
  match o.op with
  | 0x18 => c.setT o.td (BitVec.ofNat 32768 (natOf (c.home.readN o.a.toNat 4096))) 0
  | 0x19 => { c.setTst o.ts 0 with home := c.home.writeN o.a.toNat (bytesN 4096 (c.getT o.ts).toNat) }
  | 0x1A => if o.status = 0 then c.setT o.td o.buf 0 else c.setTst o.td o.status
  | 0x1B => c.setTst o.ts o.status
  | 0x1C => if o.status = 0 then c.setT o.td o.buf 0 else c.setTst o.td o.status
  | 0x1D => c.setTst o.ts o.status
  | 0x1F => c.setT o.td (if o.fn = 0 then c.getT o.ts else 0) 0
  | 0x20 =>
    match tenElem o.fn with
    | none => c
    | some t =>
      let a := o.td % 4
      let old := (c.accFp[a]?).getD none
      if old = some (!t.isFp) then c.setA a (accOf fun i j => Config.free (k + 64 * i + j)) (some t.isFp)
      else c.setA a (accOf fun i j => dot t (c.getT o.ts) (c.getT o.tt) i j (accWord (c.getA a) (64 * i + j))) (some t.isFp)
  | 0x21 => c.setA (o.td % 4) 0 none
  | 0x22 =>
    match tenElem (o.fn % 8) with
    | none => c
    | some t => c.setT o.td (packTile o.fn t ((c.accFp[o.ts % 4]?).getD none) o.a.toNat (c.getA (o.ts % 4))) 0
  | 0x23 =>
    match tenElem o.fn with
    | none => c
    | some t => c.setA (o.td % 4) (unpackAcc o.fn t (c.getT o.ts)) (some t.isFp)
  | 0x24 => c.setT o.td (tileOf 8 fun r k => tileElem 8 (c.getT o.ts) k r) 0
  | _ => c

/-- TILE_COMPLETE (R176, R178): the first operation of the queue that can complete does. -/
def execTileComplete (n : Fin 288) (s : State) : Out :=
  let q := (s.core n).tq
  match q.zipIdx.find? fun (o, k) => s.tileReady n k o with
  | none => .next s
  | some (o, k) => act s true
      (setCore n (fun c => tileEffect o s.freeCtr { c with tq := c.tq.eraseIdx k }) (stepFree 16384 s))

end Sys2Proof.Machine
end

