-- ==== Sys2Proof/Machine/CoreMsg.lean ====
section
/-! DEFINITION. Messages and remote operations of a grid core (09_core_isa.md R181..R185, Tables 9.5..9.7;
10_fabric_routing.md R203, R204). -/

namespace Sys2Proof.Machine

/-- g[RD] awaits a result. -/
def awaitG (n : Fin 288) (rs : List Nat) (s : State) : State :=
  setCore n (fun c => { c with gBusy := rs.foldl (fun b r => setBit b r true) c.gBusy }) s

/-- Requests of the NI toward a destination that wait for their credit; SENDM's have taken theirs (R204). -/
def State.queuedTo (s : State) (i : Fin 300) (dest : Nat) : Nat := ((s.ni i).reqs.filter fun r => r.sent.isNone && !r.owner.isMcast && decide (r.dst = dest)).length

/-- A credit is held that no earlier request waits to use. -/
def State.hasCredit (s : State) (i : Fin 300) (dest : Nat) : Bool := decide (s.queuedTo i dest < s.credit i dest)

/-- A message packet from scratch. -/
def msgPkt (s : State) (n : Fin 288) (w : BitVec 26) : Packet :=
  let c := s.core n
  let a := (c.getG (fRs2 w)).toNat
  { corePkt s n 0x80 0 with
    len := BitVec.ofNat 5 (fLen w + 1), mb := BitVec.ofNat 3 (fMb w), body := bodyOf (c.home.readN a (32 * (fLen w + 1))) }

/-- The payload's place in scratch checked (R181, R179), and read after earlier stores (R180). -/
def payloadAt (n : Fin 288) (w : BitVec 26) (s : State) (k : State → Option State) : Option State :=
  let c := s.core n
  let a := c.getG (fRs2 w)
  let len := 32 * (fLen w + 1)
  localAccess n a len 32 s fun s => if c.readWaits a.toNat len then none else k s

/-- The payload read from a bank (08_grid_cores.md R152): k goes on with it; when it cannot be read, nothing is sent and bad answers. -/
def readPayload (b : BankRead) (w : BitVec 26) (s : State) (bad k : State → State) : State :=
  let a := ((s.core b.core).getG (fRs2 w)).toNat
  let (i, s) := s.pick (fLen w + 1)
  let s := sramEcc b.core (a + 32 * i) b.ecc s
  if b.ecc = .uncorrectable then bad s else k s

/-- SEND (R181, R182, R184). A payload that cannot be read gives INTERNAL (log entry 54). -/
def execSend (b : BankRead) (w : BitVec 26) (s : State) : Out :=
  let n := b.core
  coreRow n 0x28 w true s fun s =>
    let c := s.core n
    let dest := c.getG (fRs1 w)
    let i := coreNi n
    if !c.free [fRd w, fRs1 w, fRs2 w] then none
    else payloadAt n w s fun s =>
      let pma := dest.toNat = 0x200 && topoValid (s.topo i 0x200) && fLen w = 0
      if !(pma || s.destOk n dest.toNat) then some (raise n xDest dest s)
      else if fNb w && !s.hasCredit i dest.toNat then some (retire n (fun c => c.setG (fRd w) 0x13) s)
      else if !s.replyRoom n 32 then none
      else some (readPayload b w s (fun s => retire n (fun c => c.setG (fRd w) 0x3F) s) fun s =>
        coreNext n (awaitG n [fRd w] (issue i dest.toNat (.reg (fRd w) false) (msgPkt s n w) (reserve_ n 32 s))))

/-- The destinations of a tree that its masks reach: those that are not left out of it (R203). -/
def State.inTree (s : State) (n : Fin 288) (dest : Nat) : Bool :=
  match s.nodeOf dest with
  | some j => s.xyOk n.1 j.1
  | none => false

/-- SENDM (R204): one credit and 32 B of reply space for each destination; a tree packet and unicast copies. A payload that cannot be read
is sent to nobody: PARTIAL, with every destination failed (log entry 54). -/
def execSendm (b : BankRead) (w : BitVec 26) (s : State) : Out :=
  let n := b.core
  coreRow n 0x29 w true s fun s =>
    let c := s.core n
    let i := coreNi n
    let e := (c.getG (fRs1 w)).toNat
    if fRd w % 2 = 1 then some (illegal n s)
    else if !c.free [fRd w, fRd w + 1, fRs1 w, fRs2 w] then none
    else payloadAt n w s fun s =>
      match ((s.ni i).mcast[e]?).getD none with
      | none => some (raise n xDest (wd e) s)
      | some (dests, tree) =>
        match dests.find? fun d => !s.destOk n d with
        | some d => some (raise n xDest (wd d) s)
        | none =>
        if fNb w && dests.any fun d => !s.hasCredit i d then some (retire n (fun c => c.setG (fRd w) 0x13) s)
        else if dests.any (fun d => !s.hasCredit i d) || !s.replyRoom n (32 * dests.length) then none
        else some (readPayload b w s
          (fun s => retire n (fun c => (c.setG (fRd w) 2).setG (fRd w + 1) (wd (2 ^ dests.length - 1))) s) fun s =>
          let p := msgPkt s n w
          let put_ := fun (s : State) (x : Nat × Nat) =>
            let q := if s.inTree n x.1 then { p with cmd := 0x81, mode := 2, tree := tree } else p
            issue i x.1 (.mcast (fRd w) x.2) q (setCredit i x.1 (s.credit i x.1 - 1) s)
          let s := dests.zipIdx.foldl put_ (reserve_ n (32 * dests.length) s)
          retire n (fun c => { c with mc := c.mc ++ [(fRd w, 0, dests.length)] }) (awaitG n [fRd w, fRd w + 1] s))

/-- Messages of the landing store enter their mailboxes as room allows, in arrival order (R183). -/
def Core.settle (c : Core) : Nat → Core
  | 0 => c
  | k + 1 =>
    match c.landing.findIdx? fun m => decide ((c.box[m.mb.toNat]'(m.mb.isLt)).length < 4) with
    | none => c
    | some i =>
      match c.landing[i]? with
      | none => c
      | some m => Core.settle { c with landing := c.landing.eraseIdx i, box := modAt c.box ⟨m.mb.toNat, m.mb.isLt⟩ (· ++ [m]) } k

/-- A message taken into the landing store, and into its mailbox when that holds fewer than 4 (R183). -/
def land (n : Fin 288) (m : Msg) (s : State) : State := setCore n (fun c => Core.settle { c with landing := c.landing ++ [m] } 1) s

/-- The receipt word of Table 9.6. -/
def receipt (m : Msg) : Word := wd (m.src.toNat + m.len.toNat * 2 ^ 10 + 2 ^ 14)

/-- A credit-return packet to the sender of a message, in its class (R185, 11_fabric_service.md R211). -/
def returnCredit (n : Fin 288) (m : Msg) (s : State) : State :=
  respond (coreNi n) { blank with src := m.src, cls := m.cls, cmd := 0x80 } 0x42 0 id s

/-- RECV (R181, R183, R185). -/
def execRecv (n : Fin 288) (w : BitVec 26) (s : State) : Out :=
  coreRow n 0x2A w true s fun s =>
    let c := s.core n
    let mb : Fin 8 := ⟨fMb w, Nat.mod_lt _ (by decide)⟩
    if !c.free [fRd w, fRs2 w] then none
    else if !bit c.mbox mb.1 then some (raise n xMailbox (wd mb.1) s)
    else match c.box[mb] with
    | [] => if fNb w then some (retire n (fun c => c.setG (fRd w) 0) s) else none
    | m :: more =>
      let a := c.getG (fRs2 w)
      let len := 32 * (m.len.toNat + 1)
      localAccess n a len 32 s fun s =>
        if c.writeWaits a.toNat len then none
        else
          let s := setCore n (fun c => Core.settle { c with
            home := c.home.writeN a.toNat (bodyBytes m.body len), box := upd c.box mb more } 1) s
          some (retire n (fun c => c.setG (fRd w) (receipt m)) (returnCredit n m s))

/-- AMO (R181): MB 0 fetch-add, 1 swap, 2 compare and swap; other values are reserved. -/
def execAmo (n : Fin 288) (w : BitVec 26) (s : State) : Out :=
  coreRow n 0x2C w true s fun s =>
    let c := s.core n
    let dest := c.getG (fRs1 w)
    let a := c.getG (fRs2 w)
    let i := coreNi n
    let cas := fMb w = 2
    if 3 ≤ fMb w || (cas && fRd w % 2 = 1) then some (illegal n s)
    else if c.pBusy || !c.free ([fRd w, fRs1 w, fRs2 w] ++ if cas then [fRd w + 1] else []) then none
    else if a.toNat % 4 ≠ 0 then some (raise n xAlign a s)
    else if !s.destOk n dest.toNat then some (raise n xDest dest s)
    else if !s.replyRoom n 32 then none
    else
      let p := { corePkt s n (0x03 + fMb w) a.toNat with opa := c.getG (fRd w), opb := if cas then c.getG (fRd w + 1) else 0 }
      some (retire n (fun c => { c with pBusy := true })
        (awaitG n [fRd w] (issue i dest.toNat (.reg (fRd w) true) p (reserve_ n 32 s))))

/-- RDCRED (R181). -/
def execRdcred (n : Fin 288) (w : BitVec 26) (s : State) : Out :=
  coreRow n 0x2D w true s fun s =>
    whenFree n [fRd w, fRs1 w] s fun c =>
      let dest := (c.getG (fRs1 w)).toNat
      if (decide (dest = 0x200) && topoValid (s.topo (coreNi n) dest)) || s.destOk n dest then retire n (fun x => x.setG (fRd w) (wd (s.credit (coreNi n) dest))) s
      else raise n xDest (c.getG (fRs1 w)) s

end Sys2Proof.Machine
end

