-- ==== Sys2Proof/Machine/Crypto.lean ====
section
/-! DEFINITION. SHA-256, ECDSA P-256 verification, CRC-8 and CRC-32, as the standards the spec names define them
(21_guard.md R383, 20_streams.md R373, 22_startup.md R397; log entry 22). -/

namespace Sys2Proof.Machine

/-! ### SHA-256 -/

/-- Eight round constants in one number, the first in the top word: the first 32 bits of the fractions of the cube roots of
the primes. -/
def shaKRow : Fin 8 → Nat
  | 0 => 0x428a2f98_71374491_b5c0fbcf_e9b5dba5_3956c25b_59f111f1_923f82a4_ab1c5ed5
  | 1 => 0xd807aa98_12835b01_243185be_550c7dc3_72be5d74_80deb1fe_9bdc06a7_c19bf174
  | 2 => 0xe49b69c1_efbe4786_0fc19dc6_240ca1cc_2de92c6f_4a7484aa_5cb0a9dc_76f988da
  | 3 => 0x983e5152_a831c66d_b00327c8_bf597fc7_c6e00bf3_d5a79147_06ca6351_14292967
  | 4 => 0x27b70a85_2e1b2138_4d2c6dfc_53380d13_650a7354_766a0abb_81c2c92e_92722c85
  | 5 => 0xa2bfe8a1_a81a664b_c24b8b70_c76c51a3_d192e819_d6990624_f40e3585_106aa070
  | 6 => 0x19a4c116_1e376c08_2748774c_34b0bcb5_391c0cb3_4ed8aa4a_5b9cca4f_682e6ff3
  | 7 => 0x748f82ee_78a5636f_84c87814_8cc70208_90befffa_a4506ceb_bef9a3f7_c67178f2

/-- The 64 round constants. -/
def shaK : List Word := (List.finRange 8).flatMap fun r => (List.range 8).map fun k => wd (shaKRow r / 2 ^ (32 * (7 - k)))

/-- The eight working words. -/
abbrev Sha := Word × Word × Word × Word × Word × Word × Word × Word

/-- The initial hash value. -/
def sha0 : Sha :=
  (0x6a09e667, 0xbb67ae85, 0x3c6ef372, 0xa54ff53a, 0x510e527f, 0x9b05688c, 0x1f83d9ab, 0x5be0cd19)

/-- One round. -/
def shaRound (h : Sha) (kw : Word) : Sha :=
  let (a, b, c, d, e, f, g, i) := h
  let s1 := e.rotateRight 6 ^^^ e.rotateRight 11 ^^^ e.rotateRight 25
  let t1 := i + s1 + ((e &&& f) ^^^ (~~~e &&& g)) + kw
  let s0 := a.rotateRight 2 ^^^ a.rotateRight 13 ^^^ a.rotateRight 22
  let t2 := s0 + ((a &&& b) ^^^ (a &&& c) ^^^ (b &&& c))
  (t1 + t2, a, b, c, d + t1, e, f, g)

/-- The message schedule extended: the last 16 words, newest last, give n more. -/
def shaExtend : Nat → List Word → List Word
  | 0, _ => []
  | n + 1, ws =>
    let w := fun (k : Nat) => ws[k]?.getD 0
    let s0 := (w 1).rotateRight 7 ^^^ (w 1).rotateRight 18 ^^^ (w 1 >>> 3)
    let s1 := (w 14).rotateRight 17 ^^^ (w 14).rotateRight 19 ^^^ (w 14 >>> 10)
    let x := w 0 + s0 + w 9 + s1
    x :: shaExtend n (ws.drop 1 ++ [x])

/-- One block of 16 words. -/
def shaBlock (h : Sha) (ws : List Word) : Sha :=
  let r := (shaK.zip (ws ++ shaExtend 48 ws)).foldl (fun h kw => shaRound h (kw.1 + kw.2)) h
  (h.1 + r.1, h.2.1 + r.2.1, h.2.2.1 + r.2.2.1, h.2.2.2.1 + r.2.2.2.1, h.2.2.2.2.1 + r.2.2.2.2.1,
   h.2.2.2.2.2.1 + r.2.2.2.2.2.1, h.2.2.2.2.2.2.1 + r.2.2.2.2.2.2.1, h.2.2.2.2.2.2.2 + r.2.2.2.2.2.2.2)

/-- A big-endian word of four bytes. -/
def beWord (b : List Byte) : Word := (b.take 4).foldl (fun (w : Word) x => w <<< 8 ||| x.setWidth 32) 0

/-- A big-endian number. -/
def beNat (b : List Byte) : Nat := b.foldl (fun n x => n * 256 + x.toNat) 0

/-- Words of big-endian bytes, n of them. -/
def beWords : Nat → List Byte → List Word
  | 0, _ => []
  | n + 1, b => beWord b :: beWords n (b.drop 4)

/-- Blocks hashed, n of them. -/
def shaBlocks : Nat → Sha → List Byte → Sha
  | 0, h, _ => h
  | n + 1, h, b => shaBlocks n (shaBlock h (beWords 16 b)) (b.drop 64)

/-- SHA-256 of bytes, byte 0 of the digest in the high bits. -/
def sha256 (m : List Byte) : BitVec 256 :=
  let n := m.length
  let z := (119 - n % 64) % 64
  let p := m ++ [0x80] ++ List.replicate z 0 ++ (bytesN 8 (8 * n)).reverse
  let (a, b, c, d, e, f, g, i) := shaBlocks (p.length / 64) sha0 p
  a ++ b ++ c ++ d ++ e ++ f ++ g ++ i

/-! ### ECDSA P-256 -/

/-- The field prime. -/
def ecP : Nat := 0xffffffff00000001000000000000000000000000ffffffffffffffffffffffff
/-- The group order. -/
def ecN : Nat := 0xffffffff00000000ffffffffffffffffbce6faada7179e84f3b9cac2fc632551
/-- The curve's b; a is -3. -/
def ecB : Nat := 0x5ac635d8aa3a93e7b3ebbd55769886bc651d06b0cc53b0f63bce3c3e27d2604b
/-- The base point. -/
def ecG : Nat × Nat := (0x6b17d1f2e12c4247f8bce6e563a440f277037d812deb33a0f4a13945d898c296,
  0x4fe342e2fe1a7f9b8ee7eb4a7c0f9e162bce33576b315ececbb6406837bf51f5)

/-- The 256 bits of a number, high first. -/
def bits256 (n : Nat) : List Bool := ((List.range 256).map fun k => n.testBit k).reverse

/-- b^e mod m for e below 2^256. -/
def powMod (b e m : Nat) : Nat := (bits256 e).foldl (fun r x => if x then r * r % m * b % m else r * r % m) 1
/-- The inverse modulo a prime. -/
def invMod (a m : Nat) : Nat := powMod (a % m) (m - 2) m

/-- The sum of two points; none is the point at infinity. -/
def ecAdd (p q : Option (Nat × Nat)) : Option (Nat × Nat) :=
  match p, q with
  | none, q => q
  | p, none => p
  | some (x, y), some (u, v) =>
    if x = u && (y + v) % ecP = 0 then none
    else
      let l := if x = u then (3 * x * x + ecP - 3) * invMod (2 * y) ecP % ecP
               else (v + ecP - y) * invMod (u + ecP - x) ecP % ecP
      let z := (l * l + 2 * ecP - x - u) % ecP
      some (z, (l * (x + ecP - z) + ecP - y) % ecP)

/-- A multiple of a point. -/
def ecMul (k : Nat) (p : Nat × Nat) : Option (Nat × Nat) :=
  (bits256 k).foldl (fun r x => let d := ecAdd r r; if x then ecAdd d (some p) else d) none

/-- The point lies on the curve. -/
def onCurve (p : Nat × Nat) : Bool :=
  decide (p.1 < ecP) && decide (p.2 < ecP) && decide (p.2 * p.2 % ecP = (p.1 * p.1 * p.1 + (ecP - 3) * p.1 + ecB) % ecP)

/-- ECDSA verification of a digest: r and s of 32 B each, big-endian. -/
def ecVerify (key : Nat × Nat) (digest : BitVec 256) (sig : List Byte) : Bool :=
  let r := beNat (sig.take 32)
  let s := beNat ((sig.drop 32).take 32)
  if !onCurve key || r = 0 || s = 0 || !decide (r < ecN) || !decide (s < ecN) then false
  else
    let w := invMod s ecN
    match ecAdd (ecMul (digest.toNat * w % ecN) ecG) (ecMul (r * w % ecN) key) with
    | some (x, _) => decide (x % ecN = r)
    | none => false

/-! ### CRC-8 and CRC-32 -/

/-- CRC-8 of bytes: polynomial 0x07, initial value 0xFF (17_host_link.md R310). -/
def crc8 (b : List Byte) : Byte :=
  b.foldl (fun c x => (List.range 8).foldl (fun (c : Byte) _ => if bit c 7 then c <<< 1 ^^^ 0x07 else c <<< 1) (c ^^^ x)) 0xFF

/-- CRC-32 of bytes: the IEEE 802.3 polynomial, reflected. -/
def crc32 (b : List Byte) : Word :=
  ~~~(b.foldl (fun c x => (List.range 8).foldl
    (fun (c : Word) _ => if bit c 0 then c >>> 1 ^^^ 0xEDB88320 else c >>> 1) (c ^^^ x.setWidth 32)) 0xFFFFFFFF)

end Sys2Proof.Machine
end

