-- ==== Sys2Proof/Machine/Graphs.lean ====
section
/-! DEFINITION. Program images, credit plans, and the loading, launch, switch and stop of graphs (08_grid_cores.md
R163..R169, 10_fabric_routing.md R203, 11_fabric_service.md R211..R216, 19_commands.md Table 19.14). -/

namespace Sys2Proof.Machine

/-! ### Objects as words -/

/-- n bytes of an object from an offset on; POISON and bytes past its end read as none. -/
def State.objBytes (s : State) (o : Obj) (off n : Nat) : Option (List Byte) :=
  if off + n ≤ 4096 * o.tiles then s.uBytes (4096 * o.base + off) n else none

/-- Words of bytes. -/
def wordsOf (b : List Byte) : List Word := (List.range (b.length / 4)).map fun k => wordOf ((b.drop (4 * k)).take 4)

/-! ### Images (Table 8.3) -/

/-- A word of a list, zero past its end. -/
def wAt (l : List Word) (k : Nat) : Word := (l[k]?).getD 0

/-- CODE_BYTES of an image header. -/
def hCode (h : List Word) : Nat := fld (wAt h 2) 0 17
/-- BUILD_ID. -/
def hBuild (h : List Word) : BitVec 64 := wAt h 7 ++ wAt h 6
/-- ENTRY. -/
def hEntry (h : List Word) : Nat := fld (wAt h 3) 0 16
/-- SCRATCH_BANKS. -/
def hScratch (h : List Word) : Nat := fld (wAt h 4) 0 4
/-- MBOX_MASK. -/
def hMbox (h : List Word) : BitVec 8 := BitVec.ofNat 8 (fld (wAt h 4) 4 8)
/-- NUMERICS. -/
def hNumerics (h : List Word) : BitVec 8 := BitVec.ofNat 8 (fld (wAt h 1) 16 8)

/-- An image: its header words and its code. -/
def State.image (s : State) (o : Obj) : Option (List Word × List Byte) :=
  match s.objBytes o 0 64 with
  | none => none
  | some b => (s.objBytes o 64 (hCode (wordsOf b))).map fun code => (wordsOf b, code)

/-- The checks of Table 8.3. -/
def imageOk (h : List Word) (code : List Byte) : Bool :=
  decide (wAt h 0 = 0x47504C4F) && decide (fld (wAt h 1) 0 8 = 1) && decide (fld (wAt h 1) 8 8 ≤ Config.isaLevel.toNat)
    && decide (fld (wAt h 1) 24 8 = 0)
    && decide (4 ≤ hCode h) && decide (hCode h ≤ 65536) && decide (hCode h % 4 = 0) && decide (fld (wAt h 2) 17 15 = 0)
    && decide (hEntry h < hCode h / 4) && decide (fld (wAt h 3) 16 16 = 0)
    && decide (hScratch h ≤ 12) && decide (fld (wAt h 4) 12 20 = 0)
    && decide (crc32 code = wAt h 5) && (List.range 8).all fun k => decide (wAt h (8 + k) = 0)

/-- A core given an image (R164, R165): its instruction memory and what the header declares. -/
def Core.load (c : Core) (h : List Word) (code : List Byte) : Core :=
  { c with imem := Mem.ofBytes 0 code, codeBytes := hCode h, entry := hEntry h, scratch := hScratch h, mbox := hMbox h }

/-- The runs of a node put one behind the other from the start of its pool, so that the scratch of a program is free of them
(R153). -/
def packPool (j : Fin 288) (s : State) : State :=
  let rs := s.runsOf j.1
  let sorted := rs.foldl (fun (l : List Run) r => l.takeWhile (fun x => decide (x.granule ≤ r.granule)) ++ r ::
    l.dropWhile (fun x => decide (x.granule ≤ r.granule))) []
  (sorted.foldl (fun (a : Nat × State) r =>
    let s := a.2
    let g := if a.1 % 2048 + r.len ≤ 2048 then a.1 else (a.1 / 2048 + 1) * 2048
    let b := s.homeBytes j.1 (64 * r.granule) (64 * r.len)
    let s := setTiers (fun x => { x with runs := x.runs.map fun y => if y = r then { y with granule := g } else y }) (putHome j.1 (64 * g) b s)
    let e := s.entry r.tile
    let s := if e.atHome && decide (e.node = j.1) && decide (e.granule = r.granule) then setEntry r.tile { e with granule := g } s else s
    (g + r.len, s)) (0, s)).2

/-- The moves in progress from or to runs of a node, by hauler. -/
def State.movesAt (s : State) (j : Nat) : List (Fin 8 × Moving) :=
  (List.finRange 8).flatMap fun c => ((s.tiers.moving[c]).filter fun m =>
    m.source.any (fun r => decide (r.1 = j)) || m.target.any (fun r => decide (r.1 = j))).map fun m => (c, m)

/-- A serving run that lies outside the pool of its node leaves it at once: to another pool, a clean copy's frame, else the tile's frame
(R153, R164; log entry 19). -/
def expelRun (r : Run) (s : State) : State :=
  let e := s.entry r.tile
  let s := dropRun r.tile r.node r.granule s
  match s.objOf r.tile with
  | none => s
  | some o =>
    if !(e.atHome && decide (e.node = r.node) && decide (e.granule = r.granule)) then s
    else match (if e.poison then none else s.placeRun o r.tile r.len) with
      | some (j, g) => setEntry r.tile { e with node := j.1, granule := g }
          (putHome j.1 (64 * g) (s.homeBytes r.node (64 * r.granule) (64 * r.len)) (takeRun r.tile j g r.len s))
      | none => arriveDram o { move := { kind := .evict, tile := r.tile, toHome := false, drop := true, widen := false, relocate := false }
                               phase := 3, source := none, target := none } s

/-- The pool of a node as its core's use of its banks leaves it (R153): moves that touch the node are given up and asked for again, runs that
wait for their release go, the others are packed, and those that no longer fit leave. -/
def fitPool (j : Fin 288) (s : State) : State :=
  let s := (s.movesAt j.1).foldl (fun s x => queueMove x.2.move (moveAbandon x.1 x.2 s)) s
  let s := setTiers (fun x => { x with runs := x.runs.filter fun r => decide (r.node ≠ j.1) || s.serving r }) s
  let s := packPool j s
  (s.runsOf j.1).foldl (fun s r => if s.inPool r.node r.granule r.len then s else expelRun r s) s

/-- Granules that the runs of a node need when they are packed. -/
def State.packedSize (s : State) (j : Fin 288) : Nat :=
  (s.runsOf j.1).foldl (fun g r => (if g % 2048 + r.len ≤ 2048 then g else (g / 2048 + 1) * 2048) + r.len) 0

/-- The pool left beside a scratch can hold what the core's banks hold (R164). -/
def State.poolHolds (s : State) (j : Fin 288) (scratch : Nat) : Bool := decide (s.packedSize j ≤ 2048 * (16 - scratch))

/-- A core that no graph binds any longer: its run-time state ends, its home memory stays. -/
def Core.unbind (c : Core) : Core := { freshCore with home := c.home, eccCorr := c.eccCorr }

/-- The multicast tables of cores emptied, their trees given back (10_fabric_routing.md R203). -/
def dropTreesOf (mine : List (Fin 288)) (s : State) : State :=
  let gone := mine.flatMap fun n => (s.ni (coreNi n)).mcast.toList.filterMap fun e => e.map (·.2)
  mine.foldl (fun s n => setNi (coreNi n) (fun x => { x with mcast := Vector.replicate 16 none }) s)
    (setFab (fun x => { x with trees := x.trees.filter fun t => !gone.contains t.1 }) s)

/-- The trees of a graph's cores given back. -/
def dropTrees (g : Fin 8) (s : State) : State :=
  dropTreesOf ((List.finRange 288).filter fun n => decide ((s.core n).graph = some g)) s

/-- Cores bound to a graph by their logical numbers and loaded with an image (R163, R164); those it bound before and no longer
binds are released. -/
def bindCores (g : Fin 8) (cores : List Nat) (h : List Word) (code : List Byte) (s : State) : State :=
  let nodes := cores.filterMap s.nodeOf
  let s := dropTrees g s
  let s := { s with grid := { s.grid with core := mapV s.grid.core (fun j c =>
    if nodes.contains j then ({ c with graph := some g }).load h code
    else if c.graph = some g then c.unbind else c) } }
  buildEvent (hBuild h) (nodes.foldl (fun s j => fitPool j s) s)

/-- The image of a graph, as kept in its object (R164). -/
def State.imageOf (s : State) (id : Nat) : Option (List Word × List Byte) := (s.objId id).bind s.image

/-! ### Credit plans (R169, R361) -/

/-- The holders of a target record with the credits that R169 gives them, even shares worked out; none when a limit breaks. -/
def shareCredits (hs : List (Nat × Nat)) : Option (List (Nat × Nat)) :=
  let listed := (hs.map (·.2)).sum
  let even := ((hs.filter fun h => h.2 = 0).map (·.1)).foldl (fun (l : List Nat) x => l.takeWhile (fun y => decide (y ≤ x)) ++ x ::
    l.dropWhile (fun y => decide (y ≤ x))) []
  let left := 112 - listed
  let per := left / max 1 even.length
  let extra := even.take (left % max 1 even.length)
  let out := hs.map fun (h, n) => (h, if n ≠ 0 then n else per + (if extra.contains h then 1 else 0))
  if 112 < listed || 64 < hs.length || hs.isEmpty || out.any (fun x => x.2 = 0) || (hs.map (·.1)).eraseDups.length ≠ hs.length then none
  else some out

/-- Target records read from words: each with its holders; none when the content is not that of Table 19.14. -/
def readTargets (cores : List Nat) : Nat → List Word → Option (List (Nat × Nat × Nat) × List Word)
  | 0, ws => some ([], ws)
  | n + 1, ws =>
    match ws with
    | [] => none
    | w :: ws =>
      let t := fld w 0 8
      let h := fld w 8 8
      let hs := (ws.take h).map fun x => (fld x 0 8, fld x 8 8)
      if ws.length < h || fld w 16 16 ≠ 0 || (ws.take h).any (fun x => fld x 16 16 ≠ 0) || !cores.contains t
          || hs.any (fun x => !cores.contains x.1) then none
      else
        match shareCredits hs, readTargets cores n (ws.drop h) with
        | some out, some (rest, ws') => some (out.map (fun x => (t, x.1, x.2)) ++ rest, ws')
        | _, _ => none

/-- Multicast sets read from words. -/
def readSets (cores : List Nat) : Nat → List Word → Option (List (Nat × Nat × List Nat))
  | 0, _ => some []
  | n + 1, ws =>
    match ws with
    | [] => none
    | w :: ws =>
      let d := fld w 12 6
      let k := (d + 3) / 4
      let ds := (List.range d).map fun i => fld (wAt ws (i / 4)) (8 * (i % 4)) 8
      let tail := (List.range (4 * k - d)).all fun i => fld (wAt ws ((d + i) / 4)) (8 * ((d + i) % 4)) 8 = 0
      if ws.length < k || fld w 18 14 ≠ 0 || d = 0 || 32 < d || !tail || !cores.contains (fld w 0 8) || ds.any (fun x => !cores.contains x) then none
      else (readSets cores n (ws.drop k)).map fun rest => (fld w 0 8, fld w 8 4, ds) :: rest

/-- The words of a plan object after the header that its counts name: at most what the object holds. -/
def State.planWords (s : State) (o : Obj) : List Word := wordsOf ((s.objBytes o 0 (4096 * o.tiles)).getD [])

/-- A credit plan read for a graph's cores (R169, R211, R216, R361); none for any content that the table does not allow. -/
def readPlan (cores : List Nat) (ws : List Word) : Option Plan :=
  let cls := fld (wAt ws 1) 8 8
  let heads := (List.range 4).map fun c => wAt ws (3 + c)
  let tos := (List.range 4).map fun c => wAt ws (7 + c)
  if ws.length < 16 || wAt ws 0 ≠ 0x43504C4E || fld (wAt ws 1) 0 8 ≠ 1 || fld (wAt ws 1) 16 16 ≠ 0 || cls = 0 || 3 < cls
      || wAt ws 3 ≠ 0 || heads.any (fun w => fld w 13 3 ≠ 0 || fld w 28 4 ≠ 0)
      || tos.any (fun w => fld w 14 18 ≠ 0 || 16000 < fld w 0 14) || (List.range 5).any (fun k => wAt ws (11 + k) ≠ 0) then none
  else
    match readTargets cores (fld (wAt ws 2) 0 16) (ws.drop 16) with
    | none => none
    | some (ts, rest) =>
      match readSets cores (fld (wAt ws 2) 16 16) rest with
      | none => none
      | some sets =>
        let pairs := sets.map fun x => (x.1, x.2.1)
        let targets := (ts.map fun t => (t.1, t.2.1))
        if pairs.eraseDups.length ≠ pairs.length || targets.eraseDups.length ≠ targets.length then none
        else some {
          cls := BitVec.ofNat 2 cls, credits := ts, mcast := sets
          rate := Vector.ofFn fun c => BitVec.ofNat 13 (fld (wAt ws (3 + c.1)) 0 13)
          burst := Vector.ofFn fun c => BitVec.ofNat 12 (fld (wAt ws (3 + c.1)) 16 12)
          toUs := Vector.ofFn fun c => BitVec.ofNat 14 (fld (wAt ws (7 + c.1)) 0 14) }

/-- Trees that a plan needs. -/
def treeCount (p : Option Plan) : Nat := ((p.map (·.mcast)).getD []).length

/-- The fabric can hold the plan's trees beside those that the plans of the other graphs, in force or staged, need (R203). -/
def State.treesFit (s : State) (g : Fin 8) (p : Plan) : Bool :=
  let others := ((ixs s.grid.graph).map fun (h, x) => if h = g then 0 else max (treeCount x.plan) (treeCount x.stagedPlan)).sum
  decide (others + p.mcast.length ≤ 256)

/-- The union of the XY paths from a node to destinations (R203): output-port masks by router, bit 4 the local port. -/
def State.treeMasks (s : State) (a : Nat) (dests : List Nat) : List (Nat × BitVec 6) :=
  dests.foldl (fun m d => match s.nodeOf d with
    | some j => if s.xyOk a j.1 then
        let m := (xyPath 18 a j.1).foldl (fun m (n, dir) => put m n (setBit (look m n 0) dir true)) m
        put m j.1 (setBit (look m j.1 0) 4 true)
      else m
    | none => m) []

/-- A plan put in force on a graph's cores (R169, R185, R203, R214, R215): credits, metronomes, timeouts, multicast tables. At a
launch the tokens start at BURST; at a switch they are kept, capped at the new BURST (R212). -/
def installPlan (g : Fin 8) (p : Plan) (launch : Bool) (s : State) : State :=
  let s := dropTrees g s
  let nodes := (s.grid.graph[g]).cores.filterMap fun l => (s.nodeOf l).map fun j => (l, j)
  let s := nodes.foldl (fun s (l, j) => setNi (coreNi j) (fun x =>
    let rate := Vector.ofFn fun (c : Fin 4) => if p.rate[c] = 0 then (bootMet false (coreNi j) c).1 else p.rate[c]
    let burst := Vector.ofFn fun (c : Fin 4) => if p.burst[c] = 0 then (bootMet false (coreNi j) c).2 else p.burst[c]
    { x with
      rate := rate, burst := burst
      toUs := Vector.ofFn fun (c : Fin 4) => if p.toUs[c] = 0 then 200 else p.toUs[c]
      tokens := Vector.ofFn fun (c : Fin 4) => if launch then 4000 * (burst[c].toNat : Int) else min (4000 * (burst[c].toNat : Int)) (x.tokensNow c s.clk.tempo)
      tlast := Vector.replicate 4 s.clk.tempo
      credits := (p.credits.filter fun k => decide (k.2.1 = l)).map fun k => (k.1, k.2.2) }) s) s
  p.mcast.foldl (fun s (src, e, ds) =>
    let used := s.fab.trees.map (·.1)
    match s.nodeOf src, (List.range 256).find? fun t => !used.contains (BitVec.ofNat 8 t) with
    | some j, some t =>
      let s := setFab (fun x => { x with trees := x.trees ++ [(BitVec.ofNat 8 t, s.treeMasks j.1 ds)] }) s
      setNi (coreNi j) (fun x => { x with mcast := if h : e < 16 then upd x.mcast ⟨e, h⟩ (some (ds, BitVec.ofNat 8 t)) else x.mcast }) s
    | _, _ => s) s

/-! ### Launch, switch, stop -/

/-- Requests of a core that no one waits for any longer: their tags are quarantined under the next generation, so that their
replies are late (11_fabric_service.md R217). -/
def dropReqs (n : Fin 288) (s : State) : State :=
  setNi (coreNi n) (fun x =>
    let out := x.outstanding
    { x with
      reqs := [], reserved := 0
      gens := out.foldl (fun g r => put g r.pkt.tag (look g r.pkt.tag 0 + 1)) x.gens
      quarantine := x.quarantine ++ out.map fun r => r.late s.clk.tempo }) s

/-- A core starts at ENTRY with the registers of R166. -/
def Core.launch (c : Core) (l : Nat) (g : Fin 8) (epoch : BitVec 16) : Core :=
  let f : Core := freshCore
  { f with
    run := .running, pc := wd (4 * c.entry), graph := c.graph, imem := c.imem, codeBytes := c.codeBytes, entry := c.entry
    scratch := c.scratch, mbox := c.mbox, home := c.home, eccCorr := c.eccCorr
    g := ((f.g.set 0 (wd l)).set 1 (wd g.1)).set 2 (epoch.setWidth 32) }

/-- The home memory of a core from an address on takes contents that the spec leaves open (R166, R170). -/
def freeScratch (j : Fin 288) (base : Nat) (s : State) : State :=
  let b := (Config.scratch s.freeCtr j.1).take (0x200000 - base)
  setCore j (fun c => { c with home := c.home.filter (fun x => decide (x.1 < base)) ++ Mem.ofBytes base b }) { s with freeCtr := s.freeCtr + 1 }

/-- Every core of the graph, by logical number and node. -/
def State.coresOf (s : State) (g : Fin 8) : List (Nat × Fin 288) :=
  (s.grid.graph[g]).cores.filterMap fun l => (s.nodeOf l).map fun j => (l, j)

/-- A graph launched (R166): RUNNING, its cores started with the graph's epoch, which only a switch changes (R165), the plan in force. -/
def launchGraph (g : Fin 8) (s : State) : State :=
  let e := (s.grid.graph[g]).epoch
  let s := setGraph g (fun x => { x with state := .running, stopping := false }) s
  let s := (s.coresOf g).foldl (fun s (l, j) =>
    freeScratch j (s.core j).scratchBase (setCore j (fun c => c.launch l g e) (dropReqs j s))) s
  match (s.grid.graph[g]).plan with
  | some p => installPlan g p true s
  | none => s

/-- A core that waits at PITCH or for its rows goes on. -/
def Core.resume (c : Core) : Core := if c.run = .paused then { c with run := .running, atPitch := false } else c

/-- Every core of the graph goes on. -/
def resumeCores (g : Fin 8) (s : State) : State :=
  { s with grid := { s.grid with core := mapV s.grid.core (fun _ c => if c.graph = some g then c.resume else c) } }

/-- A staged switch takes place (R165): images load, the plan takes effect, the cores resume at ENTRY with a new epoch. -/
def switchGraph (g : Fin 8) (s : State) : State :=
  let x := s.grid.graph[g]
  let e := x.epoch + 1
  let s := match x.stagedImage with
    | some (id, cores) => match s.imageOf id with
      | some (h, code) => bindCores g cores h code
          (setGraph g (fun y => { y with image := id, cores := cores, numerics := hNumerics h, build := hBuild h, stagedImage := none }) s)
      | none => s
    | none => s
  let s := setGraph g (fun y => { y with
    epoch := e, plan := if x.stagedPlan.isSome then x.stagedPlan else y.plan, stagedImage := none, stagedPlan := none }) s
  let s := match (s.grid.graph[g]).plan with
    | some p => installPlan g p false s
    | none => s
  (s.coresOf g).foldl (fun s (l, j) => freeScratch j (s.core j).scratchBase (setCore j (fun c =>
    if c.run = .paused then { c with
      run := .running, atPitch := false, pc := wd (4 * c.entry), handler := false
      g := ((c.g.set 0 (wd l)).set 1 (wd g.1)).set 2 (e.setWidth 32) }
    else c.launch l g e) s)) s

/-- The streams of a graph stop taking input (Table 20.2): the phrase in progress ends with what has been committed. -/
def endPhrases (g : Fin 8) (s : State) : State :=
  (s.streamsOf g).foldl (fun s i =>
    let t := s.stream[i]
    let s := setStream i (fun t => { t with idleAt := s.clk.tempo }) (closeSegments i s)
    if t.state = .active then toState i .listening s
    else if t.state = .draining then toState i .opened s
    else s) s

/-- A graph stopped and LOADED (Table 8.2): its cores are idle, its streams hold no phrase. -/
def stopGraph (g : Fin 8) (s : State) : State :=
  let s := setGraph g (fun x => { x with state := .loaded, stopping := false, stagedImage := none, stagedPlan := none, rowsDown := false })
    (dropTrees g s)
  let s := { s with grid := { s.grid with core := mapV s.grid.core (fun _ c =>
    if c.graph = some g then { c with run := .idle, atPitch := false, waitSince := none } else c) } }
  endPhrases g s

/-- A graph EMPTY: its cores are released. -/
def releaseGraph (g : Fin 8) (s : State) : State :=
  let x := s.grid.graph[g]
  let s := setGraph g (fun _ => { ({} : Graph) with epoch := x.epoch }) (dropTrees g s)
  { s with grid := { s.grid with core := mapV s.grid.core (fun _ c => if c.graph = some g then c.unbind else c) } }

/-! ### Common pitch boundaries (15_recurrence.md R286, 09_core_isa.md R190) -/

/-- Every core of the graph has paused at PITCH. -/
def State.allPaused (s : State) (g : Fin 8) : Bool := (s.coresOf g).all fun x => (s.core x.2).atPitch

/-- The streams of a graph stand at a common pitch boundary: each is idle, or the graph's cores have paused at PITCH. -/
def State.atBoundary (s : State) (g : Fin 8) : Bool :=
  (s.streamsOf g).all (fun i => s.streamIdle i || decide ((s.stream[i]).state = .paused) || decide ((s.stream[i]).state = .opened)
      || decide ((s.stream[i]).state = .faulted))
    || (s.coresOf g).all fun x => decide ((s.core x.2).run ≠ .running)

/-- Something waits for the graph's next common pitch boundary: a switch, a stop, a unison change, or a mode that leaves ACTIVE
(R165, Table 8.2, 16_unison.md R291, 24_power.md R419). -/
def State.boundaryDue (s : State) (g : Fin 8) : Bool :=
  let x := s.grid.graph[g]
  x.stagedImage.isSome || x.stagedPlan.isSome || x.stopping || s.grid.uPending.isSome
    || (decide (s.pwr.mode = 3) && s.pwr.target.any fun m => decide (m ≠ 3))

/-- PROGRAM_SWITCH (R165, R190): every core of the graph has paused at PITCH; the waiting commands reply. -/
def execProgramSwitch (g : Fin 8) (s : State) : Out :=
  let x := s.grid.graph[g]
  act s (decide (x.state = .running) && (x.stagedImage.isSome || x.stagedPlan.isSome) && s.allPaused g && !x.rowsDown)
    (let s := switchGraph g s
     finishOk (fun w => decide (w.on = .switch g)) s)

/-- A graph that is to stop and stands at a boundary stops, and its GRAPH_STOP replies (Table 8.2). A switch that still waits has no
RUNNING graph any longer: STATE_CONFLICT with LOADED. -/
def settleStop (g : Fin 8) (s : State) : State :=
  if (s.grid.graph[g]).stopping && s.atBoundary g then
    finishOk (fun w => decide (w.on = .stop g)) (finishWaits (fun w => decide (w.on = .switch g)) (fun _ => (0x12, res1 1)) (stopGraph g s))
  else s

/-- Every stop that has come to its boundary. -/
def settleStops (s : State) : State := (List.finRange 8).foldl (fun s g => settleStop g s) s

end Sys2Proof.Machine
end

