-- ==== Sys2Proof/Machine/Serve.lean ====
section
/-! DEFINITION. What targets do with requests and messages: scratch requests and messages at a core (09_core_isa.md R179..R185,
10_fabric_routing.md R197, R198), U-space accesses at owner haulers and tier stores (12_tiers.md R235..R243, R248), the haulers'
commands (Table 12.3). -/

namespace Sys2Proof.Machine

/-- The first packet of a command that an NI has received. -/
def State.firstRx (s : State) (i : Fin 300) (cmd : Nat) : Option Packet := (s.ni i).rx.find? fun p => decide (p.cmd.toNat = cmd)

/-- The first message of a command that no earlier message to the same mailbox waits before (09_core_isa.md R183). -/
def State.firstMsg (s : State) (i : Fin 300) (cmd : Nat) : Option Packet :=
  let ms := (s.ni i).rx.filter fun p => decide (vnOf p.cmd = 2)
  (ms.zipIdx.find? fun (p, k) => decide (p.cmd.toNat = cmd) && (ms.take k).all fun q => decide (q.mb ≠ p.mb)).map (·.1)

/-- A packet taken from its slot. -/
def dropRx (i : Fin 300) (p : Packet) (s : State) : State := setNi i (fun x => { x with rx := x.rx.erase p }) s

/-- A packet served: a poisoned one is not applied and is answered NACK_POISON (R198). -/
def servePacket (i : Fin 300) (p : Packet) (s : State) (f : Packet → State → State) : Out :=
  let s' := dropRx i p s
  act s true (if p.poison then respond i p 0x43 0 id (setFab (fun x => { x with poison := satAdd x.poison 1 }) s') else f p s')

/-- The first request of a command served. -/
def serve (i : Fin 300) (cmd : Nat) (s : State) (f : Packet → State → State) : Out :=
  match s.firstRx i cmd with
  | none => .next s
  | some p => servePacket i p s f

/-- The first message of a command served. -/
def serveMsg (i : Fin 300) (cmd : Nat) (s : State) (f : Packet → State → State) : Out :=
  match s.firstMsg i cmd with
  | none => .next s
  | some p => servePacket i p s f

/-! ### Requests to a core's scratch -/

/-- The requester's graph is the target's (R179). -/
def State.sameGraph (s : State) (n : Fin 288) (src : BitVec 10) : Bool :=
  match (s.core n).graph, s.nodeOf src.toNat with
  | some g, some j => decide ((s.core j).graph = some g)
  | _, _ => false

/-- The target admits an access of len bytes to its scratch (R179). -/
def State.admits (s : State) (n : Fin 288) (p : Packet) (len : Nat) : Bool :=
  s.sameGraph n p.src && (s.core n).inScratch p.addr.toNat len

/-- A tile sent in eight DATA packets (R184). -/
def sendTile (i : Fin 300) (p : Packet) (t : Tile) (s : State) : State :=
  (List.range 8).foldl (fun s k => respond i p 0x40 0 (fun r => { r with
    seq := BitVec.ofNat 3 k, len := 16, body := tilePart t k, slot := if k = 7 then r.slot else 0 }) s) s

/-- A read answered with a status and no data. -/
def refuseRead (i : Fin 300) (p : Packet) (st : BitVec 8) (s : State) : State := respond i p 0x40 st id s

/-- RD_TILE (R184, R179, R152). -/
def execRdTile (n : Fin 288) (ecc : Ecc) (s : State) : Out :=
  serve (coreNi n) 0x01 s fun p s =>
    if !(s.admits n p 4096) then refuseRead (coreNi n) p 0x16 s
    else
      let (k, s) := s.pick 64
      let s := sramEcc n (p.addr.toNat + 64 * k) ecc s
      if ecc = .uncorrectable then refuseRead (coreNi n) p 0x3F s
      else sendTile (coreNi n) p (BitVec.ofNat 32768 (natOf ((s.core n).home.readN p.addr.toNat 4096))) s

/-- WR_512 (R184, R179). -/
def execWr512 (n : Fin 288) (s : State) : Out :=
  serve (coreNi n) 0x02 s fun p s =>
    if !(s.admits n p 512) then ack (coreNi n) p 0x16 s
    else ack (coreNi n) p 0 (setCore n (fun c => { c with home := c.home.writeN p.addr.toNat (bodyBytes p.body 512) }) s)

/-- An atomic operation applied whole; the reply carries the value that preceded it (Table 9.5, R179). A word that cannot be read (R152) is
answered INTERNAL, and nothing is applied. -/
def amo (b : BankRead) (cmd : Nat) (s : State) (f : Word → Packet → Word) : Out :=
  let n := b.core
  serve (coreNi n) cmd s fun p s =>
    if !(s.admits n p 4) then ack (coreNi n) p 0x16 s
    else
      let s := sramEcc n p.addr.toNat b.ecc s
      if b.ecc = .uncorrectable then ack (coreNi n) p 0x3F s else
      let old := wordOf ((s.core n).home.readN p.addr.toNat 4)
      respond (coreNi n) p 0x41 0 (fun r => { r with opa := old })
        (setCore n (fun c => { c with home := c.home.writeN p.addr.toNat (bytesOf (f old p)) }) s)

/-- AMO_ADD (R197, R181). -/
def execAmoAdd (n : BankRead) (s : State) : Out := amo n 0x03 s fun old p => old + p.opa
/-- AMO_SWAP (R197, R181). -/
def execAmoSwap (n : BankRead) (s : State) : Out := amo n 0x04 s fun _ p => p.opa
/-- AMO_CAS (R197, R181). -/
def execAmoCas (n : BankRead) (s : State) : Out := amo n 0x05 s fun old p => if old = p.opa then p.opb else old

/-- A message at its target (R183, R185): stored and acknowledged, or discarded with DENIED. -/
def takeMsg (n : Fin 288) (p : Packet) (s : State) : State :=
  if !bit (s.core n).mbox p.mb.toNat then ack (coreNi n) p 0x16 s
  else ack (coreNi n) p 0 (land n { src := p.src, len := BitVec.ofNat 4 (p.len.toNat - 1), mb := p.mb, body := p.body, cls := p.cls } s)

/-- MSG (R183). -/
def execMsg (n : Fin 288) (s : State) : Out := serveMsg (coreNi n) 0x80 s (takeMsg n)
/-- MSG_TREE (R204). -/
def execMsgTree (n : Fin 288) (s : State) : Out := serveMsg (coreNi n) 0x81 s (takeMsg n)

/-! ### U-space accesses (12_tiers.md R235..R243) -/

/-- The DRAM row of a frame and its channel (log entry 25). -/
def dramRow (frame : Nat) : UnitRef := unit uDramRow (frame % 8 * 2 ^ 21 + frame / 8)

/-- What the ECC of a DRAM channel does to a read of a tile (R248). -/
def dramEcc (t : Nat) (e : Ecc) (s : State) : State :=
  let f := (s.entry t).dframe
  let c : Fin 8 := ⟨f % 8, Nat.mod_lt _ (by decide)⟩
  match e with
  | .clean => s
  | .corrected => rowError (dramRow f) (setTiers (fun x => { x with eccCorr := modAt x.eccCorr c (satAdd · 1) }) s)
  | .uncorrectable =>
    poison t (alert 1 (hardFail (dramRow f) (setTiers (fun x => { x with eccUnc := modAt x.eccUnc c (satAdd · 1) }) s)))

/-- The bytes of a tile as a tile. -/
def tileVal (b : List Byte) : Tile := BitVec.ofNat 32768 (natOf b)

/-- The owner's answer for a home-resident tile (R235): node and granule in OPA, LEN and FMT in OPB (log entry 26). -/
def redirect (i : Fin 300) (p : Packet) (e : Entry) (s : State) : State :=
  respond i p 0xC0 0 (fun r => { r with opa := wd (e.node + e.granule * 2 ^ 9), opb := wd (e.len.toNat + e.fmt.toNat * 2 ^ 6) }) s

/-- The run of a tile that an access names at a node: right tile, first granule as in OPA. -/
def State.namedRun (s : State) (node : Nat) (p : Packet) : Option Run :=
  s.tiers.runs.find? fun r => decide (r.node = node) && decide (r.tile = p.addr.toNat / 4096) && decide (r.granule = p.opa.toNat)

/-- A read at the owner hauler (R235, R232, R248). -/
def ownerRead (i : Fin 300) (p : Packet) (ecc : Ecc) (s : State) : State :=
  let t := p.addr.toNat / 4096
  if (s.objOf t).isNone then refuseRead i p 0x16 s
  else if (s.entry t).poison then refuseRead i p 0x3F s
  else if (s.entry t).atHome then redirect i p (s.entry t) s
  else
    let s := if (s.entry t).tier = .dram then dramEcc t ecc s else s
    match readTile t s with
    | (some b, s) => sendTile i p (tileVal b) s
    | (none, s) => refuseRead i p 0x3F s

/-- A read at a tier store (R235, R236): a run that holds another tile, or that the map entry no longer names, answers U_MOVED. A closed
run is read until then (R241). -/
def storeRead (n : Fin 288) (p : Packet) (ecc : Ecc) (s : State) : State :=
  let i := coreNi n
  let t := p.addr.toNat / 4096
  match (s.namedRun n.1 p).filter s.serving with
  | none => respond i p 0xC1 0 id s
  | some r =>
    let s := sramEcc n (64 * r.granule) ecc s
    if (s.entry t).poison || decide (ecc = .uncorrectable) then refuseRead i p 0x3F s
    else match readTile t s with
    | (some b, s) => sendTile i p (tileVal b) s
    | (none, s) => refuseRead i p 0x3F s

/-- A write that the owner has to hold: the tile moves, or its home run is short (R241, R243). -/
def State.writeHeld (s : State) (i : Fin 300) (p : Packet) : Bool :=
  let e := s.entry (p.addr.toNat / 4096)
  decide (288 ≤ i.1) && p.cmd == 0x07 && (e.inflight || (e.atHome && decide (e.len ≠ 63)))

/-- The accesses of an NI that can be served now: one behind a held access of the same initiator to the same tile is held with
it (R237). -/
def unblocked (s : State) (i : Fin 300) : List Packet → List Packet → List Packet
  | _, [] => []
  | held, p :: ps =>
    let behind := held.any fun q => decide (q.src = p.src) && decide (q.addr.toNat / 4096 = p.addr.toNat / 4096)
    if !(p.cmd == 0x06 || p.cmd == 0x07) then unblocked s i held ps
    else if (s.writeHeld i p && !p.poison) || behind then unblocked s i (held ++ [p]) ps
    else p :: unblocked s i held ps

/-- The first U-space access of a command that can be served. -/
def State.firstU (s : State) (i : Fin 300) (cmd : Nat) : Option Packet :=
  (unblocked s i [] (s.ni i).rx).find? fun p => decide (p.cmd.toNat = cmd)

/-- A U-space access served. -/
def serveU (i : Fin 300) (cmd : Nat) (s : State) (none_ : State → State) (f : Packet → State → State) : Out :=
  match s.firstU i cmd with
  | none => act s true (none_ s)
  | some p =>
    let s' := dropRx i p s
    act s true (if p.poison then respond i p 0x43 0 id (setFab (fun x => { x with poison := satAdd x.poison 1 }) s') else f p s')

/-- U_RD (R235). -/
def execURd (i : Fin 300) (ecc : Ecc) (s : State) : Out :=
  serveU i 0x06 s id fun p s => if h : i.1 < 288 then storeRead ⟨i.1, h⟩ p ecc s else ownerRead i p ecc s

/-- The widening that a held write asks for (R243). -/
def askWiden (p : Packet) (s : State) : State :=
  let t := p.addr.toNat / 4096
  let e := s.entry t
  if e.atHome && decide (e.len ≠ 63) && !e.inflight then
    queueMove { kind := .demand, tile := t, toHome := true, drop := false, widen := true, relocate := false } s
  else s

/-- The widenings of every held write at an owner. -/
def askWidens (i : Fin 300) (s : State) : State :=
  ((s.ni i).rx.filter fun p => s.writeHeld i p).foldl (fun s p => askWiden p s) s

/-- The 512 B parts that one TUPUT has written of a POISON tile: all eight are a full-tile write and clear POISON (R248). -/
def refillPart (p : Packet) (s : State) : State :=
  let t := p.addr.toNat / 4096
  if !(s.entry t).poison || decide (p.opb ≠ 0) then s
  else
    let old := ((s.tiers.refill.find? fun r => decide (r.1 = t) && decide (r.2.1 = p.src.toNat)).map (·.2.2)).getD 0
    let new := setBit old p.seq.toNat true
    let rest := s.tiers.refill.filter fun r => !(decide (r.1 = t) && decide (r.2.1 = p.src.toNat))
    if new = 0xFF then
      setEntry t { s.entry t with poison := false } (setTiers (fun x => { x with refill := rest.filter fun r => r.1 ≠ t }) s)
    else setTiers (fun x => { x with refill := rest ++ [(t, p.src.toNat, new)] }) s

/-- Bytes that a U_WR writes: a service's count in OPB, else 512 (log entry 26). -/
def Packet.writeLen (p : Packet) : Nat := if p.opb = 0 then 512 else p.opb.toNat

/-- A U_WR applied and acknowledged. -/
def applyWrite (i : Fin 300) (p : Packet) (s : State) : State :=
  let s := writeTile (p.addr.toNat / 4096) (p.addr.toNat % 4096) (bodyBytes p.body p.writeLen) s
  ack i p 0 (refillPart p s)

/-- A write at the owner hauler (R235, R242): redirected to a home run, else applied in the frame. -/
def ownerWrite (i : Fin 300) (p : Packet) (ecc : Ecc) (s : State) : State :=
  let t := p.addr.toNat / 4096
  match s.objOf t with
  | none => ack i p 0x16 s
  | some o =>
    let e := s.entry t
    if e.atHome then redirect i p e (if o.cached then setEntry t { e with dirty := true } s else s)
    else applyWrite i p (if e.tier = .dram && decide (e.fmt ≠ 0) then dramEcc t ecc s else s)

/-- A write at a tier store (R236, R243): a closed or a short run answers U_MOVED and is not written. -/
def storeWrite (n : Fin 288) (p : Packet) (s : State) : State :=
  match s.namedRun n.1 p with
  | some r => if r.closed || decide (r.len ≠ 64) then respond (coreNi n) p 0xC1 0 id s else applyWrite (coreNi n) p s
  | none => respond (coreNi n) p 0xC1 0 id s

/-- U_WR (R235). -/
def execUWr (i : Fin 300) (ecc : Ecc) (s : State) : Out :=
  serveU i 0x07 s (askWidens i) fun p s => if h : i.1 < 288 then storeWrite ⟨i.1, h⟩ p s else ownerWrite i p ecc s

/-! ### The haulers' commands at a tier store (Table 12.3); OPA holds the first granule, OPB the granules -/

/-- H_RD (R236, R252, R152): the run's stored bytes, unexpanded, in 512 B packets; INTERNAL when they cannot be read. -/
def execHRd (b : BankRead) (s : State) : Out :=
  let n := b.core
  serve (coreNi n) 0xC4 s fun p s =>
    let (k, s) := s.pick (max 1 p.opb.toNat)
    let s := sramEcc n (64 * (p.opa.toNat + k)) b.ecc s
    if b.ecc = .uncorrectable then refuseRead (coreNi n) p 0x3F s else
    let b := s.homeBytes n.1 (64 * p.opa.toNat) (64 * p.opb.toNat)
    (List.range ((p.opb.toNat + 7) / 8)).foldl (fun s k =>
      let part := (b.drop (512 * k)).take 512
      respond (coreNi n) p 0x40 0 (fun r => { r with
        seq := BitVec.ofNat 3 k, len := BitVec.ofNat 5 ((part.length + 31) / 32), body := bodyOf part
        slot := if 512 * (k + 1) < b.length then 0 else r.slot }) s) s

/-- H_WR (R236): one packet of a run; a run that is no longer the tile's is not written (log entry 19). -/
def execHWr (n : Fin 288) (s : State) : Out :=
  serve (coreNi n) 0xC5 s fun p s =>
    if s.tiers.runs.any fun r => r.at_ (p.addr.toNat / 4096) n.1 p.opa.toNat then
      ack (coreNi n) p 0 (putHome n.1 (64 * p.opa.toNat + 512 * p.seq.toNat) (bodyBytes p.body (32 * p.len.toNat)) s)
    else ack (coreNi n) p 0x16 s

/-- A write to the run that a close names, received before the close and not yet applied. -/
def State.writesAhead (s : State) (i : Fin 300) (p : Packet) : Bool :=
  ((s.ni i).rx.takeWhile fun q => !decide (q = p)).any fun q => q.cmd == 0x07 && decide (q.opa = p.opa)

/-- H_CLOSE (R241): earlier writes are applied first; later ones receive U_MOVED. -/
def execHClose (n : Fin 288) (s : State) : Out :=
  let i := coreNi n
  if (s.firstRx i 0xC6).any (fun p => s.writesAhead i p) then .next s
  else serve i 0xC6 s fun p s => ack i p 0 (closeRun (p.addr.toNat / 4096) n.1 p.opa.toNat true s)

/-- H_FREE (R241): the run is released. -/
def execHFree (n : Fin 288) (s : State) : Out :=
  serve (coreNi n) 0xC7 s fun p s => ack (coreNi n) p 0 (dropRun (p.addr.toNat / 4096) n.1 p.opa.toNat s)

end Sys2Proof.Machine
end

