-- ==== Sys2Proof/Machine/Replies.lean ====
section
/-! DEFINITION. Replies at their initiators, timeouts, late replies, credits (09_core_isa.md R184..R186, 10_fabric_routing.md
R198, R204, 11_fabric_service.md R216..R219, 12_tiers.md R236), and the haulers' moves that they drive (12_tiers.md R241, R244). -/

namespace Sys2Proof.Machine

/-! ### Hauler moves: what follows the end of one of their requests -/

/-- A request of the hauler of a channel to the tier store that holds a run. -/
def haulReq (c : Fin 8) (cmd : Nat) (tile : Nat) (run : Nat × Nat × Nat) (f : Packet → Packet) (s : State) : State :=
  issue (dramNi c) (storeDest run.1) .service
    (f { blank with cmd := BitVec.ofNat 8 cmd, cls := 2, addr := BitVec.ofNat 40 (4096 * tile), opa := wd run.2.1, opb := wd run.2.2 }) s

/-- The phase of a hauler's move of a tile set. -/
def setPhase (c : Fin 8) (t k : Nat) (s : State) : State :=
  setTiers (fun x => { x with moving := modAt x.moving c fun l => l.map fun m => if m.move.tile = t then { m with phase := k } else m }) s

/-- The copy to a home target starts: H_WR packets of the bytes (R241 step 3). -/
def haulWrite (c : Fin 8) (m : Moving) (s : State) : State :=
  let t := m.move.tile
  match m.target with
  | none => setPhase c t 3 s
  | some run =>
    let b := s.moveBytes m
    let send := fun (s : State) (k : Nat) =>
      let part := (b.drop (512 * k)).take 512
      haulReq c 0xC5 t run (fun p => { p with
        seq := BitVec.ofNat 3 k, len := BitVec.ofNat 5 ((part.length + 31) / 32), body := bodyOf part }) s
    (List.range ((b.length + 511) / 512)).foldl send (setPhase c t 2 s)

/-- A move that carries no data from its home run: a clean CACHED copy that is only dropped (R241), or a POISON tile that leaves. -/
def State.dropsOnly (s : State) (m : Moving) : Bool :=
  let e := s.entry m.move.tile
  m.target.isNone && (e.poison || (m.move.drop && !e.dirty && (s.objOf m.move.tile).any fun o => o.cached))

/-- A hauler's request for a tile has ended with a status (R241): the close, the read, the writes, in turn; a move that fails is given
up. What an earlier move of the tile asked of another run counts for nothing. -/
def haulEnd (c : Fin 8) (p : Packet) (st : BitVec 8) (s : State) : State :=
  let t := p.addr.toNat / 4096
  match s.movingOf c t with
  | none => s
  | some m =>
    let run := if p.cmd = 0xC5 then m.target else m.source
    if p.cmd = 0xC7 || !run.any fun r => decide (p.opa = wd r.2.1) then s
    else if st ≠ 0 then finishMoves (moveAbandon c m s)
    else if p.cmd = 0xC6 && m.phase = 0 then
      match m.source with
      | some run => if s.dropsOnly m then setPhase c t 3 s else haulReq c 0xC4 t run id (setPhase c t 1 s)
      | none => s
    else if p.cmd = 0xC4 && m.phase = 1 then haulWrite c m s
    else if p.cmd = 0xC5 && m.phase = 2
        && !(s.ni (dramNi c)).reqs.any (fun r => r.pkt.cmd == 0xC5 && decide (r.pkt.addr.toNat / 4096 = t)) then setPhase c t 3 s
    else s

/-- TILE_MOVE_START (R244): the next queued operation of a hauler; a home source is closed first, a frame is read (R248). A frame that cannot
be read gives its tile POISON, and the move is given up. -/
def execTileMoveStart (f : FrameRead) (s : State) : Out :=
  let c := f.chan
  act s (s.sterdo && s.boot.dramReady)
    (let (t, s) := moveNext c s
     match t.bind (s.movingOf c) with
     | none => s
     | some m =>
       match m.phase, m.source with
       | 0, some run => haulReq c 0xC6 m.move.tile run id s
       | 2, _ =>
         let s := dramEcc m.move.tile f.ecc s
         if f.ecc = .uncorrectable then finishMoves (moveAbandon c m s) else haulWrite c m s
       | _, _ => s)

/-- TILE_MOVE_DONE (R241 steps 4, 5): the entry of the first tile whose copy has ended is rewritten and the source released. -/
def execTileMoveDone (c : Fin 8) (s : State) : Out :=
  match (s.tiers.moving[c]).find? fun m => decide (m.phase = 3) with
  | none => .next s
  | some m => act s true
      (let s := moveEnd c m s
       let stays := match m.source, s.entry m.move.tile with
         | some (j, g, _), e => e.atHome && decide (e.node = j) && decide (e.granule = g)
         | none, _ => false
       let s := match m.source with
         | some run => if stays then closeRun m.move.tile run.1 run.2.1 false s else haulReq c 0xC7 m.move.tile run id s
         | none => s
       finishMoves s)

/-! ### The end of a request -/

/-- Reply space that a request gives back (R184). -/
def freedBytes (s : State) (n : Fin 288) (r : Req) : Nat :=
  match r.owner with
  | .tile id =>
    match (s.core n).tq.find? fun o => decide (o.id = id) with
    | some o => if o.op = 0x1A || o.op = 0x1C then 4096 else if o.op = 0x1D then 512 else 32
    | none => 32
  | _ => 32

/-- The status of a finished request noted with its tile operation: the first in SEQ order that is not OK counts (R184). -/
def noteStatus (n : Fin 288) (id seq : Nat) (st : BitVec 8) (s : State) : State :=
  if st = 0 then s
  else setCore n (fun c => { c with tq := c.tq.map fun o =>
    if o.id = id then { o with worst := match o.worst with
      | some (k, x) => if k ≤ seq then some (k, x) else some (seq, st)
      | none => some (seq, st) } else o }) s

/-- A result for a g register arrives (R181). -/
def deliverG (rd : Nat) (x : Word) (c : Core) : Core := { c.setG rd x with gBusy := setBit c.gBusy rd false }

/-- One destination of a SENDM has ended (R204): with the last one the instruction completes. -/
def mcastEnd (n : Fin 288) (rd ix : Nat) (st : BitVec 8) (s : State) : State :=
  setCore n (fun c =>
    match c.mc.find? fun m => decide (m.1 = rd) with
    | none => c
    | some (_, bad, left) =>
      let bad := if st = 0 then bad else setBit bad ix true
      if left ≤ 1 then deliverG (rd + 1) bad (deliverG rd (if bad = 0 then 0 else 2) { c with mc := c.mc.filter fun m => m.1 ≠ rd })
      else { c with mc := c.mc.map fun m => if m.1 = rd then (rd, bad, left - 1) else m }) s

/-- A refused host access to a tile (12_tiers.md R232, R248, R249). -/
def hostRefused (t : Nat) (s : State) : State := logEvent 0xFF 8 (wd t) 0 s

/-- The bytes from a place in a tile on, n of them. -/
def tileSlice (x : Tile) (off n : Nat) : List Byte := ((bytesN 4096 x.toNat).drop off).take n

/-- Bytes put over others from a place on. -/
def splice (old : List Byte) (at_ : Nat) (b : List Byte) : List Byte := old.take at_ ++ b ++ old.drop (at_ + b.length)

/-- A part of a BAR2 read has ended: its bytes, or zeros; with the last part the read completes (17_host_link.md R303). -/
def hostPart (id at_ : Nat) (b : List Byte) (s : State) : State :=
  match s.hif.reads.find? fun x => decide (x.id = id) with
  | none => s
  | some x =>
    let x := { x with bytes := splice x.bytes at_ b, left := x.left - 1 }
    let others := s.hif.reads.filter fun y => !decide (y.id = id)
    if x.left = 0 then { s with hif := { s.hif with reads := others, rdata := x.bytes, rtag := x.tag, ur := false } }
    else { s with hif := { s.hif with reads := x :: others } }

/-- What the host sees of an access that did not end with OK: BAR2_TO and an event at a timeout of a read (R303), else an event. -/
def hostFails (r : Req) (st : BitVec 8) (s : State) : State :=
  match r.owner with
  | .hostRead id _ _ _ =>
    if st = 0x1D then
      match s.hif.reads.find? fun x => decide (x.id = id) with
      | some x => logEvent 0xFF 1 (wd x.off) 0 (hifErr 3 s)
      | none => s
    else hostRefused (r.pkt.addr.toNat / 4096) s
  | _ => if st = 0x1D then s else hostRefused (r.pkt.addr.toNat / 4096) s

/-- The result of a debug access port command kept for the next scan (25_observation.md R436). -/
def dapResult (st : BitVec 4) (w : Word) (s : State) : State := { s with dbg := { s.dbg with result := (st, w) } }

/-- The debug access port's U-space access has ended (R436): TIMEOUT, or the data, which is zero where the access was refused. An access that
outlives its session leaves no result. -/
def dapEnd (id off : Nat) (write : Bool) (r : Req) (st : BitVec 8) (s : State) : State :=
  let s := if st = 0 || st = 0x1D then s else hostRefused (r.pkt.addr.toNat / 4096) s
  if s.dbg.busy ≠ some id then s
  else
    let w := if st = 0 && !write then wordOf (tileSlice r.buf off 4) else 0
    dapResult (if st = 0x1D then 3 else 0) w { s with dbg := { s.dbg with busy := none } }

/-- The end of a service's request for its owner: the host, the debug access port, the PMA bridge. -/
def serviceEnd (r : Req) (st : BitVec 8) (s : State) : State :=
  match r.owner with
  | .hostRead id at_ off n =>
    hostPart id at_ (if st = 0 then tileSlice r.buf off n else List.replicate n 0) (if st = 0 then s else hostFails r st s)
  | .hostWrite _ => if st = 0 then s else hostFails r st s
  | .dap id off write => dapEnd id off write r st s
  | .pmaRead job => { s with pma := { s.pma with
      tiles := s.pma.tiles ++ [(job, r.pkt.addr.toNat / 4096, if st = 0 then some r.buf else none)] } }
  | _ => s

/-- The end of a request for its owner (R184, R186): st its status, res the value an AMO returns. -/
def ownerEnd (i : Fin 300) (r : Req) (st : BitVec 8) (res : Word) (s : State) : State :=
  if h : i.1 < 288 then
    let n : Fin 288 := ⟨i.1, h⟩
    let s := setNi i (fun x => { x with reserved := x.reserved - freedBytes s n r }) s
    match r.owner with
    | .tile id => noteStatus n id r.pkt.seq.toNat st s
    | .reg rd false => setCore n (deliverG rd (st.setWidth 32)) s
    | .reg rd true => setCore n (fun c => { (deliverG rd (if st = 0 then res else 0) c).setP 7 (decide (st = 0)) with pBusy := false }) s
    | .mcast rd ix => mcastEnd n rd ix st s
    | _ => s
  else if h : 292 ≤ i.1 then haulEnd ⟨i.1 - 292, by omega⟩ r.pkt st s
  else serviceEnd r st s

/-- A request leaves its NI's list. -/
def removeReq (i : Fin 300) (k : Nat) (s : State) : State := setNi i (fun x => { x with reqs := x.reqs.eraseIdx k }) s

/-- The bin of a latency (R228). -/
def latBin (t : Nat) : Fin 16 :=
  match (List.finRange 16).find? fun k => decide (t < 128 * 2 ^ k.1) with
  | some k => k
  | none => 15

/-- A latency counted (R228). -/
def countLatency (i : Fin 300) (r : Req) (s : State) : State :=
  match r.sent with
  | none => s
  | some t => setNi i (fun x => { x with stats := { x.stats with hist := modAt x.stats.hist (latBin (s.clk.tempo - t)) (satAdd · 1) } }) s

/-- The open request that a reply answers: its tag, its generation, and for a multicast its destination (R217, R204). -/
def State.openReq (s : State) (i : Fin 300) (p : Packet) : Option (Nat × Req) :=
  ((s.ni i).reqs.zipIdx.map fun (r, k) => (k, r)).find? fun (_, r) =>
    r.sent.isSome && decide (r.pkt.tag = p.tag) && decide (r.pkt.gen = p.gen) && (!r.owner.isMcast || decide (r.dst = p.src.toNat))

/-- The quarantine entry that a late reply ends: of its tag, and of its sender's for a multicast. -/
def Late.matches (q : Late) (p : Packet) : Bool := decide (q.tag = p.tag) && (!q.multi || decide (q.dst = p.src.toNat))

/-- A late reply (R217, R186): discarded, its credit restored, counted, its quarantine ended, with the last of its packets. A reply that
no quarantine expects is counted with its first packet. -/
def lateReply (i : Fin 300) (p : Packet) (s : State) : State :=
  let count := setNi i (fun x => { x with stats := { x.stats with late := satAdd x.stats.late 1 } })
  let data := p.cmd == 0x40 && decide (p.len ≠ 0)
  match (s.ni i).quarantine.find? fun q => q.matches p with
  | none => if data && decide (p.seq ≠ 0) then s else count s
  | some q =>
    if data && decide (p.seq ≠ q.last) then s
    else
      let s := setNi i (fun x => { x with quarantine := x.quarantine.erase q }) (count s)
      if q.msg && decide (p.status = 0) && p.cmd == 0x41 then s else addCredit i q.dst s

/-- A reply taken at its initiator. -/
def reply1 (i : Fin 300) (cmd : Nat) (s : State) (f : Packet → Nat → Req → State → State) (late : Packet → State → State) : Out :=
  match s.firstRx i cmd with
  | none => .next s
  | some p =>
    let s' := dropRx i p s
    act s true (match s'.openReq i p with
      | some (k, r) => f p k r s'
      | none => late p s')

/-- A request ends with its reply: counted, its credit restored unless a message was stored (R185), its owner told. -/
def endReq (i : Fin 300) (k : Nat) (r : Req) (st : BitVec 8) (res : Word) (s : State) : State :=
  let s := countLatency i r (removeReq i k s)
  let s := if isMsg r.pkt.cmd && decide (st = 0) then s else addCredit i r.dst s
  ownerEnd i r st res s

/-- A tile with one of its eight parts of 512 B. -/
def withPart (x : Tile) (k : Nat) (part : BitVec 4096) : Tile :=
  let low := x.toNat % 2 ^ (4096 * k)
  let high := x.toNat / 2 ^ (4096 * (k + 1))
  BitVec.ofNat 32768 (low + part.toNat * 2 ^ (4096 * k) + high * 2 ^ (4096 * (k + 1)))

/-- A DATA packet's part stored in the tile it fills: a core's tile operation, or the request of a service. -/
def storePart (i : Fin 300) (r : Req) (p : Packet) (s : State) : Req × State :=
  match r.owner with
  | .tile id =>
    if h : i.1 < 288 then (r, setCore ⟨i.1, h⟩ (fun c => { c with tq := c.tq.map fun o =>
      if o.id = id then { o with buf := withPart o.buf p.seq.toNat p.body } else o }) s)
    else (r, s)
  | _ => ({ r with buf := withPart r.buf p.seq.toNat p.body }, s)

/-- DATA (R184, R198): a part of the tile; the request ends with its last part, or at once with a refusal. -/
def execData (i : Fin 300) (s : State) : Out :=
  reply1 i 0x40 s (fun p k r s =>
    if p.len = 0 && decide (p.status ≠ 0) then endReq i k r (if p.poison then 0x3F else p.status) 0 s
    else
      let got := setBit r.got p.seq.toNat true
      let worst := if p.poison then 0x3F else r.worst
      let (r, s) := storePart i r p s
      if got.toNat + 1 = 2 ^ r.want then endReq i k r worst 0 s
      else setNi i (fun x => { x with reqs := x.reqs.set k { r with got := got, worst := worst } }) s)
    (lateReply i)

/-- ACK (R184, R185, R204). -/
def execAck (i : Fin 300) (s : State) : Out :=
  reply1 i 0x41 s (fun p k r s => endReq i k r (if p.poison then 0x3F else p.status) p.opa s) (lateReply i)

/-- CREDIT (R185): one landing credit restored. -/
def execCredit (i : Fin 300) (s : State) : Out :=
  match s.firstRx i 0x42 with
  | none => .next s
  | some p => act s true (addCredit i p.src.toNat (dropRx i p s))

/-- The next generation of a tag (R216, R198). -/
def bumpGen (i : Fin 300) (tag : BitVec 10) (s : State) : State := setNi i (fun x => { x with gens := put x.gens tag (x.genOf tag + 1) }) s

/-- NACK_POISON (R198): the request waits to be reissued with the same tag and the next generation, as R213 orders injections and with a
credit of its own, at most twice; then it ends with INTERNAL. One destination of a multicast is reissued as a unicast copy. -/
def execNackPoison (i : Fin 300) (s : State) : Out :=
  reply1 i 0x43 s (fun p k r s =>
    if 2 ≤ r.reissues then endReq i k r 0x3F 0 s
    else
      let s := bumpGen i p.tag (countLatency i r s)
      let s := if r.owner.isMcast then s else addCredit i r.dst s
      let q := if r.owner.isMcast then { r.pkt with cmd := 0x80, mode := 0 } else r.pkt
      setNi i (fun x => { x with reqs := x.reqs.set k { r with
        pkt := { q with poison := false }, sent := none, reissues := r.reissues + 1, got := 0, again := true } }) s)
    (lateReply i)

/-- A U-space access sent again to another place under a new credit (R184, R236). -/
def resend (i : Fin 300) (k : Nat) (r : Req) (dst g : Nat) (busy : Option Nat) (s : State) : State :=
  let s := addCredit i r.dst (countLatency i r s)
  setNi i (fun x => { x with reqs := x.reqs.set k { r with
    dst := dst, pkt := { r.pkt with opa := wd g }, sent := none, busyUntil := busy, got := 0 } }) s

/-- U_REDIRECT (R235): the redirect is kept among the last 32 and the access goes to the tier store. -/
def execURedirect (i : Fin 300) (s : State) : Out :=
  reply1 i 0xC0 s (fun p k r s =>
    let t := r.pkt.addr.toNat / 4096
    let node := fld p.opa 0 9
    let g := fld p.opa 9 15
    let s := setNi i (fun x => { x with
      redirects := ((t, node, g, fld p.opb 0 6, fld p.opb 6 2) :: x.redirects.filter fun d => d.1 ≠ t).take 32 }) s
    resend i k r (storeDest node) g none s) (lateReply i)

/-- U_MOVED (R236): the redirect is dropped and the access retried at the owner. -/
def execUMoved (i : Fin 300) (s : State) : Out :=
  reply1 i 0xC1 s (fun _ k r s =>
    let t := r.pkt.addr.toNat / 4096
    let s := setNi i (fun x => { x with redirects := x.redirects.filter fun d => d.1 ≠ t }) s
    resend i k r (0x208 + t % 8) 0 none s) (lateReply i)

/-- U_BUSY (R236): the access waits 1 us. -/
def execUBusy (i : Fin 300) (s : State) : Out :=
  reply1 i 0xC2 s (fun _ k r s => resend i k r r.dst r.pkt.opa.toNat (some (s.clk.tempo + us)) s) (lateReply i)

/-- U_BUSY_RETRY (R236): the wait ends. -/
def execUBusyRetry (i : Fin 300) (tag : BitVec 10) (s : State) : Out :=
  let due := fun (r : Req) => decide (r.pkt.tag = tag) && (match r.busyUntil with | some t => decide (t ≤ s.clk.tempo) | none => false)
  act s ((s.ni i).reqs.any due)
    (setNi i (fun x => { x with reqs := x.reqs.map fun r => if due r then { r with busyUntil := none } else r }) s)

/-! ### Timeouts (R216..R219) -/

/-- The time limit of a request in ns. -/
def Ni.limit (x : Ni) (r : Req) : Nat := (x.toUs[(⟨r.pkt.cls.toNat, r.pkt.cls.isLt⟩ : Fin 4)]).toNat * us

/-- The node of a request's destination core, for the strike of Table 23.1. -/
def State.struckNode (s : State) (dst : Nat) : Option Nat :=
  if 0x400 ≤ dst then some (dst - 0x400) else (s.nodeOf dst).map (·.1)

/-- A timeout reported against its destination (R219, 23_repair.md R402): at most one strike per second. -/
def strikeCore (dst : Nat) (s : State) : State :=
  match s.struckNode dst with
  | none => s
  | some j =>
    let sec := s.clk.tempo / 1000000000
    if look s.hlt.coreStruck j 0 = sec + 1 then s
    else strike (unit uCore j) { s with hlt := { s.hlt with coreStruck := put s.hlt.coreStruck j (sec + 1) } }

/-- The event of a timeout: the first of each initiator in every second carries the number suppressed (R219). -/
def timeoutEvent (i : Fin 300) (dst : Nat) (s : State) : State :=
  let x := s.ni i
  let quiet := match x.toEventAt with | some t => decide (s.clk.tempo < t + 1000000000) | none => false
  if quiet then setNi i (fun x => { x with toSuppressed := x.toSuppressed + 1 }) s
  else
    let s := setNi i (fun x => { x with toEventAt := some s.clk.tempo, toSuppressed := 0 }) s
    logEvent 0x09 7 (wd ((s.struckNode dst).getD (niNode ((topoNi (s.topo i dst)).getD i)))) (wd x.toSuppressed)
      (setFab (fun f => { f with irq := setBit f.irq 2 true }) s)

/-- One timed-out request ends (R216): the credit stays consumed. -/
def timeoutOne (i : Fin 300) (r : Req) (s : State) : State :=
  let s := setNi i (fun x => { x with reqs := x.reqs.erase r, stats := { x.stats with timeouts := satAdd x.stats.timeouts 1 } }) s
  ownerEnd i r 0x1D 0 (timeoutEvent i r.dst (strikeCore r.dst s))

/-- REQUEST_TIMEOUT (R216): every request of the tag whose limit has passed. -/
def execRequestTimeout (i : Fin 300) (tag : BitVec 10) (s : State) : Out :=
  let x := s.ni i
  let late := x.reqs.filter fun r => decide (r.pkt.tag = tag) && (match r.sent with
    | some t => decide (t + x.limit r ≤ s.clk.tempo)
    | none => false)
  act s (!late.isEmpty)
    (let s := setNi i (fun x => { x with quarantine := x.quarantine ++ late.map fun r => r.late s.clk.tempo }) (bumpGen i tag s)
     late.foldl (fun s r => timeoutOne i r s) s)

/-- TAG_QUARANTINE_END (R217): 64 ms have passed. -/
def execTagQuarantineEnd (i : Fin 300) (tag : BitVec 10) (s : State) : Out :=
  let due := fun (q : Late) => decide (q.tag = tag) && decide (q.since + 64 * ms ≤ s.clk.tempo)
  act s ((s.ni i).quarantine.any due) (setNi i (fun x => { x with quarantine := x.quarantine.filter fun q => !due q }) s)

end Sys2Proof.Machine
end

