-- ==== Sys2Proof/Machine/PmaJobs.lean ====
section
/-! DEFINITION. Jobs of sections S2 and S3 (06_photonic.md R121..R129; 09_core_isa.md R182). -/

namespace Sys2Proof.Machine

/-! ### The descriptor (Table 6.3) -/

/-- SECT. -/
def jSect (d : Vector Word 8) : Nat := fld d[0] 0 2
/-- COMPLEX. -/
def jComplex (d : Vector Word 8) : Bool := bit d[0] 2
/-- KEEP_W. -/
def jKeep (d : Vector Word 8) : Bool := bit d[0] 3
/-- K. -/
def jK (d : Vector Word 8) : Nat := fld d[0] 4 4
/-- N. -/
def jN (d : Vector Word 8) : Nat := fld d[0] 8 5
/-- GAIN. -/
def jGain (d : Vector Word 8) : Nat := fld d[0] 13 3
/-- MIN_EB in half bits. -/
def jMin (d : Vector Word 8) : Nat := fld d[0] 16 5
/-- V. -/
def jV (d : Vector Word 8) : Nat := fld d[1] 0 16
/-- TAG. -/
def jTag (d : Vector Word 8) : Nat := fld d[1] 16 16
/-- MATRIX_ADDR. -/
def jMatrix (d : Vector Word 8) : Nat := (d[2]).toNat + fld d[3] 0 8 * 2 ^ 32
/-- IN_ADDR. -/
def jIn (d : Vector Word 8) : Nat := (d[4]).toNat + fld d[5] 0 8 * 2 ^ 32
/-- OUT_ADDR. -/
def jOut (d : Vector Word 8) : Nat := (d[6]).toNat + fld d[7] 0 8 * 2 ^ 32

/-- The fields of a descriptor are in range (R127 check 1). -/
def jobFields (d : Vector Word 8) : Bool :=
  fld d[0] 21 11 == 0 && decide (jK d ≤ 10) && decide (2 ≤ jN d) && decide (jN d ≤ 16) && decide (jGain d ≤ 4) && decide (jMin d ≤ 21)
    && decide (1 ≤ jV d) && fld d[3] 8 24 == 0 && fld d[5] 8 24 == 0 && fld d[7] 8 24 == 0
    && jMatrix d % 64 == 0 && jIn d % 64 == 0 && jOut d % 64 == 0
    && !(jSect d == 3 && !jComplex d) && !(jKeep d && jSect d == 2)

/-- Lanes with which a section takes jobs: a section that is off or waking counts with its parts (R129). -/
def State.jobLanes (s : State) (i : Fin 4) : Nat :=
  if (s.sect i).retired || !bit s.boot.done 6 then 0 else if s.inService i then min (s.lanes i) (s.lanesRaw i) else s.lanesRaw i

/-- The section can take the job (R127 check 4). -/
def State.takesJob (s : State) (d : Vector Word 8) (i : Fin 4) : Bool :=
  !(s.sect i).retired && decide (jN d ≤ s.jobLanes i) && decide (jMin d ≤ (s.sect i).ebCal.toNat) && decide ((s.sect i).queue.length < 16)

/-- The sections named. -/
def namedSections (d : Vector Word 8) : List (Fin 4) := match jSect d with | 0 => [2] | 1 => [3] | _ => [2, 3]

/-- The validation of R127: the sections that take the job, or the status and result word of the refusal. -/
def validateJob (s : State) (d : Vector Word 8) : Except (BitVec 8 × Word) (List (Fin 4)) :=
  let named := namedSections d
  let no := Except.error (0x13, wd (s.jobLanes 2 + s.jobLanes 3 * 2 ^ 8))
  if !jobFields d then .error (0x11, 0)
  else if 11 + jK d < jMin d then .error (0x11, 0)
  else if jSect d ≠ 2 && named.any fun i => (s.sect i).retired then .error (0x1C, 0)
  else if jSect d = 2 then
    match s.takesJob d 2, s.takesJob d 3 with
    | true, true => .ok [if (s.sect 3).queue.length < (s.sect 2).queue.length then 3 else 2]
    | true, false => .ok [2]
    | false, true => .ok [3]
    | false, false => no
  else if named.all (s.takesJob d) then .ok named else no

/-! ### Acceptance -/

/-- Demand for the S2/S3 group (R129): before the fence its belay is cancelled; a group that is off begins to wake. -/
def demandS23 (s : State) : State :=
  if s.pma.s23 = 3 then
    if s.fab.belays.any fun b => decide (b.dom = .s23) && (decide (b.step = .request) || decide (b.step = .drained)) then
      { s with fab := { s.fab with belays := s.fab.belays.filter fun b => !decide (b.dom = .s23) }, pma := { s.pma with s23 := 2 } }
    else s
  else if s.pma.s23 = 0 && bit s.boot.done 6 then startIntonation [2, 3] { s with pma := { s.pma with s23 := 1 } }
  else s

/-- A graph in unison that submits a job taints the streams it serves (16_unison.md R294). -/
def taintBy (n : Fin 288) (s : State) : State :=
  match s.grid.unison, (s.core n).graph with
  | true, some g => { s with grid := { s.grid with taint := (s.streamsOf g).foldl (fun m i => setBit m i.1 true) s.grid.taint } }
  | _, _ => s

/-- A job put in the queues of its sections; a calibration step or a laser switch under way delays it (Table 6.5). -/
def acceptJob (d : Vector Word 8) (cmd : Option Cmd) (core : Option (Fin 288 × BitVec 3)) (is : List (Fin 4)) (s : State) : State :=
  let s := demandS23 s
  let gap := is.any fun i => (s.sect i).gap
  let j : Job := { desc := d, cmd := cmd, core := core, woke := decide (s.pma.s23 ≠ 2), delayed := gap || !s.pma.switching.isEmpty, loaded := false, start := 0
                   lanes := is.foldl (fun m i => min m (s.jobLanes i)) 16, id := s.pma.jobCtr }
  is.foldl (fun s i => setSect i (fun x => { x with queue := x.queue ++ [j] }) s) { s with pma := { s.pma with jobCtr := s.pma.jobCtr + 1 } }

/-! ### Completions (Table 6.5) -/

/-- Words of a completion. -/
def completion (j : Job) (st sect : Nat) (sat : Bool) (done eb lanes now : Nat) : List Word :=
  let t := BitVec.ofNat 64 j.start
  let e := BitVec.ofNat 64 now
  [wd (jTag j.desc + st * 2 ^ 16 + sect * 2 ^ 24 + b2n j.loaded * 2 ^ 26 + b2n j.woke * 2 ^ 27 + b2n sat * 2 ^ 28 + b2n j.delayed * 2 ^ 29),
   wd (done + eb * 2 ^ 16 + lanes * 2 ^ 21), lo t, hi t, lo e, hi e, 0, 0]

/-- A completion message to the submitting core (R128, R182). -/
def messageCore (n : Fin 288) (mb : BitVec 3) (ws : List Word) (s : State) : State :=
  match s.logicalOf n with
  | some l => issue (svcNi 0) l .service { blank with cmd := 0x80, cls := 0, len := 1, mb := mb, body := bodyOf (bytesOfWords ws) } s
  | none => s

/-- A completion sent to whoever submitted the job. -/
def completeJob (j : Job) (ws : List Word) (s : State) : State :=
  match j.cmd, j.core with
  | some c, _ =>
    let w := fun (k : Nat) => (ws[k]?).getD 0
    finishWaits (fun x => decide (x.on = .job) && decide (x.cmd.id = c.id))
      (fun _ => (BitVec.ofNat 8 (fld (w 0) 16 8), (w 0, w 1, w 4, w 5))) s
  | none, some (n, mb) => messageCore n mb ws s
  | none, none => s

/-- The section code of a completion. -/
def sectCode (j : Job) (i : Fin 4) : Nat := if jSect j.desc = 3 then 3 else if i.1 = 2 then 0 else 1

/-! ### Arithmetic (R124, R125) -/

/-- A Q1.15 value rounded to its upper w bits, ties away from zero, and saturated. -/
def upper (w : Nat) (x : BitVec 16) : Int :=
  let k := 16 - w
  let v := x.toInt
  let r : Int := if 0 ≤ v then (v + 2 ^ (k - 1)) / 2 ^ k else -((-v + 2 ^ (k - 1)) / 2 ^ k)
  min (2 ^ (w - 1) - 1) r

/-- Elements of 16 bits from bytes. -/
def halves : Nat → List Byte → List (BitVec 16)
  | 0, _ => []
  | n + 1, b => BitVec.ofNat 16 (natOf (b.take 2)) :: halves n (b.drop 2)

/-- One pass: the exact sum of row i of a matrix with an input vector over the first n columns. -/
def passSum (m : List (BitVec 16)) (x : List (BitVec 16)) (n i : Nat) : Int :=
  ((List.range n).map fun j => upper 12 (m.getD (16 * i + j) 0) * upper 10 (x.getD j 0)).sum

/-- round(2^GAIN S / 2^9) with ties away from zero, before the clamp. -/
def gainRound (gain : Nat) (x : Int) : Int :=
  let v := x * 2 ^ gain
  if 0 ≤ v then (v + 256) / 512 else -((-v + 256) / 512)

/-- A result element (Table 6.4). -/
def resultWord (n gain eb i : Nat) (sum : Int) : Word :=
  if n ≤ i then wd (eb * 2 ^ 16 + 2 ^ 22)
  else
    let y := gainRound gain sum
    let z := max (-32768) (min 32767 y)
    wd (uint 16 z + eb * 2 ^ 16 + b2n (y ≠ z) * 2 ^ 21)

/-- The result elements of one vector: the real part, and for a complex job the imaginary part after it. -/
def vectorOut (d : Vector Word 8) (eb : Nat) (mr mi xr xi : List (BitVec 16)) : List Word :=
  let n := jN d
  if jComplex d then
    (List.range 16).map (fun i => resultWord n (jGain d) eb i (passSum mr xr n i - passSum mi xi n i))
      ++ (List.range 16).map fun i => resultWord n (jGain d) eb i (passSum mr xi n i + passSum mi xr n i)
  else (List.range 16).map fun i => resultWord n (jGain d) eb i (passSum mr xr n i)

/-- Bytes of U-space that a job has read: none where a read did not end with OK. -/
def State.jobBytes (s : State) (id a n : Nat) : Option (List Byte) :=
  ((List.range ((a + n + 4095) / 4096 - a / 4096)).map (a / 4096 + ·)).foldl (fun (acc : Option (List Byte)) t =>
    match acc, (s.pma.tiles.find? fun x => decide (x.1 = id) && decide (x.2.1 = t)).bind (·.2.2) with
    | some l, some b =>
      let from_ := if t = a / 4096 then a % 4096 else 0
      let dst := if t = (a + n - 1) / 4096 then (a + n - 1) % 4096 + 1 else 4096
      some (l ++ tileSlice b from_ (dst - from_))
    | _, _ => none) (some [])

/-- 16-bit elements of a job at a U-space address; where they could not be read no rule states them: free values from k on (log entry 2). -/
def State.elems (s : State) (id a n k : Nat) : List (BitVec 16) :=
  match s.jobBytes id a (2 * n) with
  | some b => halves n b
  | none => (List.range n).map fun i => BitVec.ofNat 16 (Config.free (k + i))

/-- The tiles that hold n bytes from an address on. -/
def tilesOf (a n : Nat) : List Nat := (List.range ((a + n + 4095) / 4096 - a / 4096)).map (a / 4096 + ·)

/-! ### The rows -/

/-- PMA_BRIDGE_JOB (R182, R127): the credit returns, then the job is queued or refused. -/
def execPmaBridgeJob (s : State) : Out :=
  let i := svcNi 0
  serve i 0x80 s fun p s =>
    let b := bodyBytes p.body 32
    let d : Vector Word 8 := Vector.ofFn fun k => wordOf ((b.drop (4 * k.1)).take 4)
    let s := respond i p 0x42 0 id (ack i p 0 s)
    match s.nodeOf p.src.toNat, validateJob s d with
    | none, _ => s
    | some n, .ok is => acceptJob d none (some (n, p.mb)) is (taintBy n s)
    | some n, .error (st, _) => messageCore n p.mb [st.setWidth 32 <<< 16, 0, 0, 0, 0, 0, 0, 0] s

/-- The section may start a job: not during a calibration step, nor once a forced one is due (R131), nor during a laser switch (R134). -/
def State.canRun (s : State) (i : Fin 4) : Bool :=
  s.s23On && s.inService i && (s.sect i).running.isNone && !(s.sect i).gap && decide (s.clk.tempo < (s.sect i).gapAt + 100 * ms)
    && s.pma.switching.isEmpty

/-- The matrix part that a section loads first: its address. -/
def partAddr (j : Job) (i : Fin 4) : Nat := jMatrix j.desc + if jSect j.desc = 3 && i.1 = 3 then 512 else 0

/-- The section holds the matrix that the job is to use (R126). -/
def State.keeps (s : State) (j : Job) (i : Fin 4) : Bool := jKeep j.desc && decide ((s.sect i).held = some (BitVec.ofNat 40 (partAddr j i)))

/-- Both matrices of a complex job pass through one section (R125). -/
def jTwo (d : Vector Word 8) : Bool := jComplex d && decide (jSect d ≠ 3)

/-- Elements of an input vector. -/
def jPer (d : Vector Word 8) : Nat := if jComplex d then 32 else 16

/-- The tiles that a job reads on its sections: the matrices to load, and its inputs (R124..R126). -/
def State.jobReads (s : State) (j : Job) (is : List (Fin 4)) : List Nat :=
  ((is.flatMap fun i => if s.keeps j i then [] else tilesOf (partAddr j i) 512)
    ++ (if jTwo j.desc then tilesOf (jMatrix j.desc + 512) 512 else [])
    ++ tilesOf (jIn j.desc) (2 * jPer j.desc * jV j.desc)).eraseDups

/-- A job starts on its sections (R123, R126); the bridge reads its tiles in class RT (12_tiers.md R235, 11_fabric_service.md R211). -/
def startJob (j : Job) (is : List (Fin 4)) (s : State) : State :=
  let s' := is.foldl (fun s i => setSect i (fun x => { x with
    running := some { j with start := s.clk.tempo, loaded := !s.keeps j i || jTwo j.desc }, queue := x.queue.drop 1 }) s) s
  (s.jobReads j is).foldl (fun s t =>
    issueU (svcNi 0) (.pmaRead j.id) { blank with cmd := 0x06, cls := 0, addr := BitVec.ofNat 40 (4096 * t) } s) s'

/-- PMA_JOB_RUN (R123, R125, R126): the first queued job of a section; a pair starts on both sections at the same time. -/
def execPmaJobRun (sec : Fin 4) (s : State) : Out :=
  match (s.sect sec).queue with
  | [] => .next s
  | j :: _ =>
    if jSect j.desc = 3 then
      let first := fun (i : Fin 4) => decide (((s.sect i).queue.head?.map (·.id)) = some j.id)
      act s (decide (2 ≤ sec.1) && s.canRun 2 && s.canRun 3 && first 2 && first 3) (startJob j [2, 3] s)
    else act s (decide (2 ≤ sec.1) && s.canRun sec) (startJob j [sec] s)

/-- The sections of a job that a section holds. -/
def jobSects (j : Job) (i : Fin 4) : List (Fin 4) := if jSect j.desc = 3 then [2, 3] else [i]

/-- Requests of a job that are still open. -/
def State.jobOpen (s : State) (id : Nat) : Bool :=
  (s.ni (svcNi 0)).reqs.any fun r => decide (r.owner = .pmaRead id) || decide (r.owner = .pmaWrite id)

/-- The result elements of the first n vectors (R124). -/
def jobResults (j : Job) (eb : Nat) (mr mi : List (BitVec 16)) (n : Nat) (s : State) : List Word × State :=
  let per := jPer j.desc
  ((List.range n).flatMap fun v =>
    let x := s.elems j.id (jIn j.desc + 2 * per * v) per (s.freeCtr + 32 * v)
    vectorOut j.desc eb mr mi (x.take 16) (x.drop 16), stepFree (32 * n) s)

/-- Results on their way to OUT_ADDR: U_WR packets of at most 512 B, each within a tile, in class RT. -/
def writeResults (id : Nat) : Nat → Nat → List Byte → State → State
  | 0, _, _, s => s
  | fuel + 1, a, b, s =>
    if b.isEmpty then s
    else
      let n := 512 - a % 512
      let part := b.take n
      writeResults id fuel (a + n) (b.drop n) (issueU (svcNi 0) (.pmaWrite id)
        { blank with cmd := 0x07, cls := 0, addr := BitVec.ofNat 40 a, opb := wd part.length
                     len := BitVec.ofNat 5 ((part.length + 31) / 32), body := bodyOf part } s)

/-- The passes of a job are over (R124, R125): n vectors done; the matrices it loaded are held, its results are sent to OUT_ADDR. -/
def passesEnd (i : Fin 4) (j : Job) (st n : Nat) (s : State) : State :=
  let pair := jSect j.desc = 3
  let is := jobSects j i
  let cal := is.foldl (fun m q => min m (s.sect q).ebCal.toNat) 31
  let eb := min (11 + jK j.desc) cal - (if jComplex j.desc then 1 else 0)
  let load := fun (q : Fin 4) => if s.keeps j q then (s.sect q).heldW else s.elems j.id (partAddr j q) 256 (s.freeCtr + 256 * q.1)
  let second := s.elems j.id (jMatrix j.desc + 512) 256 (s.freeCtr + 1024)
  let (mr, mi) := if pair then (load 2, load 3) else (load i, if jTwo j.desc then second else [])
  let (outs, s') := jobResults j eb mr mi n (stepFree 1280 s)
  let s := is.foldl (fun s q =>
    let a := if jTwo j.desc then jMatrix j.desc + 512 else partAddr j q
    let w := if jTwo j.desc then mi else if pair && q = 3 then mi else mr
    setSect q (fun x => { x with
      running := x.running.map fun k => { k with result := some (st, n, eb, outs.any fun w => bit w 21) }
      held := some (BitVec.ofNat 40 a), heldW := w }) s) s'
  writeResults j.id (outs.length / 16 + 2) (jOut j.desc) (bytesOfWords outs) s

/-- A running job ends (R128): its sections are free, its completion is sent. -/
def endJob (i : Fin 4) (j : Job) (st n eb : Nat) (sat : Bool) (s : State) : State :=
  let is := jobSects j i
  let has := fun (f : Job → Bool) => is.any fun q => (s.sect q).running.any f
  let ws := completion { j with loaded := has (·.loaded), delayed := has (·.delayed) } st (sectCode j i) sat n eb (s.lanes i) s.clk.tempo
  let s := is.foldl (fun s q => setSect q (fun x => { x with running := none, jobs := satAdd x.jobs 1 }) s) s
  completeJob j ws { s with pma := { s.pma with idleAt := s.clk.tempo, tiles := s.pma.tiles.filter fun x => x.1 ≠ j.id } }

/-- The lanes a running job was accepted with remain on a section (hard corners of chapter 6): each on a usable channel. -/
def State.jobStands (s : State) (j : Job) (i : Fin 4) : Bool :=
  s.inService i && decide (jN j.desc ≤ s.lanes i)
    && ((s.sect i).carriers.take (jN j.desc)).all fun c => bit (s.chans i) c

/-- A queued job ended without a vector: what its completion says of a start and an EB no rule states (log entry 2). -/
def dropJob (i : Fin 4) (j : Job) (st : Nat) (s : State) : State :=
  let (t, s) := s.pick (2 ^ 64)
  let (eb, s) := s.pick 32
  let s := (jobSects j i).foldl (fun s q => setSect q (fun x => { x with queue := x.queue.filter fun k => k.id ≠ j.id }) s) s
  completeJob j (completion { j with start := t } st (sectCode j i) false 0 eb (s.lanes i) s.clk.tempo) s

/-- A queued job whose section retired or lost lanes it uses (R128, hard corners of chapter 6). -/
def State.jobGone (s : State) (j : Job) (i : Fin 4) : Bool :=
  (jobSects j i).any fun q => (s.sect q).retired || (s.s23On && s.inService q && decide (s.lanes q < jN j.desc))

/-- PMA_JOB_COMPLETE (R128). Once its tiles have been read, a job's passes end: OK with every vector, or PARTIAL when the section was retired
or lost lanes the job used, with the vectors done by then (log entry 2). Once its results have been written, it completes. A queued job that
cannot run any longer ends without a vector. -/
def execPmaJobComplete (sec : Fin 4) (s : State) : Out :=
  match (s.sect sec).running with
  | none =>
    match (s.sect sec).queue with
    | [] => .next s
    | j :: _ => act s (s.jobGone j sec) (dropJob sec j 2 s)
  | some j =>
    let is := jobSects j sec
    match j.result with
    | none => act s (s.pma.switching.isEmpty && !s.jobOpen j.id)
        (let stands := is.all fun i => s.jobStands j i
         let (n, s) := if stands then (jV j.desc, s) else s.pick (jV j.desc)
         passesEnd sec j (if stands then 0 else 2) n s)
    | some (st, n, eb, sat) => act s (!s.jobOpen j.id) (is.foldl (fun s i => settleSect i s) (endJob sec j st n eb sat s))

/-- The S2/S3 group as a full intonation needs it (R136): a belay that has not passed the fence is cancelled, a group that is off or on its
way there wakes. -/
def s23ForReset (s : State) : State :=
  if s.pma.s23 = 3 && s.fab.belays.any fun b => decide (b.dom = .s23) && (decide (b.step = .request) || decide (b.step = .drained)) then
    { s with fab := { s.fab with belays := s.fab.belays.filter fun b => !decide (b.dom = .s23) }, pma := { s.pma with s23 := 2 } }
  else if s.pma.s23 = 2 then s
  else { s with pma := { s.pma with s23 := 1 } }

/-- A running job ended by RESET_UNIT (R136): PARTIAL, with no vector before its passes have ended, else with those whose results are on
their way. Its reads are given up. -/
def cutJob (i : Fin 4) (j : Job) (s : State) : State :=
  let (n, eb, sat) := match j.result with | some (_, n, eb, sat) => (n, eb, sat) | none => (0, 0, false)
  let read := fun (r : Req) => decide (r.owner = .pmaRead j.id)
  let s := setNi (svcNi 0) (fun x =>
    let out := x.reqs.filter fun r => read r && r.sent.isSome
    { x with
      reqs := x.reqs.filter fun r => !read r
      gens := out.foldl (fun g r => put g r.pkt.tag (look g r.pkt.tag 0 + 1)) x.gens
      quarantine := x.quarantine ++ out.map fun r => r.late s.clk.tempo }) s
  endJob i j 2 n eb sat s

/-- RESET_UNIT of the PMA begins (R136): jobs end, counts are cleared, intonation runs in full. It ends with the intonation; in STANDBY the
lasers and sections are off (24_power.md Table 24.1), and it ends at once: leaving STANDBY intones S0 and S1, a wake S2 and S3. -/
def resetPma (s : State) : State :=
  let s := [2, 3].foldl (fun s (i : Fin 4) => match (s.sect i).running with
    | some j => cutJob i j s
    | none => s) s
  let s := [2, 3].foldl (fun s (i : Fin 4) => (s.sect i).queue.foldl (fun s j =>
    if (s.sect i).queue.any (fun k => decide (k.id = j.id)) then dropJob i j 0x3F s else s) s) s
  let s := (List.finRange 4).foldl (fun s i => setSect i (fun x => { x with jobs := 0, steps := 0, forced := 0 }) s) s
  if s.pwr.mode = 1 && s.pwr.target.isNone then finishOk (fun w => decide (w.on = .reset 2)) s
  else startIntonation [0, 1, 2, 3] (s23ForReset s)

end Sys2Proof.Machine
end

