-- ==== Sys2Proof/Machine/Modes.lean ====
section
/-! DEFINITION. Device modes: what a change asks for, the VCORE request, and the automatic wake (24_power.md R417..R421,
R425..R428). The belays of a mode change are in Machine/Belay.lean. -/

namespace Sys2Proof.Machine

/-- Power and thermal state changed. -/
def setPwr (f : Pwr → Pwr) (s : State) : State := { s with pwr := f s.pwr }

/-- A cause of PWR_IRQ set (R428): 0 MODE_DONE, 1 THROTTLE, 2 SHED, 3 PMIC_FAULT, 4 PMBUS_FAIL, 5 AUTO_WAKE; 1, 2 and 3 also raise the
supervisor's THERMAL alert. -/
def pwrCause (k : Nat) (s : State) : State :=
  let s := setPwr (fun x => { x with irq := setBit x.irq k true }) s
  if k = 1 ∨ k = 2 ∨ k = 3 then alert 3 s else s

/-- PWR_STATUS. -/
def pwrStatus (s : State) : Word :=
  wd (s.pwr.mode.toNat + b2n s.pwr.target.isSome * 4 + b2n s.pwr.throttle * 8 + b2n s.pwr.shed * 16 + b2n s.pwr.tsdSeen * 32
      + b2n s.pwr.pmbusFail * 64)

/-- A row domain other than the anchor row stays on because a PIN_HOME tile of its pools, or one of a restored PARK object,
finds no room elsewhere (12_tiers.md R246). A POISON tile takes no room. -/
def State.rowStuck (s : State) (y : Nat) : Bool :=
  s.tiers.runs.any fun r => decide (nodeY r.node = y) && (match s.objOf r.tile with
    | some o => (decide (o.policy = .pinHome) || decide (o.policy = .park)) && !(s.entry r.tile).poison && (s.placeRun o r.tile r.len).isNone
    | none => false)

/-- A row stands in a belay that has switched. -/
def State.rowDown (s : State) (y : Nat) : Bool := s.fab.belays.any fun b =>
  decide (b.step = .switched) && (match b.dom with | .row r => decide (r.1 = y) | _ => false)

/-- A row takes part in a belay. -/
def State.rowBelayed (s : State) (y : Nat) : Bool := s.fab.belays.any fun b => match b.dom with | .row r => decide (r.1 = y) | _ => false

/-- The rows that a mode puts out of power (Table 24.1): all but the anchor row in QUIET, all in STANDBY. -/
def State.rowsFor (s : State) (m : BitVec 2) : List Nat :=
  (List.range 16).filter fun y => decide (m = 1) || (decide (m = 2) && decide (y ≠ s.grid.anchorY))

/-- Every row that the mode puts out of power is out of it, or stays on under R246. -/
def State.rowsOut (s : State) (m : BitVec 2) : Bool :=
  (s.rowsFor m).all fun y => s.rowDown y || (decide (m = 2) && s.pwr.quietRows && s.rowStuck y)

/-- Rows on their way to the mode: ACTIVE needs every row on; QUIET the anchor row. -/
def State.rowsIn (s : State) (m : BitVec 2) : Bool :=
  (List.range 16).all fun y => (s.rowsFor m).contains y || !s.rowBelayed y

/-- The mode whose voltage is asked for (R419): raised before the rows wake, lowered last. -/
def State.modeGoal (s : State) : BitVec 2 :=
  match s.pwr.target with
  | some m => if s.pwr.mode.toNat ≤ m.toNat then m else if s.rowsOut m then m else s.pwr.mode
  | none => s.pwr.mode

/-- The mode's target in mV (Table 24.1, R421); before boot step 10 the reset value of the request holds. -/
def State.modeMv (s : State) (m : BitVec 2) : Nat :=
  match m.toNat with | 0 => s.pwr.reqMv | 1 => 550 | 2 => s.pwr.quietMv | _ => s.pwr.activeMv
/-- The floor of a mode (R421). -/
def modeFloor (m : BitVec 2) : Nat := if m = 3 then 650 else 550

/-- The request that R421 asks for: the lowest of the mode's target and the caps, never below the mode's floor. -/
def State.goalMv (s : State) : Nat :=
  let m := s.modeGoal
  let v := s.modeMv m
  if m = 0 then v
  else
    let v := match s.pwr.thermCap with | some c => min v c | none => v
    let v := match s.pwr.curCap with | some c => min v c | none => v
    max v (modeFloor m)

/-- A mode change begins (R419). On the way into STANDBY RNC and separation end; on the way out the lasers start and S0 and S1
are intoned. -/
def beginMode (m : BitVec 2) (s : State) : State :=
  let s := setPwr (fun x => { x with target := some m }) s
  if m = 1 then
    let s := { s with fe := { s.fe with sepPath := 0, sepDue := none } }
    if s.fe.rncOn then gatesMap GateId.isAnti Gate.force { s with fe := { s.fe with suspended := true, rncPath := 3 } } else s
  else if s.pwr.mode = 1 then startIntonation [0, 1] s
  else s

/-- The automatic wake (R420): QUIET goes to ACTIVE; a change to QUIET under way completes first. -/
def autoWake (s : State) : State :=
  if !s.pwr.autoWake || s.safe then s
  else if s.pwr.mode = 2 && s.pwr.target.isNone then pwrCause 5 (beginMode 3 s)
  else if s.pwr.target = some 2 then setPwr (fun x => { x with wakeDue := true }) s
  else s

/-- A stream that shedding pauses (R426): TEXT_OUT, or SPEECH with an empty zone mask. -/
def Stream.sheddable (t : Stream) : Bool := decide (t.kind = 2) || (decide (t.kind = 0) && decide (t.zones = 0))

end Sys2Proof.Machine
end

