-- ==== Sys2Proof/Machine/Belay.lean ====
section
/-! DEFINITION. Belay: taking a power domain out of use and back (11_fabric_service.md R220..R223, Tables 11.2, 11.3;
12_tiers.md R246; 24_power.md R419). -/

namespace Sys2Proof.Machine

/-- The belay of a domain. -/
def State.belayOf (s : State) (d : Domain) : Option Belay := s.fab.belays.find? fun b => decide (b.dom = d)

/-- The step of a domain's belay set. -/
def setBelayStep (d : Domain) (k : BelayStep) (s : State) : State :=
  setFab (fun x => { x with belays := x.belays.map fun b => if b.dom = d then { b with step := k } else b }) s

/-- The domain's belay has come to a step. -/
def State.belayAt (s : State) (d : Domain) (k : BelayStep) : Bool := (s.belayOf d).any fun b => decide (b.step = k)

/-- The mode that the rows go to. -/
def State.modeTo (s : State) : BitVec 2 := s.pwr.target.getD s.pwr.mode

/-! ### Graphs and rows (24_power.md R419) -/

/-- Every RUNNING graph stands at a pitch boundary. -/
def State.graphsStill (s : State) : Bool :=
  (List.finRange 8).all fun g => let x := s.grid.graph[g]; decide (x.state ≠ .running) || x.rowsDown || s.atBoundary g

/-- The RUNNING graphs pause: their rows leave power. -/
def pauseGraphs (s : State) : State :=
  { s with grid := { s.grid with
    graph := mapV s.grid.graph (fun _ x => if x.state = .running then { x with rowsDown := true } else x)
    core := mapV s.grid.core (fun _ c => match c.graph with
      | some g => if (s.grid.graph[g]).state = .running && c.run = .running then { c with run := .paused } else c
      | none => c) } }

/-- The graphs that paused go on. -/
def resumeGraphs (s : State) : State :=
  (List.finRange 8).foldl (fun s g => if (s.grid.graph[g]).rowsDown then resumeCores g (setGraph g (fun x => { x with rowsDown := false }) s) else s) s

/-- The move that R246 and R247 ask for to empty a run: PIN_HOME and restored PARK tiles go to another pool, others to their frame. -/
def leaveMove (o : Obj) (t : Nat) : Move :=
  if o.policy = .pinHome || o.policy = .park then
    { kind := .evict, tile := t, toHome := true, drop := false, widen := false, relocate := true }
  else { kind := .evict, tile := t, toHome := false, drop := true, widen := false, relocate := false }

/-- The runs held by a row's banks. -/
def State.rowRuns (s : State) (y : Nat) : List Run := s.tiers.runs.filter fun r => decide (nodeY r.node = y)

/-- The moves that empty a row are queued (R246); a row that cannot be emptied stays on, with an event. -/
def emptyRow (y : Nat) (s : State) : State :=
  let stuck := s.rowStuck y
  let s := (s.rowRuns y).foldl (fun s r => match s.objOf r.tile with
    | some o => queueMove (leaveMove o r.tile) s
    | none => s) s
  if stuck then logEvent 0xFF 8 (wd y) 0 s else s

/-! ### Steps of Table 11.2 -/

/-- No request of or to DRAM is pending (Table 11.3). -/
def State.dramQuiet (s : State) : Bool :=
  (List.finRange 8).all fun c => (s.tiers.haul[c]).isEmpty && (s.tiers.moving[c]).isEmpty
    && (s.ni (dramNi c)).reqs.isEmpty && (s.ni (dramNi c)).rx.isEmpty && (s.ni (dramNi c)).rsp.isEmpty

/-- S2 and S3 hold no job. -/
def State.s23Empty (s : State) : Bool := [2, 3].all fun (i : Fin 4) => (s.sect i).running.isNone && (s.sect i).queue.isEmpty && !(s.sect i).gap

/-- The state that Table 11.3 asks for before REQUEST, and that the mode (Table 24.1) or the link (R300) asks for the belay. -/
def State.mayBelay (s : State) (d : Domain) (off : Bool) : Bool :=
  match d with
  | .row y => (s.rowsFor s.modeTo).contains y.1 && s.graphsStill && decide (off = (s.pwr.quietRows && decide (s.modeTo = 2)))
  | .s23 => off && s.s23On && s.s23Empty && (s.ni (svcNi 0)).reqs.isEmpty && (decide (s.modeTo = 1) || decide (s.pma.idleAt + (max 1 s.pma.idleMs.toNat) * ms ≤ s.clk.tempo))
  | .dram => !off && decide (s.modeTo ≠ 3) && s.dramQuiet
  | .hostLink => s.hif.aspm && decide (s.hif.speed ≠ 0) && !s.hif.l1

/-- REQUEST of a domain: its injections are held from here on. -/
def belayRequest (d : Domain) (off : Bool) (s : State) : State :=
  match d with
  | .row y => let s := pauseGraphs s; if off && !(s.rowRuns y.1).isEmpty then emptyRow y.1 s else belayBegin d off s
  | .s23 => belayBegin d off { s with pma := { s.pma with s23 := 3 } }
  | _ => belayBegin d off s

/-- BELAY_REQUEST (R220 step 1, R223): ignored for a domain in belay. A row to be switched off is emptied first (R246). -/
def execBelayRequest (d : Domain) (off : Bool) (s : State) : Out :=
  act s ((s.belayOf d).isNone && s.sterdo && s.mayBelay d off) (belayRequest d off s)

/-- No request issued by or toward the domain is open, and its queued packets have left (step 2). -/
def State.drained (s : State) (d : Domain) : Bool :=
  (match d with
   | .s23 => s.s23Empty
   | .hostLink => s.hif.upq.isEmpty && s.hif.reads.isEmpty
   | _ => true)
    && (List.finRange 300).all fun i =>
      let x := s.ni i
      if Domain.has d i then x.outstanding.isEmpty && x.rsp.isEmpty && x.rx.isEmpty
      else x.outstanding.all (fun r => !Domain.covers d s r.dst) && x.rsp.all fun p => !Domain.covers d s p.dest

/-- BELAY_DRAIN_DONE (step 2). -/
def execBelayDrainDone (d : Domain) (s : State) : Out := act s (s.belayAt d .request && s.drained d) (setBelayStep d .drained s)

/-- A packet is from or to the domain; a multicast packet goes to every core of its tree. -/
def Domain.touches (d : Domain) (s : State) (p : Packet) : Bool :=
  Domain.covers d s p.src.toNat
    || (if p.mode = 2 then ((s.fab.trees.find? fun t => decide (t.1 = p.tree)).map (·.2)).any fun m =>
          m.any fun x => bit x.2 4 && (portNi x.1 false).any (Domain.has d)
        else (portNi p.dest p.dportV).any (Domain.has d))

/-- BELAY_FENCE (step 3): no packet from or to the domain is in any buffer. -/
def execBelayFence (d : Domain) (s : State) : Out :=
  act s (s.belayAt d .drained && s.drained d && s.fab.net.all fun f => !Domain.touches d s f.pkt) (setBelayStep d .fenced s)

/-- A row switched off loses its instruction memories (Table 11.3); a program's scratch persists (08_grid_cores.md R170). -/
def rowOff (y : Fin 16) (s : State) : State :=
  { s with grid := { s.grid with core := mapV s.grid.core (fun j c => if nodeY j.1 = y.1 then { c with imem := [] } else c) } }

/-- BELAY_ACKNOWLEDGE (steps 4 and 5): the domain enters its target state. -/
def execBelayAcknowledge (d : Domain) (s : State) : Out :=
  match s.belayOf d with
  | none => .next s
  | some b => act s (decide (b.step = .fenced))
      (let s := setBelayStep d .switched s
       match d with
       | .row y => if b.off then rowOff y s else s
       | .s23 =>
         let s := { s with pma := { s.pma with s23 := 0 } }
         if s.s23Empty then s else demandS23 s
       | .dram => s
       | .hostLink => { s with hif := { s.hif with l1 := true, l11 := b.off } })

/-! ### Cancel, abort, wake -/

/-- Demand for a domain (R221, Table 11.3): a held injection toward it, a job, a hauler's work. A host access to the link is the
command itself. -/
def State.demanded (s : State) (d : Domain) : Bool :=
  (match d with
   | .s23 => !s.s23Empty
   | .dram => (List.finRange 8).any fun c => !(s.tiers.haul[c]).isEmpty
   | .hostLink => true
   | .row _ => false)
  || (List.finRange 300).any fun i => (s.ni i).reqs.any fun r => r.sent.isNone && Domain.covers d s r.dst

/-- A domain that stays on: the holds lift. -/
def stayOn (d : Domain) (s : State) : State :=
  let s := belayEnd d s
  if d = .s23 then { s with pma := { s.pma with s23 := 2 } } else s

/-- BELAY_CANCEL (R221): demand before FENCE completes. -/
def execBelayCancel (d : Domain) (s : State) : Out :=
  act s ((s.belayAt d .request || s.belayAt d .drained) && s.demanded d) (stayOn d s)

/-- The bit of a domain in FAB_BELAY_ACTIVE. -/
def Domain.bit (d : Domain) : Nat := match d with | .row y => 2 ^ y.1 | .s23 => 2 ^ 16 | .dram => 2 ^ 17 | .hostLink => 2 ^ 18

/-- BELAY_ABORT (R221): steps 1-4 exceed 20 ms. -/
def execBelayAbort (d : Domain) (s : State) : Out :=
  match s.belayOf d with
  | none => .next s
  | some b => act s (decide (b.step ≠ .switched) && decide (b.since + 20 * ms < s.clk.tempo))
      (logEvent 0x10 7 (wd (Domain.bit d)) 0 (setFab (fun x => { x with belayAbort := satAdd x.belayAbort 1, irq := setBit x.irq 0 true }) (stayOn d s)))

/-- A row that was off gets its instruction memories back from the kept images (Table 11.3, R164). -/
def reloadRow (y : Fin 16) (s : State) : State :=
  (List.finRange 18).foldl (fun s x =>
    let j : Fin 288 := ⟨18 * y.1 + x.1, by omega⟩
    match (s.core j).graph with
    | none => s
    | some g => match s.imageOf (s.grid.graph[g]).image with
      | some (h, code) => setCore j (fun c => c.load h code) s
      | none => s) s

/-- What wakes a domain that stands in its target state (Table 11.3). A row wakes for a mode once VCORE has been raised (R419). -/
def State.wakes (s : State) (d : Domain) : Bool :=
  match d with
  | .row y => s.demanded d || (!(s.rowsFor s.modeTo).contains y.1 && decide (s.goalMv ≤ s.pwr.reqMv))
  | .s23 => s.s23Awake
  | .dram => s.demanded d || decide (s.modeTo = 3)
  | .hostLink => true

/-- The wake of a domain completes. -/
def wakeDomain (d : Domain) (off : Bool) (s : State) : State :=
  match d with
  | .row y => let s := belayEnd d s; if off then reloadRow y s else s
  | .s23 => s23Woken s
  | .dram => belayEnd d s
  | .hostLink => belayEnd d { s with hif := { s.hif with l1 := false, l11 := false } }

/-- DOMAIN_WAKE (R222): held injections proceed. -/
def execDomainWake (d : Domain) (s : State) : Out :=
  match s.belayOf d with
  | none => .next s
  | some b => act s (decide (b.step = .switched) && s.wakes d) (wakeDomain d b.off s)

end Sys2Proof.Machine
end

