-- ==== Sys2Proof/Machine/Boot.lean ====
section
/-! DEFINITION. Resets, supplies, the boot sequence and the firmware load (02_package.md R38..R48, 22_startup.md
R391..R400, 26_electrical.md R445). -/

namespace Sys2Proof.Machine

/-! ### Resets -/

/-- GEN_STRAP (Table 2.7). -/
def genStrap (g : Gen) : Word :=
  wd (b2n g.xtalExt + g.pmicAddr.toNat * 2 + b2n g.vselA * 8 + b2n g.vselB * 16 + b2n g.vioAErr * 32 + b2n g.vioBErr * 64)

/-- The machine in reset: every volatile field at its reset value. The RTC, the operating time with its strikes, TSD_SEEN and
OTP are kept (03_timing.md R64, 23_repair.md R401, 24_power.md R427), and so is what stands outside the device. -/
def inReset (s : State) : State :=
  let z : State := {}
  { z with
    pending := s.pending, freeCtr := s.freeCtr, otp := s.otp
    gen := { z.gen with low := s.gen.low, off := s.gen.off, gpioIn := s.gen.gpioIn, perstN := s.gen.perstN }
    clk := { z.clk with xtal32kRun := s.clk.xtal32kRun }
    rtc := { z.rtc with now := s.rtc.now, valid := s.rtc.valid, range := s.rtc.range }
    hlt := { z.hlt with optime := s.hlt.optime, units := s.hlt.units, rows := s.hlt.rows }
    pwr := { z.pwr with tsdSeen := s.pwr.tsdSeen, tj := s.pwr.tj }
    hif := { z.hif with mem := s.hif.mem } }

/-- The straps sampled (R46, R47), whose levels stay at their balls: an event for each bank whose supply disagrees with its strap, bank
A's first (DESIGN CHOICE, log entry 52). -/
def sampleStraps (t : Straps) (s : State) : State :=
  let a := t.vioAHigh != t.vselA
  let b := t.vioBHigh != t.vselB
  let s := { s with
    gen := { s.gen with
      xtalExt := t.gpio0, pmicAddr := BitVec.ofNat 2 (b2n t.gpio1 + 2 * b2n t.gpio2), vselA := t.vselA, vselB := t.vselB
      vioAErr := a, vioBErr := b, testen := t.testen
      gpioIn := setBit (setBit (setBit s.gen.gpioIn 0 t.gpio0) 1 t.gpio1) 2 t.gpio2 }
    sap := mapV s.sap (fun p x => { x with bankOff := if p.1 < 4 then a else b }) }
  let s := if a then logEvent 0x03 0 (genStrap s.gen) 0 s else s
  if b then logEvent 0x03 0 (genStrap s.gen) 0 s else s

/-- A power-on reset: every volatile field as it is after reset, then the straps. -/
def porReset (t : Straps) (s : State) : State :=
  sampleStraps t (inReset { s with gen := { s.gen with off := false } })

/-- POWER_ON_RESET (R38, R39): POR_N rises. With every monitored rail in tolerance the device leaves reset; else it stays in reset until
the last of them comes back (RAIL_RECOVERED), which then samples the straps. -/
def execPowerOnReset (t : Straps) (s : State) : Out :=
  .next (if s.gen.low.isEmpty then porReset t s else inReset { s with gen := { s.gen with off := false } })

/-- POR_N_LOW_PULSE (26_electrical.md R445): 2.3 us or more always resets, 1.8 us or less never; between them the spec leaves it
open, and a free choice decides. -/
def execPorNLowPulse (ns : Nat) (t : Straps) (s : State) : Out :=
  if !s.gen.low.isEmpty || s.gen.off then .next s
  else if 2300 ≤ ns then .next (porReset t s)
  else if ns ≤ 1800 then .next s
  else
    let (k, s) := s.pick 2
    .next (if k = 1 then porReset t s else s)

/-- RAIL_UNDERVOLTAGE (R39): the device is held in reset. -/
def execRailUndervoltage (r : MonRail) (s : State) : Out :=
  .next (if s.gen.low.contains r then s else inReset { s with gen := { s.gen with low := r :: s.gen.low } })

/-- RAIL_RECOVERED (R39): the last rail's return acts as a power-on reset; after a supply loss, once POR_N has risen. -/
def execRailRecovered (r : MonRail) (t : Straps) (s : State) : Out :=
  if !s.gen.low.contains r then .next s
  else
    let s := { s with gen := { s.gen with low := s.gen.low.filter fun x => !decide (x = r) } }
    .next (if s.gen.low.isEmpty && !s.gen.off then porReset t s else s)

/-- SUPPLY_LOSS (R41): all volatile state is lost. -/
def execSupplyLoss (s : State) : Out := .next (inReset { s with gen := { s.gen with off := true } })

/-- VRTC_FIRST_APPLY (03_timing.md R64): the RTC starts; what VRTC kept is gone. VRTC is there whenever another rail is (R36). -/
def execVrtcFirstApply (s : State) : Out :=
  .next (if s.gen.off then { s with
    rtc := {}, hlt := { s.hlt with optime := 0, units := [], rows := [] }, pwr := { s.pwr with tsdSeen := false } } else s)

/-- The PCIe function reset (17_host_link.md R301): link, configuration space, MSI-X, TIER_BAR2; held upstream writes go. -/
def resetFunction (s : State) : State :=
  { s with
    tiers := { s.tiers with bar2 := 0 }
    fab := { s.fab with belays := s.fab.belays.filter fun b => !decide (b.dom = .hostLink) }
    hif := { s.hif with
      speed := 0, width := 0, l1 := false, l11 := false, bme := false, mse := false, d3 := false, msixEn := false, fmask := false
      aspm := false, table := Vector.replicate 64 {}, pba := 0, upq := [], reads := [] } }

/-- Rings and page returns at PERST_N (18_rings.md R329, R331, R333): the replies of accepted commands are discarded. -/
def resetRings (s : State) : State :=
  { s with hif := { s.hif with
    ring := mapV s.hif.ring (fun _ g => { g with
      en := false, state := .disabled, sqTail := 0, sqHead := 0, rqHead := 0, rqTail := 0, heldAt := none, owed := 0, floor := s.hif.nextId })
    retEn := false, retHead := 0, retTail := 0, pgHeld := true, returns := [] } }

/-- The pages filled and not returned, and those in use, are forgotten: their records count as lost (R333). -/
def loseReturns (s : State) : State :=
  let s := s.hif.returns.foldl (fun s r => loseRecords r.stream r.recs s) s
  (List.finRange 16).foldl (fun s i => losePage i s) s

/-- A firmware load in progress is abandoned (22_startup.md R400). -/
def dropLoad (s : State) : State :=
  if s.boot.fw = .running then s else { s with boot := { s.boot with fw := .idle, chunk := none, image := [] } }

/-- PERST_N_ASSERT (R301, R329, R333, R400). -/
def execPerstNAssert (s : State) : Out :=
  if !s.powered then .next { s with gen := { s.gen with perstN := false } }
  else act s s.gen.perstN
    (let s := dropLoad (resetRings (resetFunction (loseReturns s)))
     { s with gen := { s.gen with perstN := false }, boot := { s.boot with cfgReady := false } })

/-- PERST_N_DEASSERT (R42): the configuration space is ready again, once boot step 7 has ended. -/
def execPerstNDeassert (s : State) : Out :=
  if !s.powered then .next { s with gen := { s.gen with perstN := true } }
  else act s (!s.gen.perstN)
    { s with gen := { s.gen with perstN := true }, boot := { s.boot with cfgReady := bit s.boot.done 7 } }

/-! ### Boot steps 1..7 (Table 22.1) -/

/-- The boot sequence runs: no halt stopped it (R392), and TESTEN does not hold it (R394). -/
def State.booting (s : State) : Bool := decide (s.boot.failStep = 0) && !s.gen.testen

/-- A step has ended. -/
def State.did (s : State) (k : Nat) : Bool := bit s.boot.done k

/-- A step ends; the highest step started is shown. -/
def endStep (k next : Nat) (s : State) : State :=
  { s with boot := { s.boot with done := setBit s.boot.done k true, step := max s.boot.step next } }

/-- The event of a failed step: its detail is not stated (log entry 2). -/
def bootEvent (k : Nat) (s : State) : State :=
  logEvent 0x01 0 (wd k) (wd (Config.free s.freeCtr)) { s with freeCtr := s.freeCtr + 1 }

/-- A halt (R392). -/
def halt (k : Nat) (s : State) : State := bootEvent k { s with boot := { s.boot with failStep := k } }

/-- BOOT_PLL_LOCK (step 1; 24_power.md R427: not while Tj is 110 C or above): Tempo runs. -/
def execBootPllLock (s : State) : Out :=
  act s (!s.did 1 && decide (s.pwr.tj < 110))
    (endStep 1 (if s.gen.testen then 1 else 2) { s with clk := { s.clk with pllLock := true } })

/-- The unit of a ledger entry. -/
def entryUnit (e : BitVec 64) : UnitRef := { type := BitVec.ofNat 4 (fld e 0 4), id := BitVec.ofNat 24 (fld e 4 24) }

/-- A set of numbers with one more. -/
def addTo (l : List Nat) (k : Nat) : List Nat := if l.contains k then l else l ++ [k]

/-- The four links of a router (10_fabric_routing.md R209). -/
def linksOf (j : Nat) : List Nat := (List.range 4).map (linkOf j)

/-- Spare rows used in a bank: key node x 16 + bank. -/
def bankOf (id : Nat) : Nat := id / 2048

/-- A retired unit is out of use (Table 23.2), before anything runs on it. -/
def outOfUse (u : UnitRef) (s : State) : State :=
  let id := u.id.toNat
  if u.type = uRouter then { s with fab := { s.fab with
      deadRouters := addTo s.fab.deadRouters id, deadLinks := (linksOf id).foldl addTo s.fab.deadLinks } }
  else if u.type = uLink then { s with fab := { s.fab with deadLinks := addTo s.fab.deadLinks id } }
  else if u.type = uLaser then { s with pma := { s.pma with dead := setBit s.pma.dead id true } }
  else if u.type = uSram then { s with hlt := { s.hlt with
      rowsUsed := put s.hlt.rowsUsed (bankOf id) (min 8 (look s.hlt.rowsUsed (bankOf id) 0 + 1)) } }
  else if u.type = uDramRow then dramRowOut id s
  else s

/-- The decided retirement of a unit in the records: its entry, on its way to the ledger (23_repair.md R405, R411, R416). -/
def noteRetire (u : UnitRef) (cls : BitVec 2) (count : Nat) (s : State) : State :=
  let e := ledgerEntry u cls count s.today
  let s := recordRetire u e s
  { s with hlt := { s.hlt with toWrite := s.hlt.toWrite ++ [e] } }

/-- A unit that BIST finds failing (R403, R405); a bank without a spare row takes its core. -/
def retireAtBoot (u : UnitRef) (s : State) : State :=
  if s.isRetired u then s
  else
    let full := u.type = uSram ∧ 8 ≤ look s.hlt.rowsUsed (bankOf u.id.toNat) 0
    let s := outOfUse u (noteRetire u 0 (s.strikesOf u) s)
    let core := unit uCore (u.id.toNat / 2 ^ 15)
    if full ∧ !s.isRetired core then noteRetire core 0 (s.strikesOf core) s else s

/-- BOOT_OTP_READ (step 2): the ledger's units are out of use; a bad word or a lockstep mismatch halts. Steps 3, 5, 6 and 7 start. -/
def execBootOtpRead (bad : OtpFault) (s : State) : Out :=
  act s (s.booting && s.did 1 && !s.did 2)
    (if bad.word || bad.lockstep then halt 2 s
     else
      let es := s.otp.ledger.filter fun x => !bad.ledger.contains x.1
      let s := es.foldl (fun s x =>
        let u := entryUnit x.2
        if s.isRetired u then s else outOfUse u { s with hlt := { s.hlt with retired := s.hlt.retired ++ [u] } }) s
      startIntonation [0, 1, 2, 3] (endStep 2 7 s))

/-- BOOT_BIST_DONE (step 3): failing units are retired. -/
def execBootBistDone (fails : List UnitRef) (s : State) : Out :=
  act s (s.booting && s.did 2 && !s.did 3) (endStep 3 7 (fails.foldl (fun s u => retireAtBoot u s) s))

/-- The unison width that a width allows: the largest of the grade that is at most N (Table 0.1). -/
def unisonFor (n : Nat) : BitVec 2 := widthCode n

/-- Metronomes and timeouts at boot (11_fabric_service.md Table 11.1, R212): buckets full. -/
def bootNis (s : State) : State :=
  { s with fab := { s.fab with ni := mapV s.fab.ni (fun i x =>
    let fe := if h : i.1 < 288 then s.isFe ⟨i.1, h⟩ else false
    let m := fun (c : Fin 4) => bootMet fe i c
    { x with
      rate := Vector.ofFn fun c => (m c).1, burst := Vector.ofFn fun c => (m c).2
      tokens := Vector.ofFn fun c => 4000 * ((m c).2.toNat : Int), tlast := Vector.replicate 4 s.clk.tempo }) } }

/-- BOOT_CORE_MAP (step 4; 08_grid_cores.md R154..R157): the largest width that the healthy cores allow; else out of service. -/
def execBootCoreMap (s : State) : Out :=
  act s (s.booting && s.did 3 && !s.did 4)
    (match s.fitWidth s.fused, s.anchorRow with
     | some n, some ay =>
       let s := buildMap n ay s
       let s := { s with grid := { s.grid with uwidth := unisonFor n, uChanged := decide (n < s.fused) } }
       let s := if n < s.fused then
         logEvent 0x11 9 (wd s.fused) (wd n) { s with hlt := { s.hlt with irq := setBit s.hlt.irq 2 true } } else s
       endStep 4 7 (bootNis s)
     | _, _ => endStep 4 7 (bootNis (bootEvent 4 (gridOut s))))

/-- Spare rows of a channel that the retired rows have left (12_tiers.md R248). -/
def State.spareRowsLeft (s : State) (c : Fin 8) : BitVec 16 :=
  BitVec.ofNat 16 ((Config.dramSpareRows c.1).toNat - ((s.tiers.spareUsed.filter fun x => decide (x.1 = c.1)).map (·.2.2)).sum)

/-- DRAM_TRAINING_DONE (step 5): spare rows are what the rows retired in the ledger leave (12_tiers.md R248); a channel that
failed three retrainings leaves DRAM_FAIL. -/
def execDramTrainingDone (failed : BitVec 8) (s : State) : Out :=
  act s (s.booting && s.did 2 && !s.did 5)
    (let bad := decide (failed ≠ 0) || s.hlt.retired.any fun u => decide (u.type = uDram)
     let s := if failed ≠ 0 then bootEvent 5 s else s
     endStep 5 7 { s with
       boot := { s.boot with dramReady := true, dramFail := bad }
       tiers := { s.tiers with spareRows := Vector.ofFn fun c => s.spareRowsLeft c } })

/-- CONFIG_SPACE_READY (step 7; R42, R393): host accesses are served from here on, once steps 4 and 5 have ended. -/
def execConfigSpaceReady (s : State) : Out :=
  act s (s.booting && s.did 2 && s.did 4 && s.did 5 && !s.did 7 && s.gen.perstN)
    (let s := endStep 7 8 s
     { s with boot := { s.boot with cfgReady := true }, fab := { s.fab with window := some s.fab.ni[0] } })

/-! ### Firmware load (R397..R400) -/

/-- Boot state changed. -/
def setBoot (f : Boot → Boot) (s : State) : State := { s with boot := f s.boot }

/-- A load rejected with a reason. -/
def fwReject (r : BitVec 3) (s : State) : State :=
  logEvent 0x0F 0 (r.setWidth 32) 0 (setBoot (fun b => { b with fw := .rejected, fwReason := r }) s)

/-- A chunk taken: its copy begins. -/
def fwTake (v : Word) (s : State) : State := setBoot (fun b => { b with fw := .copying, chunk := some (fld v 0 19, bit v 31) }) s

/-- A write of GEN_FW_CTRL (R400): the first matching case. -/
def writeFwCtrl (v : Word) (s : State) : State :=
  let n := fld v 0 19
  let have_ := if bit v 30 then 0 else s.boot.image.length
  if s.boot.fw = .copying ∨ s.boot.fw = .verifying ∨ s.boot.fw = .running then
    setBoot (fun b => { b with fwIgnored := satAdd b.fwIgnored 1 }) s
  else if bit v 29 then setBoot (fun b => { b with fw := .idle, image := [], chunk := none }) s
  else if n < 64 ∨ 262144 < n ∨ n % 64 ≠ 0 ∨ 1572864 < have_ + n then fwReject 2 s
  else if bit v 30 then fwTake v (setBoot (fun b => { b with image := [] }) s)
  else if s.boot.fw = .receiving then fwTake v s
  else fwReject 6 s

/-- The host writes registers. -/
def State.hostWrites (s : State) : Bool := s.canAccess .host

/-- FW_CHUNK_FIRST (R400). -/
def execFwChunkFirst (v : Word) (s : State) : Out := act s (s.hostWrites && bit v 30 && !bit v 29) (writeFwCtrl v s)

/-- FW_CHUNK_NEXT (R400). -/
def execFwChunkNext (v : Word) (s : State) : Out := act s (s.hostWrites && !bit v 30 && !bit v 29) (writeFwCtrl v s)

/-- FW_ABORT (R400). -/
def execFwAbort (v : Word) (s : State) : Out := act s (s.hostWrites && bit v 29) (writeFwCtrl v s)

/-- FW_CHUNK_COPY_DONE (R398): the mailbox bytes are appended. -/
def execFwChunkCopyDone (s : State) : Out :=
  match s.boot.chunk with
  | none => .next s
  | some (n, last) => act s (decide (s.boot.fw = .copying))
      (setBoot (fun b => { b with image := b.image ++ b.mailbox.readN 0 n, chunk := none, fw := if last then .verifying else .receiving }) s)

/-- A little-endian word of an image. -/
def imgWord (b : List Byte) (off : Nat) : Word := wordOf ((b.drop off).take 4)

/-- The first check of R399 that an image fails. -/
def fwCheck (o : Otp) (b : List Byte) : Option (BitVec 3) :=
  let total := (imgWord b 12).toNat
  let key := (beNat ((b.drop 64).take 32), beNat ((b.drop 96).take 32))
  if imgWord b 0 ≠ 0x53544430 ∨ (b[4]?).getD 0 ≠ 1 ∨ ((b.drop 5).take 3 ++ (b.drop 16).take 48).any (· ≠ 0) then some 1
  else if total < 1024 ∨ 1572864 < total ∨ total % 64 ≠ 0 ∨ total ≠ b.length then some 2
  else if sha256 ((b.drop 64).take 64) ≠ o.keyHash then some 3
  else if (imgWord b 8).toNat / 2 ^ 16 < o.floor.toNat then some 4
  else if !ecVerify key (sha256 (b.take (total - 64))) ((b.drop (total - 64)).take 64) then some 5
  else none

/-- FW_VERIFY_DONE (R399): RUNNING, at which step 9 starts, or REJECTED. -/
def execFwVerifyDone (s : State) : Out :=
  act s (decide (s.boot.fw = .verifying))
    (match fwCheck s.otp s.boot.image with
     | some r => fwReject r s
     | none => setBoot (fun b => { b with fw := .running, sterdo := imgWord b.image 8, done := setBit b.done 8 true, step := max b.step 9 }) s)

/-! ### Steps 9 and 10 -/

/-- STERDO_START (step 9): Sterdo takes over, or the sequence halts. -/
def execSterdoStart (ok : Bool) (s : State) : Out :=
  act s (s.booting && s.did 8 && s.did 4 && s.did 5 && !s.did 9) (if ok then endStep 9 10 s else halt 9 s)

/-- QUIET_READINESS (step 10; R395): the front end is loaded, the device is in QUIET with the rows of Table 24.1 out of power,
rings may be fetched, FAULT_N follows its other causes. -/
def execQuietReadiness (s : State) : Out :=
  act s (s.booting && s.did 9 && !s.did 10 && s.pma.ready)
    (let s := endStep 10 10 { s with
       fe := { s.fe with loaded := true, rncOn := false, rncPath := 0 }
       pwr := { s.pwr with mode := 2, target := none } }
     let rows := (List.finRange 16).filter fun y => decide (y.1 ≠ s.grid.anchorY)
     let s := setFab (fun x => { x with belays := x.belays ++ rows.map fun y =>
       ({ dom := .row y, off := s.pwr.quietRows, step := .switched, since := s.clk.tempo } : Belay) }) s
     { s with fe := { s.fe with sepPath := s.sepPathNow }, boot := { s.boot with quietReady := true } })

/-! ### Registers (Tables 2.7..2.10, 22.3) -/

/-- The function of a pin as written, with the values that Table 2.8 takes as inputs. -/
def State.pinFunc (s : State) (n : Nat) : Nat :=
  match fld s.gen.gpioFunc (2 * n) 2 with
  | 1 => 1
  | 2 => if n < 12 then 2 else 0
  | _ => 0

/-- The level at a ball GPIO_0..GPIO_14 (Tables 2.6, 2.8): an output shows what it drives; a running MCLK output shows one of its two
levels, which no rule ties to the moment of the read (free, log entry 2). -/
def State.ballLevel (s : State) (n : Nat) : Bool :=
  match s.pinFunc n with
  | 1 => bit s.gen.gpioOut n
  | 2 => if n < 4 then Config.mclk n s.clk.tempo else bit s.gen.gpioIn n
  | _ => bit s.gen.gpioIn n

/-- GEN_GPIO_IN: the levels of the balls; GPIO_15 is FAULT_N. -/
def gpioLevels (s : State) : Word := wd (((List.range 15).map fun n => b2n (s.ballLevel n) * 2 ^ n).sum + b2n (!s.faultN) * 2 ^ 15)

/-- A read of a GEN register of chapters 2 and 22. GEN_GPIO_FUNC reads back the bits written, also those that Table 2.8 takes as 0b00
(DESIGN CHOICE, log entry 52). -/
def readGen (o : Nat) (s : State) : Option Word :=
  match o with
  | 0x40 => some (genStrap s.gen)
  | 0x44 => some (wd (s.gen.gpioFunc.toNat + 2 ^ 31))
  | 0x48 => some (s.gen.gpioOut.setWidth 32)
  | 0x4C => some (gpioLevels s)
  | 0x80 => some (wd (s.boot.step + s.boot.failStep * 2 ^ 4 + b2n s.boot.gridOos * 2 ^ 8 + b2n s.boot.dramFail * 2 ^ 9
      + b2n s.boot.dramReady * 2 ^ 10 + b2n s.boot.quietReady * 2 ^ 11))
  | 0x84 => some 0
  | 0x88 => some (wd ((match s.boot.fw with | .idle => 0 | .receiving => 1 | .copying => 2 | .verifying => 3 | .running => 4 | .rejected => 5)
      + s.boot.image.length * 2 ^ 3 + s.boot.fwReason.toNat * 2 ^ 25 + s.boot.fwIgnored.toNat * 2 ^ 28))
  | _ => none

/-- A full write of a GEN register; GEN_GPIO_FUNC is write-once (R49). -/
def writeGen (src : Src) (o : Nat) (v : Word) (s : State) : State :=
  match o with
  | 0x44 =>
    if s.gen.gpioLocked then lockViol o src v s
    else { s with gen := { s.gen with gpioFunc := v.setWidth 30, gpioLocked := true } }
  | 0x48 => { s with gen := { s.gen with gpioOut := v.setWidth 15 } }
  | 0x84 => writeFwCtrl v s
  | _ => s

end Sys2Proof.Machine
end

