-- ==== Sys2Proof/Machine/Kv.lean ====
section
/-! DEFINITION. The KV pool: maps, token logs, pages, prefixes, copy on write, drops and replay (14_attention_kv.md
R263..R277). -/

namespace Sys2Proof.Machine

/-- A stream's KV context. -/
def State.kv (s : State) (i : Fin 16) : Kv := s.tiers.kv[i]
/-- A stream's KV context changed. -/
def setKv (i : Fin 16) (f : Kv → Kv) (s : State) : State := setTiers (fun x => { x with kv := modAt x.kv i f }) s

/-! ### Pages and reference counts (R264, R272) -/

/-- The count of a page; unlisted pages are free. -/
def State.pageRef (s : State) (k : Nat) : Nat := look s.tiers.refs k 0

/-- The count of a page changed; a page whose count falls to 0 is free. -/
def setRef (k n : Nat) (s : State) : State :=
  setTiers (fun x => { x with refs := if n = 0 then x.refs.filter (fun r => r.1 ≠ k) else put x.refs k n }) s

/-- One reference more on each page of a column. -/
def refCol (ps : List Nat) (s : State) : State := ps.foldl (fun s k => setRef k (s.pageRef k + 1) s) s
/-- One reference less. -/
def unrefCol (ps : List Nat) (s : State) : State := ps.foldl (fun s k => setRef k (s.pageRef k - 1) s) s

/-- Free pages. -/
def State.kvFree (s : State) : Nat := s.tiers.pages - s.tiers.refs.length

/-- The first n free pages, lowest first. -/
def State.freePages (s : State) (n : Nat) : Option (List Nat) :=
  let l := ((List.range s.tiers.pages).filter fun k => s.pageRef k = 0).take n
  if l.length = n then some l else none

/-! ### Contents of the pool (Table 14.1) -/

/-- The first byte address of the pool. -/
def State.poolBase (s : State) : Nat :=
  match s.tiers.pool.bind s.objId with
  | some o => 4096 * o.base
  | none => 0

/-- Words written at a tile of the pool, from a word on. -/
def poolWords (tile word : Nat) (ws : List Word) (s : State) : State :=
  if s.tiers.pool.isSome then uWriteBytes (s.poolBase + 4096 * tile + 4 * word) (bytesOfWords ws) s else s

/-- The 12 KiB of a page. -/
def State.pageBytes (s : State) (k : Nat) : List Byte := (s.uBytes (s.poolBase + 4096 * (128 + 3 * k)) 12288).getD (List.replicate 12288 0)

/-- A page written. -/
def putPage (k : Nat) (b : List Byte) (s : State) : State := uWriteBytes (s.poolBase + 4096 * (128 + 3 * k)) b s

/-- An entry of the map (Table 14.2). -/
def State.mapEntry (s : State) (v : Kv) (l c : Nat) : Word :=
  match (v.cols[c]?).getD none with
  | some ps => match ps[l]? with
    | some k => wd (k + (if 1 < s.pageRef k then 2 ^ 20 else 0) + 2 ^ 31)
    | none => 0
  | none => 0

/-- A stream's map rewritten (R265): entries, header, MAP_EPOCH. -/
def rewriteMap (i : Fin 16) (s : State) : State :=
  let s := setKv i (fun v => { v with mapEpoch := v.mapEpoch + 1 }) s
  let v := s.kv i
  let entries := (List.range 3968).map fun w => s.mapEntry v (w / 128) (w % 128)
  poolWords (4 * i.1) 0 (entries ++ [wd v.length, wd (v.handle.toNat + v.prefixLen * 2 ^ 8), v.mapEpoch]) s

/-- The header of a stream's map rewritten. -/
def rewriteHeader (i : Fin 16) (s : State) : State :=
  let s := setKv i (fun v => { v with mapEpoch := v.mapEpoch + 1 }) s
  let v := s.kv i
  poolWords (4 * i.1) 3968 [wd v.length, wd (v.handle.toNat + v.prefixLen * 2 ^ 8), v.mapEpoch] s

/-- Input words put into a stream's token log from a position on (R267). -/
def logWords (i : Fin 16) (p : Nat) (ws : List Word) (s : State) : State :=
  poolWords (64 + 4 * i.1) p ws (setKv i (fun v => { v with log := v.log.take p ++ ws ++ v.log.drop (p + ws.length) }) s)

/-- Columns present. -/
def Kv.present (v : Kv) : Nat := (v.cols.filter (·.isSome)).length

/-! ### Dropping (R275, Table 14.5) -/

/-- A column of a stream is private: none of its pages is referenced elsewhere. -/
def State.privateCol (s : State) (ps : List Nat) : Bool := ps.all fun k => s.pageRef k = 1

/-- The highest present column, with its pages. -/
def topCol (cols : List Column) : Option (Nat × List Nat) :=
  (cols.zipIdx.filterMap fun (c, k) => c.map fun ps => (k, ps)).getLast?

/-- A stream runs a phrase: rank 2 of Table 14.5. -/
def State.runsPhrase (s : State) (i : Fin 16) : Bool := decide ((s.stream[i]).state = .active) || decide ((s.stream[i]).state = .draining)

/-- A column's contents kept for replay and its pages cleared in the maps and prefixes that hold it. -/
def clearCol (ps : List Nat) (s : State) : State :=
  let data := ps.map fun k => s.pageBytes k
  let wipe := fun (cols : List Column) => cols.map fun c => if c = some ps then none else c
  let keep := fun (cols : List Column) (kept : List (Nat × List (List Byte))) =>
    cols.zipIdx.foldl (fun m (c, k) => if c = some ps then put m k data else m) kept
  let holders := (List.finRange 16).filter fun i => (s.kv i).cols.contains (some ps)
  let s := setTiers (fun x => { x with
    kv := mapV x.kv (fun _ v => { v with cols := wipe v.cols, kept := keep v.cols v.kept })
    prefixes := x.prefixes.map fun p => { p with cols := wipe p.cols, kept := keep p.cols p.kept }
    refs := x.refs.filter fun r => !ps.contains r.1, drops := satAdd x.drops 1 }) s
  holders.foldl (fun s i => rewriteMap i s) s

/-- The candidate of a rank: the highest private column of the stream whose last step committed earliest. -/
def State.privateCandidate (s : State) (busy : BitVec 16) (running : Bool) : Option (List Nat) :=
  let is := (List.finRange 16).filter fun i => s.runsPhrase i == running && !bit busy i.1
  let tops := is.filterMap fun i => ((s.kv i).cols.zipIdx.filterMap fun (c, k) => c.bind fun ps =>
    if s.privateCol ps then some (k, ps) else none).getLast?.map fun x => ((s.kv i).stepAt, x.2)
  (tops.foldl (fun (m : Option (Nat × List Nat)) x => match m with
    | none => some x
    | some y => if x.1 < y.1 then some x else some y) none).map (·.2)

/-- No private column remains anywhere. -/
def State.noPrivate (s : State) : Bool :=
  (List.finRange 16).all fun i => (s.kv i).cols.all fun c => match c with | some ps => !s.privateCol ps | none => true

/-- A busy stream reads the column. -/
def State.colBusy (s : State) (busy : BitVec 16) (ps : List Nat) : Bool :=
  (List.finRange 16).any fun i => bit busy i.1 && (s.kv i).cols.contains (some ps)

/-- The candidate of rank 3: the highest free column of the prefix attached least recently; shared columns whose prefix has
been released come before them (log entry 30). -/
def State.sharedCandidate (s : State) (busy : BitVec 16) : Option (List Nat) :=
  let held := s.tiers.prefixes.flatMap fun p => p.cols.filterMap id
  let loose := (List.finRange 16).findSome? fun i => (((s.kv i).cols.filterMap id).filter fun ps =>
    !held.contains ps && !s.privateCol ps && !s.colBusy busy ps).getLast?
  let tops := s.tiers.prefixes.filterMap fun p => (((p.cols.filterMap id).filter fun ps => !s.colBusy busy ps).getLast?).map fun ps => (p.used, ps)
  loose <|> (tops.foldl (fun (m : Option (Nat × List Nat)) x => match m with
    | none => some x
    | some y => if x.1 < y.1 then some x else some y) none).map (·.2)

/-- The next column to drop (Table 14.5). -/
def State.dropCandidate (s : State) (busy : BitVec 16) : Option (List Nat) :=
  s.privateCandidate busy false <|> s.privateCandidate busy true <|> (if s.noPrivate then s.sharedCandidate busy else none)

/-- Columns dropped until n pages are free or none can be dropped. -/
def dropUntil (busy : BitVec 16) (n : Nat) : Nat → State → State
  | 0, s => s
  | fuel + 1, s =>
    if n ≤ s.kvFree then s
    else match s.dropCandidate busy with
    | none => s
    | some ps => dropUntil busy n fuel (clearCol ps s)

/-- The streams that may have a step running: ACTIVE or DRAINING. -/
def State.stepping (s : State) : BitVec 16 :=
  (List.finRange 16).foldl (fun (a : BitVec 16) i =>
    if s.runsPhrase i then a ||| BitVec.twoPow 16 i.1 else a) 0

/-- Columns dropped until n pages are free (R275), sparing those of the streams own and of the streams whose step runs: which of the
stepping ones do is free (log entry 2). -/
def makeRoom (own : BitVec 16) (n : Nat) (s : State) : State :=
  if (s.freePages n).isSome then s
  else if s.stepping &&& ~~~own = 0 then dropUntil own n 4096 s
  else
    let (k, s) := s.pick (2 ^ 16)
    dropUntil (own ||| (BitVec.ofNat 16 k &&& s.stepping)) n 4096 s

/-- KV_DROP (R275): free pages below the mark; busy names the streams whose step runs. -/
def execKvDrop (busy : BitVec 16) (s : State) : Out :=
  act s (s.sterdo && s.tiers.pool.isSome && decide (s.kvFree < s.tiers.mark.toNat) && (s.dropCandidate busy).isSome)
    (dropUntil busy s.tiers.mark.toNat 4096 s)

/-! ### Columns for a step (R274, R276, R277) -/

/-- The column that a step appends into next needs pages of the stream's own: missing, or shared. -/
def State.needsCol (s : State) (i : Fin 16) (c : Nat) : Bool :=
  match (s.kv i).cols[c]? with
  | none => true
  | some none => false
  | some (some ps) => !s.privateCol ps

/-- The first column from LENGTH on that lacks private pages. -/
def State.colToGive (s : State) (i : Fin 16) : Option Nat :=
  (List.range 128).find? fun c => decide ((s.kv i).length / 32 ≤ c) && s.needsCol i c && decide (c ≤ (s.kv i).cols.length)

/-- A step lacks pages: the wait of R277 begins. -/
def pageWait (i : Fin 16) (s : State) : State := setKv i (fun v => { v with waitAt := some (v.waitAt.getD s.clk.tempo) }) s

/-- Private pages given to a column: allocated, or copied from the shared ones (R274). -/
def giveCol (i : Fin 16) (c : Nat) (ps : List Nat) (s : State) : State :=
  let s := refCol ps s
  let s := match (s.kv i).cols[c]? with
    | some (some old) =>
      let s := (old.zip ps).foldl (fun s (a, b) => putPage b (s.pageBytes a) s) s
      setTiers (fun x => { x with cow := satAdd x.cow 1 }) (unrefCol old s)
    | _ => s
  rewriteMap i (setKv i (fun v => { v with
    cols := if c < v.cols.length then v.cols.set c (some ps) else v.cols ++ [some ps], waitAt := none }) s)

/-- COPY_ON_WRITE (R274): the column a step is about to append into gets private pages, or the step waits for them. -/
def execCopyOnWrite (i : Fin 16) (s : State) : Out :=
  match s.colToGive i with
  | none => .next s
  | some c => act s (s.sterdo && s.tiers.pool.isSome && decide ((s.stream[i]).state ≠ .closed))
      (let s := makeRoom (BitVec.twoPow 16 i.1) s.tiers.layers s
       match s.freePages s.tiers.layers with
       | some ps => giveCol i c ps s
       | none => pageWait i s)

/-- Absent columns of a stream. -/
def Kv.absent (v : Kv) : List Nat := v.cols.zipIdx.filterMap fun (c, k) => if c.isNone then some k else none

/-- One absent column written again from what replay reproduces (R276). -/
def replayCol (i : Fin 16) (c : Nat) (ps : List Nat) (s : State) : State :=
  let data := look (s.kv i).kept c []
  let s := (ps.zip data).foldl (fun s (k, b) => putPage k b s) (refCol ps s)
  setKv i (fun v => { v with cols := v.cols.set c (some ps), kept := v.kept.filter fun x => x.1 ≠ c }) s

/-- KV_REPLAY (R276): every absent column of the stream is replayed, or the step waits for pages. -/
def execKvReplay (i : Fin 16) (s : State) : Out :=
  let cs := (s.kv i).absent
  act s (s.sterdo && s.tiers.pool.isSome && !cs.isEmpty)
    (let s := makeRoom (BitVec.twoPow 16 i.1) (s.tiers.layers * cs.length) s
     match s.freePages (s.tiers.layers * cs.length) with
     | none => pageWait i s
     | some ps =>
       let s := cs.zipIdx.foldl (fun s (c, k) => replayCol i c ((ps.drop (s.tiers.layers * k)).take s.tiers.layers) s) s
       let n := (s.kv i).length - 32 * cs.headD 0
       rewriteMap i (setKv i (fun v => { v with waitAt := none }) (setTiers (fun x => { x with replay := satAdd x.replay n }) s)))

/-- PAGE_WAIT_TIMEOUT (R277): pages still lacking after 100 ms fault the stream with NO_RESOURCE. -/
def execPageWaitTimeout (i : Fin 16) (s : State) : Out :=
  match (s.kv i).waitAt with
  | none => .next s
  | some t => act s (decide (t + 100 * ms ≤ s.clk.tempo))
      (streamFault i 0x13 (setKv i (fun v => { v with waitAt := none }) s))

/-! ### Prefixes (R271..R273) -/

/-- A prefix by its handle. -/
def State.prefixOf (s : State) (h : BitVec 8) : Option Prefix := s.tiers.prefixes.find? fun p => decide (p.handle = h)

/-- The columns of COUNT positions. -/
def colsFor (n : Nat) : Nat := (n + 31) / 32

/-- The definition of a prefix from its token page: status and state (R271). The latents that the decoder computes are free
(log entry 2). -/
def definePrefix (h : BitVec 8) (tile : List Byte) (s : State) : BitVec 8 × State :=
  let count := fld (wordOf (tile.take 4)) 0 10
  let words := (List.range count).map fun k => wordOf ((tile.drop (4 + 4 * k)).take 4)
  let n := colsFor count
  if count = 0 then (0x11, s)
  else if 64 ≤ s.tiers.prefixes.length then (0x13, s)
  else
    let s' := makeRoom 0 (n * s.tiers.layers) s
    match s'.freePages (n * s.tiers.layers) with
    | none => (0x13, s)
    | some ps =>
      let cols := (List.range n).map fun c => (ps.drop (s.tiers.layers * c)).take s.tiers.layers
      let fill := fun (s : State) (k : Nat) =>
        putPage k ((List.range 12288).map fun b => BitVec.ofNat 8 (Config.free (s.freeCtr + b))) (stepFree' s)
      let s' := ps.foldl fill (refCol ps s')
      let p : Prefix := { handle := h, words := words, cols := cols.map some, kept := [], used := s'.tiers.clock }
      (0, setTiers (fun x => { x with prefixes := x.prefixes ++ [p], clock := x.clock + 1 }) s')
where
  stepFree' (s : State) : State := { s with freeCtr := s.freeCtr + 12288 }

/-- Every column of a stream released and its context emptied. -/
def clearContext (i : Fin 16) (s : State) : State :=
  let s := ((s.kv i).cols.filterMap id).foldl (fun s ps => unrefCol ps s) s
  setKv i (fun v => { v with length := 0, cols := [], kept := [], handle := 0, prefixLen := 0, log := [], full := false, waitAt := none }) s

/-- A stream's context replaced by a prefix, or by an empty one (R272): none when a count would pass 254. -/
def attachPrefix (i : Fin 16) (p : Option Prefix) (s : State) : Option State :=
  match p with
  | none => some (rewriteMap i (clearContext i s))
  | some p =>
    let ps := (p.cols.filterMap id).flatMap id
    let s' := clearContext i s
    if ps.any fun k => 254 ≤ s'.pageRef k then none
    else
      let s' := refCol ps s'
      let s' := setKv i (fun v => { v with
        length := p.words.length, cols := p.cols, kept := p.kept, handle := p.handle, prefixLen := p.words.length }) s'
      let s' := setTiers (fun x => { x with
        clock := x.clock + 1, prefixes := x.prefixes.map fun q => if q.handle = p.handle then { q with used := x.clock + 1 } else q }) s'
      some (rewriteMap i (logWords i 0 p.words s'))

/-- A prefix's own reference removed (R273). -/
def releasePrefix (h : BitVec 8) (s : State) : State :=
  match s.prefixOf h with
  | none => s
  | some p =>
    let s := (p.cols.filterMap id).foldl (fun s ps => unrefCol ps s) s
    setTiers (fun x => { x with prefixes := x.prefixes.filter fun q => !decide (q.handle = h) }) s

/-! ### Steps (R267, R270) -/

/-- Every column for n more positions is present and private. -/
def State.stepReady (s : State) (i : Fin 16) (n : Nat) : Bool :=
  let v := s.kv i
  v.absent.isEmpty && (n = 0 || (List.range ((v.length + n + 31) / 32 - v.length / 32)).all fun k => !s.needsCol i (v.length / 32 + k))

/-- A step commits (R267): its input words stand in the log, LENGTH advances. -/
def commitStep (i : Fin 16) (ws : List Word) (s : State) : State :=
  if ws.isEmpty then s
  else
    let p := (s.kv i).length
    let s := logWords i p ws s
    rewriteHeader i (setKv i (fun v => { v with length := p + ws.length, stepAt := s.clk.tempo }) s)

/-! ### Registers (Table 14.6) -/

/-- A read of a KV register. -/
def readKv (o : Nat) (s : State) : Option Word :=
  match o with
  | 0x90200 => some (wd (s.tiers.pages + s.tiers.layers * 2 ^ 20))
  | 0x90204 => some (wd s.kvFree)
  | 0x90208 => some (s.tiers.mark.setWidth 32)
  | 0x9020C => some s.tiers.drops
  | 0x90210 => some s.tiers.replay
  | 0x90214 => some s.tiers.cow
  | 0x90218 => some (wd s.tiers.prefixes.length)
  | _ =>
    match slot o 0x90240 4 16 with
    | some (i, 0) => let v := s.kv i; some (wd (v.length + v.present * 2 ^ 13 + v.handle.toNat * 2 ^ 21))
    | _ => none

/-- The RC clears of a full read of a KV register. -/
def readKvEffect (o : Nat) (s : State) : State :=
  match o with
  | 0x9020C => setTiers (fun x => { x with drops := 0 }) s
  | 0x90210 => setTiers (fun x => { x with replay := 0 }) s
  | 0x90214 => setTiers (fun x => { x with cow := 0 }) s
  | _ => s

end Sys2Proof.Machine
end

