-- ==== Sys2Proof/Machine/Streams.lean ====
section
/-! DEFINITION. Streams between their commands: parking and restore (15_recurrence.md R283..R285), the separation hop with its
voice-activity decisions (07_front_end.md R146..R149, 20_streams.md R366), pitch boundaries (09_core_isa.md R188, R190,
14_attention_kv.md R267, R270, 15_recurrence.md R282), the unison change (16_unison.md R291). -/

namespace Sys2Proof.Machine

/-! ### Parking (R283..R285) -/

/-- PARK_IDLE_EXPIRY (R283): an idle stream that is not PAUSED has stayed idle for PARK_IDLE. -/
def execParkIdleExpiry (i : Fin 16) (s : State) : Out :=
  let t := s.stream[i]
  act s (s.sterdo && decide (t.state ≠ .closed) && decide (t.state ≠ .paused) && !t.pausing && s.streamIdle i && t.moving.isNone && !t.parked
      && (s.stateObj i).isSome && decide (t.idleAt + t.idle100.toNat * (100 * ms) ≤ s.clk.tempo))
    (beginPark i s)

/-- Every written tile of an object stands still in a frame. -/
def State.allParked (s : State) (o : Obj) : Bool := (s.written o).all fun x => !x.2.inflight && (x.2.poison || decide (x.2.tier = .dram))
/-- Every written tile of an object stands still at home. -/
def State.allHome (s : State) (o : Obj) : Bool := (s.written o).all fun x => !x.2.inflight && (x.2.poison || x.2.atHome)

/-- PARK_DONE (R283). -/
def execParkDone (i : Fin 16) (s : State) : Out :=
  match s.stateObj i with
  | none => .next s
  | some o => act s (decide ((s.stream[i]).moving = some true) && s.allParked o)
      (setTiers (fun x => { x with parks := satAdd x.parks 1 }) (setStream i (fun t => { t with parked := true, moving := none }) s))

/-- A seat's talker signal is held at the hand-off to the recognition encoder (R284, 24_power.md R420): a stream that takes it is
being restored, or its graph waits for an automatic wake. -/
def State.seatHeld (s : State) (q : Fin 4) : Bool :=
  (List.finRange 16).any fun i =>
    let t := s.stream[i]
    decide (t.kind ≠ 1) && decide (t.seat = q) && (decide (t.state = .listening) || decide (t.state = .active)) && decide (0 < t.inputs)
      && (decide (t.moving = some false) || (decide (s.pwr.mode ≠ 3) && decide (s.pwr.target = some 3)))

/-- Held hops handed on once nothing holds their seat. -/
def releaseHops (s : State) : State :=
  { s with fe := { s.fe with
    hops := mapV s.fe.hops (fun q n => if s.seatHeld q then n else n + s.fe.held[q])
    held := mapV s.fe.held (fun q n => if s.seatHeld q then n else 0) } }

/-- RESTORE_DONE (R284): the state is home; the longest restore is kept, the held signal goes on. -/
def execRestoreDone (i : Fin 16) (s : State) : Out :=
  match s.stateObj i with
  | none => .next s
  | some o => act s (decide ((s.stream[i]).moving = some false) && s.allHome o)
      (let ns := min (2 ^ 32 - 1) (s.clk.tempo - (s.stream[i]).trigAt)
       releaseHops (setTiers (fun x => { x with
           restores := satAdd x.restores 1, restoreMax := if x.restoreMax.toNat < ns then wd ns else x.restoreMax })
         (setStream i (fun t => { t with parked := false, moving := none, idleAt := s.clk.tempo }) s)))

/-! ### The separation hop -/

/-- SEAT_MAP's fields taken over at the hop (19_commands.md Table 19.8): the seats of the mask. -/
def applySeats (d : Vector Word 16) (mask : BitVec 4) (s : State) : State :=
  let seat := fun (q : Fin 4) => fld d[4] (4 * q.1) 4
  { s with sess := { s.sess with
    occupied := (List.finRange 4).foldl (fun (m : BitVec 4) (q : Fin 4) => if bit mask q.1 then setBit m q.1 (decide (seat q % 2 = 1)) else m) s.sess.occupied
    zone := mapV s.sess.zone (fun q z => if bit mask q.1 then BitVec.ofNat 3 (seat q / 2) else z)
    langs := mapV s.sess.langs (fun q w => if bit mask q.1 then d[5 + q.1]'(by omega) else w) } }

/-- What waits for the hop boundary takes effect (R149, 19_commands.md Table 19.8). A path that moves starts from nothing, so the next hop is
synthesised from it alone. -/
def hopCommit (s : State) : State :=
  let s := match s.fe.sepDue with
    | some p => { s with fe := { s.fe with sepPath := p, sepDue := none, sepState := 0 } }
    | none => s
  let s := match s.fe.cfgSt with
    | some (k, m) =>
      let off := (List.finRange 16).foldl (fun (x : BitVec 16) (i : Fin 16) => if chanValid m[i] && !(s.sap[chanPort m[i]]).sync then setBit x i.1 true else x) 0
      let s := { s with fe := { s.fe with kSep := k, mics := m, cfgSt := none, micOff := off, micLost := decide (off ≠ 0) } }
      if s.fe.sepPath = 0 then { s with fe := { s.fe with sepPath := s.sepPathNow } } else s
    | none => s
  let s := match s.fe.seatSt with
    | some d => applySeats d (d[2].setWidth 4) { s with fe := { s.fe with seatSt := none } }
    | none => s
  finishOk (fun w => decide (w.on = .hop)) s

/-- The stream takes the talker signal of a seat. -/
def Stream.listens (t : Stream) (q : Fin 4) : Bool := decide (t.state ≠ .closed) && decide (t.kind ≠ 1) && decide (t.seat = q)

/-- Voice activity starts on a seat (R366, R284): LISTENING and ACTIVE streams whose graph is RUNNING take the input; every other
stream discards it. A parked state object comes home whatever its stream's state. -/
def vadStart (q : Fin 4) (first : Nat) (s : State) : State :=
  let is := (List.finRange 16).filter fun i => (s.stream[i]).listens q
  let wakes := is.any fun i => decide ((s.stream[i]).state = .listening)
  let s := is.foldl (fun s i =>
    let t := s.stream[i]
    let s := if (t.state = .listening || t.state = .active) && (s.grid.graph[t.graph]).state = .running && !t.inVad then
        setStream i (fun t => { t with inputs := t.inputs + 1, inVad := true }) (emitEvent i first 0x02 0 t.state 0 s)
      else s
    restoreState i s) s
  if wakes then autoWake s else s

/-- Voice activity ends on a seat: the streams that took it record the end. -/
def vadEnd (q : Fin 4) (first : Nat) (s : State) : State :=
  ((List.finRange 16).filter fun i => (s.stream[i]).listens q).foldl (fun s i =>
    let t := s.stream[i]
    let s := if t.inVad then
        emitEvent i first 0x03 0 t.state 0 (setStream i (fun t => { t with inVad := false, vadEnds := t.vadEnds ++ [first] }) s)
      else s
    if s.streamIdle i then setStream i (fun t => { t with idleAt := s.clk.tempo }) s else s) s

/-- The talker signals of a hop (R146; 01_cabin.md R16): 64 samples at 16 kHz for each seat of the mask, none for another. Their numbers are
free (log entry 14), in unison a function of the samples and configuration taken in (R149). -/
def talkerHop (seats : BitVec 4) (s : State) : State :=
  let word := fun (q : Fin 4) (k : Nat) =>
    if s.fe.sepPath = 3 then Config.talker s.fe.sepState q.1 k else BitVec.ofNat 32 (Config.free (s.freeCtr + 64 * q.1 + k))
  { s with
    freeCtr := s.freeCtr + 256
    fe := { s.fe with talker := Vector.ofFn fun q => if bit seats q.1 then (List.range 64).map (word q) else [] } }

/-- The decisions of a hop (R147): in unison a function of the samples and configuration taken in (R149), else the front end's finding. -/
def State.voices (s : State) (vad : BitVec 4) : BitVec 4 :=
  if s.fe.sepPath = 3 then (List.finRange 4).foldl (fun (m : BitVec 4) q => setBit m q.1 (Config.voice s.fe.sepState q.1)) 0 else vad

/-- SEPARATION_HOP (R146, R147, R149): the 192 cabin frames of a hop are collected. The decision of each occupied seat, stamped with the
Tempo of the hop's first frame; the talker signal handed on or held; then what is staged for the boundary commits. Which seats speak is the
front end's finding. -/
def execSeparationHop (vad : BitVec 4) (first : Nat) (s : State) : Out :=
  act s (s.boot.quietReady && s.hubOn && s.fe.loaded && decide (192 ≤ s.fe.hopFrames) && decide (first = s.fe.hopFirst))
    (let s := { s with fe := { s.fe with hopFrames := s.fe.hopFrames - 192, hopFirst := s.fe.hopNext } }
     let seats : BitVec 4 := if s.sess.open_ && decide (s.fe.sepPath ≠ 0) then s.sess.occupied else 0
     let vad := s.voices vad &&& seats
     let old := s.fe.vad
     let s := talkerHop seats { s with fe := { s.fe with vad := vad } }
     let s := (List.finRange 4).foldl (fun s q =>
       if bit vad q.1 && !bit old q.1 then vadStart q first s else if !bit vad q.1 && bit old q.1 then vadEnd q first s else s) s
     let speaks := fun (q : Fin 4) => bit seats q.1 && !s.fe.frozen
     let s := { s with fe := { s.fe with
       hops := mapV s.fe.hops (fun q n => if speaks q && !s.seatHeld q then n + 1 else n)
       held := mapV s.fe.held (fun q n => if speaks q && s.seatHeld q then n + 1 else n) } }
     hopCommit (settleStops (settlePauses (releaseHops s))))

/-! ### PITCH -/

/-- What a stream's step brings when the command names none: no input, no positions, no records. -/
def StreamOut.none_ (i : Fin 16) : StreamOut :=
  { stream := i, input := false, positions := [], segStart := false, texts := [], phraseDone := false, last := false }

/-- The stream takes part in pitches: it works, and its state is home (15_recurrence.md R284). -/
def State.pitches (s : State) (i : Fin 16) : Bool :=
  let t := s.stream[i]
  (decide (t.state = .listening) || decide (t.state = .active) || decide (t.state = .draining)) && t.moving.isNone && !t.parked

/-- A step of the stream would pass 4096 positions, or one has (R270). -/
def State.ctxFull (s : State) (i : Fin 16) (ws : List Word) : Bool := !ws.isEmpty && ((s.kv i).full || decide (4096 < (s.kv i).length + ws.length))

/-- The positions of a step (R267), or CONTEXT_FULL (R270): the open segment closes and the event is written once. -/
def stepPositions (i : Fin 16) (ws : List Word) (s : State) : State :=
  if s.ctxFull i ws then
    if (s.kv i).full then s
    else
      let s := setKv i (fun v => { v with full := true }) (setStream i (fun t => { t with openSegs := [] }) s)
      logEvent 0x12 13 (wd i.1) 0x18 (emitEvent i s.clk.tempo 0x07 0x18 (s.stream[i]).state 0 s)
  else commitStep i ws s

/-- The committed slot flips and the pitch count advances (15_recurrence.md R282): word 0 of the header tile. -/
def flipSlot (i : Fin 16) (s : State) : State :=
  let w := (s.stream[i]).slotWord
  let w' := wd ((w.toNat / 2 + 1) % 2 ^ 31 * 2 + (1 - w.toNat % 2))
  let s := setStream i (fun t => { t with slotWord := w' }) s
  match s.stateObj i with
  | some o => uWriteBytes (4096 * o.base) (bytesOf w') s
  | none => s

/-- A segment starts (18_rings.md R336). Its first sample ends the measured latency of the phrase in progress (01_cabin.md R23): the phrase's
first segment, with INCR 1 the one that holds its last token (R22). -/
def segBegin (i : Fin 16) (last : Bool) (s : State) : State :=
  let s := emitEvent i s.clk.tempo 0x04 0 (s.stream[i]).state 0 s
  setStream i (fun t =>
    if t.kind = 0 && !t.latDone && !t.vadEnds.isEmpty && (last || !t.incr) then { t with latDone := true, latAt := t.vadEnds.head?, latIn := false } else t) s

/-- The records of a step (18_rings.md R334..R336): a segment's start, which with INCR 0 does not come before the phrase taken has ended
(01_cabin.md R22), and its texts. -/
def stepRecords (i : Fin 16) (o : StreamOut) (s : State) : State :=
  let s := if o.segStart && (s.stream[i]).mayUtter then segBegin i o.last s else s
  o.texts.foldl (fun s x => emitText i x (setStream i (fun t => { t with
    openSegs := if x.final then t.openSegs.filter (fun y => y ≠ x.seg) else if t.openSegs.contains x.seg then t.openSegs else t.openSegs ++ [x.seg] }) s)) s

/-- The phrase in progress is complete (R366): the input it was taken from is done. -/
def phraseEnd (i : Fin 16) (s : State) : State :=
  let t := s.stream[i]
  let open_ := t.kind ≠ 1 && t.inVad && t.inputs ≤ 1
  if open_ then s
  else
    let s := setStream i (fun t => if t.kind = 1 then { t with texts := t.texts.drop 1 }
      else { t with inputs := t.inputs - 1, vadEnds := t.vadEnds.drop 1, latDone := false }) s
    let t := s.stream[i]
    if (if t.kind = 1 then t.texts.isEmpty else t.inputs = 0) then
      let s := setStream i (fun t => { t with idleAt := s.clk.tempo }) s
      if t.state = .active then toState i .listening s else if t.state = .draining then toState i .opened s else s
    else s

/-- A stream's pitch boundary (R365, R368): the step commits, a command that waits for the boundary applies first, then input
makes the stream ACTIVE, and a complete phrase ends it: its texts are final (R366). -/
def pitchStream (i : Fin 16) (o : StreamOut) (s : State) : State :=
  let input := o.input && decide ((s.stream[i]).state = .listening) && !(s.stream[i]).pausing
    && (if (s.stream[i]).kind = 1 then !(s.stream[i]).texts.isEmpty else decide (0 < (s.stream[i]).inputs))
  let s := if input then toState i .active s else s
  let s := stepRecords i o (flipSlot i (stepPositions i o.positions s))
  if (s.stream[i]).pausing then takePause i s else if o.phraseDone && (s.stream[i]).openSegs.isEmpty then phraseEnd i s else s

/-- PITCH (R188, R190): the boundary of the graph's streams in the mask. The core waits while a step lacks columns
(14_attention_kv.md R276, R277), and pauses where something waits for the graph's boundary. -/
def execPitch (n : Fin 288) (w : BitVec 26) (outs : List StreamOut) (s : State) : Out :=
  coreRow n 0x35 w true s fun s =>
    let c := s.core n
    if !c.free [fRs1 w] then none
    else match c.graph with
    | none => some (coreNext n s)
    | some g =>
      let is := (s.streamsOf g).filter fun i => bit (c.getG (fRs1 w)) i.1 && s.pitches i
      let out := fun (i : Fin 16) => (outs.find? fun o => decide (o.stream = i)).getD (StreamOut.none_ i)
      if is.all fun i => (out i).positions.isEmpty || s.ctxFull i (out i).positions || s.stepReady i (out i).positions.length then
        let s := coreNext n (is.foldl (fun s i => pitchStream i (out i) s) s)
        let s := if s.boundaryDue g && s.coreRuns n then setCore n (fun c => { c with run := .paused, atPitch := true }) s else s
        some (settleStop g s)
      else none

end Sys2Proof.Machine
end

