-- ==== Sys2Proof/Machine/Power.lean ====
section
/-! DEFINITION. Voltage, PMBus, thermal steps, and the end of mode and unison changes (24_power.md R417..R428,
16_unison.md R291). -/

namespace Sys2Proof.Machine

/-! ### Mode and unison changes -/

/-- SET_MODE's reply (19_commands.md Table 19.3): the mode in force and the unison applied. -/
def modeReply (c : Cmd) (s : State) : State := reply c 0x00 (res1 (wd (s.pwr.mode.toNat + b2n s.grid.unison * 4))) s

/-- The MODE field of a SET_MODE. -/
def cMode (c : Cmd) : BitVec 2 := (c.w 2).setWidth 2

/-- The mode part of a SET_MODE (R419): MODE 0 changes none; a change to ACTIVE that meets safe state is preempted (Table 19.2). -/
def startMode (c : Cmd) (s : State) : State :=
  let m := cMode c
  if m = 0 then modeReply c s
  else if m = 3 && s.safe then reply c 0x15 res0 s
  else if m = s.pwr.mode then modeReply c s
  else waitOn c (.mode m) (commitNs s) res0 (beginMode m s)

/-- A unison setting applied (16_unison.md R291): separation moves at the hop that follows (07_front_end.md R149). -/
def applyUnison (on : Bool) (s : State) : State :=
  let s := { s with grid := { s.grid with unison := on, uPending := none } }
  { s with fe := { s.fe with sepDue := if s.fe.sepPath = 0 then none else some s.sepPathNow } }

/-- A graph is RUNNING. -/
def State.anyRunning (s : State) : Bool := s.grid.graph.toList.any fun g => decide (g.state = .running)

/-- The W field of a SET_MODE names another width than the one in force. -/
def State.changesW (s : State) (c : Cmd) : Bool := bit (c.w 2) 4 && decide (fld (c.w 2) 6 2 ≠ s.grid.uwidth.toNat)

/-- A SET_MODE applied (R419, 16_unison.md R291): during a change it waits for that to complete; its unison part comes first. A change
of unison waits for the boundary common to the RUNNING graphs; with none running there is nothing to wait for. -/
def beginSetMode (c : Cmd) (s : State) : State :=
  if s.pwr.target.isSome || s.grid.uPending.isSome then waitOn c .modeBusy 0 res0 s
  else if !bit (c.w 2) 4 then startMode c s
  else if s.changesW c && s.anyRunning then reply c 0x12 (res1 2) s
  else
    let s := { s with grid := { s.grid with uwidth := BitVec.ofNat 2 (fld (c.w 2) 6 2) } }
    if bit (c.w 2) 5 = s.grid.unison then startMode c s
    else if s.anyRunning then waitOn c .unison (commitNs s) res0 { s with grid := { s.grid with uPending := some (bit (c.w 2) 5) } }
    else startMode c (applyUnison (bit (c.w 2) 5) s)

/-- The SET_MODEs that waited for a change to end, in order (R419). -/
def nextModes (s : State) : State :=
  let ws := s.hif.waits.filter fun w => decide (w.on = .modeBusy)
  ws.foldl (fun s w => beginSetMode w.cmd s) { s with hif := { s.hif with waits := s.hif.waits.filter fun w => !decide (w.on = .modeBusy) } }

/-- The automatic wake that waited for a change to QUIET (R420). -/
def lateWake (s : State) : State :=
  if s.pwr.wakeDue then
    let s := setPwr (fun x => { x with wakeDue := false }) s
    if s.pwr.mode = 2 && s.pwr.target.isNone && !s.safe then pwrCause 5 (beginMode 3 s) else s
  else s

/-- Leaving ACTIVE needs every graph at a pitch boundary. -/
def State.graphsStillFor (s : State) (m : BitVec 2) : Bool := decide (m = 3) || s.graphsStill

/-- The domains stand as the mode asks (Table 24.1) and the voltage has come to its target (R419, R421). -/
def State.modeReached (s : State) (m : BitVec 2) : Bool :=
  s.graphsStillFor m && decide (s.pwr.reqMv = s.goalMv) && s.rowsIn m
    && (if s.pwr.mode.toNat ≤ m.toNat then decide (s.pwr.mode ≠ 1) || s.pma.ready
        else s.rowsOut m)
    && (if m = 1 then decide (s.pma.s23 = 0) && s.belayAt .dram .switched else true)
    && (if m = 3 then (s.belayOf .dram).isNone else true)

/-- The sections and lasers of S0 and S1 go off (Table 24.1 STANDBY). -/
def sectionsOff (s : State) : State :=
  let s := [0, 1].foldl (fun s i => setSect i (fun x => { x with ready := false, rotating := none, held := none }) s) s
  finishOk (fun w => decide (w.on = .reset 2)) (pmaReady { s with pma := { s.pma with lit := 0, intoning := false } })

/-- A mode in force (R418, R419): graphs pause or resume; on leaving STANDBY separation, RNC and gates come back. -/
def enterMode (m : BitVec 2) (s : State) : State :=
  let old := s.pwr.mode
  let s := setPwr (fun x => { x with mode := m, target := none }) s
  let s := if m = 3 then releaseHops (resumeGraphs s) else pauseGraphs s
  let s := if m = 1 then sectionsOff s else s
  if old = 1 && decide (m ≠ 1) then syncStopped (rncResume { s with fe := { s.fe with sepPath := s.sepPathNow } }) else s

/-- MODE_CHANGE_DONE (R419): the last step has ended; SET_MODE replies. -/
def execModeChangeDone (s : State) : Out :=
  match s.pwr.target with
  | none => .next s
  | some m => act s (s.modeReached m && s.pwr.tsdAt.isNone)
      (let s := pwrCause 0 (enterMode m s)
       let s := finishWaits (fun w => decide (w.on = .mode m)) (fun _ => (0x00, res1 (wd (s.pwr.mode.toNat + b2n s.grid.unison * 4)))) s
       lateWake (nextModes s))

/-- UNISON_APPLY (16_unison.md R291): every stream of every RUNNING graph stands at a boundary; the mode part of the waiting SET_MODE
goes on, and those behind it when it changes no mode. -/
def execUnisonApply (s : State) : Out :=
  match s.grid.uPending with
  | none => .next s
  | some on =>
    let gs := (List.finRange 8).filter fun g => decide ((s.grid.graph[g]).state = .running)
    act s (gs.all fun g => s.atBoundary g)
      (let s := applyUnison on s
       let s := gs.foldl (fun s g => if s.boundaryDue g then s else resumeCores g s) s
       let ws := s.hif.waits.filter fun w => decide (w.on = .unison)
       let s := ws.foldl (fun s w => startMode w.cmd s) { s with hif := { s.hif with waits := s.hif.waits.filter fun w => !decide (w.on = .unison) } }
       if s.pwr.target.isSome then s else lateWake (nextModes s))

/-! ### PMBus (R424, Table 24.3) -/

/-- A thermal or PMIC event (25_observation.md Table 25.2 0x0E). -/
def pwrEvent (status : BitVec 16) (s : State) : State := logEvent 0x0E 10 (pwrStatus s) (status.setWidth 32) s

/-- A transaction as issued: its command code and its word. -/
def pmbusSend (code : BitVec 8) (w : BitVec 16) (s : State) : State := setPwr (fun x => { x with pmbus := (code, w) :: x.pmbus }) s

/-- A transaction that is not acknowledged, nor at its 3 retries: PMBUS_FAIL; the last VCORE stays. -/
def pmbusDead (s : State) : State :=
  if s.pwr.pmbusFail then s else pwrEvent 0 (pwrCause 4 (setPwr (fun x => { x with pmbusFail := true }) s))

/-- A transaction that succeeds ends the failure. -/
def pmbusAlive (s : State) : State := setPwr (fun x => { x with pmbusFail := false }) s

/-- The conductor runs the power steps: boot step 9 has ended, no shutdown. -/
def State.pwrRuns (s : State) : Bool := s.did 9 && s.pwr.tsdAt.isNone

/-- VOUT_COMMAND's word: round(mV x 4096 / 1000), LINEAR16. -/
def lin16 (mv : Nat) : BitVec 16 := BitVec.ofNat 16 ((mv * 4096 + 500) / 1000)

/-- VCORE_STEP (R421): at a step slot the request moves by at most 10 mV. -/
def execVcoreStep (nacks : Nat) (s : State) : Out :=
  let g := s.goalMv
  let r := s.pwr.reqMv
  let v := if r < g then min g (r + 10) else max g (r - 10)
  act s (s.pwrRuns && !s.pwr.pmbusFail && decide (g ≠ r) && decide (s.pwr.stepAt + 50 * us ≤ s.clk.tempo))
    (let s := pmbusSend 0x21 (lin16 v) s
     if 4 ≤ nacks then pmbusDead s else setPwr (fun x => { x with reqMv := v, stepAt := s.clk.tempo }) s)

/-- STATUS_WORD read: any bit set is a fault, reported and cleared (log entry 32). -/
def takeStatus (w : BitVec 16) (s : State) : State :=
  let s := pmbusSend 0x79 w s
  if w = 0 then s else pmbusSend 0x03 0 (pwrEvent w (pwrCause 3 s))

/-- LINEAR11 in hundredths, to the nearest, within 0..65535 (log entry 32). -/
def centi11 (w : BitVec 16) : Nat :=
  let y : Int := if bit w 10 then (fld w 0 11 : Int) - 2048 else fld w 0 11
  let n : Int := if bit w 15 then (fld w 11 5 : Int) - 32 else fld w 11 5
  let x : Int := if 0 ≤ n then 100 * y * 2 ^ n.toNat else (200 * y + 2 ^ (-n).toNat) / 2 ^ ((-n).toNat + 1)
  (max 0 (min 65535 x)).toNat

/-- READ_VOUT taken in (R424): MEAS_MV, and whether it stays within 3 % of the request. -/
def takeVout (w : BitVec 16) (s : State) : State :=
  let a := w.toNat * 1000
  let b := s.pwr.reqMv * 4096
  let bad := decide (3 * b < 100 * (a - b)) || decide (3 * b < 100 * (b - a))
  setPwr (fun x => { x with
    measMv := min 1023 ((a + 2048) / 4096)
    voutBad := if bad then some (x.voutBad.getD s.clk.tempo) else none
    voutFault := x.voutFault && bad }) (pmbusSend 0x8B w s)

/-- PMBUS_POLL (R424). -/
def execPmbusPoll (p : PmicPoll) (s : State) : Out :=
  act s s.pwrRuns
    (if 4 ≤ p.nacks then pmbusDead s
     else
      let s := takeVout p.vout (pmbusAlive s)
      takeStatus p.status (setPwr (fun x => { x with iout := centi11 p.iout }) (pmbusSend 0x8C p.iout s)))

/-- PMB_ALERT (R424). -/
def execPmbAlert (status : BitVec 16) (nacks : Nat) (s : State) : Out :=
  act s s.pwrRuns (if 4 ≤ nacks then pmbusDead s else takeStatus status (pmbusAlive s))

/-- VOUT_TOLERANCE_FAULT (R424): out of tolerance for 10 ms. -/
def execVoutToleranceFault (s : State) : Out :=
  act s (s.pwrRuns && !s.pwr.voutFault && (s.pwr.voutBad.any fun t => decide (t + 10 * ms ≤ s.clk.tempo)))
    (setPwr (fun x => { x with voutFault := true }) s)

/-! ### Caps (R423, R425) -/

/-- The request without one of the caps: the mode's target and the other cap. -/
def State.baseMv (s : State) (other : Option Nat) : Nat :=
  let v := s.modeMv s.modeGoal
  match other with | some c => min v c | none => v

/-- A cap 10 mV lower than what the request is, down to the mode's floor. -/
def lowerCap (cap other : Option Nat) (s : State) : Nat :=
  let v := s.baseMv other
  let v := match cap with | some c => min v c | none => v
  max (modeFloor s.modeGoal) (v - 10)

/-- A cap 10 mV higher; none once it limits nothing. -/
def raiseCap (c : Nat) (other : Option Nat) (s : State) : Option Nat := if s.baseMv other ≤ c + 10 then none else some (c + 10)

/-- CURRENT_CAP_STEP (R423). -/
def execCurrentCapStep (s : State) : Out :=
  let lower := decide (7200 < s.pwr.iout) && decide (s.pwr.curAt + ms ≤ s.clk.tempo)
  let raise := decide (s.pwr.iout < 6500) && s.pwr.curCap.isSome && decide (s.pwr.curAt + 10 * ms ≤ s.clk.tempo)
  act s (s.pwrRuns && decide (s.pwr.mode ≠ 0) && (lower || raise))
    (setPwr (fun x => { x with
      curAt := s.clk.tempo
      curCap := if lower then some (lowerCap x.curCap x.thermCap s) else x.curCap.bind fun c => raiseCap c x.thermCap s }) s)

/-- THROTTLE begins with the first step at 105 C (R425). -/
def beginThrottle (s : State) : State :=
  if s.pwr.throttle then s else pwrEvent 0 (pwrCause 1 (setPwr (fun x => { x with throttle := true }) s))

/-- THERMAL_CAP_STEP (R425). -/
def execThermalCapStep (s : State) : Out :=
  let hot := decide (105 ≤ s.pwr.tj)
  let due := fun (d : Nat) => decide (s.pwr.thermAt = 0) || decide (s.pwr.thermAt + d ≤ s.clk.tempo)
  if hot then
    act s (s.pwrRuns && decide (s.pwr.mode ≠ 0) && due (10 * ms))
      (let c := lowerCap s.pwr.thermCap s.pwr.curCap s
       let was := s.goalMv
       let s := setPwr (fun x => { x with thermCap := some c, thermAt := s.clk.tempo }) s
       beginThrottle (if c < was then setPwr (fun x => { x with steps := satAdd x.steps 1 }) s else s))
  else
    match s.pwr.thermCap with
    | none => .next s
    | some c => act s (s.pwrRuns && decide (s.pwr.tj < 100) && due (100 * ms))
        (let n := raiseCap c s.pwr.curCap s
         setPwr (fun x => { x with thermCap := n, thermAt := s.clk.tempo, throttle := x.throttle && n.isSome }) s)

/-! ### Sensors, shedding, shutdown (R425..R427) -/

/-- The streams that R426 sheds are to pause at their next pitch boundary. -/
def shedStreams (s : State) : State :=
  let is := (List.finRange 16).filter fun (i : Fin 16) =>
    let t := s.stream[i]; t.sheddable && (decide (t.state = .listening) || decide (t.state = .active))
  settlePauses (is.foldl (fun s i => askPause i s) s)

/-- Shedding begins (R426). -/
def beginShed (s : State) : State :=
  shedStreams (pwrEvent 0 (pwrCause 2 (setPwr (fun x => { x with shed := true, sheds := satAdd x.sheds 1 }) s)))

/-- Thermal shutdown begins (R427 step 1): outputs are silenced; a mode change ends where it stands. -/
def beginShutdown (s : State) : State :=
  let s := setPwr (fun x => { x with tsdSeen := true, tsdAt := some s.clk.tempo, target := none }) s
  gatesMap GateId.isOutput Gate.force (pwrEvent 0 s)

/-- THERMAL_SAMPLE (R425): the sensors; Tj is the highest. -/
def execThermalSample (grid phot dram : Int) (s : State) : Out :=
  let tj := max grid (max phot dram)
  act s s.pwr.tsdAt.isNone
    (let was := s.pwr.tj
     let s := setPwr (fun x => { x with
       tGrid := BitVec.ofInt 8 grid, tPhot := BitVec.ofInt 8 phot, tDram := BitVec.ofInt 8 dram, tj := tj
       thermAt := if 100 ≤ was ∧ tj < 100 then s.clk.tempo else x.thermAt
       coolAt := if tj < 110 then some (x.coolAt.getD s.clk.tempo) else none }) s
     if 125 ≤ tj then beginShutdown s
     else if 115 ≤ tj ∧ s.did 9 then (if s.pwr.shed then shedStreams s else beginShed s)
     else s)

/-- SHED_END (R426): below 110 C for 1 s. -/
def execShedEnd (s : State) : Out :=
  act s (s.pwr.shed && decide (s.pwr.tj < 110) && (s.pwr.coolAt.any fun t => decide (t + 1000 * ms ≤ s.clk.tempo)))
    (pwrEvent 0 (setPwr (fun x => { x with shed := false }) s))

/-- SHUTDOWN_POWER_OFF (R427 step 2). -/
def execShutdownPowerOff (s : State) : Out :=
  act s (s.pwr.tsdAt.any fun t => decide (t + ms ≤ s.clk.tempo)) (setPwr (fun x => { x with down := true }) s)

/-! ### Registers (Table 24.4) -/

/-- The paces of the cores in service (R422). -/
def State.paces (s : State) : List Nat :=
  ((List.finRange 288).filter fun j => (s.logicalOf j).isSome).map fun j => Config.pace j.1 s.pwr.measMv s.pwr.tj % 2 ^ 16

/-- PWR_PACE: the lowest and the highest pace. -/
def pwrPace (s : State) : Word :=
  match s.paces with
  | [] => 0
  | p :: ps => wd (ps.foldl min p + ps.foldl max p * 2 ^ 16)

/-- A read of a PWR register. -/
def readPwr (o : Nat) (s : State) : Option Word :=
  match o with
  | 0xB0000 => some (pwrStatus s)
  | 0xB0004 => some (wd (b2n s.pwr.autoWake + b2n s.pwr.quietRows * 2))
  | 0xB0008 => some (wd (s.pwr.activeMv + s.pwr.quietMv * 2 ^ 16))
  | 0xB000C => some (wd (s.pwr.reqMv + s.pwr.measMv * 2 ^ 16))
  | 0xB0010 => some (wd s.pwr.iout)
  | 0xB0014 => some (pwrPace s)
  | 0xB0018 => some (wd (s.pwr.tGrid.toNat + s.pwr.tPhot.toNat * 2 ^ 8 + s.pwr.tDram.toNat * 2 ^ 16))
  | 0xB001C => some (s.pwr.irq.setWidth 32)
  | 0xB0020 => some (s.pwr.irqEn.setWidth 32)
  | 0xB0024 => some (wd (s.pwr.steps.toNat + s.pwr.sheds.toNat * 2 ^ 16))
  | _ => none

/-- A target in mV: rounded down to 10 mV, then clamped (R421). -/
def clampMv (lo hi v : Nat) : Nat := max lo (min hi (v / 10 * 10))

/-- A full write of a PWR register. -/
def writePwr (o : Nat) (v : Word) (s : State) : State :=
  match o with
  | 0xB0004 => setPwr (fun x => { x with autoWake := bit v 0, quietRows := bit v 1 }) s
  | 0xB0008 => setPwr (fun x => { x with activeMv := clampMv 650 850 (fld v 0 10), quietMv := clampMv 550 650 (fld v 16 10) }) s
  | 0xB001C => setPwr (fun x => { x with irq := x.irq &&& ~~~(v.setWidth 6) }) s
  | 0xB0020 => setPwr (fun x => { x with irqEn := v.setWidth 6 }) s
  | _ => s

/-- The RC clear of a full read. -/
def readPwrEffect (o : Nat) (s : State) : State := if o = 0xB0024 then setPwr (fun x => { x with steps := 0, sheds := 0 }) s else s

end Sys2Proof.Machine
end

