-- ==== Sys2Proof/Machine/Repair.lean ====
section
/-! DEFINITION. Retirement, replacement of cores, width drops, the anchor row's move, DRAM scrubs, the ledger
(08_grid_cores.md R160..R162, R167; 12_tiers.md R247, R248; 23_repair.md R401..R416). -/

namespace Sys2Proof.Machine

/-- Health state changed. -/
def setHlt (f : Hlt → Hlt) (s : State) : State := { s with hlt := f s.hlt }

/-! ### Cores that leave service (R160..R162, R167) -/

/-- A retired core's requests end unanswered; its owners begin to empty its pool (12_tiers.md R247). -/
def coreGone (j : Fin 288) (s : State) : State :=
  let s := setNi (coreNi j) (fun x => { x with reqs := [], reserved := 0, rx := x.rx.filter fun p => tierCmd p.cmd }) s
  (s.runsOf j.1).foldl (fun s r => match s.objOf r.tile with
    | some o => queueMove (leaveMove o r.tile) s
    | none => s) s

/-- A number that names a core no longer there: the graph that runs on it enters FAULTED (R167). -/
def loseCore (l : Nat) (s : State) : State :=
  (List.finRange 8).foldl (fun s g => if (s.grid.graph[g]).cores.contains l then graphFault g 0x1C s else s) s

/-- A core given a logical number (R160 steps 2, 3): the map entry, its topo entries, its image, the pool that its use leaves (R153). -/
def giveNumber (l : Nat) (j : Fin 288) (s : State) : State :=
  let g := (List.finRange 8).find? fun g => decide ((s.grid.graph[g]).state ≠ .empty) && (s.grid.graph[g]).cores.contains l
  let s := setRole j.1 (.mapped l) (setFab (fun x => { x with topo := x.topo.filter fun t => t.2.1 ≠ l }) s)
  let s := setNi (coreNi j) (fun x =>
    let m := fun (c : Fin 4) => bootMet (s.isFe j) (coreNi j) c
    { x with rate := Vector.ofFn fun c => (m c).1, burst := Vector.ofFn fun c => (m c).2 }) s
  match g with
  | none => fitPool j (setCore j Core.unbind s)
  | some g =>
    let s := setCore j (fun c => { c.unbind with graph := some g }) s
    match s.imageOf (s.grid.graph[g]).image with
    | some (h, code) => buildEvent (hBuild h) (fitPool j (setCore j (fun c => c.load h code) s))
    | none => fitPool j s

/-- A node that carries no number any longer. -/
def takeNumber (j : Fin 288) (s : State) : State :=
  setCore j Core.unbind (setRole j.1 (if s.healthy j.1 then .spare else .retired) (dropTreesOf [j] s))

/-- The spare that R160 picks for a core of a row. -/
def State.spareFor (s : State) (y : Nat) : Option Nat := nearestSpare y s.spares

/-- A logical number whose core is gone taken over by a spare (R160); an event names both physical ids. -/
def replaceWith (l old : Nat) (j : Fin 288) (s : State) : State :=
  let s := giveNumber l j s
  let s := { s with grid := { s.grid with toReplace := s.grid.toReplace.filter fun k => k ≠ l } }
  logEvent 0xFF 9 (wd old) (wd j.1) s

/-- The anchor-row compute core with the highest logical number (R161). -/
def State.lastCompute (s : State) : Option (Fin 288 × Nat) :=
  (List.finRange 288).foldl (fun (m : Option (Fin 288 × Nat)) j =>
    match s.logicalOf j with
    | some l => if nodeY j.1 = s.grid.anchorY && s.healthy j.1 && decide (l + 8 < s.grid.width) then
        (match m with | some x => if x.2 < l then some (j, l) else m | none => some (j, l)) else m
    | none => m) none

/-- A node index as a node. -/
def nodeFin (k : Nat) : Option (Fin 288) := if h : k < 288 then some ⟨k, h⟩ else none

/-- CORE_REPLACE (R160, R161): the retired core of a node is replaced. An FE core takes a spare of the anchor row, or the place of the
anchor row's last compute core, which is replaced in its turn. -/
def execCoreReplace (n : Fin 288) (s : State) : Out :=
  match s.logicalOf n with
  | none => .next s
  | some l =>
    let ok := s.grid.toReplace.contains l && s.sterdo
    let fe := decide (s.grid.width ≤ l + 8)
    let inRow := s.spares.filter fun j => nodeY j = s.grid.anchorY
    if !fe then
      match (s.spareFor (nodeY n.1)).bind nodeFin with
      | none => .next s
      | some j => act s ok (replaceWith l n.1 j (takeNumber n (loseCore l s)))
    else
      match inRow.head?.bind nodeFin, s.lastCompute with
      | some j, _ => act s (ok && s.grid.anchorDue.isNone) (replaceWith l n.1 j (takeNumber n s))
      | none, some (k, lk) =>
        match (s.spareFor (nodeY k.1)).bind nodeFin with
        | none => .next s
        | some j => act s (ok && s.grid.anchorDue.isNone)
            (replaceWith lk k.1 j (replaceWith l n.1 k (takeNumber n (loseCore lk s))))
      | none, none => .next s

/-- Every graph stopped by a change of width (R162): LOADED when its cores lie below the new N - 8, else EMPTY; its streams fault. -/
def graphsAfterWidth (n : Nat) (s : State) : State :=
  (List.finRange 8).foldl (fun s g =>
    let x := s.grid.graph[g]
    if x.state = .empty then s
    else
      let s := failGraphWaits g (haltCores g s)
      let s := (s.streamsOf g).foldl (fun s i => streamFault i 0x20 s) s
      if x.cores.all (fun l => decide (l + 8 < n)) then
        setGraph g (fun x => { x with state := .loaded, stagedImage := none, stagedPlan := none, stopping := false, rowsDown := false }) s
      else setGraph g (fun x => { ({} : Graph) with epoch := x.epoch }) s) s

/-- The images of the graphs that stay LOADED in the cores of a new map. -/
def reloadGraphs (s : State) : State :=
  let s := dropTreesOf (List.finRange 288) s
  let s := { s with grid := { s.grid with core := mapV s.grid.core fun _ c => c.unbind } }
  (List.finRange 8).foldl (fun s g =>
    let x := s.grid.graph[g]
    if x.state = .empty then s
    else match s.imageOf x.image with
      | some (h, code) => bindCores g x.cores h code s
      | none => s) s

/-- The width drops by a step (R162, 16_unison.md R293), or the grid goes out of service. -/
def dropWidth (s : State) : State :=
  let n := s.grid.width
  match s.fitWidth (n - 64), s.anchorRow with
  | some m, some y =>
    let s := buildMap m y (graphsAfterWidth m s)
    let w := decide ((widthCode m).toNat < s.grid.uwidth.toNat)
    let s := reloadGraphs (setFab (fun x => { x with topo := [] }) s)
    let s := bootNis { s with
      grid := { s.grid with uwidth := if w then widthCode m else s.grid.uwidth, uChanged := s.grid.uChanged || w } }
    logEvent 0x11 9 (wd n) (wd m) (setHlt (fun x => { x with irq := setBit x.irq 2 true }) { s with fe := { s.fe with frozen := false } })
  | _, _ => logEvent 0x11 9 (wd n) 0 (setHlt (fun x => { x with irq := setBit x.irq 2 true }) (gridOut (reloadGraphs (graphsAfterWidth 0 s))))

/-- FE0..FE7 in a new anchor row (R161): the first eight healthy cores of the row; the numbers they displace go to the cores that FE0..FE7
leave, and to spares. A number for which none is left takes the width down (R162). -/
def moveAnchor (y : Nat) (s : State) : State :=
  let new := (s.healthyRow y).take 8
  let first := s.grid.width - 8
  let old := (List.finRange 288).filter fun j => s.isFe j
  let moved := new.filterMap fun j => (nodeFin j).bind fun j => s.logicalOf j
  let shifted := moved.filter fun l => decide (l < first)
  let s := shifted.foldl (fun s l => loseCore l s) s
  let s := old.foldl (fun s j => takeNumber j s) s
  let s := (new.filterMap nodeFin).zipIdx.foldl (fun s (j, k) => giveNumber (first + k) j s) s
  let s := { s with grid := { s.grid with
    anchorY := y, anchorDue := none, toReplace := s.grid.toReplace.filter fun l => decide (l < first) } }
  let s := shifted.foldl (fun s l =>
    match (s.spareFor y).bind nodeFin with
    | some j => replaceWith l 0x1FF j s
    | none => { s with grid := { s.grid with toReplace := s.grid.toReplace ++ [l] } }) s
  let s := logEvent 0xFF 9 (wd y) 0 { s with fe := { s.fe with frozen := false } }
  if s.grid.toReplace.isEmpty || !s.spares.isEmpty then s else dropWidth s

/-- ANCHOR_ROW_MOVE (R161): at a hop boundary. -/
def execAnchorRowMove (s : State) : Out :=
  match s.grid.anchorDue with
  | none => .next s
  | some y => act s s.sterdo (moveAnchor y s)

/-- The anchor row has fallen below 8 healthy cores: a new one is designated by the order of R156; with no row of 8 the width drops (R162). -/
def checkAnchor (s : State) : State :=
  if 8 ≤ (s.healthyRow s.grid.anchorY).length then s
  else match s.anchorRow with
    | some y => { s with grid := { s.grid with anchorDue := some y }, fe := { s.fe with frozen := true } }
    | none => dropWidth s

/-- A core out of service: its number awaits a spare. When fewer spares are left anywhere than numbers wait for one, the width drops. -/
def coreOut (j : Fin 288) (s : State) : State :=
  let s := coreGone j s
  let s := match s.logicalOf j with
    | none => setRole j.1 .retired s
    | some l =>
      let s := loseCore l s
      { s with grid := { s.grid with toReplace := s.grid.toReplace ++ [l] } }
  if s.grid.oos then s
  else if s.spares.length < s.grid.toReplace.length then dropWidth s
  else checkAnchor s

/-! ### Units (Table 23.2) -/

/-- What the retirement of a unit does (Table 23.2). -/
def retireEffect (u : UnitRef) (cls : BitVec 2) (count : Nat) (s : State) : State :=
  let id := u.id.toNat
  match u.type.toNat with
  | 1 => match nodeFin id with | some j => coreOut j s | none => s
  | 2 =>
    if look s.hlt.rowsUsed (bankOf id) 0 < 8 then outOfUse u s
    else permanent (unit uCore (id / 2 ^ 15)) cls count s
  | 3 =>
    let s := purgeRouter id (outOfUse u s)
    match nodeFin id with | some j => coreOut j s | none => s
  | 4 => purgeLink id (outOfUse u s)
  | 5 => dramRowOut id s
  | 6 => { s with boot := { s.boot with dramFail := true } }
  | 7 => if h : id < 18 then (if bit s.pma.dead id then s else laserFail ⟨id, h⟩ s) else s
  | 8 =>
    let i : Fin 4 := ⟨id / 32 % 4, Nat.mod_lt _ (by decide)⟩
    if h : id % 32 < 18 then (if bit (s.sect i).ringsOk (id % 32) then chanFail i ⟨id % 32, h⟩ s else s) else s
  | 9 =>
    let i : Fin 4 := ⟨id / 32 % 4, Nat.mod_lt _ (by decide)⟩
    if h : id % 32 < 17 then
      (if bit (s.sect i).rows (id % 32) && decide ((s.sect i).rowDue ≠ some ⟨id % 32, h⟩) then rowFail i ⟨id % 32, h⟩ s else s) else s
  | 10 =>
    let i : Fin 4 := ⟨id % 4, Nat.mod_lt _ (by decide)⟩
    if (s.sect i).retired then s
    else retireSection i s
  | 11 => safeChange (fun s => { s with boot := { s.boot with lockstep := true } }) s
  | _ => s

/-- A node whose router has no link in service: no route can reach it. -/
def State.cutOff (s : State) (j : Fin 288) : Bool := (linksOf j.1).all fun l => s.fab.deadLinks.contains l

/-- Every healthy core reaches a node by its XY path, or by the route of its topo entry: Sterdo cannot find it unreachable. -/
def State.reached (s : State) (j : Fin 288) : Bool :=
  (List.finRange 288).all fun a => !s.healthy a.1 || s.xyOk a.1 j.1 || (match s.logicalOf j with
    | some l =>
      let (hs, z) := entryWalk (coreNi a) (s.topo (coreNi a) l)
      decide (z = j.1) && hs.all fun h => !s.fab.deadLinks.contains (linkOf h.1 h.2.1)
    | none => false)

/-- UNIT_RETIRE (R405): the permanent unit decided first is retired. After a router or link, the cores that no route reaches
(10_fabric_routing.md R202) become permanent and are replaced: those with no link left, and of those that some XY path misses the ones for
which Sterdo finds no route (which search it makes is open, log entry 26). -/
def execUnitRetire (unreachable : List (Fin 288)) (s : State) : Out :=
  match s.hlt.permanent with
  | [] => .next s
  | (u, cls, count) :: _ => act s true
      (let s := retireEffect u cls count (noteRetire u cls count s)
       if u.type = uRouter ∨ u.type = uLink then ((List.finRange 288).filter fun j => s.healthy j.1
           && (s.cutOff j || (unreachable.contains j && !s.reached j))).foldl (fun s j => hardFail (unit uCore j.1) s) s
       else s)

/-- LOCKSTEP_MISMATCH (R408): the effects of SAFE_STATE stand until power-on reset; the unit is permanent (R403). -/
def execLockstepMismatch (pair : Fin 2) (s : State) : Out :=
  act s (s.did 2)
    (hardFail (unit uCond pair.1) (safeChange (fun s => { s with boot := { s.boot with lockstep := true } }) s))

/-- OPERATING_SECOND (R401, R403): one more whole second of Tempo has passed out of reset; the count rises; events older than 24 h are
dropped. -/
def execOperatingSecond (s : State) : Out :=
  act s (s.did 1 && decide (s.hlt.secAt + 1000 * ms ≤ s.clk.tempo))
    (setHlt (fun x =>
      let t := (x.optime + 1).toNat
      let age := fun (rs : List Strikes) => (rs.map fun r => { r with events := recent t r.events }).filter fun r => !r.events.isEmpty
      { x with optime := x.optime + 1, secAt := x.secAt + 1000 * ms, units := age x.units, rows := age x.rows }) s)

/-! ### Scrubs and pools -/

/-- DRAM_SCRUB (12_tiers.md R248): once every 8 h of operating time; a corrected error counts against its row, an uncorrectable one is a
hard failure and poisons its tile. -/
def execDramScrub (c : Fin 8) (errs : List RowError) (s : State) : Out :=
  act s (s.did 5 && decide ((s.tiers.scrubAt[c]) + 28800 ≤ s.hlt.optime.toNat))
    (errs.foldl (fun s e =>
      let u := unit uDramRow (c.1 * 2 ^ 21 + e.row)
      if e.uncorrectable then
        let s := alert 1 (hardFail u (setTiers (fun x => { x with eccUnc := modAt x.eccUnc c (satAdd · 1) }) s))
        match s.tiers.map.find? fun x => decide (x.2.dframe = e.frame) && decide (e.frame ≠ 0) with
        | some (t, _) => poison t s
        | none => s
      else rowError u (setTiers (fun x => { x with eccCorr := modAt x.eccCorr c (satAdd · 1) }) s))
      (setTiers (fun x => { x with scrubAt := upd x.scrubAt c s.hlt.optime.toNat }) s))

/-- A run that cannot be read (12_tiers.md R247): a clean CACHED copy is dropped, any other tile is poisoned. A run that serves no tile goes,
and so does a move to or from it. -/
def dropUnreadable (n : Fin 288) (t : Nat) (s : State) : State :=
  if (s.runsOf n.1).any fun r => decide (r.tile = t) && s.serving r then
    let c : Fin 8 := ⟨t % 8, Nat.mod_lt _ (by decide)⟩
    let s := match s.movingOf c t with | some m => moveAbandon c m s | none => s
    let e := s.entry t
    let s := freeRun t s
    if e.tier = .homeCopy && !e.dirty then
      setEntry t { e with tier := .dram, fmt := e.frameForm.1, len := e.frameForm.2, node := 0, granule := 0 } s
    else
      let f := if e.dframe = 0 then ((s.objOf t).bind fun o => s.pickFrame o t).getD 0 else e.dframe
      poison t (setEntry t { e with tier := .dram, dirty := false, fmt := 0, len := 63, node := 0, granule := 0, dframe := f, frameForm := (0, 63) } s)
  else
    let s := ((s.movesAt n.1).filter fun x => decide (x.2.move.tile = t)).foldl (fun s x => queueMove x.2.move (moveAbandon x.1 x.2 s)) s
    setTiers (fun x => { x with runs := x.runs.filter fun r => !(decide (r.tile = t) && decide (r.node = n.1)) }) s

/-- CORE_POOL_EMPTY (12_tiers.md R247): the runs of a retired core that its owners cannot read; the others move through their haulers. -/
def execCorePoolEmpty (n : Fin 288) (unreadable : List Nat) (s : State) : Out :=
  act s (!s.healthy n.1) (finishMoves (unreadable.foldl (fun s t => dropUnreadable n t s) s))

/-! ### The ledger (R410..R414) -/

/-- An entry put into the extension, or counted as lost with an event (R412). -/
def extend (e : BitVec 64) (s : State) : State :=
  if s.hlt.ext.length < 1536 then
    setHlt (fun x => { x with ext := x.ext ++ [e], irq := if x.ext.length = 1535 then setBit x.irq 3 true else x.irq }) s
  else logEvent 0xFF 11 (lo e) (hi e) (setHlt (fun x => { x with lost := satAdd x.lost 1, irq := setBit x.irq 3 true }) s)

/-- LEDGER_WRITE (R411, R412): the oldest entry goes to the next OTP slot whose programming verifies, else to the extension. -/
def execLedgerWrite (failed : Nat) (s : State) : Out :=
  match s.hlt.toWrite with
  | [] => .next s
  | e :: rest => act s true
      (let s := setHlt (fun x => { x with toWrite := rest }) s
       let k := s.otp.nextSlot + failed
       if k < 512 then
         let s := { s with otp := { s.otp with ledger := s.otp.ledger ++ [(k, e)], nextSlot := k + 1 } }
         if k = 511 then setHlt (fun x => { x with irq := setBit x.irq 3 true }) s else s
       else extend e { s with otp := { s.otp with nextSlot := 512 } })

/-- The entry with an index: OTP 0..511, extension 512..2047; none when it holds no entry. -/
def State.ledgerAt (s : State) (k : Nat) : Option (BitVec 64) :=
  if k < 512 then s.otp.ledger.lookup k else s.hlt.ext[k - 512]?

/-- An imported ledger (R414), entry by entry; one beyond the extension's room is counted as lost, and its unit retires all the same
(R412, log entry 33). -/
def importEntry (e : BitVec 64) (s : State) : State :=
  let u := entryUnit e
  if s.isRetired u then s else retireEffect u (BitVec.ofNat 2 (fld e 28 2)) (fld e 32 4) (recordRetire u e (extend e s))

/-- The import that its confirmation applies (R414): HLT_IRQ.IMPORTED. -/
def importLedger (es : List (BitVec 64)) (s : State) : State :=
  setHlt (fun x => { x with irq := setBit x.irq 4 true }) (es.foldl (fun s e => importEntry e s) s)

/-! ### Registers (Tables 23.4, 23.5) -/

/-- Fewest spare rows left in any home bank. -/
def State.fewestRows (s : State) : Nat := s.hlt.rowsUsed.foldl (fun m x => min m (8 - x.2)) 8

/-- The health summary (Table 23.4). -/
def State.summary (s : State) : Vector Word 4 :=
  #v[wd (s.grid.width + s.spares.length * 2 ^ 9 + b2n s.boot.gridOos * 2 ^ 18 + b2n s.boot.dramFail * 2 ^ 19 + b2n s.grid.narrowed * 2 ^ 20
        + s.hlt.count.toNat * 2 ^ 24),
     wd (((List.finRange 4).map fun i => (s.lanes i + b2n (s.sect i).retired * 2 ^ 7) * 2 ^ (8 * i.1)).sum),
     wd (s.otp.ledger.length + s.hlt.ext.length * 2 ^ 10 + ((List.range 18).filter fun l => !bit s.pma.dead l).length * 2 ^ 21),
     wd (min 255 s.hlt.units.length + s.fewestRows * 2 ^ 8 + (s.tiers.spareRows.toList.map (·.toNat)).sum % 2 ^ 16 * 2 ^ 16)]

/-- Retired units of a type, saturating at 255 (R415 page 1). -/
def State.retiredOf (s : State) (t : Nat) : Nat := min 255 (s.hlt.retired.filter fun u => decide (u.type.toNat = t)).length

/-- HEALTH_QUERY page 1. -/
def State.retiredCounts (s : State) : Vector Word 4 :=
  Vector.ofFn fun k => wd (((List.range 4).map fun b => s.retiredOf (4 * k.1 + b) * 2 ^ (8 * b)).sum)

/-- A read of an HLT or LEDG register. -/
def readHlt (o : Nat) (s : State) : Option Word :=
  match o with
  | 0xC0000 => some s.summary[0]
  | 0xC0004 => some s.summary[1]
  | 0xC0008 => some s.summary[2]
  | 0xC000C => some s.summary[3]
  | 0xC0010 => some (s.hlt.irq.setWidth 32)
  | 0xC0014 => some (s.hlt.irqEn.setWidth 32)
  | 0xC0018 => some s.hlt.optime
  | 0xC001C => some (s.hlt.strikeLost.setWidth 32)
  | 0xC0020 => some (wd (s.hlt.units.length + s.hlt.rows.length * 2 ^ 8))
  | 0xC0028 => some (lo s.hlt.last)
  | 0xC002C => some (hi s.hlt.last)
  | 0xC0100 => some (wd (s.otp.ledger.length + s.hlt.ext.length * 2 ^ 10 + b2n (decide (512 ≤ s.otp.nextSlot)) * 2 ^ 21
      + b2n (decide (1536 ≤ s.hlt.ext.length)) * 2 ^ 22))
  | 0xC0104 => some (s.hlt.lost.setWidth 32)
  | 0xC0108 => some (s.hlt.sel.setWidth 32)
  | 0xC0110 => some (lo s.hlt.win)
  | 0xC0114 => some (hi s.hlt.win)
  | _ => none

/-- LEDG_SEL written (27_registers.md R454): the entry is taken as it stands, zero if empty. -/
def writeLedgSel (v : Word) (s : State) : State :=
  let k := fld v 0 11
  setHlt (fun x => { x with sel := v.setWidth 11, win := (s.ledgerAt k).getD 0 }) s

/-- A write of an HLT or LEDG register. -/
def writeHlt (o : Nat) (v : Word) (s : State) : State :=
  match o with
  | 0xC0010 => setHlt (fun x => { x with irq := x.irq &&& ~~~(v.setWidth 5) }) s
  | 0xC0014 => setHlt (fun x => { x with irqEn := v.setWidth 5 }) s
  | 0xC0108 => writeLedgSel v s
  | _ => s

/-- The RC clears of a full read. -/
def readHltEffect (o : Nat) (s : State) : State :=
  match o with
  | 0xC001C => setHlt (fun x => { x with strikeLost := 0 }) s
  | _ => s

end Sys2Proof.Machine
end

