-- ==== Sys2Proof/Machine/Guard.lean ====
section
/-! DEFINITION. Guard tables, proposals and the partner check (21_guard.md R379..R390), and what the host may see of objects
(R381). -/

namespace Sys2Proof.Machine

/-- Guard state changed. -/
def setGuard (f : Guard → Guard) (s : State) : State := { s with guard := f s.guard }

/-- A cause of GRD_IRQ: 0 PROPOSED, 1 APPLIED, 2 VETOED, 3 EXPIRED, 4 MISMATCH, 5 CANCELLED. -/
def grdCause (k : Nat) (s : State) : State := setGuard (fun x => { x with irq := setBit x.irq k true }) s

/-! ### Visibility (R381) -/

/-- The host may read (w = false) or write (w = true) an object: its class in WINDOW, and for audio the seat in PRIVACY and no
PRIVACY hold on the seat. An audio object that no path produced carries no seat (log entry 35). -/
def State.hostMay (s : State) (o : Obj) (w : Bool) : Bool :=
  bit s.guard.window (2 * o.cls.toNat + b2n w)
    && (if o.cls = 4 || o.cls = 5 then
          match o.seat with
          | some q => bit s.guard.privacy (q.1 + (if o.cls = 4 then 4 else 0)) && !(bit s.holds.kinds 2 && bit s.holds.seats q.1)
          | none => true
        else true)

/-! ### Images (Table 21.2) -/

/-- Image bytes of a table; none for other indices. -/
def tableSize (t : Nat) : Option Nat := if t < 4 then some 16 else if t < 6 then some 80 else none

/-- The image of a table in force. -/
def State.tableImage (s : State) (t : Nat) : List Byte :=
  let four := fun (a b : Word) => bytesOfWords [a, b, 0, 0]
  match t with
  | 0 => four s.guard.policy 0
  | 1 => four s.guard.window 0
  | 2 => four s.guard.privacy 0
  | 3 => four (lo s.guard.rings) (hi s.guard.rings)
  | 4 => s.guard.keys[0]
  | 5 => s.guard.keys[1]
  | _ => []

/-- The public key of a slot, when present. -/
def State.keyOf (s : State) (k : Fin 2) : Option (Nat × Nat) :=
  let b := s.guard.keys[k]
  if bit (imgWord b 0) 0 then some (beNat ((b.drop 16).take 32), beNat ((b.drop 48).take 32)) else none

/-- The checks of an image's fields (R382 steps 3, 4): none when it passes, else the reason of Table 19.1. -/
def imageFault (t : Nat) (b : List Byte) : Option Nat :=
  let w := imgWord b
  let rest := [4, 8, 12].any fun o => w o ≠ 0
  match t with
  | 0 =>
    if rest || bit (w 0) 7 || fld (w 0) 10 6 ≠ 0 || fld (w 0) 22 10 ≠ 0 then some 2
    else if fld (w 0) 0 6 = 0 || 60 < fld (w 0) 0 6 || fld (w 0) 8 2 = 3 then some 3 else none
  | 1 => if rest || fld (w 0) 18 14 ≠ 0 then some 2 else none
  | 2 => if rest || fld (w 0) 8 24 ≠ 0 then some 2 else none
  | 3 => if w 8 ≠ 0 || w 12 ≠ 0 then some 2 else none
  | _ =>
    if rest || fld (w 0) 1 31 ≠ 0 then some 2
    else if bit (w 0) 0 && !onCurve (beNat ((b.drop 16).take 32), beNat ((b.drop 48).take 32)) then some 3 else none

/-! ### Digests (R383) -/

/-- The digest of a proposal: the 16 B preamble and the image. -/
def digestOf (t : BitVec 8) (proposer : Nat) (id : BitVec 8) (nonce : Word) (image : List Byte) : BitVec 256 :=
  sha256 ([t, BitVec.ofNat 8 proposer, id, 0] ++ (bytesOf nonce).reverse ++ (bytesN 2 image.length).reverse ++ List.replicate 6 0 ++ image)

/-- Digest word k: four bytes, the first in the high bits. -/
def digestWord (d : BitVec 256) (k : Nat) : Word := (d >>> (224 - 32 * k)).setWidth 32

/-- The digest that a table in force carries. -/
def State.tableDigest (s : State) (t : Fin 6) : BitVec 256 :=
  (s.guard.digest[t]).getD (digestOf (BitVec.ofNat 8 t.1) 0 0 0 (s.tableImage t.1))

/-! ### Proposals (R383, R384, R386) -/

/-- The next id: 1..255, skipping ids that are pending. -/
def State.nextProposal (s : State) : BitVec 8 :=
  let busy := ([s.guard.host, s.guard.spv].filterMap fun p => p.map (·.id)) ++ s.guard.confirmed.map (·.1.id)
  ((List.range 255).map fun k => BitVec.ofNat 8 ((s.guard.counter.toNat + k) % 255 + 1)).find? (fun i => !busy.contains i) |>.getD 1

/-- A pending proposal removed for a cause; the event carries its id and index. -/
def dropProposal (host : Bool) (cause : Nat) (s : State) : State :=
  match if host then s.guard.host else s.guard.spv with
  | none => s
  | some p =>
    let s := setGuard (fun x => if host then { x with host := none } else { x with spv := none }) s
    grdCause cause (logEvent 0x0D 2 (wd (p.id.toNat + p.index.toNat * 2 ^ 8)) (wd cause) s)

/-- A proposal accepted (R383, R384): its id and digest; the party's pending one is replaced. -/
def propose (host : Bool) (t : BitVec 8) (nonce : Word) (image : List Byte) (s : State) : Proposal × State :=
  let id := s.nextProposal
  let w := fld s.guard.policy 0 6 * 1000 * ms
  let p : Proposal := { id := id, index := t, nonce := nonce, image := image, digest := digestOf t (if host then 1 else 2) id nonce image
                        window := w, ends := s.clk.tempo + w, mismatches := 0 }
  let s := dropProposal host 5 s
  let s := setGuard (fun x => { x with counter := id }) s
  if host then (p, alert 2 (setGuard (fun x => { x with host := some p }) s))
  else (p, grdCause 0 (setGuard (fun x => { x with spv := some p }) s))

/-- The pending proposal with an id whose window has not passed at a Tempo: whether the host made it. -/
def State.pendingId (s : State) (id : BitVec 8) (at_ : Nat) : Option (Bool × Proposal) :=
  match s.guard.host, s.guard.spv with
  | some p, q => if p.id = id && decide (at_ < p.ends) then some (true, p)
    else (match q with | some q => if q.id = id && decide (at_ < q.ends) then some (false, q) else none | none => none)
  | none, some q => if q.id = id && decide (at_ < q.ends) then some (false, q) else none
  | none, none => none

/-- A confirmation judged at its intake (R385): its status; a confirmed table applies after the epoch. -/
def confirm (host : Bool) (id : BitVec 8) (d0 d1 : Word) (at_ : Nat) (s : State) : BitVec 8 × State :=
  match s.pendingId id at_ with
  | none => (0x1F, s)
  | some (byHost, p) =>
    if byHost = host then (0x16, s)
    else if digestWord p.digest 0 ≠ d0 || digestWord p.digest 1 ≠ d1 then
      let s := grdCause 4 s
      (0x1E, if 2 ≤ p.mismatches then dropProposal byHost 5 s
        else
          let p' := { p with mismatches := p.mismatches + 1 }
          setGuard (fun x => if byHost then { x with host := some p' } else { x with spv := some p' }) s)
    else (0x00, setGuard (fun x =>
      let x := if byHost then { x with host := none } else { x with spv := none }
      { x with confirmed := x.confirmed ++ [(p, epochOf at_, byHost)] }) s)

/-- A veto (R386). -/
def veto (id : BitVec 8) (at_ : Nat) (s : State) : BitVec 8 × State :=
  match s.pendingId id at_ with
  | none => (0x1F, s)
  | some (byHost, _) => (0x00, dropProposal byHost 2 s)

/-- A debug access port session ends (25_observation.md R436). -/
def endDap (s : State) : State :=
  if s.dbg.session then
    logEvent 0x13 12 0 (wd s.debugLevel) { s with dbg := { s.dbg with session := false, result := (0, 0), busy := none } }
  else s

/-- Words of eight bytes. -/
def entriesOf (b : List Byte) : List (BitVec 64) :=
  (List.range (b.length / 8)).map fun k => BitVec.ofNat 64 (natOf ((b.drop (8 * k)).take 8))

/-- A confirmed table applied (R387). -/
def applyTable (x : Proposal × Bool) (s : State) : State :=
  let p := x.1
  let level := s.debugLevel
  let w := imgWord p.image
  let s := match p.index.toNat with
    | 0 => setGuard (fun g => { g with policy := w 0 }) s
    | 1 => setGuard (fun g => { g with window := w 0 }) s
    | 2 => setGuard (fun g => { g with privacy := w 0 }) s
    | 3 => setGuard (fun g => { g with rings := w 4 ++ w 0 }) s
    | 4 => setGuard (fun g => { g with keys := upd g.keys 0 p.image }) s
    | 5 => setGuard (fun g => { g with keys := upd g.keys 1 p.image }) s
    | _ => importLedger (entriesOf p.image) s
  let s := if h : p.index.toNat < 6 then setGuard (fun g => { g with
      version := modAt g.version ⟨p.index.toNat, h⟩ (· + 1), digest := upd g.digest ⟨p.index.toNat, h⟩ (some p.digest) }) s else s
  let s := setGuard (fun g => { g with lastApplied := p.id }) s
  let s := grdCause 1 (logEvent 0x0D 2 (wd (p.id.toNat + p.index.toNat * 2 ^ 8)) 1 s)
  let other := if x.2 then s.guard.spv else s.guard.host
  let s := if other.any (fun q => decide (q.index = p.index)) then dropProposal (!x.2) 5 s else s
  if s.debugLevel < level then endDap s else s

/-- GUARD_APPLY (R387): the tables confirmed in epochs before e, in order; the waiting confirmations reply once none is left. -/
def applyGuard (e : Nat) (s : State) : State :=
  let due := s.guard.confirmed.filter fun p => decide (p.2.1 < e)
  if due.isEmpty then s
  else
    let s := setGuard (fun x => { x with confirmed := x.confirmed.filter fun p => !decide (p.2.1 < e) }) s
    finishOk (fun w => decide (w.on = .guard) && decide (epochOf w.cmd.at_ < e)) (due.foldl (fun s p => applyTable (p.1, p.2.2) s) s)

/-- PROPOSAL_EXPIRY (R386). -/
def execProposalExpiry (spv : Bool) (s : State) : Out :=
  let p := if spv then s.guard.spv else s.guard.host
  act s (p.any fun p => decide (p.ends ≤ s.clk.tempo)) (dropProposal (!spv) 3 s)

/-- Pending ids as GUARD_QUERY and GRD_STATUS show them: host, supervisor; 0 for none. -/
def State.pendIds (s : State) : Nat × Nat :=
  let f := fun (p : Option Proposal) => match p with | some p => p.id.toNat | none => 0
  (f s.guard.host, f s.guard.spv)

/-! ### Registers (Table 21.3) -/

/-- A read of a GRD register. -/
def readGrd (o : Nat) (s : State) : Option Word :=
  match o with
  | 0x30000 => some (wd (s.pendIds.1 + s.pendIds.2 * 2 ^ 8 + s.guard.lastApplied.toNat * 2 ^ 16
      + b2n (s.guard.digest.toList.all Option.isNone) * 2 ^ 24))
  | 0x30040 => some s.guard.policy
  | 0x30044 => some s.guard.window
  | 0x30048 => some s.guard.privacy
  | 0x30050 => some (lo s.guard.rings)
  | 0x30054 => some (hi s.guard.rings)
  | 0x30058 => some (wd (b2n (s.keyOf 0).isSome + 2 * b2n (s.keyOf 1).isSome))
  | 0x30060 => some (s.guard.irq.setWidth 32)
  | 0x30064 => some (s.guard.irqEn.setWidth 32)
  | 0x30070 => some s.guard.lockCnt
  | 0x30074 => some (s.guard.lockLast.setWidth 32)
  | _ =>
    match slot o 0x30010 4 6, slot o 0x30400 4 20 with
    | some (t, 0), _ => some s.guard.version[t]
    | _, some (i, 0) => some s.guard.stage[i]
    | _, _ => none

/-- A write of a GRD register; the staging registers take the supervisor's writes only. -/
def writeGrd (src : Src) (o : Nat) (v : Word) (s : State) : State :=
  match o with
  | 0x30060 => setGuard (fun x => { x with irq := x.irq &&& ~~~(v.setWidth 6) }) s
  | 0x30064 => setGuard (fun x => { x with irqEn := v.setWidth 6 }) s
  | _ =>
    match slot o 0x30400 4 20, src with
    | some (i, 0), .spv => setGuard (fun x => { x with stage := upd x.stage i v }) s
    | _, _ => s

end Sys2Proof.Machine
end

