-- ==== Sys2Proof/Machine/Rings.lean ====
section
/-! DEFINITION. Ring pairs, doorbells, descriptor fetch and its ring checks, stalls, the page-return ring
(18_rings.md R317..R338). -/

namespace Sys2Proof.Machine

/-- The host link's state changed. -/
def setHif (f : Hif → Hif) (s : State) : State := { s with hif := f s.hif }

/-- A ring changed. -/
def setRing (r : Fin 16) (f : Ring → Ring) (s : State) : State := setHif (fun x => { x with ring := modAt x.ring r f }) s

/-- Free reply slots (R317). -/
def Ring.free (g : Ring) : Nat := (g.rqHead.toNat + 2 * logSize g.rqLog - g.rqTail.toNat - 1) % logSize g.rqLog

/-- The next descriptor's replies have room beside those still owed (R326). -/
def Ring.room (g : Ring) (need : Nat) : Bool := decide (g.owed + need ≤ g.free)

/-- Descriptors are placed and not fetched. -/
def Ring.filled (g : Ring) : Bool := decide (g.sqHead ≠ g.sqTail)

/-- Upstream requests reach the host, whose link is in no belay (R298, R300). -/
def Hif.linkUp (h : Hif) : Bool := h.upstream && !h.l1

/-- Since when fetching is held back for space (R327); waits for Bus Master Enable or the link do not count. -/
def holdScan (r : Fin 16) (s : State) : State :=
  let g := s.hif.ring[r]
  if g.state = .running && g.filled && !g.room g.need && s.hif.linkUp then
    if g.heldAt.isSome then s else setRing r (fun g => { g with heldAt := some s.clk.tempo }) s
  else setRing r (fun g => { g with heldAt := none }) s

/-- Every ring scanned. -/
def holdScans (s : State) : State := (List.finRange 16).foldl (fun s r => holdScan r s) s

/-! ### Registers of a ring (Table 18.6) -/

/-- A command of the ring has no final reply yet. -/
def State.outstanding (s : State) (r : Fin 16) : Bool :=
  s.hif.intake.any (fun c => decide (c.ring = r)) || s.hif.ready.any (fun c => decide (c.ring = r))
    || s.hif.waits.any fun w => decide (w.cmd.ring = r)

/-- Deferred commands of a ring (R325). -/
def State.deferred (s : State) (r : Fin 16) : Nat :=
  (s.hif.waits.filter fun w => decide (w.on = .deferred) && decide (w.cmd.ring = r)).length

/-- A write of RING_n_CTRL (R317, R319, R327..R329). -/
def writeRingCtrl (r : Fin 16) (v : Word) (s : State) : State :=
  let g := s.hif.ring[r]
  let g := { g with prio := BitVec.ofNat 2 (fld v 2 2) }
  let g := if g.en then g else { g with sqLog := BitVec.ofNat 4 (fld v 4 4), rqLog := BitVec.ofNat 4 (fld v 8 4) }
  let g :=
    if bit v 0 && !g.en && decide (g.state = .disabled) then { g with
      en := true, state := .running, sqHead := 0, sqTail := 0, rqHead := 0, rqTail := 0, seq := 0, phase := true, heldAt := none, need := 1 }
    else if !bit v 0 && g.en then { g with en := false, state := .draining, heldAt := none }
    else g
  let g :=
    if bit v 1 && g.en && (decide (g.state = .fault) || (decide (g.state = .stalled) && g.room g.need)) then { g with state := .running }
    else g
  holdScan r (setRing r (fun _ => g) s)

/-- A write of RING_n_SQ_TAIL (R318): taken modulo the size. -/
def writeSqTail (r : Fin 16) (v : Word) (s : State) : State :=
  holdScan r (setRing r (fun g => { g with sqTail := BitVec.ofNat 12 (fld v 0 12 % logSize g.sqLog) }) s)

/-- A write of RING_n_RQ_HEAD: taken modulo the size, too (DESIGN CHOICE, log entry 52). -/
def writeRqHead (r : Fin 16) (v : Word) (s : State) : State :=
  holdScan r (setRing r (fun g => { g with rqHead := BitVec.ofNat 12 (fld v 0 12 % logSize g.rqLog) }) s)

/-- A half of a 64-bit base address written; bits 11..0 of LO are reserved (Table 18.6; those of HIF_PG_RET_BASE_LO too: DESIGN CHOICE, log
entry 52). -/
def halfLo (old : BitVec 64) (v : Word) : BitVec 64 := hi old ++ (v &&& 0xFFFFF000)
/-- The high half written. -/
def halfHi (old : BitVec 64) (v : Word) : BitVec 64 := v ++ lo old

/-- RING_n_STAT's code. -/
def RingState.code : RingState → Nat | .disabled => 0 | .running => 1 | .stalled => 2 | .fault => 3 | .draining => 4

/-- A read of a register of ring n. -/
def readRing (r : Fin 16) (k : Nat) (s : State) : Option Word :=
  let g := s.hif.ring[r]
  match k with
  | 0x00 => some (wd (b2n g.en + g.prio.toNat * 4 + g.sqLog.toNat * 2 ^ 4 + g.rqLog.toNat * 2 ^ 8))
  | 0x04 => some (wd (RingState.code g.state + s.deferred r * 2 ^ 8))
  | 0x08 => some (lo g.sqBase)
  | 0x0C => some (hi g.sqBase)
  | 0x10 => some (lo g.rqBase)
  | 0x14 => some (hi g.rqBase)
  | 0x18 => some (g.sqTail.setWidth 32)
  | 0x1C => some (g.sqHead.setWidth 32)
  | 0x20 => some (g.rqHead.setWidth 32)
  | 0x24 => some (g.rqTail.setWidth 32)
  | 0x28 => some (g.irq.setWidth 32)
  | 0x2C => some (g.irqEn.setWidth 32)
  | 0x30 => some (g.seq.setWidth 32)
  | 0x34 => some (wd (g.badSeq.toNat + g.stalls.toNat * 2 ^ 16))
  | _ => none

/-- A write of a register of ring n. -/
def writeRing (r : Fin 16) (k : Nat) (v : Word) (s : State) : State :=
  let base := fun (f : Ring → Ring) => setRing r (fun g => if g.en then g else f g) s
  match k with
  | 0x00 => writeRingCtrl r v s
  | 0x08 => base fun g => { g with sqBase := halfLo g.sqBase v }
  | 0x0C => base fun g => { g with sqBase := halfHi g.sqBase v }
  | 0x10 => base fun g => { g with rqBase := halfLo g.rqBase v }
  | 0x14 => base fun g => { g with rqBase := halfHi g.rqBase v }
  | 0x18 => writeSqTail r v s
  | 0x20 => writeRqHead r v s
  | 0x28 => setRing r (fun g => { g with irq := g.irq &&& ~~~(v.setWidth 3) }) s
  | 0x2C => setRing r (fun g => { g with irqEn := v.setWidth 3 }) s
  | _ => s

/-! ### The page-return ring -/

/-- Records waiting go into pages, and filled pages are returned. -/
def pushPages (s : State) : State := drainReturns ((List.finRange 16).foldl (fun s i => drainStream i s) (drainReturns s))

/-- A write of HIF_PG_RET_CTRL (R333): enabling sets the indices to 0 and lets pages be written again after PERST_N. -/
def writePgRetCtrl (v : Word) (s : State) : State :=
  let h := s.hif
  let h := if h.retEn then h else { h with retLog := BitVec.ofNat 4 (fld v 1 4) }
  if bit v 0 && !h.retEn then pushPages { s with hif := { h with retEn := true, retHead := 0, retTail := 0, pgHeld := false } }
  else { s with hif := { h with retEn := bit v 0 } }

/-- A write of HIF_PG_RET_HEAD (R333): taken modulo the size (DESIGN CHOICE, log entry 52). -/
def writePgRetHead (v : Word) (s : State) : State :=
  drainReturns (setHif (fun h => { h with retHead := BitVec.ofNat 12 (fld v 0 12 % h.retSize) }) s)

/-- A read of the ring and page registers that no ring owns. -/
def readPages (o : Nat) (s : State) : Option Word :=
  let h := s.hif
  match o with
  | 0x12000 => some (wd (h.stallMs.toNat + h.commitMs.toNat * 2 ^ 16))
  | 0x12004 => some (h.flushMs.setWidth 32)
  | 0x12008 => some (lo h.retBase)
  | 0x1200C => some (hi h.retBase)
  | 0x12010 => some (wd (b2n h.retEn + h.retLog.toNat * 2))
  | 0x12014 => some (h.retHead.setWidth 32)
  | 0x12018 => some (h.retTail.setWidth 32)
  | 0x1201C => some (h.pgIrq.setWidth 32)
  | 0x12020 => some (h.pgIrqEn.setWidth 32)
  | _ =>
    match slot o 0x12040 4 16, slot o 0x12080 4 16, slot o 0x10000 0x100 16 with
    | some (i, 0), _, _ =>
      let t := s.stream[i]
      some (wd (t.held % 32 + (backlogBytes t.backlog + (if t.gap.isSome then 40 else 0)) / 8 * 2 ^ 8))
    | _, some (i, 0), _ => some (s.stream[i]).lost
    | _, _, some (r, k) => readRing r k s
    | _, _, _ => none

/-- A write of the ring and page registers; bits 11..0 of HIF_PG_RET_BASE_LO are dropped (DESIGN CHOICE, log entry 52). -/
def writePages (o : Nat) (v : Word) (s : State) : State :=
  match o with
  | 0x12000 => holdScans (setHif (fun h => { h with stallMs := v.setWidth 16, commitMs := BitVec.ofNat 8 (fld v 16 8) }) s)
  | 0x12004 => setHif (fun h => { h with flushMs := v.setWidth 10 }) s
  | 0x12008 => setHif (fun h => if h.retEn then h else { h with retBase := halfLo h.retBase v }) s
  | 0x1200C => setHif (fun h => if h.retEn then h else { h with retBase := halfHi h.retBase v }) s
  | 0x12010 => writePgRetCtrl v s
  | 0x12014 => writePgRetHead v s
  | 0x1201C => setHif (fun h => { h with pgIrq := h.pgIrq &&& ~~~(v.setWidth 3) }) s
  | 0x12020 => setHif (fun h => { h with pgIrqEn := v.setWidth 3 }) s
  | _ => match slot o 0x10000 0x100 16 with | some (r, k) => writeRing r k v s | none => s

/-- The RC clears of a full read. -/
def readPagesEffect (o : Nat) (s : State) : State :=
  match slot o 0x12080 4 16, slot o 0x10000 0x100 16 with
  | some (i, 0), _ => setStream i (fun t => { t with lost := 0 }) s
  | _, some (r, 0x34) => setRing r (fun g => { g with badSeq := 0, stalls := 0 }) s
  | _, _ => s

/-! ### Rows that write these registers -/

/-- RING_ENABLE (R317). -/
def execRingEnable (src : Src) (r : Fin 16) (v : Word) (s : State) : Out :=
  act s (s.mayWrite src && decide (src ≠ .spv) && bit v 0 && !(s.hif.ring[r]).en) (writeRingCtrl r v s)
/-- RING_DISABLE (R329). -/
def execRingDisable (src : Src) (r : Fin 16) (v : Word) (s : State) : Out :=
  act s (s.mayWrite src && decide (src ≠ .spv) && !bit v 0 && (s.hif.ring[r]).en) (writeRingCtrl r v s)
/-- RESUME (R327, R328). -/
def execResume (src : Src) (r : Fin 16) (v : Word) (s : State) : Out :=
  act s (s.mayWrite src && decide (src ≠ .spv) && bit v 1) (writeRingCtrl r v s)
/-- SQ_DOORBELL (R318). -/
def execSqDoorbell (src : Src) (r : Fin 16) (v : Word) (s : State) : Out :=
  act s (s.mayWrite src && decide (src ≠ .spv)) (writeSqTail r v s)
/-- RQ_HEAD_WRITE (R326). -/
def execRqHeadWrite (src : Src) (r : Fin 16) (v : Word) (s : State) : Out :=
  act s (s.mayWrite src && decide (src ≠ .spv)) (writeRqHead r v s)
/-- RING_DRAIN_DONE (R329). -/
def execRingDrainDone (r : Fin 16) (s : State) : Out :=
  act s (decide ((s.hif.ring[r]).state = .draining) && !s.outstanding r) (setRing r (fun g => { g with state := .disabled }) s)
/-- RING_STALL (R327): STALL_MS of 0 is taken as 1. -/
def execRingStall (r : Fin 16) (s : State) : Out :=
  let g := s.hif.ring[r]
  act s (decide (g.state = .running) && (g.heldAt.any fun t => decide (t + (max 1 s.hif.stallMs.toNat) * ms ≤ s.clk.tempo)))
    (setRing r (fun g => { g with state := .stalled, irq := setBit g.irq 1 true, stalls := satAdd g.stalls 1, heldAt := none }) s)
/-- PG_RET_ENABLE (R333). -/
def execPgRetEnable (src : Src) (v : Word) (s : State) : Out :=
  act s (s.mayWrite src && decide (src ≠ .spv) && bit v 0) (writePgRetCtrl v s)
/-- PG_RET_HEAD_WRITE (R333). -/
def execPgRetHeadWrite (src : Src) (v : Word) (s : State) : Out :=
  act s (s.mayWrite src && decide (src ≠ .spv)) (writePgRetHead v s)
/-- PAGE_FLUSH_TIMER (R332): FLUSH_MS of 0 is taken as 1. -/
def execPageFlushTimer (i : Fin 16) (s : State) : Out :=
  act s (s.hif.pagesOk && ((s.stream[i]).page.any fun p =>
      decide (16 < p.used) && decide (p.first + (max 1 s.hif.flushMs.toNat) * ms ≤ s.clk.tempo)))
    (closePage i 1 s)

/-! ### Fetch (R318, R319, R322, R326) -/

/-- The opcodes of chapter 19. -/
def opcodes : List Nat :=
  [0x00, 0x01, 0x02, 0x03, 0x04, 0x05, 0x10, 0x11, 0x12, 0x13, 0x14, 0x15, 0x16, 0x20, 0x21, 0x22, 0x23, 0x24, 0x25, 0x26, 0x27, 0x28,
   0x29, 0x2A, 0x2B, 0x30, 0x31, 0x32, 0x33, 0x34, 0x35, 0x40, 0x41, 0x42, 0x43, 0x50, 0x51, 0x60, 0x61, 0x62, 0x63, 0x70, 0x71, 0x72,
   0x80, 0x81, 0x82, 0x83, 0x90, 0x91, 0x92, 0x93, 0xA0, 0xA1, 0xA2, 0xA3, 0xB0, 0xB1, 0xB2]

/-- QUEUE is permitted (R342). -/
def mayQueue (op : Nat) : Bool := op == 0x23 || op == 0x24 || op == 0x25 || op == 0x26 || op == 0x29 || op == 0x2B

/-- The RINGS permission that an opcode needs (R381): 0 PACK, 1 PROPOSE, 2 GRID, 3 DEBUG. -/
def ringNeed (op : Nat) : Option Nat :=
  if op = 0x10 ∨ op = 0x11 ∨ op = 0x12 then some 0
  else if op = 0x60 then some 1
  else if op = 0xA0 ∨ op = 0xA1 ∨ op = 0xA2 ∨ op = 0xA3 then some 2
  else if op = 0x90 ∨ op = 0x92 then some 3
  else none

/-- The first ring check of R322 that a descriptor fails: its status and result. -/
def ringFault (s : State) (c : Cmd) (expect : BitVec 16) : Option (BitVec 8 × Res) :=
  if fld (c.w 1) 16 16 ≠ expect.toNat then some (0x11, res1 (expect.setWidth 32))
  else if !opcodes.contains c.op then some (0x10, res0)
  else if (ringNeed c.op).any fun k => !bit s.guard.rings (4 * c.ring.1 + k) then some (0x16, res0)
  else if fld (c.w 0) 13 3 ≠ 0 || (c.flag 9 && !mayQueue c.op) || (c.flag 10 && c.op ≠ 0x29) then some (0x11, res1 2)
  else none

/-- Rings that fetching may serve. -/
def State.fetchable (s : State) (r : Fin 16) : Bool :=
  let g := s.hif.ring[r]
  decide (g.state = .running) && g.filled && g.room g.need

/-- The ring whose descriptor is fetched next (R319): the highest PRIO, round-robin among equals. -/
def State.fetchRing (s : State) : Option (Fin 16) :=
  let order := (List.finRange 16).map fun (k : Fin 16) => k + s.hif.rr + 1
  let can := order.filter fun r => s.fetchable r
  let top := can.foldl (fun m r => max m (s.hif.ring[r]).prio.toNat) 0
  can.find? fun r => decide ((s.hif.ring[r]).prio.toNat = top)

/-- The device fetches descriptors (R318, R298, 22_startup.md R395). -/
def State.fetching (s : State) : Bool := s.sterdo && s.boot.quietReady && s.hif.linkUp

/-- What an intake reserves: the oldest event records of an EVENT_DRAIN (25_observation.md R431), the trace records of a TRACE_DUMP. -/
def reserveAtIntake (c : Cmd) (s : State) : State :=
  if c.op = 0x93 then
    let taken := s.dbg.resv.flatMap (·.2)
    let seqs := ((s.dbg.log.map (·.seq)).filter fun q => !taken.contains q).take (fld (c.w 4) 0 11)
    { s with dbg := { s.dbg with resv := s.dbg.resv ++ [(c.id, seqs)] } }
  else if c.op = 0x92 then setFab (fun x => { x with dumps := x.dumps ++ [(c.id, min x.trace.length (fld (c.w 4) 0 12))] }) s
  else s

/-- DESCRIPTOR_FETCH (R319, R322, R326): one descriptor of the ring whose turn it is; without room for its replies it is held back. -/
def execDescriptorFetch (desc : Vector Word 16) (s : State) : Out :=
  match s.fetchRing with
  | none => .next s
  | some r =>
    let g := s.hif.ring[r]
    let c : Cmd := { ring := r, prio := g.prio, desc := desc, id := s.hif.nextId, at_ := s.clk.tempo, second := false
                     preempt := bit s.holds.kinds 5 }
    let need := if c.flag 9 then 2 else 1
    act s s.fetching
      (if !g.room need then holdScan r (setRing r (fun g => { g with need := need }) s)
       else
        let s := setRing r (fun g => { g with
          sqHead := BitVec.ofNat 12 ((g.sqHead.toNat + 1) % logSize g.sqLog), seq := g.seq + 1, owed := g.owed + need, need := 1
          heldAt := none
          badSeq := if fld (c.w 1) 16 16 ≠ g.seq.toNat then satAdd g.badSeq 1 else g.badSeq }) s
        let s := setHif (fun h => { h with rr := r, nextId := h.nextId + 1 }) s
        holdScan r (match ringFault s c g.seq with
          | some (st, x) => reply c st x s
          | none => reserveAtIntake c (setHif (fun h => { h with intake := h.intake ++ [c] }) s)))

/-- A failed descriptor read (R299, R328): the ring whose fetch it was enters FAULT, the error is reported through AER. -/
def fetchFails (err : Nat) (s : State) : State :=
  let s := setHif (fun h => { h with aer := err :: h.aer }) (hifErr err s)
  match s.fetchRing with
  | some r => setRing r (fun g => { g with state := .fault, irq := setBit g.irq 2 true }) s
  | none => s

/-- COMPLETION_TIMEOUT (R299). -/
def execCompletionTimeout (s : State) : Out := act s (s.fetching && s.fetchRing.isSome) (fetchFails 4 s)

/-- COMPLETION_ERROR (R299). -/
def execCompletionError (e : CplError) (s : State) : Out :=
  act s (s.fetching && s.fetchRing.isSome) (fetchFails (match e with | .ur => 5 | .ca => 5 | .poisoned => 6) s)

end Sys2Proof.Machine
end

