-- ==== Sys2Proof/Machine/Intake.lean ====
section
/-! DEFINITION. Intake epochs (20_streams.md R375, R376), the order of host commands (18_rings.md R324), and the order in which a
command is checked (19_commands.md R341..R345). -/

namespace Sys2Proof.Machine

/-! ### Intake epochs -/

/-- A supervisor command of the same epoch acted on the target of a host command (R376; 03_timing.md R67; 21_guard.md R388). -/
def State.overruled (s : State) (c : Cmd) : Bool :=
  let acted := fun (k : Nat) => s.hif.spvActs.contains (epochOf c.at_, k)
  if c.op = 0x70 then acted 0
  else if c.op = 0x61 ∨ c.op = 0x62 then decide (fld (c.w 2) 0 8 ≠ 0) && acted (fld (c.w 2) 0 8)
  else false

/-- The next epoch to apply that has ended: the oldest with commands, else that before the present one when a confirmed table
waits (21_guard.md R387). -/
def State.epochDue (s : State) : Option Nat :=
  let now := epochOf s.clk.tempo
  match s.hif.intake with
  | c :: _ => if epochOf c.at_ < now then some (epochOf c.at_)
    else if s.guard.confirmed.any fun p => decide (p.2.1 < now) then some (now - 1) else none
  | [] => if s.guard.confirmed.any fun p => decide (p.2.1 < now) then some (now - 1) else none

/-- The commands of an epoch in order: PRIO from highest to lowest, then arrival (R375). -/
def byPrio (cs : List Cmd) : List Cmd := [3, 2, 1, 0].flatMap fun k => cs.filter fun c => decide (c.prio.toNat = k)

/-- INTAKE_EPOCH_END (R375): the tables confirmed in earlier epochs apply, then the epoch's host commands are put in order. The
supervisor's commands of the epoch have applied as they came. -/
def execIntakeEpochEnd (s : State) : Out :=
  match s.epochDue with
  | none => .next s
  | some e => act s (s.sterdo && s.hif.ready.isEmpty)
      (let mine := fun (c : Cmd) => decide (epochOf c.at_ = e)
       let cs := (s.hif.intake.filter mine).map fun c => { c with preempt := c.preempt || s.overruled c }
       let s := setHif (fun h => { h with intake := h.intake.filter fun c => !mine c }) s
       let s := applyGuard (if cs.isEmpty then e + 1 else e) s
       setHif (fun h => { h with ready := h.ready ++ byPrio cs }) s)

/-! ### Which command runs (R324) -/

/-- The accepted commands with no final reply yet. -/
def State.unanswered (s : State) : List Cmd := s.hif.intake ++ s.hif.ready ++ s.hif.waits.map (·.cmd)

/-- FENCE and ORDERED let the command start: the earlier commands of its ring (of its SESSION and STREAM) are answered. -/
def Cmd.mayStart (c : Cmd) (s : State) : Bool :=
  let earlier := fun (d : Cmd) => decide (d.ring = c.ring) && decide (d.id < c.id)
  (!c.flag 12 || s.unanswered.all fun d => !earlier d)
    && (!c.flag 11 || s.unanswered.all fun d => !(earlier d && decide (d.session = c.session) && decide (d.stream = c.stream)))

/-- A wait of FENCE or ORDERED. -/
def Wait.isOrder (w : Wait) : Bool := decide (w = .fence) || decide (w = .ordered)

/-- The next host command, and the state without it: one that FENCE or ORDERED held and lets go, else the next in order. -/
def State.nextCmd (s : State) : Option (Cmd × State) :=
  match s.hif.waits.findIdx? (fun w => Wait.isOrder w.on && Cmd.mayStart w.cmd s) with
  | some k => s.hif.waits[k]?.map fun w => (w.cmd, setHif (fun h => { h with waits := h.waits.eraseIdx k }) s)
  | none =>
    match s.hif.ready with
    | [] => none
    | c :: cs => some (c, setHif (fun h => { h with ready := cs }) s)

/-- The row of a host opcode: the conductor runs the next command when it is this one; one that FENCE or ORDERED holds waits. -/
def hostRow (op : Nat) (f : Cmd → State → State) (s : State) : Out :=
  match s.nextCmd with
  | none => .next s
  | some (c, t) => act s (s.sterdo && decide (c.op = op))
      (if Cmd.mayStart c s then f c t else waitOn c (if c.flag 12 then .fence else .ordered) 0 res0 t)

/-! ### The checks of a command (R341) -/

/-- One check of a command: whether it fails, and the status and results of the reply then. -/
abbrev Check := Bool × BitVec 8 × Res

/-- BAD_PARAM with a reason. -/
def bad (fails : Bool) (reason : Nat) : Check := (fails, 0x11, res1 (wd reason))
/-- A status with no results. -/
def refuse (fails : Bool) (st : BitVec 8) : Check := (fails, st, res0)
/-- STATE_CONFLICT with the state in r0 (R345). -/
def conflict (fails : Bool) (state : Nat) : Check := (fails, 0x12, res1 (wd state))
/-- No check. -/
def pass : Check := (false, 0, res0)

/-- The scope of R340: device. -/
def scopeD (c : Cmd) : Check := bad (decide (c.session ≠ 0) || decide (c.stream ≠ 255)) 1
/-- The scope of R340: session. -/
def scopeN (s : State) (c : Cmd) : Check := bad (!s.sess.open_ || decide (c.session ≠ s.sess.id.toNat) || decide (c.stream ≠ 255)) 1
/-- The scope of R340: stream; any says whether 0xFF is permitted. -/
def scopeT (s : State) (c : Cmd) (any : Bool) : Check :=
  bad (!s.sess.open_ || decide (c.session ≠ s.sess.id.toNat) || !(decide (c.stream < 16) || (any && decide (c.stream = 255)))) 1

/-- Reserved bits of the parameter words (R339): the words not listed, and of those listed the bits outside the mask. -/
def resv (c : Cmd) (masks : List (Nat × Word)) : Check :=
  bad ((ixs c.desc).any fun x => decide (2 ≤ x.1.1) && decide (x.2 &&& ~~~(look masks x.1.1 0) ≠ 0)) 2

/-- A host bus address that the device writes to: 64 B aligned (R339). -/
def busAligned (a : BitVec 64) : Bool := decide (a.toNat % 64 = 0)

/-- A command refused gives back what its intake reserved (25_observation.md R431; 19_commands.md R341: no side effect). -/
def unreserve (c : Cmd) (s : State) : State :=
  let s := { s with dbg := { s.dbg with resv := s.dbg.resv.filter fun r => decide (r.1 ≠ c.id) } }
  { s with fab := { s.fab with dumps := s.fab.dumps.filter fun r => decide (r.1 ≠ c.id) } }

/-- A command answered with a failure. -/
def fail (c : Cmd) (st : BitVec 8) (r : Res) (s : State) : State := reply c st r (unreserve c s)

/-- A command deferred (R325, R343): ACCEPTED, or NO_RESOURCE for the 17th of its ring. -/
def defer_ (c : Cmd) (s : State) : State :=
  if 16 ≤ s.deferred c.ring then fail c 0x13 res0 s
  else waitOn { c with second := true } .deferred (10000 * ms) res0 (replyWith c 0x01 res0 false s)

/-- A command checked in the order of R341 and run: fields and limits, holds, the legal state (deferred under R343 where QUEUE
is carried and permitted), the row's further checks in their order. -/
def runCmd (c : Cmd) (fields : List Check) (hold : Check) (state : Check) (more : List Check) (go : State → State) (s : State) : State :=
  match fields.find? (·.1) with
  | some x => fail c x.2.1 x.2.2 s
  | none =>
    if c.preempt then fail c 0x15 res0 s
    else if hold.1 then fail c hold.2.1 hold.2.2 s
    else if state.1 then
      if c.flag 9 && mayQueue c.op && !c.second then defer_ c s else fail c state.2.1 state.2.2 s
    else
      match more.find? (·.1) with
      | some x => fail c x.2.1 x.2.2 s
      | none => go s

/-- A command set to wait for its commit point (18_rings.md R330): CONFIG_COMMIT_TIMEOUT runs from its intake, or for one that FENCE,
ORDERED or QUEUE held from now. -/
def waitCommit (c : Cmd) (on : Wait) (r : Res) (s : State) : State :=
  let from_ := if c.flag 11 || c.flag 12 || c.second then s.clk.tempo else c.at_
  { s with hif := { s.hif with waits := s.hif.waits ++ [{ cmd := c, on := on, deadline := from_ + commitNs s, res := r }] } }

/-- An object that a command may name: a stream's state object has no place in commands (15_recurrence.md R281). -/
def State.hostObj (s : State) (id : Nat) : Option Obj := (s.objId id).filter fun o => decide (o.cls ≠ 3)

/-- The PREEMPTED of a standing safe state (Table 19.2). -/
def heldSafe (s : State) : Check := refuse s.safe 0x15

/-- A command that writes to host memory waits while the device may not (R346). -/
def whenUpstream (c : Cmd) (writes : Bool) (go : State → State) (s : State) : State :=
  if writes && !s.hif.upstream then waitOn c .busMaster 0 res0 s else go s

end Sys2Proof.Machine
end

