-- ==== Sys2Proof/Machine/Session.lean ====
section
/-! DEFINITION. Closing a stream and the session (20_streams.md R363, R365; 19_commands.md Table 19.6), RESET_UNIT (04_audio_ports.md R94,
05_audio_sync.md R115, 06_photonic.md R136), holds (20_streams.md R377, Table 20.6; 02_package.md R52). -/

namespace Sys2Proof.Machine

/-- The commands that wait on a stream which closes: deferred ones (19_commands.md R343) and a pause, with the state CLOSED. -/
def Wait.ofStream (w : Waiting) (i : Fin 16) : Bool :=
  decide (w.on = .pitch i) || (decide (w.on = .deferred) && decide (w.cmd.stream = i.1))

/-- A stream closed (19_commands.md Table 19.6 STREAM_CLOSE; 18_rings.md R332): work abandoned, pages returned, columns and state
object released. What waits in its backlog is discarded and counted; pages not yet returned still count against a later stream, and its
gain stands while its gates close (01_cabin.md R18). -/
def closeStream (i : Fin 16) (s : State) : State :=
  let s := toState i .closed s
  let t := s.stream[i]
  let pages := (match t.page with | some p => [p.addr] | none => []) ++ t.granted
  let s := setStream i (fun t => { t with page := none, granted := [] }) s
  let s := pages.foldl (fun s a => returnPage i 4 a 16 [] s) s
  let s := match t.obj with | some id => dropObj id s | none => s
  let s := clearContext i s
  let s := setStream i (fun u => { ({} : Stream) with held := u.held, lost := satAdd u.lost u.backlog.length, atten := u.atten }) s
  finishWaits (fun w => Wait.ofStream w i) (fun _ => (0x12, res0)) (finishMoves (syncStopped s))

/-- The session closed (19_commands.md Table 19.6 SESSION_CLOSE; 14_attention_kv.md Table 14.6, whose counts stay). A SEAT_MAP
that waits for its hop loses its session. -/
def closeSession (s : State) : State :=
  let s := (List.finRange 16).foldl (fun s i => if (s.stream[i]).state = .closed then s else closeStream i s) s
  let s := finishWaits (fun w => decide (w.on = .hop) && decide (w.cmd.op = 0x43)) (fun _ => (0x12, res0)) s
  let s := (s.tiers.prefixes.map (·.handle)).foldl (fun s h => releasePrefix h s) s
  { setTiers (fun x => { x with
      pool := none, pages := 0, layers := 0, mark := 64, refs := [], kv := Vector.replicate 16 {} }) s with
    sess := { ({} : Session) with prevId := s.sess.id }
    fe := { s.fe with seatSt := none, vad := 0 } }

/-- A port asked to stop (04_audio_ports.md R93): from its next block boundary its channel gates close through the tacet gate (05_audio_sync.md
R110); synchronous status, and with it a path of RNC, ends (Table 5.2, R105). A FAULTED port has no frame to wait for. -/
def sapStop (p : Fin 8) (s : State) : State :=
  if (s.sap[p]).state = .faulted then stopPort p s
  else
    let s := setSap p (fun x => { x with stopping := true }) s
    if (s.sap[p]).sync then rncSuspend p s else s

/-- RESET_UNIT of the audio hub begins (R94, R115, 07_front_end.md Table 7.6): RNC is disabled and every port stops as SAP_STOP does. -/
def resetHub (s : State) : State :=
  let s := { rncOff s with hubReset := true }
  endHubReset ((List.finRange 8).foldl (fun s p => if (s.sap[p]).state = .stopped then s else sapStop p s) s)

/-- Every graph stops and becomes LOADED (Table 20.6 RESET): a switch that waits ends in STATE_CONFLICT with LOADED, a stop is done. -/
def stopGraphs (s : State) : State :=
  (List.finRange 8).foldl (fun s g =>
    let x := s.grid.graph[g]
    if x.state = .running || x.state = .faulted then
      finishOk (fun w => decide (w.on = .stop g))
        (finishWaits (fun w => decide (w.on = .switch g)) (fun _ => (0x12, res1 1)) (stopGraph g s))
    else s) s

/-! ### Holds -/

/-- Holds changed. -/
def setHolds (f : Holds → Holds) (s : State) : State := { s with holds := f s.holds }

/-- The gates and reports follow a change of holds (Table 20.6; 05_audio_sync.md R110: running ports take it at their boundary). -/
def followHolds (s : State) : State := reportZones (syncStopped s)

/-- The RESET hold's work begins (Table 20.6). -/
def beginResetHold (s : State) : State :=
  let s := if s.sess.open_ then closeSession s else s
  resetPma (resetHub (stopGraphs s))

/-- A hold placed or widened (R377): kind 0 MUTE, 1 ZONE_MUTE, 2 PRIVACY, 3 RNC_OFF, 4 SAFE_STATE, 5 RESET. -/
def placeHold (kind : Nat) (mask : BitVec 8) (s : State) : State :=
  let s := logHold kind mask.toNat 1 s
  match kind with
  | 1 => followHolds (setHolds (fun h => { h with kinds := setBit h.kinds 1 (decide (h.zones ||| mask ≠ 0)), zones := h.zones ||| mask }) s)
  | 2 => setHolds (fun h => { h with
      kinds := setBit h.kinds 2 (decide (h.seats ||| mask.setWidth 4 ≠ 0)), seats := h.seats ||| mask.setWidth 4 }) s
  | 3 => finishWaits (fun w => decide (w.on = .cabin)) (fun _ => (0x15, res0)) (rncOff (setHolds (fun h => { h with kinds := setBit h.kinds 3 true }) s))
  | 4 => safeChange (setHolds fun h => { h with kinds := setBit h.kinds 4 true }) s
  | 5 => beginResetHold (setHolds (fun h => { h with kinds := setBit h.kinds 5 true }) s)
  | _ => followHolds (setHolds (fun h => { h with kinds := setBit h.kinds 0 true }) s)

/-- Bits of a hold cleared (R377); bits not held are ignored. A RESET hold clears itself. -/
def clearHold (kind : Nat) (mask : BitVec 8) (s : State) : State :=
  let s := logHold kind mask.toNat 2 s
  match kind with
  | 1 => followHolds (setHolds (fun h => { h with kinds := setBit h.kinds 1 (decide (h.zones &&& ~~~mask ≠ 0)), zones := h.zones &&& ~~~mask }) s)
  | 2 => setHolds (fun h => { h with
      kinds := setBit h.kinds 2 (decide (h.seats &&& ~~~(mask.setWidth 4) ≠ 0)), seats := h.seats &&& ~~~(mask.setWidth 4) }) s
  | 3 => setHolds (fun h => { h with kinds := setBit h.kinds 3 false }) s
  | 4 => safeChange (setHolds fun h => { h with kinds := setBit h.kinds 4 false }) s
  | 5 => s
  | _ => followHolds (setHolds (fun h => { h with kinds := setBit h.kinds 0 false }) s)

/-- RESET_HOLD_DONE (Table 20.6): the audio hub and the PMA have been reset. -/
def execResetHoldDone (s : State) : Out :=
  act s (bit s.holds.kinds 5 && !s.hubReset && !s.pma.intoning)
    (logHold 5 0 2 (setHolds (fun h => { h with kinds := setBit h.kinds 5 false }) s))

/-- A ZMUTE decision's event (R377, 25_observation.md Table 25.2 0x0C): as a ZONE_MUTE of the pin's zone. -/
def logPin (z : Fin 8) (what : Nat) (s : State) : State := logHold 1 (2 ^ z.1) what s

/-- The level that stands at a zone's ZMUTE pin (R52, Table 2.10). -/
def pinLevel (z : Fin 8) (high : Bool) (s : State) : State := { s with gen := { s.gen with gpioIn := setBit s.gen.gpioIn (4 + z.1) high } }

/-- ZMUTE_HOLD_PLACE (R52): the pin carries ZMUTE. -/
def execZmuteHoldPlace (z : Fin 8) (s : State) : Out :=
  act s (decide (s.pinFunc (4 + z.1) = 2) && !bit s.holds.pins z.1)
    (followHolds (setHolds (fun h => { h with pins := setBit h.pins z.1 true }) (logPin z 1 (pinLevel z false s))))

/-- ZMUTE_HOLD_RELEASE (R52). -/
def execZmuteHoldRelease (z : Fin 8) (s : State) : Out :=
  act s (bit s.holds.pins z.1)
    (followHolds (setHolds (fun h => { h with pins := setBit h.pins z.1 false }) (logPin z 2 (pinLevel z true s))))

end Sys2Proof.Machine
end

