-- ==== Sys2Proof/Machine/CmdAudio.lean ====
section
/-! DEFINITION. Host commands: audio (19_commands.md Table 19.7; 04_audio_ports.md R73..R93) and front end (Table 19.8;
05_audio_sync.md R104; 07_front_end.md R138..R149). -/

namespace Sys2Proof.Machine

/-! ### Staging at block boundaries (04_audio_ports.md R89..R91) -/

/-- The ports of a mask that run: their boundaries are awaited (R90). -/
def State.runPorts (s : State) (m : BitVec 8) : BitVec 8 :=
  (List.finRange 8).foldl (fun (d : BitVec 8) p => setBit d p.1 (bit m p.1 && decide ((s.sap[p]).state = .running))) 0

/-- A command whose change has been staged: ports that do not run take it at once; it replies after the last boundary. -/
def stage (c : Cmd) (due : BitVec 8) (r : Res) (s : State) : State :=
  let s := reportZones (commitStopped s)
  if due = 0 then reply c 0 r s else waitCommit c (.ports due) r s

/-- A command that changes tables with shadows (R91): it waits while one of them is uncommitted, from then on. -/
def unlessShadowed (c : Cmd) (go : State → State) (s : State) : State :=
  if s.shadowBusy c then waitOn { c with at_ := s.clk.tempo } .shadow (commitNs s) res0 s else go s

/-- The ports on which a zone of a mask has members. -/
def State.zonePorts (s : State) (zm : BitVec 8) : BitVec 8 :=
  (List.finRange 8).foldl (fun (d : BitVec 8) p => setBit d p.1 ((List.finRange 8).any fun z => bit zm z.1 && s.zoneOn z p)) 0

/-! ### Audio (R351, R352) -/

/-- A port named in w2 [2:0]. -/
def cPort (c : Cmd) : Fin 8 := ⟨fld (c.w 2) 0 3, Nat.mod_lt _ (by decide)⟩

/-- Data bits of a frame. -/
def Sap.frameBits (p : Sap) : Nat := p.slots * p.swidth

/-- DIV of a configuration at a rate (R77): none where no integer divider fits; 0 in the target role. -/
def Sap.divFor (p : Sap) (rate : Nat) : Option Nat :=
  if !p.controller then some 0
  else
    let bclk := p.frameBits * rate
    if bclk ≠ 0 && decide (24576000 % bclk = 0) && decide (1 ≤ 24576000 / bclk) && decide (24576000 / bclk ≤ 256) then some (24576000 / bclk)
    else none

/-- The framing limits (R73, R74, R76, R77). -/
def Sap.framingOk (p : Sap) (rate : Nat) : Bool :=
  decide (fld p.cfg 0 2 ≤ 1) && decide (fld p.cfg 8 2 ≠ 3) && (decide (fld p.cfg 0 2 = 1) || decide (p.slots = 2))
    && decide (p.wlen ≤ p.swidth) && decide (8000 ≤ rate) && decide (rate ≤ 192000) && decide (p.frameBits * rate ≤ 24576000)
    && (p.divFor rate).isSome

/-- A slot mask that a port may carry (R80). -/
def Sap.maskOk (p : Sap) (m : Nat) : Bool := decide (0 < m) && decide (m < 2 ^ p.slots)

/-- The port as a SAP_CONFIG with CFG_VALID leaves it. -/
def sapCfgOf (c : Cmd) (x : Sap) : Sap :=
  if bit (c.w 2) 8 then { x with cfg := (c.w 3).setWidth 17, rate := (c.w 4).setWidth 18 } else x

/-- The field checks of SAP_CONFIG (R73..R82, Table 5.6); the fields that Table 4.7 gives TDM alone are reserved in I2S. -/
def sapConfigFields (c : Cmd) (x : Sap) : List Check :=
  let y := sapCfgOf c x
  let cv := bit (c.w 2) 8
  let b := if bit (c.w 2) 10 then fld (c.w 5) 16 9 else x.b
  [scopeD c, resv c [(2, 0xF07), (3, 0x1FFFF), (4, 0x3FFFF), (5, 0x1FFFFFF), (6, 0x1FFF7F03)],
    bad (cv && decide (fld (c.w 3) 0 2 = 0) && decide (fld (c.w 3) 12 3 ≠ 0)) 2,
    bad (cv && !y.framingOk y.rate.toNat) 3,
    bad (bit (c.w 2) 9 && !y.maskOk (fld (c.w 5) 0 16)) 3,
    bad ((cv || bit (c.w 2) 10) && (decide (b < 8) || decide (480 < b) || decide (y.rate.toNat < 100 * b))) 3,
    bad (bit (c.w 2) 11 && (decide (fld (c.w 6) 8 7 < 1) || decide (100 < fld (c.w 6) 8 7) || decide (fld (c.w 6) 16 13 < 10)
      || decide (5000 < fld (c.w 6) 16 13))) 3]

/-- SAP_CONFIG's change: framing at once on the stopped port, the rest into shadows. -/
def sapConfigGo (c : Cmd) (s : State) : State :=
  let p := cPort c
  let y := sapCfgOf c s.sap[p]
  let div := if bit (c.w 2) 8 then (y.divFor y.rate.toNat).getD 0 else (s.sap[p]).div.toNat
  let staged := bit (c.w 2) 9 || bit (c.w 2) 10 || bit (c.w 2) 11
  let s := setSap p (fun x =>
    let x := if bit (c.w 2) 8 then { sapCfgOf c x with div := BitVec.ofNat 9 div } else x
    { x with
      maskSt := if bit (c.w 2) 9 then some ((c.w 5).setWidth 16) else x.maskSt
      blockSt := if bit (c.w 2) 10 then some (BitVec.ofNat 9 (fld (c.w 5) 16 9)) else x.blockSt
      syncCfgSt := if bit (c.w 2) 11 then some (c.w 6) else x.syncCfgSt }) s
  stage c (if staged then s.runPorts (setBit 0 p.1 true) else 0) (res1 (wd div)) s

/-- SAP_CONFIG (R351, R92). -/
def execSapConfig (s : State) : Out :=
  hostRow 0x30 (fun c s =>
    let x := s.sap[cPort c]
    runCmd c (sapConfigFields c x) pass (conflict (bit (c.w 2) 8 && decide (x.state ≠ .stopped)) x.state.code) []
      (unlessShadowed c (sapConfigGo c)) s) s

/-- A port starts (R93, R82, R83, R107): SEQ from 0, empty block, FIFO at its starting fill. A controller's ratio is what its
rate implies (05_audio_sync.md R100); at 48 kHz it is synchronous at once (Table 5.2), its edges a fixed time of 0 to 1 bit clock behind
the CABIN edges (R77; log entry 2). -/
def sapStart (p : Fin 8) (s : State) : State :=
  let x := s.sap[p]
  let sync := x.controller && decide (x.rate = 48000) && !x.forced
  let (d, s) := s.pick (10 ^ 9 / max 1 (x.frameBits * 48000) + 1)
  let s := setSap p (fun x => Sap.fresh { x with
    state := .running, stopping := false, nextSeq := 0, blk := [], blkSlips := 0, insBefore := 0, lastFrame := [], driven := []
    locked := false, quals := [], qualifying := false, unramp := 0, insertLeft := 0, acc := 0, trim := 0, line := [], cabin := []
    lastCls := none, win := firstWin s.clk.tempo, lastEdge := none, sync := sync, syncDue := none
    qualPh := if x.cabinClocked then d else x.qualPh
    ratio := if x.controller then BitVec.ofNat 35 (x.rate.toNat * 2 ^ 32 / 48000) else x.ratio }) s
  let s := syncGates p (if sync then sapCause p 6 s else s)
  let s := reportZones (rncResume s)
  if s.hubReset then sapStop p s else s

/-- SAP_START (R351, R93, R80). -/
def execSapStart (s : State) : Out :=
  hostRow 0x31 (fun c s =>
    let x := s.sap[cPort c]
    runCmd c [scopeD c, resv c [(2, 7)]] pass (conflict (decide (x.state ≠ .stopped)) x.state.code)
      [refuse x.bankOff 0x13, bad (!x.maskOk x.mask.toNat) 3] (fun s => replyOk c (sapStart (cPort c) s)) s) s

/-- SAP_STOP (R351, R93): it replies once the port has stopped. -/
def execSapStop (s : State) : Out :=
  hostRow 0x32 (fun c s =>
    let p := cPort c
    runCmd c [scopeD c, resv c [(2, 7)]] pass (conflict (decide ((s.sap[p]).state = .stopped)) 0) []
      (fun s => sapStop p (waitOn c (.sapStop p) 0 res0 s)) s) s

/-- Member m of a ZONE_DEFINE. -/
def cMember (c : Cmd) (m : Fin 16) : BitVec 16 :=
  let w := c.desc[3 + m.1 / 2]'(by have := m.2; omega)
  BitVec.ofNat 16 (fld w (16 * (m.1 % 2)) 16)

/-- ZONE_DEFINE (R85). -/
def execZoneDefine (s : State) : Out :=
  hostRow 0x33 (fun c s =>
    let ms : Vector (BitVec 16) 16 := Vector.ofFn (cMember c)
    runCmd c [scopeD c, resv c ((2, 7) :: (List.range 8).map fun k => (3 + k, -1)),
        bad (ms.toList.any fun m => !memValid m && decide (m ≠ 0)) 2,
        bad (ms.toList.any fun m => memValid m && !(s.sap[memPort m]).out) 3] pass pass []
      (unlessShadowed c fun s =>
        let z := cPort c
        let on := fun (p : Fin 8) => s.zoneOn z p || ms.toList.any fun m => memValid m && decide (memPort m = p)
        let due := s.runPorts ((List.finRange 8).foldl (fun (d : BitVec 8) p => setBit d p.1 (on p)) 0)
        stage c due res0 { s with zone := modAt s.zone z fun x =>
          if due = 0 then { x with mem := ms } else { x with memSt := some (ms, due) } }) s) s

/-- ZONE_ROUTE (R351). -/
def execZoneRoute (s : State) : Out :=
  hostRow 0x34 (fun c s =>
    let i := c.sid
    let t := s.stream[i]
    runCmd c [scopeT s c false, resv c [(2, 0xFF01FF)]] pass (conflict (decide (t.state = .closed)) 0) [bad (decide (t.kind = 2)) 8]
      (unlessShadowed c fun s =>
        let m := (c.w 2).setWidth 8
        let a := if bit (c.w 2) 8 then BitVec.ofNat 8 (fld (c.w 2) 16 8) else t.atten
        let due := s.runPorts (s.zonePorts (if a = t.atten then t.zones ^^^ m else t.zones ||| m))
        stage c due res0 (setStream i (fun t => if due = 0 then { t with zones := m, atten := a } else { t with zonesSt := some (m, due, a) }) s))
      s) s

/-- The held zones that a mask names. -/
def State.heldZones (s : State) (zm : BitVec 8) : BitVec 8 :=
  (List.finRange 8).foldl (fun (d : BitVec 8) z => setBit d z.1 (bit zm z.1 && s.held z)) 0

/-- ZONE_MUTE (R351, R352): an UNMUTE meets a MUTE hold, a held zone it names, safe state (Table 19.2). -/
def execZoneMute (s : State) : Out :=
  hostRow 0x35 (fun c s =>
    let zm : BitVec 8 := (c.w 2).setWidth 8
    let mute := bit (c.w 2) 8
    let held := s.heldZones zm
    runCmd c [scopeD c, resv c [(2, 0x1FF)]]
      (!mute && (decide (held ≠ 0) || bit s.holds.kinds 0 || s.safe), 0x15, res1 (held.setWidth 32)) pass []
      (unlessShadowed c fun s =>
        let chg := (List.finRange 8).foldl (fun (d : BitVec 8) z => setBit d z.1 (bit zm z.1 && decide ((s.zone[z]).hmute ≠ mute))) 0
        let due := s.runPorts (s.zonePorts chg)
        stage c due res0 { s with zone := mapV s.zone (fun z x => if bit chg z.1 then { x with hmute := mute, muteDue := due } else x) }) s) s

/-! ### Front end (R353) -/

/-- Channels of a command: n bytes from word i on. -/
def cChans (c : Cmd) (i n : Nat) : List Byte := (List.range n).map fun k => descByte c.desc i k

/-- A channel byte with VALID 0 and another bit set. -/
def chansReserved (l : List Byte) : Bool := l.any fun b => !chanValid b && decide (b ≠ 0)

/-- A channel named twice (Table 7.3). -/
def chansTwice (l : List Byte) : Bool := decide ((validChans l).eraseDups.length < (validChans l).length)

/-- Why a channel may not lie on its port (05_audio_sync.md R104, Table 5.3; 07_front_end.md Table 7.3): the wrong direction, then
SYNC_MODE 1, a port that does not run, a rate or class that is not 48 kHz, a port not yet qualified. -/
def State.portReason (s : State) (out : Bool) (b : Byte) : Option Nat :=
  let x := s.sap[chanPort b]
  if x.out != out then some 0x36
  else if x.inSync && !x.stopping then none
  else if x.forced then some 0x31
  else if x.state ≠ .running then some 0x34
  else if (if x.controller then x.rate = 48000 else x.cls = 9) then some 0x33 else some 0x32

/-- A reference slot whose last bit ends more than 8_000 ns after the FS active edge (07_front_end.md R138; 04_audio_ports.md R73); a port that
may carry a reference runs at 48 kHz. -/
def State.refLate (s : State) (b : Byte) : Option Nat :=
  let x := s.sap[chanPort b]
  let delay := if fld x.cfg 0 2 = 0 then 1 else fld x.cfg 14 1
  if 8000 * (48000 * x.frameBits) < (delay + ((chanSlot b).1 + 1) * x.swidth) * 10 ^ 9 then some 0x35 else none

/-- The first reason that a list of channels gives. -/
def reasonOf (f : Byte → Option Nat) (l : List Byte) : Check :=
  match (validChans l).findSome? f with
  | some r => bad true r
  | none => pass

/-- Lanes that a section counts for a configuration: those in service, all 16 while the cores stand in for it. -/
def State.planLanes (s : State) (i : Fin 4) : Nat := if s.inService i then s.lanes i else 16

/-- FE_CONFIG (R353; 07_front_end.md R138, R139): it commits at the next hop boundary. -/
def execFeConfig (s : State) : Out :=
  hostRow 0x40 (fun c s =>
    let mics := cChans c 3 16
    let n := (validChans mics).length
    runCmd c [scopeD c, resv c [(2, 0xF), (3, -1), (4, -1), (5, -1), (6, -1)], bad (chansReserved mics) 2,
        bad (decide (10 < fld (c.w 2) 0 4)) 3, bad (decide (n < 2) || decide (s.planLanes 1 < n)) 0x37, bad (chansTwice mics) 0x36] pass pass
      [reasonOf (s.portReason false) mics]
      (fun s => waitCommit c .hop res0 { s with fe := { s.fe with
        cfgSt := some ((c.w 2).setWidth 4, Vector.ofFn fun k => descByte c.desc 3 k.1) } }) s) s

/-- RNC_ENABLE (R353; 07_front_end.md R138, R139, R144): it commits at the next cabin frame. -/
def execRncEnable (s : State) : Out :=
  hostRow 0x41 (fun c s =>
    let refs := cChans c 3 8
    let antis := cChans c 5 8
    let errs := cChans c 7 8
    let all := refs ++ antis ++ errs
    let n := fun (l : List Byte) => (validChans l).length
    runCmd c [scopeD c, resv c ((2, 0x1F0F) :: (List.range 6).map fun k => (3 + k, -1)), bad (chansReserved all) 2,
        bad (decide (8 < fld (c.w 2) 0 4)) 3,
        bad (decide (n refs = 0) || decide (n antis = 0) || decide (n errs = 0)
          || decide (s.planLanes 0 < fld (c.w 2) 8 5 + max (n refs) (n antis))) 0x37,
        bad (chansTwice all) 0x36]
      (refuse (bit s.holds.kinds 3 || s.safe) 0x15) pass
      [reasonOf (fun b => (s.portReason false b).or (s.refLate b)) refs, reasonOf (s.portReason true) antis, reasonOf (s.portReason false) errs]
      (fun s => waitCommit c .cabin res0 { s with fe := { s.fe with rncSt := some c.desc } }) s) s

/-- RNC_DISABLE (R353; 07_front_end.md R144). -/
def execRncDisable (s : State) : Out :=
  hostRow 0x42 (fun c s => runCmd c [scopeD c, resv c []] pass pass [] (fun s => replyOk c (rncOff s)) s) s

/-- A SEAT_MAP laid over one that is staged: the seats of its mask are its own. -/
def mergeSeats (new : Vector Word 16) (old : Option (Vector Word 16)) : Vector Word 16 :=
  match old with
  | none => new
  | some d =>
    let own := fun (q : Fin 4) => bit new[2] q.1
    let nib := fun (q : Fin 4) => fld (if own q then new[4] else d[4]) (4 * q.1) 4 * 16 ^ q.1
    let lang := fun (q : Fin 4) (x y : Word) => if own q then x else y
    let v := upd (upd new 2 (new[2] ||| d[2])) 4 (wd (nib 0 + nib 1 + nib 2 + nib 3))
    upd (upd (upd (upd v 5 (lang 0 new[5] d[5])) 6 (lang 1 new[6] d[6])) 7 (lang 2 new[7] d[7])) 8 (lang 3 new[8] d[8])

/-- SEAT_MAP (R353): it commits at the next hop boundary. -/
def execSeatMap (s : State) : Out :=
  hostRow 0x43 (fun c s =>
    runCmd c [scopeN s c, resv c [(2, 0xF), (4, 0xFFFF), (5, -1), (6, -1), (7, -1), (8, -1)]] pass pass []
      (fun s => waitCommit c .hop res0 { s with fe := { s.fe with seatSt := some (mergeSeats c.desc s.fe.seatSt) } }) s) s

end Sys2Proof.Machine
end

