-- ==== Sys2Proof/Machine/Regs.lean ====
section
/-! DEFINITION. The register file as its sources see it (27_registers.md; 17_host_link.md R306..R308, Tables 17.8, 17.9; 20_streams.md
Table 20.7; 25_observation.md Table 25.4; 15_recurrence.md Table 15.1): full reads with their clears and latches, full writes by
access code. -/

namespace Sys2Proof.Machine

/-! ### Blocks that no other file reads -/

/-- GEN_HOLDS (Table 20.7): the holds of the supervisor, of the host and of the clocks; the holds that ZMUTE pins place show in the zones'
own registers and not here (DESIGN CHOICE, log entry 18). -/
def holdWord (s : State) : Word :=
  wd (s.holds.kinds.toNat + s.holds.zones.toNat * 2 ^ 8 + s.holds.seats.toNat * 2 ^ 16 + b2n s.holds.hostSafe * 2 ^ 20 + b2n s.holds.clockSafe * 2 ^ 21)

/-- A read of a session, hold, stream or pack register (20_streams.md Table 20.7). -/
def readSess (o : Nat) (s : State) : Option Word :=
  match o with
  | 0x100 => some (wd (b2n s.sess.open_ + s.sess.id.toNat * 2 ^ 8))
  | 0x104 => some (holdWord s)
  | _ =>
    match slot o 0x140 4 16, slot o 0x180 4 24 with
    | some (i, 0), _ =>
      let t := s.stream[i]
      some (wd (t.state.code + t.kind.toNat * 2 ^ 3 + t.pack.1 * 2 ^ 5 + t.graph.1 * 2 ^ 10))
    | _, some (h, 0) => some (match s.pack[h] with | some p => wd (1 + p.id.toNat * 2 ^ 16) | none => 0)
    | _, _ => none

/-- A read of a recurrence register (15_recurrence.md Table 15.1). -/
def readRec (o : Nat) (s : State) : Option Word :=
  match o with
  | 0x902C0 => some s.tiers.parks
  | 0x902C4 => some s.tiers.restores
  | 0x902C8 => some s.tiers.restoreMax
  | _ =>
    match slot o 0x90280 4 16 with
    | some (i, 0) =>
      let t := s.stream[i]
      some (wd (t.pitch.toNat + b2n (bit t.slotWord 0) * 2 ^ 9 + b2n t.parked * 2 ^ 10 + b2n t.moving.isSome * 2 ^ 11 + t.idle100.toNat * 2 ^ 16))
    | _ => none

/-- The RC clears of the recurrence counts. -/
def readRecEffect (o : Nat) (s : State) : State :=
  match o with
  | 0x902C0 => setTiers (fun x => { x with parks := 0 }) s
  | 0x902C4 => setTiers (fun x => { x with restores := 0 }) s
  | 0x902C8 => setTiers (fun x => { x with restoreMax := 0 }) s
  | _ => s

/-- HIF_LINK. -/
def hifLink (h : Hif) : Word :=
  wd (h.speed.toNat + h.width.toNat * 2 ^ 3 + b2n h.l1 * 2 ^ 6 + b2n h.l11 * 2 ^ 7 + b2n h.bme * 2 ^ 8 + b2n h.mse * 2 ^ 9 + b2n h.d3 * 2 ^ 10
      + b2n h.msixEn * 2 ^ 11)

/-- HIF_SPV_STAT. -/
def spvStat (h : Hif) : Word := wd (b2n h.busy + b2n h.done * 2 + h.op.toNat * 2 ^ 8 + h.stat.toNat * 2 ^ 16)

/-- A read of a HIF register (17_host_link.md Table 17.8). -/
def readHif (o : Nat) (s : State) : Option Word :=
  let h := s.hif
  match o with
  | 0x11000 => some (hifLink h)
  | 0x11004 => some (h.err.setWidth 32)
  | 0x11008 => some (h.errAddr.setWidth 32)
  | 0x11010 => some (wd (h.cnt[0].toNat + h.cnt[1].toNat * 2 ^ 8 + h.cnt[2].toNat * 2 ^ 16 + h.cnt[3].toNat * 2 ^ 24))
  | 0x11014 => some (wd (h.cnt2[0].toNat + h.cnt2[1].toNat * 2 ^ 8))
  | 0x11040 => some (spvStat h)
  | 0x11044 => some (h.alert.setWidth 32)
  | 0x11048 => some (h.alertEn.setWidth 32)
  | _ =>
    match slot o 0x11020 4 4, slot o 0x11030 4 4 with
    | some (i, 0), _ => some h.arg[i]
    | _, some (i, 0) => some h.res[i]
    | _, _ => none

/-- A write of a HIF register: HIF_SPV_ARG, which EXEC in progress locks, and HIF_SPV_ALERT_EN take the supervisor's writes only. -/
def writeHif (src : Src) (o : Nat) (v : Word) (s : State) : State :=
  match o with
  | 0x11004 => setHif (fun h => { h with err := h.err &&& ~~~(v.setWidth 7) }) s
  | 0x11044 => setHif (fun h => { h with alert := h.alert &&& ~~~(v.setWidth 5) }) s
  | 0x11048 => if src = .spv then setHif (fun h => { h with alertEn := v.setWidth 5 }) s else s
  | _ =>
    match slot o 0x11020 4 4 with
    | some (i, 0) => if src = .spv && !s.hif.busy then setHif (fun h => { h with arg := upd h.arg i v }) s else s
    | _ => s

/-- The RC clears of the supervisor port's counts. -/
def readHifEffect (o : Nat) (s : State) : State :=
  match o with
  | 0x11010 => setHif (fun h => { h with cnt := Vector.replicate 4 0 }) s
  | 0x11014 => setHif (fun h => { h with cnt2 := Vector.replicate 2 0 }) s
  | _ => s

/-- IRQ_PEND: bit v while vector v is asserted (R305). -/
def irqPend (s : State) : Nat := ((List.range 24).map fun v => b2n (asserted s v) * 2 ^ v).sum

/-- IRQ_TEST (Table 17.9): one message of vector 0..23. -/
def irqTest (v : Word) (s : State) : State :=
  if fld v 0 6 < 24 then setHif (fun h => sendVec s.sterdo (fld v 0 6) h) s else s

/-- Pending messages sent where they are allowed now (R305). -/
def sendPending (s : State) : State :=
  setHif (fun h => (List.range 64).foldl (fun h v =>
    if bit h.pba v && canSend h v then { h with pba := setBit h.pba v false, sent := message h v :: h.sent } else h) h) s

/-- A read of the MSI-X table, the pending bit array or an IRQ register (R304, Table 17.9). -/
def readIrq (o : Nat) (s : State) : Option Word :=
  match o with
  | 0x20800 => some (lo s.hif.pba)
  | 0x20804 => some (hi s.hif.pba)
  | 0x21000 => some (wd (irqPend s))
  | 0x21004 => some 0
  | 0x21008 => some 0
  | _ =>
    match slot o 0x20000 16 64 with
    | some (v, 0) => some (lo (s.hif.table[v]).addr)
    | some (v, 4) => some (hi (s.hif.table[v]).addr)
    | some (v, 8) => some (s.hif.table[v]).data
    | some (v, 12) => some (wd (b2n (s.hif.table[v]).masked))
    | _ => none

/-- A write of the MSI-X table or IRQ_TEST: bits 1..0 of a message address are zero (PCIe base specification, log entry 6). -/
def writeIrq (o : Nat) (v : Word) (s : State) : State :=
  match o with
  | 0x21008 => irqTest v s
  | _ =>
    let e := fun (k : Fin 64) (f : Msix → Msix) => sendPending (setHif (fun h => { h with table := modAt h.table k f }) s)
    match slot o 0x20000 16 64 with
    | some (k, 0) => e k fun x => { x with addr := hi x.addr ++ (v &&& 0xFFFFFFFC) }
    | some (k, 4) => e k fun x => { x with addr := v ++ lo x.addr }
    | some (k, 8) => e k fun x => { x with data := v }
    | some (k, 12) => e k fun x => { x with masked := bit v 0 }
    | _ => s

/-- The newest event record's words; zero before the first (R432). -/
def newestWords (s : State) : Vector Word 8 := match s.dbg.newest with | some e => e.words | none => Vector.replicate 8 0

/-- A read of a DBG register (25_observation.md Table 25.4); words 1..7 of the peek are those the source latched. -/
def readDbg (src : Src) (o : Nat) (s : State) : Option Word :=
  match o with
  | 0xD0000 => some (wd s.dbg.log.length)
  | 0xD0004 => some s.dbg.seq
  | 0xD0008 => some s.dbg.lost
  | 0xD0040 => some (wd (b2n s.dbg.trEn + s.dbg.trDiv.toNat * 2 + b2n s.dbg.trEvents * 2 ^ 5 + b2n s.dbg.trCairns * 2 ^ 6))
  | 0xD0044 => some s.dbg.trDrop
  | 0xD0050 => some (wd (b2n s.dbg.session + s.dbg.accesses.toNat * 2 ^ 16))
  | _ =>
    match slot o 0xD0020 4 8 with
    | some (k, 0) => some (if k = 0 then (newestWords s)[k] else look s.hif.peek[Src.ix src] k.1 (newestWords s)[k])
    | _ => none

/-- A write of a DBG register. -/
def writeDbg (o : Nat) (v : Word) (s : State) : State :=
  if o = 0xD0040 then
    { s with dbg := { s.dbg with trEn := bit v 0, trDiv := BitVec.ofNat 4 (fld v 1 4), trEvents := bit v 5, trCairns := bit v 6 } }
  else s

/-- What a full read of a DBG register does: RC clears; PEEK_0 latches words 1..7 for the source, the others use their latch up (R432). -/
def readDbgEffect (src : Src) (o : Nat) (s : State) : State :=
  let peek := fun (f : List (Nat × Word) → List (Nat × Word)) => setHif (fun h => { h with peek := modAt h.peek (Src.ix src) f }) s
  match o with
  | 0xD0008 => { s with dbg := { s.dbg with lost := 0 } }
  | 0xD0044 => { s with dbg := { s.dbg with trDrop := 0 } }
  | 0xD0020 => peek fun _ => (List.range 7).map fun k => (k + 1, (newestWords s).toList.getD (k + 1) 0)
  | _ =>
    match slot o 0xD0020 4 8 with
    | some (k, 0) => peek fun l => l.filter fun x => decide (x.1 ≠ k.1)
    | _ => s

/-! ### Selectors and windows (27_registers.md R454) -/

/-- FAB_SEL written: the initiator's statistics are taken as they stand; numbers from 300 on name none. -/
def writeFabSel (v : Word) (s : State) : State :=
  let k := fld v 0 9
  setFab (fun x => { x with sel := v.setWidth 9, window := if h : k < 300 then some (x.ni[k]'h) else none }) s

/-- TIER_MAP_SEL written: the tile's entry is taken as it stands. -/
def writeMapSel (v : Word) (s : State) : State :=
  setTiers (fun x => { x with mapSel := v.setWidth 28, mapWin := (s.entry (fld v 0 28)).word }) s

/-- TIER_BAR2 written (12_tiers.md R249). -/
def writeBar2Base (v : Word) (s : State) : State := setTiers (fun x => { x with bar2 := v.setWidth 8 }) s

/-! ### Atomic pairs (R307, R453) -/

/-- The offset of a pair's LO word. -/
def AtomicPair.off : AtomicPair → Nat
  | .tmpNow => 0x40000
  | .rtc => 0x40100
  | .sapTs p => 0x50020 + 0x1000 * p.1
  | .asrc p => 0x50110 + 0x1000 * p.1
  | .lastCal n => 0x70128 + 0x100 * n.1
  | .fabBytes => 0x80440
  | .fabPkts => 0x80448
  | .tierMap => 0x900C8
  | .irqPend => 0x21000
  | .grdRings => 0x30050
  | .hltLast => 0xC0028
  | .ledgEntry => 0xC0110

/-- The read pairs. -/
def atomicPairs : List AtomicPair :=
  [.tmpNow, .rtc] ++ (List.finRange 8).map AtomicPair.sapTs ++ (List.finRange 8).map AtomicPair.asrc ++ (List.finRange 4).map AtomicPair.lastCal
    ++ [.fabBytes, .fabPkts, .tierMap, .irqPend, .grdRings, .hltLast, .ledgEntry]

/-- The pair whose LO word (false) or HI word (true) stands at an offset. -/
def pairAt (o : Nat) : Option (AtomicPair × Bool) :=
  (atomicPairs.find? fun p => decide (AtomicPair.off p = o) || decide (AtomicPair.off p + 4 = o)).map fun p => (p, decide (AtomicPair.off p ≠ o))

/-! ### Reads and writes -/

/-- An offset of the firmware load mailbox (27_registers.md R455). -/
def inMailbox (o : Nat) : Bool := decide (0x100000 ≤ o) && decide (o < 0x140000)

/-- The value that a register shows, latches apart; none where no register stands (Table 27.2). -/
def readNow (src : Src) (o : Nat) (s : State) : Option Word :=
  if o % 4 ≠ 0 then none
  else if inMailbox o then some (wordOf (s.boot.mailbox.readN (o - 0x100000) 4))
  else match o / 0x10000 with
  | 0x0 => if o < 0x100 then readGen o s else readSess o s
  | 0x1 => if 0x11000 ≤ o && o < 0x12000 then readHif o s else readPages o s
  | 0x2 => readIrq o s
  | 0x3 => readGrd o s
  | 0x4 => readTmp src o s
  | 0x5 => readSap o s
  | 0x6 => readFe o s
  | 0x7 => readPma o s
  | 0x8 => readFab o s
  | 0x9 => if o < 0x90200 then readTier o s else if o < 0x90280 then readKv o s else readRec o s
  | 0xA => readGrid o s
  | 0xB => readPwr o s
  | 0xC => readHlt o s
  | 0xD => readDbg src o s
  | _ => none

/-- What a full read clears (R7, R8). -/
def readEffect (src : Src) (o : Nat) (s : State) : State :=
  match o / 0x10000 with
  | 0x1 => if 0x11000 ≤ o && o < 0x12000 then readHifEffect o s else readPagesEffect o s
  | 0x4 => readTmpEffect o s
  | 0x5 => readSapEffect o s
  | 0x6 => readFeEffect o s
  | 0x7 => readPmaEffect o s
  | 0x8 => readFabEffect o s
  | 0x9 => if o < 0x90200 then readTierEffect o s else if o < 0x90280 then readKvEffect o s else readRecEffect o s
  | 0xB => readPwrEffect o s
  | 0xC => readHltEffect o s
  | 0xD => readDbgEffect src o s
  | _ => s

/-- A full read by a source (R306..R308, R60): its data and the state after it. An offset with no register reads zero. -/
def fullRead (src : Src) (o : Nat) (s : State) : Word × State :=
  match readNow src o s with
  | none => (0, s)
  | some w =>
    match pairAt o with
    | some (p, false) => (w, readEffect src o (latch src p ((readNow src (o + 4) s).getD 0) s))
    | some (p, true) => ((s.latched src p).getD w, readEffect src o (unlatch src p s))
    | none => (w, readEffect src o s)

/-- A full write by a source, by the access codes of the register (R7, R306, R308); an offset with no register ignores it. -/
def fullWrite (src : Src) (o : Nat) (v : Word) (s : State) : State :=
  if o % 4 ≠ 0 then s
  else if inMailbox o then setBoot (fun b => { b with mailbox := b.mailbox.writeN (o - 0x100000) (bytesOf v) }) s
  else match o / 0x10000 with
  | 0x0 => if o < 0x100 then writeGen src o v s else s
  | 0x1 => if 0x11000 ≤ o && o < 0x12000 then writeHif src o v s else writePages o v s
  | 0x2 => writeIrq o v s
  | 0x3 => writeGrd src o v s
  | 0x4 => writeTmp src o v s
  | 0x5 => writeSap o v s
  | 0x7 => writePma o v s
  | 0x8 => if o = 0x80400 then writeFabSel v s else writeFab o v s
  | 0x9 => if o = 0x90000 then writeBar2Base v s else if o = 0x900C0 then writeMapSel v s else s
  | 0xB => writePwr o v s
  | 0xC => writeHlt o v s
  | 0xD => writeDbg o v s
  | _ => s

/-- The source reaches the offset (R313, R452). -/
def reaches (src : Src) (o : Nat) : Bool := decide (src ≠ .spv) || (decide (o % 4 = 0) && spvReach o)

/-! ### Rows -/

/-- REGISTER_WRITE (R7, R308). -/
def execRegisterWrite (src : Src) (off : BitVec 24) (v : Word) (s : State) : Out :=
  act s (s.mayWrite src && reaches src off.toNat) (fullWrite src off.toNat v s)

/-- RC_READ (R8): a full read; its data goes back to the source. -/
def execRcRead (src : Src) (off : BitVec 24) (s : State) : Out :=
  act s (s.canAccess src && reaches src off.toNat)
    (let (w, s) := fullRead src off.toNat s
     returned src w s)

/-- ATOMIC_PAIR_LO_READ (R307). -/
def execAtomicPairLoRead (src : Src) (p : AtomicPair) (s : State) : Out :=
  act s (s.canAccess src && reaches src (AtomicPair.off p))
    (let (w, s) := fullRead src (AtomicPair.off p) s
     returned src w s)

/-- DBG_EVT_PEEK_READ (25_observation.md R432). -/
def execDbgEvtPeekRead (src : Src) (s : State) : Out :=
  act s (s.canAccess src)
    (let (w, s) := fullRead src 0xD0020 s
     returned src w s)

/-- IRQ_TEST (Table 17.9). -/
def execIrqTest (v : Word) (s : State) : Out := act s (s.canAccess .host) (irqTest v s)

/-- An offset of the MSI-X table or its pending bit array, which Table 17.4 does not govern. -/
def inMsix (o : Nat) : Bool := decide (0x20000 ≤ o) && (decide (o < 0x20400) || (decide (0x20800 ≤ o) && decide (o < 0x20808)))

/-- BAR0_PARTIAL_WRITE (R306): bytes within one register are discarded and reported; in the mailbox they are written. -/
def execBar0PartialWrite (src : Src) (off : BitVec 24) (bytes : List Byte) (s : State) : Out :=
  let o := off.toNat
  act s (s.canAccess .host && decide (src = .host) && decide (0 < bytes.length) && decide (bytes.length < 4) && decide (o % 4 + bytes.length ≤ 4))
    (if inMailbox o then setBoot (fun b => { b with mailbox := b.mailbox.writeN (o - 0x100000) bytes }) s
     else if inMsix o then s
     else if (readNow src (o / 4 * 4) s).isNone then s
     else logEvent 0x05 1 (wd (o + Src.code src * 2 ^ 24)) 0 (hifErr 0 (noteAddr o src false s)))

/-- BAR0_BIG_READ (R306): more than 64 B. -/
def execBar0BigRead (off : BitVec 24) (len : Nat) (s : State) : Out :=
  act s (s.canAccess .host && decide (64 < len) && !inMsix off.toNat) (setHif (fun h => { h with ur := true, rdata := [] }) (hifErr 2 s))

/-- FAB_SEL_WRITE (R454). -/
def execFabSelWrite (src : Src) (v : Word) (s : State) : Out := act s (s.mayWrite src && decide (src ≠ .spv)) (writeFabSel v s)
/-- TIER_MAP_SEL_WRITE (R454). -/
def execTierMapSelWrite (src : Src) (v : Word) (s : State) : Out := act s (s.mayWrite src && decide (src ≠ .spv)) (writeMapSel v s)
/-- LEDG_SEL_WRITE (R454). -/
def execLedgSelWrite (src : Src) (v : Word) (s : State) : Out := act s (s.mayWrite src && decide (src ≠ .spv)) (writeLedgSel v s)
/-- TIER_BAR2_WRITE (12_tiers.md R249). -/
def execTierBar2Write (src : Src) (v : Word) (s : State) : Out := act s (s.mayWrite src && decide (src ≠ .spv)) (writeBar2Base v s)

end Sys2Proof.Machine
end

