-- ==== Sys2Proof/Machine/HostLink.lean ====
section
/-! DEFINITION. The host link (17_host_link.md R296..R305) and BAR2 (R303; 12_tiers.md R232, R248, R249; 21_guard.md R381). -/

namespace Sys2Proof.Machine

/-! ### Link and function state -/

/-- The identity words of the Type 0 configuration header, by byte offset (R296), all read-only: vendor and device, class code over the
revision of the first stepping, subsystem; none for a word that the base specification fills. No command reads them (log entry 34). -/
def State.cfgIdentity (s : State) : Nat → Option Word
  | 0x00 => some 0x04801C7E
  | 0x08 => some 0x12000001
  | 0x2C => some (wd ((0x0A00 + s.otp.grade.1) * 2 ^ 16 + 0x1C7E))
  | _ => none

/-- PCIE_LINK_UP (R296): Gen1..Gen4 on 1, 2 or 4 lanes. The host's Memory Space Enable and its ASPM L1 enable have no row of their
own: they come with the link (log entry 34). -/
def execPcieLinkUp (speed width : BitVec 3) (s : State) : Out :=
  act s (s.boot.cfgReady && s.gen.perstN && !s.gen.testen && decide (s.hif.speed = 0)
      && decide (1 ≤ speed.toNat) && decide (speed.toNat ≤ 4) && (decide (width = 1) || decide (width = 2) || decide (width = 4)))
    (setHif (fun h => { h with speed := speed, width := width, mse := true, aspm := true }) s)

/-- Held upstream traffic proceeds (R298, R305; 19_commands.md R346): writes in order, pending messages, pages, and the commands that
waited to write host memory, which the conductor takes up again before the others. -/
def releaseUp (s : State) : State :=
  if !s.hif.upstream then s
  else
    let ups := s.hif.upq
    let s := ups.foldl (fun s u => upWrite u.addr u.words s) (setHif (fun h => { h with upq := [] }) s)
    let held := fun (w : Waiting) => decide (w.on = .busMaster)
    let s := setHif (fun h => { h with ready := (h.waits.filter held).map (·.cmd) ++ h.ready, waits := h.waits.filter fun w => !held w }) s
    holdScans (pushPages (sendPending s))

/-- BUS_MASTER_DISABLE (R298). -/
def execBusMasterDisable (s : State) : Out :=
  act s (decide (s.hif.speed ≠ 0) && s.hif.bme) (holdScans (setHif (fun h => { h with bme := false }) s))

/-- BUS_MASTER_ENABLE (R298). -/
def execBusMasterEnable (s : State) : Out :=
  act s (decide (s.hif.speed ≠ 0) && !s.hif.bme) (releaseUp (setHif (fun h => { h with bme := true }) s))

/-- D3HOT_ENTRY (R298). -/
def execD3hotEntry (s : State) : Out :=
  act s (decide (s.hif.speed ≠ 0) && !s.hif.d3) (holdScans (setHif (fun h => { h with d3 := true }) s))

/-- D0_RETURN (R298): all device state is kept. -/
def execD0Return (s : State) : Out :=
  act s (decide (s.hif.speed ≠ 0) && s.hif.d3) (releaseUp (setHif (fun h => { h with d3 := false }) s))

/-- L1_ENTRY (R300): the host-link belay begins (11_fabric_service.md Table 11.3); l11 asks for L1.1. -/
def execL1Entry (l11 : Bool) (s : State) : Out :=
  act s ((s.belayOf .hostLink).isNone && s.sterdo && s.mayBelay .hostLink l11) (belayRequest .hostLink l11 s)

/-- L1_EXIT (R300). -/
def execL1Exit (s : State) : Out := act s s.hif.l1 (holdScans (wakeDomain .hostLink s.hif.l11 s))

/-- MSIX_UNMASK (R305): by the vector's mask, MSI-X Enable or Function Mask; one message for each pending bit that may go now. -/
def execMsixUnmask (how : Unmask) (s : State) : Out :=
  act s (decide (s.hif.speed ≠ 0) && s.boot.cfgReady)
    (sendPending (setHif (fun h => match how with
      | .vector v => { h with table := modAt h.table v fun x => { x with masked := false } }
      | .enable => { h with msixEn := true }
      | .function => { h with fmask := false }) s))

/-! ### BAR2 -/

/-- The parts of a byte range that lie in one tile each: tile, offset in it, bytes. -/
def tileParts : Nat → Nat → Nat → List (Nat × Nat × Nat)
  | 0, _, _ => []
  | fuel + 1, a, n =>
    if n = 0 then []
    else
      let k := min n (4096 - a % 4096)
      (a / 4096, a % 4096, k) :: tileParts fuel (a + k) (n - k)

/-- A U-space access that the PCIe bridge sends for the host or the debug access port, where the window rules allow it (21_guard.md R381);
else an event, and refused follows. -/
def bridgeU (t : Nat) (write : Bool) (own : Owner) (p : Packet) (refused : State → State) (s : State) : State :=
  if (s.objOf t).any fun o => s.hostMay o write then issueU (svcNi 2) own p s else refused (hostRefused t s)

/-- A read packet of the PCIe bridge for a tile. -/
def bridgeRd (cls : BitVec 2) (t : Nat) : Packet := { blank with cmd := 0x06, cls := cls, addr := BitVec.ofNat 40 (4096 * t) }

/-- A write packet of the PCIe bridge: bytes within a tile, their count in OPB (log entry 26). -/
def bridgeWr (cls : BitVec 2) (t off : Nat) (b : List Byte) : Packet :=
  { blank with cmd := 0x07, cls := cls, addr := BitVec.ofNat 40 (4096 * t + off), opb := wd b.length
               len := BitVec.ofNat 5 ((b.length + 31) / 32), body := bodyOf b }

/-- The number of a BAR2 or debug access taken. -/
def nextBar2 (s : State) : State := { s with hif := { s.hif with bar2Ctr := s.hif.bar2Ctr + 1 } }

/-- The host's read of U-space bytes begins: a request for each tile; bytes that the host may not read stay zero. A read of which nothing
is to be fetched completes at once. -/
def hostRead (tag : BitVec 10) (off a n : Nat) (s : State) : State :=
  let id := s.hif.bar2Ctr
  let parts := tileParts (n / 4096 + 2) a n
  let s := nextBar2 { s with hif := { s.hif with
    reads := { id := id, tag := tag, off := off, bytes := List.replicate n 0, left := parts.length } :: s.hif.reads } }
  parts.foldl (fun s x =>
    let at_ := 4096 * x.1 + x.2.1 - a
    bridgeU x.1 false (.hostRead id at_ x.2.1 x.2.2) (bridgeRd 1 x.1) (hostPart id at_ []) s) s

/-- The host's write of U-space bytes: a request for each tile. -/
def hostWrite (a : Nat) (b : List Byte) (s : State) : State :=
  let id := s.hif.bar2Ctr
  ((tileParts (b.length / 4096 + 2) a b.length).foldl (fun (acc : List Byte × State) x =>
    (acc.1.drop x.2.2, bridgeU x.1 true (.hostWrite id) (bridgeWr 1 x.1 x.2.1 (acc.1.take x.2.2)) (fun s => s) acc.2)) (b, nextBar2 s)).2

/-- The U-space address of a BAR2 offset (R249). -/
def State.bar2Addr (s : State) (off : Nat) : Nat := s.tiers.bar2.toNat * 2 ^ 32 + off

/-- BAR2_READ (R303): up to 4096 B within the aperture, sent to the owners of its tiles; it completes with the last of them. -/
def execBar2Read (off len : Nat) (tag : BitVec 10) (s : State) : Out :=
  act s (s.canAccess .host && decide (0 < len) && decide (len ≤ 4096) && decide (off + len ≤ 2 ^ 32))
    (hostRead tag off (s.bar2Addr off) len s)

/-- BAR2_WRITE (R303, R249): up to 512 B within the aperture, byte by byte. -/
def execBar2Write (off : Nat) (bytes : List Byte) (s : State) : Out :=
  act s (s.canAccess .host && decide (0 < bytes.length) && decide (bytes.length ≤ 512) && decide (off + bytes.length ≤ 2 ^ 32))
    (hostWrite (s.bar2Addr off) bytes s)

end Sys2Proof.Machine
end

