-- ==== Sys2Proof/Machine/Spi.lean ====
section
/-! DEFINITION. The supervisor port: frames, responses and the EXEC channel (17_host_link.md R309..R316). -/

namespace Sys2Proof.Machine

/-! ### Responses (R310, R311) -/

/-- The bytes 0..7 of a frame: status or command, offset, data, high byte first. -/
def frameBytes (st off : Nat) (data : Word) : List Byte :=
  [BitVec.ofNat 8 st, BitVec.ofNat 8 (off / 65536), BitVec.ofNat 8 (off / 256), BitVec.ofNat 8 off] ++ (bytesOf data).reverse

/-- A response with its CRC; byte 0 lies in the high bits. -/
def response (st off : Nat) (data : Word) : BitVec 72 :=
  let b := frameBytes st off data
  BitVec.ofNat 72 (beNat (b ++ [crc8 b]))

/-- The response to this frame, which the next one carries; only a READ or WRITE carries data (log entry 36). -/
def respond9 (st off : Nat) (data : Word) (s : State) : State := setHif (fun h => { h with resp := response st off data }) s

/-- A saturating count of HIF_SPV_CNT: 0 BAD_CRC, 1 BAD_LENGTH, 2 EARLY, 3 DENIED. -/
def spvCount (k : Fin 4) (s : State) : State := setHif (fun h => { h with cnt := modAt h.cnt k (satAdd · 1) }) s
/-- A saturating count of HIF_SPV_CNT_2: 0 BAD_CMD, 1 BUSY. -/
def spvCount2 (k : Fin 2) (s : State) : State := setHif (fun h => { h with cnt2 := modAt h.cnt2 k (satAdd · 1) }) s

/-! ### Frames (R309, R312, R313) -/

/-- SPI_NOP. -/
def execSpiNop (s : State) : Out := act s (s.canAccess .spv) (respond9 0 0 0 s)

/-- SPI_READ (R313). -/
def execSpiRead (off : BitVec 24) (s : State) : Out :=
  act s (s.canAccess .spv)
    (if reaches .spv off.toNat then
      let (w, s) := fullRead .spv off.toNat s
      respond9 0 off.toNat w s
    else respond9 5 off.toNat 0 (spvCount 3 s))

/-- SPI_WRITE (R313): a write of HIF_SPV_ARG during an EXEC is answered BUSY (R314). -/
def execSpiWrite (off : BitVec 24) (v : Word) (s : State) : Out :=
  let o := off.toNat
  act s (s.canAccess .spv)
    (if !reaches .spv o then respond9 5 o 0 (spvCount 3 s)
     else if s.hif.busy && span o 0x11020 0x1102C then respond9 6 o 0 (spvCount2 1 s)
     else respond9 0 o v (fullWrite .spv o v s))

/-- What is wrong with a frame (R312): its status, the first that applies. -/
def frameFault (f : SpiFrame) : Option Nat :=
  let b := f.bytes.toList
  let z := fun (l : List Byte) => l.all fun x => decide (x = 0)
  let cmd := f.bytes[0]
  if f.cycles ≠ 72 then some 2
  else if f.early then some 3
  else if crc8 (b.take 8) ≠ f.bytes[8] then some 1
  else if cmd = 0 then if z ((b.drop 1).take 7) then none else some 4
  else if cmd = 1 then if z ((b.drop 4).take 4) then none else some 4
  else if cmd = 2 then none
  else if cmd = 4 then if z ((b.drop 1).take 3) then none else some 4
  else some 4

/-- SPI_BAD_FRAME (R312): no effect but the count and the answer, with zero fields. -/
def execSpiBadFrame (f : SpiFrame) (s : State) : Out :=
  act s (s.canAccess .spv && (frameFault f).isSome)
    (match frameFault f with
      | some 1 => respond9 1 0 0 (spvCount 0 s)
      | some 2 => respond9 2 0 0 (spvCount 1 s)
      | some 3 => respond9 3 0 0 (spvCount 2 s)
      | some st => respond9 st 0 0 (spvCount2 0 s)
      | none => s)

/-! ### EXEC (R314) -/

/-- Results of an EXEC and its status. -/
abbrev ExecRes := Vector Word 4 × BitVec 8

/-- A status with no results. -/
def resNone (st : BitVec 8) : ExecRes := (Vector.replicate 4 0, st)
/-- A status with one result word. -/
def resOne (st : BitVec 8) (w : Word) : ExecRes := (#v[w, 0, 0, 0], st)

/-- An EXEC published (R314): results, status, BUSY clear, DONE, the alert. -/
def publish (r : ExecRes) (s : State) : State :=
  alert 0 (setHif (fun h => { h with res := r.1, stat := r.2, busy := false, done := true }) s)

/-- An EXEC as it comes (R314): BUSY while one is in progress, INTERNAL at once before Sterdo runs, else its effect, with the results
kept until it completes. -/
def spvExec (op : BitVec 8) (f : State → ExecRes × State) (s : State) : Out :=
  act s (s.canAccess .spv)
    (if s.hif.busy then respond9 6 0 0 (spvCount2 1 s)
     else
      let s := respond9 0 0 0 (setHif (fun h => { h with op := op, done := false }) s)
      if !s.sterdo then publish (resNone 0x3F) s
      else
        let (r, s) := f s
        setHif (fun h => { h with busy := true, exec_ := r }) s)

/-- HEALTH (R415). -/
def execHealth (s : State) : Out := spvExec 0x01 (fun s => ((s.summary, 0), s)) s

/-- The kind and the mask of HIF_SPV_ARG_0, and what is wrong with them: a kind above 5, a seat above 3, a mask where none belongs. -/
def holdArg (w : Word) : Nat × BitVec 8 × Option Word :=
  let k := fld w 0 3
  let m := BitVec.ofNat 8 (fld w 8 8)
  (k, m, if 5 < k then some 3 else if k = 2 && decide (15 < m.toNat) then some 3 else if k ≠ 1 && k ≠ 2 && m ≠ 0 then some 2 else none)

/-- HOLD_SET (R377; 21_guard.md R381 SPV_SET). -/
def execHoldSet (s : State) : Out :=
  spvExec 0x02 (fun s =>
    match holdArg s.hif.arg[0] with
    | (_, _, some r) => (resOne 0x11 r, s)
    | (k, m, none) =>
      if bit s.guard.policy (16 + k) then (resNone 0, placeHold k m s) else (resNone 0x16, logHold k m.toNat 3 s)) s

/-- HOLD_CLEAR (R377). -/
def execHoldClear (s : State) : Out :=
  spvExec 0x03 (fun s =>
    match holdArg s.hif.arg[0] with
    | (_, _, some r) => (resOne 0x11 r, s)
    | (k, m, none) => (resNone 0, clearHold k m s)) s

/-- SPV_GUARD_PROPOSE (21_guard.md R382): the staged image. -/
def execSpvGuardPropose (s : State) : Out :=
  spvExec 0x10 (fun s =>
    let t := BitVec.ofNat 8 (fld s.hif.arg[0] 0 8)
    let n := fld s.hif.arg[2] 0 16
    let image := (bytesOfWords s.guard.stage.toList).take n
    if tableSize t.toNat ≠ some n then (resOne 0x11 3, s)
    else match imageFault t.toNat image with
    | some r => (resOne 0x11 (wd r), s)
    | none =>
      let (p, s) := propose false t s.hif.arg[1] image s
      ((#v[p.id.setWidth 32, digestWord p.digest 0, digestWord p.digest 1, 0], 0), s)) s

/-- The supervisor acts on a proposal that is pending (20_streams.md R376, 21_guard.md R388). -/
def actOn (id : BitVec 8) (s : State) : State := if (s.pendingId id s.clk.tempo).isSome then spvAct id.toNat s else s

/-- SPV_GUARD_CONFIRM (21_guard.md R385). -/
def execSpvGuardConfirm (s : State) : Out :=
  spvExec 0x11 (fun s =>
    let id := BitVec.ofNat 8 (fld s.hif.arg[0] 0 8)
    let (st, s) := confirm false id s.hif.arg[1] s.hif.arg[2] s.clk.tempo (actOn id s)
    (resNone st, s)) s

/-- SPV_GUARD_VETO (21_guard.md R386). -/
def execSpvGuardVeto (s : State) : Out :=
  spvExec 0x12 (fun s =>
    let id := BitVec.ofNat 8 (fld s.hif.arg[0] 0 8)
    let (st, s) := veto id s.clk.tempo (actOn id s)
    (resNone st, s)) s

/-- What GUARD_QUERY tells of a table (19_commands.md Table 19.9). -/
def State.queryTable (s : State) (t : Fin 6) : Word × Word × Word × Word :=
  (s.guard.version[t], digestWord (s.tableDigest t) 0, digestWord (s.tableDigest t) 1, wd (s.pendIds.1 + s.pendIds.2 * 2 ^ 8))

/-- SPV_GUARD_QUERY (R314). -/
def execSpvGuardQuery (s : State) : Out :=
  spvExec 0x13 (fun s =>
    let t := fld s.hif.arg[0] 0 8
    if h : t < 6 then
      let r := s.queryTable ⟨t, h⟩
      ((#v[r.1, r.2.1, r.2.2.1, r.2.2.2], 0), s)
    else (resOne 0x11 3, s)) s

/-- LEDGER_READ (R314): entry 0..511 of the OTP ledger; zero when it holds none. -/
def execLedgerRead (s : State) : Out :=
  spvExec 0x20 (fun s =>
    let e := (s.ledgerAt (fld s.hif.arg[0] 0 9)).getD 0
    ((#v[lo e, hi e, 0, 0], 0), s)) s

/-- SPV_UNKNOWN_OP (R314). -/
def execSpvUnknownOp (op : BitVec 8) (s : State) : Out :=
  if [0x01, 0x02, 0x03, 0x10, 0x11, 0x12, 0x13, 0x20].contains op.toNat then .next s
  else spvExec op (fun s => (resNone 0x10, s)) s

/-- EXEC_DONE (R314): a confirmation completes after its table applied (21_guard.md R387); a proposal's window runs from here (R384). -/
def execExecDone (s : State) : Out :=
  let ok := decide (s.hif.exec_.2 = 0)
  let applying := decide (s.hif.op = 0x11) && ok && s.guard.confirmed.any fun p => p.2.2
  act s (s.hif.busy && s.sterdo && !applying)
    (let s := if s.hif.op = 0x10 && ok then setGuard (fun g => { g with spv := g.spv.map fun p => { p with ends := s.clk.tempo + p.window } }) s else s
     publish s.hif.exec_ s)

end Sys2Proof.Machine
end

