-- ==== Sys2Proof/Machine/CmdSystem.lean ====
section
/-! DEFINITION. Host commands: system (19_commands.md Table 19.3), output data (R354), guard (Table 19.9) and time (Table 19.10). -/

namespace Sys2Proof.Machine

/-! ### System -/

/-- NOP (R347). -/
def execNop (s : State) : Out := hostRow 0x00 (fun c s => runCmd c [scopeD c, resv c []] pass pass [] (replyOk c) s) s

/-- PING (R347): the words come back. -/
def execPing (s : State) : Out :=
  hostRow 0x01 (fun c s =>
    runCmd c [scopeD c, resv c [(2, -1), (3, -1), (4, -1), (5, -1)]] pass pass [] (reply c 0 (c.w 2, c.w 3, c.w 4, c.w 5)) s) s

/-- The graphs of the session: those that its open streams name. -/
def State.sessionGraphs (s : State) : List (Fin 8) := (List.finRange 8).filter fun g => !(s.streamsOf g).isEmpty

/-- The handle of the pack whose loader made a graph's image. -/
def State.graphPack (s : State) (g : Fin 8) : Option (Fin 24) :=
  if (s.grid.graph[g]).state = .empty then none else (s.objId (s.grid.graph[g]).image).bind (·.pack)

/-- The packs that the session's graphs use, by rising handle: those of their images and of the streams that they serve. -/
def State.usedPacks (s : State) : List Pack :=
  let hs := s.sessionGraphs.flatMap fun g =>
    (match s.graphPack g with | some h => [h.1] | none => []) ++ (s.streamsOf g).map fun i => (s.stream[i]).pack.1
  ((List.finRange 24).filter fun h => hs.contains h.1).filterMap fun h => s.pack[h]

/-- Page 0 of QUERY_INFO (Table 19.4). -/
def State.infoIdentity (s : State) : Res :=
  (wd (s.otp.grade.1 + Config.isaLevel.toNat * 2 ^ 8 + s.pwr.mode.toNat * 2 ^ 16),
   wd (s.grid.width % 512 + s.spares.length * 2 ^ 16), s.boot.sterdo, s.otp.serial)

/-- Page 1 of QUERY_INFO (Table 19.4; 16_unison.md Table 16.1). -/
def State.infoSettings (s : State) (index : Nat) : Res :=
  let p := s.usedPacks[index]?
  (wd (b2n s.grid.unison + s.grid.uwidth.toNat * 2 + s.numericsNow % 256 * 2 ^ 8 + fld s.boot.sterdo 16 16 * 2 ^ 16),
   wd (match p with | some p => p.id.toNat | none => 0), wd (match p with | some p => p.version.toNat | none => 0), wd s.usedPacks.length)

/-- QUERY_INFO (R347). -/
def execQueryInfo (s : State) : Out :=
  hostRow 0x02 (fun c s =>
    let page := fld (c.w 2) 0 4
    runCmd c [scopeD c, resv c [(2, 0xFF0F)], bad (decide (1 < page)) 3] pass pass []
      (reply c 0 (if page = 0 then s.infoIdentity else s.infoSettings (fld (c.w 2) 8 8))) s) s

/-- SET_MODE (R291, R417..R419). The unison fields are checked only where SET_UNISON asks for them. -/
def execSetMode (s : State) : Out :=
  hostRow 0x03 (fun c s =>
    let w := fld (c.w 2) 6 2
    let width := if w = 0 then 128 else if w = 1 then 192 else 256
    let set := bit (c.w 2) 4
    runCmd c [scopeD c, resv c [(2, 0xF3)], bad (set && (decide (w = 3) || decide (s.fused < width) || decide (s.grid.width < width))) 3]
      (refuse (decide (cMode c = 3) && s.safe) 0x15)
      (conflict (s.changesW c && s.anyRunning) 2) [] (beginSetMode c) s) s

/-- RESET_UNIT (R347): it replies once the unit has been reset. -/
def execResetUnit (s : State) : Out :=
  hostRow 0x04 (fun c s =>
    let u := fld (c.w 2) 0 4
    runCmd c [scopeD c, resv c [(2, 0xF)], bad (decide (u ≠ 1) && decide (u ≠ 2)) 3] pass pass []
      (fun s => if u = 1 then resetHub (waitOn c (.reset 1) 0 res0 s) else resetPma (waitOn c (.reset 2) 0 res0 s)) s) s

/-- SAFE_STATE (R347, R378): LEAVE meets a standing hold, the supervisor's or the device's (Table 19.2; 03_timing.md R58). -/
def execSafeState (s : State) : Out :=
  hostRow 0x05 (fun c s =>
    let enter := bit (c.w 2) 0
    runCmd c [scopeD c, resv c [(2, 1)]] (refuse (!enter && (bit s.holds.kinds 4 || s.holds.clockSafe || s.boot.lockstep)) 0x15)
      (conflict (!enter && !s.holds.hostSafe) 0) []
      (fun s => replyOk c (safeChange (setHolds fun h => { h with hostSafe := enter }) s)) s) s

/-! ### Output data (R354) -/

/-- The address slots of a PAGE_GRANT. -/
def grantSlots (c : Cmd) : List (BitVec 64) :=
  [c.w64 2 3, c.w64 4 5, c.w64 6 7, c.w64 8 9, c.w64 10 11, c.w64 12 13, c.w64 14 15]

/-- The pages of a PAGE_GRANT: an address of 0 ends the list. -/
def grantPages (c : Cmd) : List (BitVec 64) := (grantSlots c).takeWhile fun a => decide (a ≠ 0)

/-- PAGE_GRANT (R354, R331): all pages or none. -/
def execPageGrant (s : State) : Out :=
  hostRow 0x50 (fun c s =>
    let i := c.sid
    let ps := grantPages c
    runCmd c [scopeT s c false, bad (((grantSlots c).drop ps.length).any fun a => decide (a ≠ 0)) 2, bad ps.isEmpty 3,
        bad (ps.any fun a => decide (a.toNat % 4096 ≠ 0)) 4]
      pass (conflict (decide ((s.stream[i]).state = .closed)) 0)
      [refuse (decide (16 < (s.stream[i]).held + ps.length)) 0x13]
      (fun s =>
        let s := setStream i (fun t => { t with granted := t.granted ++ ps, held := t.held + ps.length }) s
        let n := (s.stream[i]).held
        reply c 0 (res1 (wd n)) (drainStream i s)) s) s

/-- PAGE_FLUSH (R354, R332 reason 3): one stream, or with 0xFF every stream of the session. -/
def execPageFlush (s : State) : Out :=
  hostRow 0x51 (fun c s =>
    let all := decide (c.stream = 255)
    let is := (List.finRange 16).filter fun i => (all || decide (i = c.sid)) && (s.stream[i]).page.any fun p => decide (16 < p.used)
    runCmd c [scopeT s c true, resv c []] pass (conflict (!all && decide ((s.stream[c.sid]).state = .closed)) 0) []
      (whenUpstream c (!is.isEmpty) fun s =>
        let s := is.foldl (fun s i => closePage i 3 s) s
        reply c 0 (res1 (wd (is.foldl (fun n i => n + 2 ^ i.1) 0))) s) s) s

/-! ### Guard (R355) -/

/-- GUARD_PROPOSE (21_guard.md R382): the image is copied from the object. -/
def execGuardPropose (s : State) : Out :=
  hostRow 0x60 (fun c s =>
    let t := BitVec.ofNat 8 (fld (c.w 2) 0 8)
    let n := fld (c.w 5) 0 16
    let image := (s.hostObj (fld (c.w 4) 0 16)).bind fun o => s.objBytes o 0 n
    let fault := match image with | some b => imageFault t.toNat b | none => none
    runCmd c [scopeD c, resv c [(2, 0xFF), (3, -1), (4, 0xFFFF), (5, 0xFFFF)], bad (decide (tableSize t.toNat ≠ some n)) 3,
        bad image.isNone 5, bad fault.isSome (fault.getD 0)] pass pass []
      (fun s =>
        let (p, s) := propose true t (c.w 3) (image.getD []) s
        reply c 0 (p.id.setWidth 32, digestWord p.digest 0, digestWord p.digest 1, 0) s) s) s

/-- GUARD_CONFIRM (21_guard.md R385): judged at its intake; the reply to OK follows the table's application (R387). -/
def execGuardConfirm (s : State) : Out :=
  hostRow 0x61 (fun c s =>
    runCmd c [scopeD c, resv c [(2, 0xFF), (3, -1), (4, -1)]] pass pass []
      (fun s =>
        let (st, s) := confirm true (BitVec.ofNat 8 (fld (c.w 2) 0 8)) (c.w 3) (c.w 4) c.at_ s
        if st = 0 then waitOn c .guard 0 res0 s else reply c st res0 s) s) s

/-- GUARD_VETO (21_guard.md R386). -/
def execGuardVeto (s : State) : Out :=
  hostRow 0x62 (fun c s =>
    runCmd c [scopeD c, resv c [(2, 0xFF)]] pass pass []
      (fun s =>
        let (st, s) := veto (BitVec.ofNat 8 (fld (c.w 2) 0 8)) c.at_ s
        reply c st res0 s) s) s

/-- GUARD_QUERY (R355): the table in force, its image to host memory where an address is given. -/
def execGuardQuery (s : State) : Out :=
  hostRow 0x63 (fun c s =>
    let t := fld (c.w 2) 0 8
    let a := c.w64 3 4
    runCmd c [scopeD c, resv c [(2, 0xFF), (3, -1), (4, -1)], bad (decide (6 ≤ t)) 3, bad (!busAligned a) 4] pass pass []
      (whenUpstream c (decide (a ≠ 0)) fun s =>
        if h : t < 6 then
          let r := s.queryTable ⟨t, h⟩
          reply c 0 r (if a = 0 then s else upWrite a (wordsOf (s.tableImage t)) s)
        else s) s) s

/-! ### Time (R356) -/

/-- RTC_SET (03_timing.md R66, R67): it replies once its commit has applied. -/
def execRtcSet (s : State) : Out :=
  hostRow 0x70 (fun c s =>
    let v := calOf (c.w 2) (c.w 3)
    let s := if c.preempt && s.overruled c then preempt .host s else s
    runCmd c [scopeD c, resv c [(2, 0x7FFFFFF), (3, 0x1FFFFF)]] pass pass []
      (fun s =>
        if s.commitBusy .host c.at_ then reply c 0x15 res0 (preempt .host s)
        else if !v.ok then reply c 0x1B res0 (badDate (c.w 2) (c.w 3) s)
        else waitOn c .rtc 0 res0 (queueCommit .host c.at_ v s)) s) s

/-- RTC_GET (R356): all from one tick. -/
def execRtcGet (s : State) : Out :=
  hostRow 0x71 (fun c s =>
    runCmd c [scopeD c, resv c []] pass pass [] (reply c 0 (calTime s.rtc.now, calDate s.rtc.now, rtcStatus .host s, 0)) s) s

/-- RTC_ALARM (03_timing.md R69): the words set and the alarm armed, or disarmed; an alarm that fails the check does not arm. -/
def execRtcAlarm (s : State) : Out :=
  hostRow 0x72 (fun c s =>
    let arm := bit (c.w 4) 0
    let v := { calOf (c.w 2) (c.w 3) with sub := 0 }
    runCmd c [scopeD c, resv c [(2, 0x7FFFFFF), (3, 0x1FFFFF), (4, 1)]] pass pass []
      (fun s =>
        if arm && !v.ok then reply c 0x1B res0 { s with rtc := { s.rtc with badDate := true } }
        else replyOk c { s with rtc := { s.rtc with alarmTime := c.w 2, alarmDate := c.w 3, alarmArm := arm } }) s) s

end Sys2Proof.Machine
end

