-- ==== Sys2Proof/Machine/CmdGrid.lean ====
section
/-! DEFINITION. Host commands: grid (19_commands.md Table 19.13; 08_grid_cores.md Table 8.2, R163..R169; 16_unison.md R292) and PMA
(Table 19.15; 06_photonic.md R127..R131). -/

namespace Sys2Proof.Machine

/-! ### Grid -/

/-- The graph that a command names. -/
def cGraph (c : Cmd) : Fin 8 := ⟨fld (c.w 2) 0 3, Nat.mod_lt _ (by decide)⟩

/-- The logical cores of a PROGRAM_LOAD (Table 19.13). -/
def cCores (c : Cmd) : List Nat :=
  (List.range 256).filter fun n => if h : 3 + n / 32 < 16 then bit (c.desc[3 + n / 32]'h) (n % 32) else false

/-- Cores bound to a graph, or to be bound by its staged switch. -/
def Graph.claims (x : Graph) (l : Nat) : Bool := x.cores.contains l || (x.stagedImage.any fun p => p.2.contains l)

/-- A named core belongs to another graph (R164). -/
def State.coreTaken (s : State) (g : Fin 8) (l : Nat) : Bool := (ixs s.grid.graph).any fun (h, x) => decide (h ≠ g) && x.claims l

/-- The graph LOADED with an image on its cores (Table 8.2, R164). -/
def loadGraph (g : Fin 8) (id : Nat) (cores : List Nat) (h : List Word) (code : List Byte) (s : State) : State :=
  bindCores g cores h code (setGraph g (fun x => { x with state := .loaded, image := id, cores := cores, numerics := hNumerics h, build := hBuild h }) s)

/-- In unison, NUMERICS of an image differs from the profile of its pack, or without one from those of the packs whose streams its graph
serves (Table 8.3, 16_unison.md R292). -/
def State.numericsDiffer (s : State) (g : Fin 8) (pack : Option (Fin 24)) (numerics : BitVec 8) : Bool :=
  let hs : List Nat := match pack with | some h => [h.1] | none => (s.streamsOf g).map fun (i : Fin 16) => (s.stream[i]).pack.1
  s.grid.unison && hs.any fun k => if h : k < 24 then (match s.pack[k]'h with
    | some p => decide (p.numerics ≠ numerics)
    | none => false) else false

/-- The image that a graph holds differs so (R292). -/
def State.numericsClash (s : State) (g : Fin 8) : Bool := s.numericsDiffer g (s.graphPack g) (s.grid.graph[g]).numerics

/-- PROGRAM_LOAD (R360; 08_grid_cores.md R164, R165, Table 8.3): on a RUNNING graph it is staged and replies after the switch. -/
def execProgramLoad (s : State) : Out :=
  hostRow 0xA0 (fun c s =>
    let g := cGraph c
    let id := fld (c.w 2) 16 16
    let cores := cCores c
    let obj := (s.hostObj id).filter fun o => decide (o.cls = 7)
    let im := (obj.bind s.image).filter fun x => imageOk x.1 x.2 && !s.numericsDiffer g (obj.bind (·.pack)) (hNumerics x.1)
    let x := s.grid.graph[g]
    let scratch := match im with | some y => hScratch y.1 | none => 0
    runCmd c [scopeD c, resv c ((2, 0xFFFF0007) :: (List.range 8).map fun k => (3 + k, -1)), bad obj.isNone 5,
        bad (im.isNone || cores.any fun l => decide (s.grid.width < l + 9)) 3]
      pass (conflict (decide (x.state = .faulted)) 3)
      [refuse (cores.any fun l => s.coreTaken g l) 0x13,
        refuse (cores.any fun l => match s.nodeOf l with | some j => !s.poolHolds j scratch | none => false) 0x13]
      (fun s =>
        let r := res1 (wd cores.length)
        if x.state = .running then waitCommit c (.switch g) r (setGraph g (fun y => { y with stagedImage := some (id, cores) }) s)
        else match im with
          | some y => reply c 0 r (loadGraph g id cores y.1 y.2 s)
          | none => s) s) s

/-- GRAPH_LAUNCH (R360; 08_grid_cores.md R162, R166, R169; 16_unison.md R292). A grid out of service launches nothing. -/
def execGraphLaunch (s : State) : Out :=
  hostRow 0xA1 (fun c s =>
    let g := cGraph c
    let x := s.grid.graph[g]
    let active := decide (s.pwr.mode = 3)
    runCmd c [scopeD c, resv c [(2, 7)]] (if s.safe then heldSafe s else refuse s.grid.oos 0x1C)
      (decide (x.state ≠ .loaded) || !active, 0x12, (wd x.state.code, if active then 0 else s.pwr.mode.setWidth 32, 0, 0))
      [bad x.plan.isNone 3, bad (s.numericsClash g) 3] (fun s => replyOk c (launchGraph g s)) s) s

/-- GRAPH_STOP (R360; Table 8.2): a RUNNING graph stops at its next pitch boundary. -/
def execGraphStop (s : State) : Out :=
  hostRow 0xA2 (fun c s =>
    let g := cGraph c
    let x := s.grid.graph[g]
    runCmd c [scopeD c, resv c [(2, 7)]] pass (conflict (decide (x.state = .empty)) 0) []
      (fun s => match x.state with
        | .running => settleStop g (waitCommit c (.stop g) res0 (setGraph g (fun y => { y with stopping := true }) s))
        | .faulted => replyOk c (stopGraph g s)
        | .loaded => replyOk c (releaseGraph g s)
        | .empty => s) s) s

/-- The plan that a CREDIT_PLAN names, read for the cores that the graph has or will have. -/
def State.planOf (s : State) (g : Fin 8) (id : Nat) : Option Plan :=
  let x := s.grid.graph[g]
  (s.hostObj id).bind fun o => readPlan (match x.stagedImage with | some p => p.2 | none => x.cores) (s.planWords o)

/-- CREDIT_PLAN (R360, R361; 08_grid_cores.md R169): on a RUNNING graph it is staged. -/
def execCreditPlan (s : State) : Out :=
  hostRow 0xA3 (fun c s =>
    let g := cGraph c
    let id := fld (c.w 2) 16 16
    let x := s.grid.graph[g]
    let plan := s.planOf g id
    runCmd c [scopeD c, resv c [(2, 0xFFFF0007)], bad (s.hostObj id).isNone 5]
      pass (conflict (decide (x.state = .empty) || decide (x.state = .faulted)) x.state.code)
      [bad plan.isNone 3, refuse (match plan with | some p => !s.treesFit g p | none => false) 0x13]
      (fun s =>
        if x.state = .running then waitCommit c (.switch g) res0 (setGraph g (fun y => { y with stagedPlan := plan }) s)
        else replyOk c (setGraph g (fun y => { y with plan := plan }) s)) s) s

/-! ### PMA -/

/-- PMA_CAL (R362; 06_photonic.md R129..R131). -/
def execPmaCal (s : State) : Out :=
  hostRow 0xB0 (fun c s =>
    let idle := fld (c.w 2) 0 10
    let named := fun (i : Fin 4) => bit (c.w 2) (16 + i.1)
    runCmd c [scopeD c, resv c [(2, 0xF03FF)], bad (decide (1000 < idle)) 3] pass pass
      [refuse ((List.finRange 4).any fun i => named i && (s.sect i).retired) 0x1C]
      (fun s => replyOk c { s with pma := { s.pma with
        idleMs := if idle = 0 then s.pma.idleMs else BitVec.ofNat 10 idle
        sect := mapV s.pma.sect fun i x => if named i then { x with calDue := true } else x } }) s) s

/-- PMA_STATUS (R362). -/
def execPmaStatus (s : State) : Out :=
  hostRow 0xB1 (fun c s =>
    let i : Fin 4 := ⟨fld (c.w 2) 0 2, Nat.mod_lt _ (by decide)⟩
    runCmd c [scopeD c, resv c [(2, 3)]] pass pass []
      (reply c 0 (pmaStatus s, sectStat i s, (s.sect i).rows.setWidth 32, (s.chans i).setWidth 32)) s) s

/-- The descriptor of a PMA_JOB (06_photonic.md Table 6.3). -/
def cJob (c : Cmd) : Vector Word 8 := Vector.ofFn fun k => c.desc[2 + k.1]'(by have := k.2; omega)

/-- Reserved fields of a job descriptor. -/
def jobReserved (d : Vector Word 8) : Bool :=
  decide (fld d[0] 21 11 ≠ 0) || decide (fld d[3] 8 24 ≠ 0) || decide (fld d[5] 8 24 ≠ 0) || decide (fld d[7] 8 24 ≠ 0)

/-- Fields of a job descriptor out of range. -/
def jobRange (d : Vector Word 8) : Bool :=
  decide (10 < jK d) || decide (jN d < 2) || decide (16 < jN d) || decide (4 < jGain d) || decide (21 < jMin d) || decide (jV d = 0)

/-- The status of R127 checks 3 and 4. -/
def jobRefusal (s : State) (d : Vector Word 8) : Check :=
  match validateJob s d with
  | .ok _ => pass
  | .error (st, w) => (true, st, res1 w)

/-- PMA_JOB (R362; 06_photonic.md R127, R128; 24_power.md Table 24.1): it replies with the job's completion. -/
def execPmaJob (s : State) : Out :=
  hostRow 0xB2 (fun c s =>
    let d := cJob c
    runCmd c [scopeD c, resv c ((List.range 8).map fun k => (2 + k, -1)), bad (jobReserved d) 2, bad (jobRange d) 3,
        bad (decide (jMatrix d % 64 ≠ 0) || decide (jIn d % 64 ≠ 0) || decide (jOut d % 64 ≠ 0)) 4,
        bad ((decide (jSect d = 3) && !jComplex d) || (jKeep d && decide (jSect d = 2))) 3, bad (decide (11 + jK d < jMin d)) 3]
      pass (conflict (decide (s.pwr.mode = 1)) 1) [jobRefusal s d]
      (fun s => match validateJob s d with
        | .ok is => acceptJob d (some c) none is (waitOn c .job 0 res0 s)
        | .error _ => s) s) s

end Sys2Proof.Machine
end

