-- ==== Sys2Proof/Machine/CmdHealth.lean ====
section
/-! DEFINITION. Host commands: health (19_commands.md Table 19.11; 23_repair.md R405..R415) and observation (Table 19.12;
11_fabric_service.md R224..R228, 25_observation.md R431). -/

namespace Sys2Proof.Machine

/-! ### Health -/

/-- HEALTH_QUERY (23_repair.md R415). -/
def execHealthQuery (s : State) : Out :=
  hostRow 0x80 (fun c s =>
    let page := fld (c.w 2) 0 4
    let v := if page = 0 then s.summary else s.retiredCounts
    runCmd c [scopeD c, resv c [(2, 0xF)], bad (decide (1 < page)) 3] pass pass [] (reply c 0 (v[0], v[1], v[2], v[3])) s) s

/-- The physical ids of a unit type that BIST_RUN accepts (23_repair.md Table 23.2); none for another type. -/
def bistIds (t id : Nat) : Bool :=
  match t with
  | 1 => decide (id < 288)
  | 3 => decide (id < 288)
  | 4 => decide (id < 576)
  | 7 => decide (id < 18)
  | 8 => decide (id < 128) && decide (id % 32 < 18)
  | 9 => decide (id < 128) && decide (id % 32 < 17)
  | _ => false

/-- A unit that is neither spare, retired nor idle (19_commands.md Table 19.11): a core with a graph, a front-end task or tiles at home; a
router or link that holds a packet; a laser, channel or row that serves a section in service. -/
def State.unitBusy (s : State) (t id : Nat) : Bool :=
  let sec : Fin 4 := ⟨id / 32 % 4, Nat.mod_lt _ (by decide)⟩
  if s.isRetired (unit (BitVec.ofNat 4 t) id) then false
  else match t with
  | 1 =>
    !s.spares.contains id && (match nodeFin id with
      | some j => s.isFe j || !(s.runsOf id).isEmpty || (match s.logicalOf j with
          | some l => s.grid.graph.toList.any fun g => g.cores.contains l
          | none => false)
      | none => false)
  | 3 => s.fab.net.any fun f => decide (f.pkt.at_ = id)
  | 4 => s.fab.net.any fun f => f.across id
  | 7 => (BitVec.ofNat 18 s.laserLanes).getLsbD id
  | 8 => s.inService sec && (List.range (s.lanes sec)).any fun k => decide (s.laneChan sec k = id % 32)
  | _ => s.inService sec && bit (s.sect sec).rows (id % 32) && (decide (id % 32 < 16) || (s.sect sec).spareRow)

/-- BIST_RUN (R357; 23_repair.md R403, R405, R407): the outcome and the detail are the unit's. A failure is a hard failure. -/
def execBistRun (passed : Bool) (detail : Word) (s : State) : Out :=
  hostRow 0x81 (fun c s =>
    let t := fld (c.w 2) 0 4
    let id := fld (c.w 2) 4 12
    runCmd c [scopeD c, resv c [(2, 0xFFFF)], bad (!bistIds t id) 3] pass (conflict (s.unitBusy t id) 1) []
      (fun s => reply c 0 (wd (b2n passed), detail, 0, 0) (if passed then s else
        let u := unit (BitVec.ofNat 4 t) id
        if s.isRetired u then s else hardFail u s)) s) s

/-- LEDGER_EXPORT (R357; 23_repair.md R413): the entries with the indices first to first + count - 1. -/
def execLedgerExport (s : State) : Out :=
  hostRow 0x82 (fun c s =>
    let a := c.w64 2 3
    let first := fld (c.w 4) 0 16
    let es := ((List.range (min (fld (c.w 4) 16 16) (2048 - first))).filterMap fun k => s.ledgerAt (first + k))
    runCmd c [scopeD c, resv c [(2, -1), (3, -1), (4, -1)], bad (decide (2047 < first)) 3, bad (!busAligned a) 4] pass pass []
      (whenUpstream c (!es.isEmpty) fun s =>
        reply c 0 (res1 (wd es.length)) (if es.isEmpty then s else upWrite a (es.flatMap fun e => [lo e, hi e]) s)) s) s

/-- An entry that LEDGER_IMPORT accepts (23_repair.md R414): a TYPE of Table 23.2, reserved fields zero. -/
def entryOk (e : BitVec 64) : Bool :=
  decide (1 ≤ fld e 0 4) && decide (fld e 0 4 ≤ 11) && decide (fld e 30 2 = 0) && decide (fld e 54 10 = 0)

/-- LEDGER_IMPORT (R358; 23_repair.md R414): a host proposal of index 0x80. -/
def execLedgerImport (s : State) : Out :=
  hostRow 0x83 (fun c s =>
    let n := fld (c.w 3) 0 16
    let image := (s.hostObj (fld (c.w 2) 0 16)).bind fun o => s.objBytes o 0 (8 * n)
    runCmd c [scopeD c, resv c [(2, 0xFFFF), (3, 0xFFFF)], bad (decide (n < 1) || decide (1536 < n)) 3, bad image.isNone 5,
        bad (!(entriesOf (image.getD [])).all entryOk) 3] pass pass []
      (fun s =>
        let (p, s) := propose true 0x80 0 (image.getD []) s
        reply c 0 (p.id.setWidth 32, digestWord p.digest 0, digestWord p.digest 1, 0) s) s) s

/-! ### Observation -/

/-- PROBE_SET (11_fabric_service.md R225): the cairn's configuration replaced, its counts and trigger cleared. -/
def execProbeSet (s : State) : Out :=
  hostRow 0x90 (fun c s =>
    let k : Fin 16 := ⟨fld (c.w 2) 0 4, Nat.mod_lt _ (by decide)⟩
    let w := c.w 3
    runCmd c [scopeD c, resv c [(2, 0xF), (3, 0x3F7FFFF), (4, -1), (5, -1), (6, -1), (7, -1), (8, 1)],
        bad (decide (fld w 1 2 = 3) || decide (288 ≤ fld w 3 9) || decide (6 ≤ fld w 12 3)) 3] pass pass []
      (fun s => replyOk c (setFab (fun x =>
        let wrap := bit (c.w 8) 0
        { x with
          cairn := upd x.cairn k { cfg := w.setWidth 25, match_ := c.w64 4 5, mask := c.w64 6 7 }
          wrap := wrap, stopped := !wrap && decide (2048 ≤ x.trace.length) }) s)) s) s

/-- The 128 bytes of STATS_READ (R359; 11_fabric_service.md R228), as words. -/
def statWords (x : Stats) : List Word :=
  [lo x.bytes, hi x.bytes, lo x.pkts, hi x.pkts, x.timeouts, x.late] ++ x.hist.toList ++ List.replicate 10 0

/-- STATS_READ (R359). -/
def execStatsRead (s : State) : Out :=
  hostRow 0x91 (fun c s =>
    let i := fld (c.w 2) 0 9
    let a := c.w64 3 4
    runCmd c [scopeD c, resv c [(2, 0x3FF), (3, -1), (4, -1)], bad (decide (300 ≤ i)) 3, bad (!busAligned a) 4] pass pass []
      (whenUpstream c true fun s =>
        if h : i < 300 then
          let s := upWrite a (statWords (s.ni ⟨i, h⟩).stats) s
          replyOk c (if bit (c.w 2) 9 then setNi ⟨i, h⟩ (fun x => { x with stats := {} }) s else s)
        else s) s) s

/-- The records that a TRACE_DUMP reserved at its intake. -/
def State.dumpOf (s : State) (c : Cmd) : List (Vector Word 8) := s.fab.trace.take (look s.fab.dumps c.id 0)

/-- TRACE_DUMP (R359; 25_observation.md, the records present at its intake): oldest first; CLEAR then empties the buffer. -/
def execTraceDump (s : State) : Out :=
  hostRow 0x92 (fun c s =>
    let a := c.w64 2 3
    let rs := s.dumpOf c
    runCmd c [scopeD c, resv c [(2, -1), (3, -1), (4, 0x10FFF)], bad (!busAligned a) 4] pass pass []
      (whenUpstream c (!rs.isEmpty) fun s =>
        let s := if rs.isEmpty then s else upWrite a (rs.flatMap fun r => r.toList) s
        let s := if bit (c.w 4) 16 then setFab (fun x => { x with
          trace := [], stopped := false, dumps := x.dumps.map fun d => (d.1, 0) }) s else s
        reply c 0 (res1 (wd rs.length)) (unreserve c s)) s) s

/-- The event records that an EVENT_DRAIN reserved at its intake (25_observation.md R431). -/
def State.drainOf (s : State) (c : Cmd) : List Event := s.dbg.log.filter fun e => (look s.dbg.resv c.id []).contains e.seq

/-- EVENT_DRAIN (R359; 25_observation.md R431): the reserved records written in SEQ order and removed. -/
def execEventDrain (s : State) : Out :=
  hostRow 0x93 (fun c s =>
    let a := c.w64 2 3
    let es := s.drainOf c
    runCmd c [scopeD c, resv c [(2, -1), (3, -1), (4, 0x7FF)], bad (!busAligned a) 4] pass pass []
      (whenUpstream c (!es.isEmpty) fun s =>
        let s := if es.isEmpty then s else upWrite a (es.flatMap fun e => e.words.toList) s
        let seqs := look s.dbg.resv c.id []
        let s := { s with dbg := { s.dbg with log := s.dbg.log.filter fun e => !seqs.contains e.seq } }
        reply c 0 (wd es.length, wd s.dbg.log.length, 0, 0) (unreserve c s)) s) s

end Sys2Proof.Machine
end

