-- ==== Sys2Proof/Machine/Objects.lean ====
section
/-! DEFINITION. Making objects (12_tiers.md R230, R231) and packs: the container, its checks and its loader (20_streams.md
R371..R374; 13_compression.md R250, R260). -/

namespace Sys2Proof.Machine

/-! ### Objects -/

/-- Tiles from a place on are free in U-space (R230). -/
def State.spanFree (s : State) (base tiles : Nat) : Bool :=
  decide (1 ≤ base) && decide (base + tiles ≤ 2 ^ 28)
    && s.tiers.objs.all fun o => decide (base + tiles ≤ o.base) || decide (o.base + o.tiles ≤ base)

/-- Room for one more object (R230, R231): a place in U-space, an id, and but for a STATE object the frames. -/
def State.objFits (s : State) (tiles : Nat) (cls : BitVec 4) : Bool :=
  decide (s.tiers.objs.length < 65536) && (decide (cls = 3) || decide (tiles ≤ s.dramFree))
    && (1 :: s.tiers.objs.map fun o => o.base + o.tiles).any fun b => s.spanFree b tiles

/-- A base chosen by the device (R230): a free choice, or the next free place after it (log entry 2). -/
def chooseBase (tiles : Nat) (s : State) : Nat × State :=
  let (k, s) := s.pick (2 ^ 28)
  (((k :: 1 :: s.tiers.objs.map fun o => o.base + o.tiles).find? fun b => s.spanFree b tiles).getD 0, s)

/-- An object id not in use, chosen by the device (19_commands.md R339; log entry 2). -/
def chooseId (s : State) : Nat × State :=
  let (k, s) := s.pick 65536
  ((((List.range 65536).map fun i => (k + i) % 65536).find? fun i => !s.tiers.objs.any fun o => decide (o.id = i)).getD 0, s)

/-- An object made with a class, consistency and format (R231, 13_compression.md R251). Its policy before any OBJ_PLACE is PIN_DRAM,
but for a state object (log entry 37); its affinity is all compute cores (R239). -/
def makeObj (tiles : Nat) (cls : BitVec 4) (cached : Bool) (comp etype : BitVec 2) (segment : Bool) (slot : Option (Fin 16))
    (pack : Option (Fin 24)) (s : State) : Obj × State :=
  let (base, s) := chooseBase tiles s
  let (id, s) := chooseId s
  let o : Obj := { id := id, base := base, tiles := tiles, cls := cls, cached := cached, comp := comp, etype := etype, segment := segment
                   policy := if slot.isSome then .park else .pinDram, aff := (0, 255), slot := slot, seat := none, pack := pack, tables := []
                   restored := slot.isSome }
  (o, setTiers (fun x => { x with objs := x.objs ++ [o] }) s)

/-- The fields that fix an object's format are consistent (19_commands.md Table 19.5 OBJ_ALLOC). -/
def formatOk (cls : Nat) (cached : Bool) (comp : Nat) : Bool :=
  decide (cls < 9) && decide (cls ≠ 3) && decide (comp ≠ 3) && (decide (comp ≠ 2) || decide (cls = 1)) && !(decide (cls = 2) && cached)

/-! ### The pack container (R371) -/

/-- A section of a pack (Table 20.5). -/
structure Section where
  /-- Table 20.5 TYPE -/
  type : Nat
  /-- Table 20.5 CLASS -/
  cls : Nat
  /-- Table 20.5: CACHED -/
  cached : Bool
  /-- Table 20.5: compression -/
  comp : Nat
  /-- Table 20.5: ETYPE -/
  etype : Nat
  /-- Table 20.5: scope -/
  segment : Bool
  /-- Table 20.5: section data -/
  off : Nat
  /-- Table 20.5: section data -/
  len : Nat
  /-- Table 20.5: section tag -/
  tag : Nat
deriving DecidableEq, Repr

/-- Word i of the section entry k. -/
def entryWord (b : List Byte) (k i : Nat) : Word := imgWord b (128 + 32 * k + 4 * i)

/-- The section of an entry. -/
def readSection (b : List Byte) (k : Nat) : Section :=
  let w := entryWord b k
  { type := fld (w 0) 0 4, cls := fld (w 0) 8 4, cached := bit (w 0) 12, comp := fld (w 0) 13 2, etype := fld (w 0) 15 2, segment := bit (w 0) 17
    off := (w 1).toNat, len := (w 2).toNat, tag := fld (w 3) 0 16 }

/-- The number of sections, TOTAL_BYTES. -/
def packSections (b : List Byte) : Nat := fld (imgWord b 16) 0 7
/-- TOTAL_BYTES. -/
def packTotal (b : List Byte) : Nat := (imgWord b 20).toNat

/-- The sections of a pack. -/
def sectionsOf (b : List Byte) : List Section := (List.range (packSections b)).map (readSection b)

/-- The loader makes an object of the section (R374). -/
def Section.loads (x : Section) : Bool := decide (x.type = 1) || decide (x.type = 2) || decide (x.type = 6)

/-- Tiles of a section's object. -/
def Section.tiles (x : Section) : Nat := (x.len + 4095) / 4096

/-- The data of a section. -/
def Section.data (x : Section) (b : List Byte) : List Byte := (b.drop x.off).take x.len

/-- A word of section data whose reserved bits are clear. -/
def wordsClear (mask : Word) (ws : List Word) : Bool := ws.all fun w => decide (w &&& ~~~mask = 0)

/-- The words at even places, and those at odd places paired with them. -/
def wordPairs : List Word → List (Word × Word)
  | a :: b :: l => (a, b) :: wordPairs l
  | _ => []

/-- The operator records of a pack. -/
def packOpers (b : List Byte) : List (Word × Word) := (sectionsOf b).flatMap fun x => if x.type = 3 then wordPairs (wordsOf (x.data b)) else []
/-- The language records of a pack. -/
def packLangs (b : List Byte) : List Word := (sectionsOf b).flatMap fun x => if x.type = 4 then wordsOf (x.data b) else []

/-- A section entry is valid (R371, R372 step 2): its reserved bits clear, its data between the section table and the signature, its
format one that OBJ_ALLOC takes, its records clear of reserved bits (log entry 38). -/
def sectionOk (b : List Byte) (k : Nat) : Bool :=
  let w := entryWord b k
  let x := readSection b k
  decide (w 0 &&& ~~~(0x3FF0F : Word) = 0) && decide (fld (w 3) 16 16 = 0) && [4, 5, 6, 7].all (fun i => decide (w i = 0))
    && decide (1 ≤ x.type) && decide (x.type ≤ 6) && decide (x.off % 64 = 0) && decide (0 < x.len)
    && decide (128 + 32 * packSections b ≤ x.off) && decide (x.off + x.len ≤ packTotal b - 64)
    && (!x.loads || formatOk x.cls x.cached x.comp)
    && (decide (x.type ≠ 3) || (decide (x.len % 8 = 0)
          && (wordPairs (wordsOf (x.data b))).all fun p => decide (p.1 &&& ~~~(0xF3F03 : Word) = 0) && decide (fld p.1 0 2 ≠ 3)))
    && (decide (x.type ≠ 4) || (decide (x.len % 4 = 0) && wordsClear 0x7FFFF (wordsOf (x.data b))))

/-- No two sections overlap, and no two carry one tag. -/
def sectionsApart : List Section → Bool
  | [] => true
  | x :: l => (l.all fun y => (decide (x.off + x.len ≤ y.off) || decide (y.off + y.len ≤ x.off)) && decide (x.tag ≠ y.tag)) && sectionsApart l

/-- The container is valid (R371, R372 step 2); b holds TOTAL_BYTES, size is the object's. -/
def containerOk (b : List Byte) (size : Nat) : Bool :=
  let w := fun (k : Nat) => imgWord b (4 * k)
  let n := packSections b
  decide (w 0 = 0x4F4C5041) && decide (w 1 &&& ~~~(0xFF0100 : Word) = 1)
    && (decide (w 3 = 0) || (decide (w 3 &&& ~~~(0x1FFFFF : Word) = 0) && (calOf 0 (w 3)).dateOk))
    && decide (w 4 &&& ~~~(0x7F : Word) = 0) && decide (1 ≤ n) && decide (n ≤ 64)
    && decide (packTotal b % 64 = 0) && decide (packTotal b ≤ size) && decide (128 + 32 * n + 64 ≤ packTotal b)
    && (List.range 26).all (fun k => decide (w (6 + k) = 0))
    && (List.range n).all (sectionOk b) && sectionsApart (sectionsOf b)

/-- The signature of a pack under the key of its KEY_SLOT (R371, R372 step 3). -/
def State.packSigned (s : State) (b : List Byte) : Bool :=
  match s.keyOf (if bit (imgWord b 4) 8 then 1 else 0) with
  | some k => ecVerify k (sha256 (b.take (packTotal b - 64))) (b.drop (packTotal b - 64))
  | none => false

/-- Tiles of a stream's state (15_recurrence.md R281). -/
def stateTiles (bytes : Nat) : Nat := 1 + 2 * ((bytes + 4095) / 4096)

/-- An operator record keeps 14_attention_kv.md R268, 15_recurrence.md R279 and R281 (R372 step 4). -/
def operOk (p : Word × Word) : Bool :=
  decide (fld p.1 8 6 ≤ 32)
    && (decide (fld p.1 0 2 ≠ 0) || [0, 4, 5, 6, 7, 8].contains (fld p.1 16 4))
    && decide (4096 * stateTiles p.2.toNat ≤ 2097152)

/-- A pack with an EXPIRY has expired (R373): whole days; with the RTC unset the POLICY decides. -/
def State.expired (s : State) (expiry : Word) : Bool :=
  decide (expiry ≠ 0)
    && (if s.rtc.valid then decide ((calOf 0 expiry).dayKey < s.rtc.now.dayKey) else !bit s.guard.policy 6)

/-- The handle of a resident pack with an id and version (R372). -/
def State.resident (s : State) (id version : BitVec 16) : Option (Fin 24) :=
  (List.finRange 24).find? fun h => s.pack[h].any fun p => decide (p.id = id) && decide (p.version = version)

/-- Packs resident. -/
def State.packCount (s : State) : Nat := ((List.finRange 24).filter fun h => s.pack[h].isSome).length

/-- U-space can hold the objects of a pack (R372 step 6). -/
def State.packFits (s : State) (b : List Byte) : Bool :=
  let xs := (sectionsOf b).filter Section.loads
  decide ((xs.map Section.tiles).sum ≤ s.dramFree) && decide (s.tiers.objs.length + xs.length ≤ 65536)

/-- What the checks of R372 say of the pack in an object: a failure, a resident handle, or its bytes to load. -/
inductive PackCheck where
  | fails (st : BitVec 8)
  | resident (h : Fin 24)
  | loads (bytes : List Byte)
deriving DecidableEq, Repr

/-- PACK_ID of a pack. -/
def packId (b : List Byte) : BitVec 16 := BitVec.ofNat 16 (fld (imgWord b 8) 0 16)
/-- VERSION of a pack. -/
def packVersion (b : List Byte) : BitVec 16 := BitVec.ofNat 16 (fld (imgWord b 8) 16 16)

/-- The checks of R372 in order; PACK_VERIFY skips the first. -/
def State.checkPack (s : State) (o : Obj) (verify : Bool) : PackCheck :=
  if !verify && decide (24 ≤ s.packCount) then .fails 0x13
  else
    let total := match s.objBytes o 0 128 with | some h => packTotal h | none => 0
    match s.objBytes o 0 total with
    | none => .fails 0x19
    | some b =>
      if decide (total < 128) || !containerOk b (4096 * o.tiles) || !s.packSigned b || !(packOpers b).all operOk then .fails 0x19
      else if s.expired (imgWord b 12) then .fails 0x1A
      else match s.resident (packId b) (packVersion b) with
        | some h => .resident h
        | none => if s.packFits b then .loads b else .fails 0x13

/-! ### The loader (R374) -/

/-- A tile as the loader stores it (13_compression.md R250, R260, R261): a low-rank form that meets R260, RAW and counted where it is no
shorter; with no such form, XE or RAW, a free choice. Which low-rank form the loader finds, if any, is open (log entry 13). -/
def loadForm (o : Obj) (t : Nat) (b : List Byte) (s : State) : (BitVec 2 × List Byte) × State :=
  if o.comp = 2 then
    let (int4, s) := s.pick 2
    let (k, s) := s.pick (2 ^ 32)
    let (xe, s) := s.pick 2
    match (Config.lowRank k t).bind fun f => lrCode (decide (int4 = 1)) f b with
    | some c => if c.length < 4096 then ((3, c), s) else escapeRaw b s
    | none => if xe = 1 then xeForm o t b s else ((0, b), s)
  else frameForm o t b s

/-- A tile of a loaded object put into its frame in the form that the loader gives it. -/
def loadTile (id t : Nat) (b : List Byte) (s : State) : State :=
  match s.objId id with
  | none => s
  | some o =>
    let ((fmt, c), s) := loadForm o t b s
    let e := s.entry t
    setEntry t { e with fmt := fmt, len := lenOf c, frameForm := (fmt, lenOf c) } (putDram (4096 * e.dframe) c s)

/-- The tiles of section data, the last one padded with zeros. -/
def dataTiles (b : List Byte) (n : Nat) : List (Nat × List Byte) :=
  (List.range n).map fun k =>
    let x := (b.drop (4096 * k)).take 4096
    (k, x ++ List.replicate (4096 - x.length) 0)

/-- One section loaded: its object made and written, then each tile compressed in ascending order. -/
def loadSection (h : Fin 24) (b : List Byte) (x : Section) (s : State) : State :=
  let (o, s) := makeObj x.tiles (BitVec.ofNat 4 x.cls) x.cached (BitVec.ofNat 2 x.comp) (BitVec.ofNat 2 x.etype) x.segment none (some h) s
  let ts := dataTiles (x.data b) x.tiles
  let s := ts.foldl (fun s p => storeNew o (o.base + p.1) p.2 s) s
  ts.foldl (fun s p => loadTile o.id (o.base + p.1) p.2 s) s

/-- The pack in an object loaded at the lowest free handle (R374). -/
def loadPack (obj : Nat) (b : List Byte) (s : State) : Fin 24 × State :=
  let h := ((List.finRange 24).find? fun h => s.pack[h].isNone).getD 0
  let p : Pack := { id := packId b, version := packVersion b, expiry := imgWord b 12, numerics := BitVec.ofNat 8 (fld (imgWord b 4) 16 8)
                    obj := obj, langs := packLangs b, opers := packOpers b }
  let s := ((sectionsOf b).filter Section.loads).foldl (fun s x => loadSection h b x s) s
  (h, { s with pack := upd s.pack h (some p) })

/-- The objects that a handle's loader made. -/
def State.packObjs (s : State) (h : Fin 24) : List Nat := (s.tiers.objs.filter fun o => decide (o.pack = some h)).map (·.id)

end Sys2Proof.Machine
end

