-- ==== Sys2Proof/Machine/CmdObjects.lean ====
section
/-! DEFINITION. Host commands on packs and objects (19_commands.md Table 19.5). -/

namespace Sys2Proof.Machine

/-- DRAM_FAIL refuses the commands of 22_startup.md R395. -/
def dramFailed (s : State) : Check := refuse s.boot.dramFail 0x1C

/-- The object of class PACK that a command names in w2. -/
def State.packObj (s : State) (c : Cmd) : Option Obj := (s.hostObj (fld (c.w 2) 0 16)).filter fun o => decide (o.cls = 8)

/-- The reply of a load: handle, id and version. -/
def packReply (c : Cmd) (h : Fin 24) (s : State) : State :=
  match s.pack[h] with
  | some p => reply c 0 (wd h.1, wd (p.id.toNat + p.version.toNat * 2 ^ 16), 0, 0) s
  | none => reply c 0 (res1 (wd h.1)) s

/-- PACK_LOAD (20_streams.md R372, R374). -/
def execPackLoad (s : State) : Out :=
  hostRow 0x10 (fun c s =>
    runCmd c [scopeD c, resv c [(2, 0xFFFF)], bad (s.packObj c).isNone 5] pass pass [dramFailed s]
      (fun s =>
        match s.packObj c with
        | none => s
        | some o =>
          match s.checkPack o false with
          | .fails st => reply c st res0 s
          | .resident h => packReply c h s
          | .loads b =>
            let (h, s) := loadPack o.id b s
            packReply c h s) s) s

/-- PACK_VERIFY (20_streams.md R372): the checks of PACK_LOAD but the first; nothing is loaded. -/
def execPackVerify (s : State) : Out :=
  hostRow 0x11 (fun c s =>
    runCmd c [scopeD c, resv c [(2, 0xFFFF)], bad (s.packObj c).isNone 5] pass pass [dramFailed s]
      (fun s =>
        match s.packObj c with
        | none => s
        | some o =>
          match s.checkPack o true with
          | .fails st => reply c st res0 s
          | _ => replyOk c s) s) s

/-- An open stream uses a pack. -/
def State.packStream (s : State) (h : Fin 24) : Bool :=
  s.stream.toList.any fun t => decide (t.state ≠ .closed) && decide (t.pack.1 = h.1)

/-- A LOADED or RUNNING graph uses a pack: its image, or the one staged on it, is of the pack's making. -/
def State.packGraph (s : State) (h : Fin 24) : Bool :=
  s.grid.graph.toList.any fun g => (decide (g.state = .loaded) || decide (g.state = .running))
    && ((s.packObjs h).contains g.image || g.stagedImage.any fun x => (s.packObjs h).contains x.1)

/-- PACK_EVICT (R374). -/
def execPackEvict (s : State) : Out :=
  hostRow 0x12 (fun c s =>
    let h : Fin 24 := ⟨fld (c.w 2) 0 5 % 24, Nat.mod_lt _ (by decide)⟩
    let n := b2n (s.packStream h) + 2 * b2n (s.packGraph h)
    runCmd c [scopeD c, resv c [(2, 0x1F)], bad (decide (24 ≤ fld (c.w 2) 0 5) || (s.pack[h]).isNone) 6] pass (conflict (decide (n ≠ 0)) n) []
      (fun s =>
        let s := (s.packObjs h).foldl (fun s id => dropObj id s) s
        replyOk c (finishMoves { s with pack := upd s.pack h none })) s) s

/-- OBJ_ALLOC (12_tiers.md R230, R231). -/
def execObjAlloc (s : State) : Out :=
  hostRow 0x13 (fun c s =>
    let n := fld (c.w 2) 0 21
    let cls := fld (c.w 3) 0 4
    let cached := bit (c.w 3) 4
    let comp := fld (c.w 3) 5 2
    runCmd c [scopeD c, resv c [(2, 0x1FFFFF), (3, 0x3FF)], bad (decide (n = 0) || decide (1048576 < n) || !formatOk cls cached comp) 3]
      pass pass [dramFailed s, refuse (!s.objFits n (BitVec.ofNat 4 cls)) 0x13]
      (fun s =>
        let (o, s) := makeObj n (BitVec.ofNat 4 cls) cached (BitVec.ofNat 2 comp) (BitVec.ofNat 2 (fld (c.w 3) 7 2)) (bit (c.w 3) 9) none none s
        reply c 0 (wd o.id, wd (4096 * o.base), wd (4096 * o.base / 2 ^ 32), 0) s) s) s

/-- The policy codes of OBJ_PLACE. -/
def policyOf (k : Nat) : Policy := if k = 0 then .pinHome else if k = 1 then .pinDram else if k = 2 then .preferHome else .park

/-- Home capacity suffices for every tile of an object (R239): the free granules with those that its own runs hold. -/
def State.homeSuffices (s : State) (o : Obj) : Bool :=
  let own := ((s.tiers.runs.filter fun r => o.owns r.tile).map (·.len)).sum
  decide (64 * o.tiles ≤ own + ((List.finRange 288).map fun j => s.poolFree j).sum)

/-- A policy and affinity given to an object, and the moves that it asks for queued (R239). -/
def placeObj (o : Obj) (p : Policy) (aff : Nat × Nat) (s : State) : State :=
  let s := setObj o.id (fun o => { o with policy := p, aff := aff, restored := false }) s
  let s := setTiers (fun x => { x with haul := mapV x.haul fun _ q => q.filter fun m => !(o.owns m.tile && decide (m.kind = .place)) }) s
  (s.written o).foldl (fun s x => replace1 { o with policy := p, aff := aff, restored := false } x.1 s) s

/-- OBJ_PLACE (R239): it replies once every tile stands where the policy puts it. -/
def execObjPlace (s : State) : Out :=
  hostRow 0x14 (fun c s =>
    let id := fld (c.w 2) 0 16
    let p := policyOf (fld (c.w 2) 16 2)
    let first := fld (c.w 3) 0 8
    let last := fld (c.w 3) 8 8
    let all := bit (c.w 3) 16
    let aff := if all then (0, 255) else (first, last)
    let o := s.hostObj id
    runCmd c [scopeD c, resv c [(2, 0x3FFFF), (3, 0x1FFFF)],
        bad (!all && (decide (last < first) || decide (s.grid.width < last + 9))) 3,
        bad o.isNone 5, bad (decide (p = .park) && ((o.any fun o => o.cached) || decide (s.tiers.pool = some id))) 5]
      pass pass [dramFailed s, refuse (decide (p = .pinHome) && o.any fun o => !s.homeSuffices { o with aff := aff }) 0x13]
      (fun s =>
        match o with
        | none => s
        | some o => finishMoves (waitOn c (.place id) 0 res0 (placeObj o p aff s))) s) s

/-- OBJ_FLUSH (R242): the tiles DIRTY now are written back. -/
def execObjFlush (s : State) : Out :=
  hostRow 0x15 (fun c s =>
    let o := s.hostObj (fld (c.w 2) 0 16)
    runCmd c [scopeD c, resv c [(2, 0xFFFF)], bad o.isNone 5] pass pass []
      (fun s =>
        match o with
        | none => s
        | some o =>
          let ts := if o.cached then ((s.written o).filter fun x => x.2.dirty).map (·.1) else []
          let s := ts.foldl (fun s t =>
            queueMove { kind := .evict, tile := t, toHome := false, drop := false, widen := false, relocate := false } s) s
          finishMoves (waitOn c (.flush ts) 0 res0 s)) s) s

/-- What uses an object (Table 19.5): 1 the KV pool of the open session, 2 the image of a graph, 3 the container of a resident pack or an
object that its loader made (log entry 38); 0 nothing. -/
def State.objUse (s : State) (o : Obj) : Nat :=
  if s.sess.open_ && decide (s.tiers.pool = some o.id) then 1
  else if s.grid.graph.toList.any fun g => (decide (g.state ≠ .empty) && decide (g.image = o.id)) || g.stagedImage.any fun x => decide (x.1 = o.id)
  then 2
  else if o.pack.isSome || s.pack.toList.any fun p => p.any fun p => decide (p.obj = o.id) then 3
  else 0

/-- OBJ_FREE (R232): it waits for moves in flight. -/
def execObjFree (s : State) : Out :=
  hostRow 0x16 (fun c s =>
    let id := fld (c.w 2) 0 16
    let o := s.hostObj id
    let n := match o with | some o => s.objUse o | none => 0
    runCmd c [scopeD c, resv c [(2, 0xFFFF)], bad o.isNone 5] pass (conflict (decide (n ≠ 0)) n) []
      (fun s => finishMoves (waitOn c (.free id) 0 res0 s)) s) s

end Sys2Proof.Machine
end

