-- ==== Sys2Proof/Machine/CmdStreams.lean ====
section
/-! DEFINITION. Host commands on the session, streams, prefixes and texts (19_commands.md Table 19.6, R349, R350; 20_streams.md R363..R370)
and the end of their deferral (18_rings.md R325, 19_commands.md R343). -/

namespace Sys2Proof.Machine

/-! ### The session -/

/-- LAYERS of a SESSION_OPEN. -/
def openLayers (c : Cmd) : Nat := fld (c.w 2) 16 5
/-- The low-water mark of a SESSION_OPEN; 0 is 64. -/
def openMark (c : Cmd) : Nat := if fld (c.w 3) 0 13 = 0 then 64 else fld (c.w 3) 0 13
/-- P of a pool of n tiles (14_attention_kv.md R263). -/
def poolPages (n : Nat) : Nat := (n - 128) / 3

/-- A session id: 1..255 and not the previous one's, a free choice among those (log entry 2). -/
def chooseSession (s : State) : BitVec 8 × State :=
  let ids := ((List.range 255).map fun k => BitVec.ofNat 8 (k + 1)).filter fun i => decide (i ≠ s.sess.prevId)
  let (k, s) := s.pick ids.length
  (ids[k]?.getD 1, s)

/-- The session opened: its seats, its KV pool. -/
def openSession (c : Cmd) (tiles : Nat) (id : BitVec 8) (s : State) : State :=
  let s := setTiers (fun x => { x with
    pool := some (fld (c.w 2) 0 16), pages := poolPages tiles, layers := openLayers c, mark := BitVec.ofNat 13 (openMark c), refs := [] }) s
  applySeats c.desc 0xF { s with sess := { s.sess with open_ := true, id := id } }

/-- SESSION_OPEN (14_attention_kv.md R263). -/
def execSessionOpen (s : State) : Out :=
  hostRow 0x20 (fun c s =>
    let o := s.hostObj (fld (c.w 2) 0 16)
    let tiles := match o with | some o => o.tiles | none => 0
    runCmd c [scopeD c, resv c [(2, 0x1FFFFF), (3, 0x1FFF), (4, 0xFFFF), (5, -1), (6, -1), (7, -1), (8, -1)],
        bad (decide (openLayers c = 0) || decide (openMark c < 16) || decide (4096 < openMark c)) 3]
      pass (conflict s.sess.open_ 1)
      [bad (!o.any fun o => decide (o.cls = 2) && !o.cached && decide (o.policy ≠ .park)) 5,
        bad (decide (poolPages tiles < openMark c + 2 * openLayers c)) 3]
      (fun s =>
        let (id, s) := chooseSession s
        reply c 0 (res1 (id.setWidth 32)) (openSession c tiles id s)) s) s

/-- SESSION_CLOSE (Table 19.6). -/
def execSessionClose (s : State) : Out :=
  hostRow 0x21 (fun c s => runCmd c [scopeN s c, resv c []] pass pass [] (fun s => replyOk c (closeSession s)) s) s

/-! ### Streams -/

/-- The pack that a STREAM_OPEN names carries the languages for its kind (R350; log entry 39): the target language of speech, the seat's
spoken language where the source is a seat. -/
def State.carries (s : State) (p : Pack) (kind : Nat) (seat : Fin 4) (lang : Nat) : Bool :=
  (decide (kind = 2) || p.langs.any fun w => decide (fld w 0 16 = lang) && bit w 17)
    && (decide (kind = 1) || p.langs.any fun w => decide (fld w 0 16 = fld (s.sess.langs[seat]) 0 16) && bit w 16)

/-- The pitch length of a stream: that of the pack's first recurrent operator (15_recurrence.md R279; log entry 39). -/
def packPitch (p : Pack) : Nat :=
  match p.opers.find? (fun x => decide (fld x.1 0 2 = 0)) with
  | some x => if fld x.1 16 4 = 0 then 64 else 2 ^ fld x.1 16 4
  | none => 64

/-- The state that a pack declares for a stream: the largest of its recurrent operators (15_recurrence.md R281; log entry 39). -/
def packState (p : Pack) : Nat := (p.opers.filter fun x => decide (fld x.1 0 2 = 0)).foldl (fun m x => max m x.2.toNat) 0

/-- The handle of a STREAM_OPEN. -/
def openPack (c : Cmd) : Nat := fld (c.w 5) 0 5
/-- The graph of a STREAM_OPEN. -/
def openGraph (c : Cmd) : Fin 8 := ⟨fld (c.w 5) 8 3 % 8, Nat.mod_lt _ (by decide)⟩
/-- The seat of a STREAM_OPEN. -/
def openSeat (c : Cmd) : Fin 4 := ⟨fld (c.w 2) 2 2 % 4, Nat.mod_lt _ (by decide)⟩
/-- The pack that a STREAM_OPEN names, when it is resident. -/
def State.namedPack (s : State) (c : Cmd) : Option Pack := if h : openPack c < 24 then s.pack[openPack c]'h else none

/-- The stream that a STREAM_OPEN opens: the one named, or with 0xFF the lowest free id. -/
def State.openTarget (s : State) (c : Cmd) : Option (Fin 16) :=
  if c.stream = 255 then (List.finRange 16).find? fun i => decide ((s.stream[i]).state = .closed) else some c.sid

/-- A stream opened (R281, R350): its fields, its state object, its routing, its map; OPEN. Pages not yet returned of the stream before
it still count. -/
def openStream (i : Fin 16) (c : Cmd) (p : Pack) (s : State) : State :=
  let (o, s) := makeObj (stateTiles (packState p)) 3 false 0 0 false (some i) none s
  let idle := fld (c.w 3) 16 16
  let s := setStream i (fun t => { ({} : Stream) with
    held := t.held, lost := t.lost, zdw := BitVec.ofNat 24 s.zdWord, kind := BitVec.ofNat 2 (fld (c.w 2) 0 2), seat := openSeat c, incr := bit (c.w 2) 4
    lang := BitVec.ofNat 16 (fld (c.w 2) 16 16), zones := BitVec.ofNat 8 (fld (c.w 3) 0 8), atten := BitVec.ofNat 8 (fld (c.w 3) 8 8)
    idle100 := BitVec.ofNat 16 (if idle = 0 then 20 else idle), seed := c.w 4, pack := ⟨openPack c % 32, Nat.mod_lt _ (by decide)⟩
    graph := openGraph c, obj := some o.id, pitch := BitVec.ofNat 9 (packPitch p), idleAt := s.clk.tempo }) s
  rewriteMap i (toState i .opened s)

/-- STREAM_OPEN (Table 19.6, R350; 20_streams.md R373). -/
def execStreamOpen (s : State) : Out :=
  hostRow 0x22 (fun c s =>
    let kind := fld (c.w 2) 0 2
    let p := s.namedPack c
    let tiles := match p with | some p => stateTiles (packState p) | none => 0
    runCmd c [scopeT s c true, resv c [(2, 0xFFFF001F), (3, -1), (4, -1), (5, 0x71F)],
        bad (decide (kind = 3) || decide (600 < fld (c.w 3) 16 16)) 3]
      pass (conflict (decide (c.stream ≠ 255) && decide ((s.stream[c.sid]).state ≠ .closed)) (s.stream[c.sid]).state.code)
      [bad ((decide (kind = 2) && decide (fld (c.w 3) 0 8 ≠ 0)) || (decide (kind = 1) && decide (fld (c.w 2) 2 2 ≠ 0))) 8,
        bad (!p.any fun p => s.carries p kind (openSeat c) (fld (c.w 2) 16 16)) 6,
        refuse (p.any fun p => s.expired p.expiry) 0x1A,
        bad (decide ((s.grid.graph[openGraph c]).state = .empty)) 7,
        refuse (s.openTarget c).isNone 0x13,
        refuse (!s.objFits tiles 3) 0x13]
      (fun s =>
        match s.openTarget c, p with
        | some i, some p => reply c 0 (res1 (wd i.1)) (openStream i c p s)
        | _, _ => s) s) s

/-- The states in which a queued command is legal (20_streams.md Table 20.3). -/
def streamLegal (op : Nat) (st : StreamState) : Bool :=
  match op, st with
  | 0x23, .opened | 0x23, .faulted => true
  | 0x24, .listening | 0x24, .active => true
  | 0x25, .paused => true
  | 0x26, .listening | 0x26, .active => true
  | 0x29, .opened | 0x29, .listening | 0x29, .paused => true
  | 0x2B, .listening | 0x2B, .active => true
  | _, _ => false

/-- The legal-state check of a queued command (Table 20.3, R345). -/
def State.streamCheck (s : State) (c : Cmd) : Check :=
  conflict (!streamLegal c.op (s.stream[c.sid]).state) (s.stream[c.sid]).state.code

/-- A stream that shedding keeps from starting (24_power.md R426). -/
def State.shedKeeps (s : State) (c : Cmd) : Check := refuse (s.pwr.shed && (s.stream[c.sid]).sheddable) 0x13

/-- A stream starts or resumes: LISTENING, its gates open through the tacet gate (05_audio_sync.md R110). -/
def listen (i : Fin 16) (s : State) : State :=
  reportZones (syncStopped (toState i .listening (setStream i (fun t => { t with idleAt := s.clk.tempo, pausing := false }) s)))

/-- The taint of a stream cleared (16_unison.md R294). -/
def untaint (i : Fin 16) (s : State) : State := { s with grid := { s.grid with taint := setBit s.grid.taint i.1 false } }

/-- STREAM_START as it runs. -/
def runStart (c : Cmd) (s : State) : State :=
  runCmd c [scopeT s c false, resv c []] (heldSafe s) (s.streamCheck c) [s.shedKeeps c] (fun s => replyOk c (untaint c.sid (listen c.sid s))) s

/-- STREAM_PAUSE as it runs: the pause takes effect at the stream's next pitch boundary (15_recurrence.md R286). -/
def runPause (c : Cmd) (s : State) : State :=
  runCmd c [scopeT s c false, resv c []] pass (s.streamCheck c) []
    (fun s => settlePauses (askPause c.sid (waitCommit c (.pitch c.sid) res0 s))) s

/-- STREAM_RESUME as it runs. -/
def runResume (c : Cmd) (s : State) : State :=
  runCmd c [scopeT s c false, resv c []] (heldSafe s) (s.streamCheck c) [s.shedKeeps c] (fun s => replyOk c (listen c.sid s)) s

/-- The input that a draining stream still finishes (20_streams.md Tables 20.1, 20.2): the phrase or text in progress of an ACTIVE stream;
what waits behind it is discarded (log entry 43). -/
def Stream.drain (t : Stream) : Stream :=
  let n := if t.state = .active then 1 else 0
  { t with
    pausing := false, texts := t.texts.take n, inputs := min n t.inputs, inVad := t.inVad && decide (t.inputs ≤ n)
    vadEnds := t.vadEnds.take n }

/-- STREAM_DRAIN as it runs: with no phrase in progress, OPEN at once. -/
def runDrain (c : Cmd) (s : State) : State :=
  runCmd c [scopeT s c false, resv c []] pass (s.streamCheck c) []
    (fun s =>
      let s := toState c.sid .draining (setStream c.sid Stream.drain s)
      let t := s.stream[c.sid]
      let s := if t.inputs = 0 && t.texts.isEmpty then toState c.sid .opened s else s
      replyOk c (reportZones (syncStopped (finishWaits (fun w => decide (w.on = .pitch c.sid))
        (fun _ => (0x12, res1 (wd (s.stream[c.sid]).state.code))) s)))) s

/-- STREAM_START (R349). -/
def execStreamStart (s : State) : Out := hostRow 0x23 runStart s
/-- STREAM_PAUSE (R349). -/
def execStreamPause (s : State) : Out := hostRow 0x24 runPause s
/-- STREAM_RESUME (R349). -/
def execStreamResume (s : State) : Out := hostRow 0x25 runResume s
/-- STREAM_DRAIN (R349). -/
def execStreamDrain (s : State) : Out := hostRow 0x26 runDrain s

/-- STREAM_CLOSE (R349, R343). -/
def execStreamClose (s : State) : Out :=
  hostRow 0x27 (fun c s =>
    runCmd c [scopeT s c false, resv c []] pass (conflict (decide ((s.stream[c.sid]).state = .closed)) 0) []
      (fun s => replyOk c (closeStream c.sid s)) s) s

/-! ### Prefixes (14_attention_kv.md R271..R273) -/

/-- The token page that a command names in w3, w4. -/
def tokenAddr (c : Cmd) : Nat := (c.w 3).toNat + fld (c.w 4) 0 8 * 2 ^ 32

/-- The token page's bytes, where an object holds it and it can be read. -/
def State.tokenPage (s : State) (c : Cmd) : Option (List Byte) := s.uBytes (tokenAddr c) 4096

/-- What PREFIX_DEFINE finds wrong with a token page: its place, its COUNT (log entry 40). -/
def pageChecks (s : State) (c : Cmd) : List Check :=
  [bad (s.tokenPage c).isNone 5,
    bad ((s.tokenPage c).any fun b => decide (fld (wordOf (b.take 4)) 0 10 = 0)) 3]

/-- PREFIX_DEFINE (R271). -/
def execPrefixDefine (s : State) : Out :=
  hostRow 0x28 (fun c s =>
    let h := BitVec.ofNat 8 (fld (c.w 2) 0 8)
    runCmd c [scopeN s c, resv c [(2, 0xFF), (3, -1), (4, 0xFF)], bad (decide (h = 0)) 3, bad (decide (tokenAddr c % 4096 ≠ 0)) 4]
      pass (conflict (s.prefixOf h).isSome 1) (pageChecks s c)
      (fun s =>
        let (st, s) := definePrefix h ((s.tokenPage c).getD []) s
        reply c st res0 s) s) s

/-- A context attached, or its refusal (R272); the taint of the stream clears (16_unison.md R294). -/
def attachReply (c : Cmd) (p : Option Prefix) (s back : State) : State :=
  match attachPrefix c.sid p s with
  | some s => replyOk c (untaint c.sid s)
  | none => reply c 0x13 res0 back

/-- PREFIX_ATTACH as it runs (R272, R273): REBUILD defines an absent prefix from its token page first; what fails leaves the prefixes and
the stream as they were. -/
def runAttach (c : Cmd) (s : State) : State :=
  let h := BitVec.ofNat 8 (fld (c.w 2) 0 8)
  let absent := decide (h ≠ 0) && (s.prefixOf h).isNone
  let rebuild := absent && c.flag 10 && decide (tokenAddr c ≠ 0)
  runCmd c [scopeT s c false, resv c [(2, 0xFF), (3, -1), (4, 0xFF)], bad (c.flag 10 && decide (tokenAddr c % 4096 ≠ 0)) 4]
    pass (s.streamCheck c) (if rebuild then pageChecks s c else [refuse absent 0x17])
    (fun s =>
      if rebuild then
        match definePrefix h ((s.tokenPage c).getD []) s with
        | (st, s') => if st = 0 then attachReply c (s'.prefixOf h) s' s else reply c st res0 s
      else attachReply c (if h = 0 then none else s.prefixOf h) s s) s

/-- PREFIX_ATTACH (R272, R273). -/
def execPrefixAttach (s : State) : Out := hostRow 0x29 runAttach s

/-- PREFIX_RELEASE (R273). -/
def execPrefixRelease (s : State) : Out :=
  hostRow 0x2A (fun c s =>
    let h := BitVec.ofNat 8 (fld (c.w 2) 0 8)
    runCmd c [scopeN s c, resv c [(2, 0xFF)]] pass pass [refuse (s.prefixOf h).isNone 0x17]
      (fun s => replyOk c (releasePrefix h s)) s) s

/-! ### Texts -/

/-- The SEG_ID of a text to be spoken: no rule states its value; a free word that is not the SEG_ID of a text that waits or of an open
segment of the stream (18_rings.md R335; log entry 2). -/
def chooseSeg (t : Stream) (s : State) : Word × State :=
  let (k, s) := s.pick (2 ^ 32)
  let used := t.texts.map (·.2.2) ++ t.openSegs
  ((((List.range (used.length + 1)).map fun j => wd (k + j)).find? fun x => !used.contains x).getD (wd k), s)

/-- TEXT_SUBMIT as it runs (R349; 14_attention_kv.md R270): the text waits for synthesis; it restores parked state (15_recurrence.md R284)
and may wake the device (24_power.md R420). -/
def runText (c : Cmd) (s : State) : State :=
  let i := c.sid
  let n := fld (c.w 2) 0 13
  let t := s.stream[i]
  runCmd c [scopeT s c false, resv c [(2, 0x1FFF), (3, -1), (4, 0xFF)],
      bad (decide (n = 0) || decide (4096 < n) || decide (2 ^ 40 < tokenAddr c + n)) 3]
    (heldSafe s) (s.streamCheck c)
    [bad (decide (t.kind ≠ 1)) 8, refuse (decide (8 ≤ t.texts.length)) 0x13, refuse ((s.kv i).full || decide (4096 ≤ (s.kv i).length)) 0x18]
    (fun s =>
      let (id, s) := chooseSeg t s
      let s := setStream i (fun t => { t with texts := t.texts ++ [(BitVec.ofNat 40 (tokenAddr c), n, id)] }) s
      reply c 0 (res1 id) (autoWake (restoreState i s))) s

/-- TEXT_SUBMIT (R349). -/
def execTextSubmit (s : State) : Out := hostRow 0x2B runText s

/-! ### Deferred commands (18_rings.md R325, 19_commands.md R343) -/

/-- The command of a queueable opcode as it runs. -/
def runQueued (c : Cmd) (s : State) : State :=
  match c.op with
  | 0x23 => runStart c s
  | 0x24 => runPause c s
  | 0x25 => runResume c s
  | 0x26 => runDrain c s
  | 0x29 => runAttach c s
  | 0x2B => runText c s
  | _ => s

/-- DEFERRED_EXECUTE (R343): the k-th command that waits, a deferred one whose state has become legal. -/
def execDeferredExecute (k : Nat) (s : State) : Out :=
  match s.hif.waits[k]? with
  | none => .next s
  | some w => act s (s.sterdo && decide (w.on = .deferred) && streamLegal w.cmd.op (s.stream[w.cmd.sid]).state)
      (runQueued w.cmd (setHif (fun h => { h with waits := h.waits.eraseIdx k }) s))

/-- DEFERRED_TIMEOUT (R325): 10 s have passed. -/
def execDeferredTimeout (k : Nat) (s : State) : Out :=
  match s.hif.waits[k]? with
  | none => .next s
  | some w => act s (s.sterdo && decide (w.on = .deferred) && decide (w.deadline ≤ s.clk.tempo))
      (reply w.cmd 0x12 (res1 (wd (s.stream[w.cmd.sid]).state.code)) (setHif (fun h => { h with waits := h.waits.eraseIdx k }) s))

end Sys2Proof.Machine
end

