-- ==== Sys2Proof/Machine/CoreScalar.lean ====
section
/-! DEFINITION. The scalar group and the system group of a grid core (09_core_isa.md R175, Table 9.3; R188, Table 9.8). -/

namespace Sys2Proof.Machine

/-! ### Arithmetic -/

/-- Division of Table 9.3 with the corners of R175: signed quotient. -/
def sdiv (a b : Word) : Word := if b = 0 then 0xFFFFFFFF else BitVec.ofInt 32 (a.toInt.tdiv b.toInt)
/-- Signed remainder. -/
def srem (a b : Word) : Word := if b = 0 then a else BitVec.ofInt 32 (a.toInt.tmod b.toInt)
/-- Unsigned quotient. -/
def udiv (a b : Word) : Word := if b = 0 then 0xFFFFFFFF else wd (a.toNat / b.toNat)
/-- Unsigned remainder. -/
def urem (a b : Word) : Word := if b = 0 then a else wd (a.toNat % b.toNat)

/-- A shift: 0 SLL, 1 SRL, 2 SRA, by the low 5 bits (R175). -/
def shiftOp (k : Nat) (a : Word) (n : Nat) : Word :=
  match k with
  | 0 => a <<< (n % 32)
  | 1 => a >>> (n % 32)
  | _ => a.sshiftRight (n % 32)

/-- ALU by FN; none for a reserved FN. MIN and MAX are signed (log entry 28). -/
def aluOp (fn : Nat) (a b : Word) : Option Word :=
  match fn with
  | 0x00 => some (a + b)
  | 0x01 => some (a - b)
  | 0x02 => some (a &&& b)
  | 0x03 => some (a ||| b)
  | 0x04 => some (a ^^^ b)
  | 0x05 => some (shiftOp 0 a b.toNat)
  | 0x06 => some (shiftOp 1 a b.toNat)
  | 0x07 => some (shiftOp 2 a b.toNat)
  | 0x08 => some (a * b)
  | 0x09 => some (BitVec.ofInt 32 (a.toInt * b.toInt / 2 ^ 32))
  | 0x0A => some (wd (a.toNat * b.toNat / 2 ^ 32))
  | 0x0B => some (sdiv a b)
  | 0x0C => some (udiv a b)
  | 0x0D => some (srem a b)
  | 0x0E => some (urem a b)
  | 0x0F => some (if a.toInt ≤ b.toInt then a else b)
  | 0x10 => some (if a.toInt ≤ b.toInt then b else a)
  | _ => none

/-- ALU (R175). -/
def execAlu (n : Fin 288) (w : BitVec 26) (s : State) : Out :=
  coreRow n 0x00 w true s fun s =>
    whenFree n [fRd w, fRs1 w, fRs2 w] s fun c =>
      match aluOp (fFn w) (c.getG (fRs1 w)) (c.getG (fRs2 w)) with
      | some x => retire n (fun c => c.setG (fRd w) x) s
      | none => illegal n s

/-- A register and the sign-extended immediate combined (Table 9.3, 0x01..0x04). -/
def immOp (n : Fin 288) (w : BitVec 26) (f : Word → Word → Word) (s : State) : Option State :=
  whenFree n [fRd w, fRs1 w] s fun c =>
    retire n (fun c' => c'.setG (fRd w) (f (c.getG (fRs1 w)) (BitVec.ofInt 32 (fImm w)))) s

/-- ADDI (R175). -/
def execAddi (n : Fin 288) (w : BitVec 26) (s : State) : Out := coreRow n 0x01 w true s (immOp n w (· + ·))
/-- ANDI (R175). -/
def execAndi (n : Fin 288) (w : BitVec 26) (s : State) : Out := coreRow n 0x02 w true s (immOp n w (· &&& ·))
/-- ORI (R175). -/
def execOri (n : Fin 288) (w : BitVec 26) (s : State) : Out := coreRow n 0x03 w true s (immOp n w (· ||| ·))
/-- XORI (R175). -/
def execXori (n : Fin 288) (w : BitVec 26) (s : State) : Out := coreRow n 0x04 w true s (immOp n w (· ^^^ ·))

/-- SHI (R175): IMM [12:11] names the shift, 3 is reserved. -/
def execShi (n : Fin 288) (w : BitVec 26) (s : State) : Out :=
  coreRow n 0x05 w true s fun s =>
    whenFree n [fRd w, fRs1 w] s fun c =>
      if fld w 11 2 = 3 then illegal n s
      else retire n (fun c' => c'.setG (fRd w) (shiftOp (fld w 11 2) (c.getG (fRs1 w)) (fld w 0 5))) s

/-- LUI (R175). -/
def execLui (n : Fin 288) (w : BitVec 26) (s : State) : Out :=
  coreRow n 0x06 w true s fun s =>
    whenFree n [fRd w] s fun _ => retire n (fun c => c.setG (fRd w) (wd (fImmU w * 2 ^ 14))) s

/-- CMP (R175). -/
def execCmp (n : Fin 288) (w : BitVec 26) (s : State) : Out :=
  coreRow n 0x07 w true s fun s =>
    whenFree n [fRs1 w, fRs2 w] s fun c =>
      if 6 ≤ fFn w then illegal n s
      else retire n (fun c' => c'.setP (fRd w) (cmpFlag (fFn w) (c.getG (fRs1 w)) (c.getG (fRs2 w)))) s

/-- The address of LD and ST. -/
def ldAddr (c : Core) (w : BitVec 26) : Word := c.getG (fRs1 w) + BitVec.ofInt 32 (fImm w)

/-- LD (R175, R152). -/
def execLd (n : Fin 288) (w : BitVec 26) (ecc : Ecc) (s : State) : Out :=
  coreRow n 0x08 w true s fun s =>
    let c := s.core n
    if !c.free [fRd w, fRs1 w] then none
    else
      let a := ldAddr c w
      localAccess n a 4 4 s fun s =>
        if c.readWaits a.toNat 4 then none
        else if ecc = .uncorrectable then some (raise n xEcc a (sramEcc n a.toNat ecc s))
        else some (retire n (fun c => c.setG (fRd w) (wordOf (c.home.readN a.toNat 4))) (sramEcc n a.toNat ecc s))

/-- ST (R175). -/
def execSt (n : Fin 288) (w : BitVec 26) (s : State) : Out :=
  coreRow n 0x09 w true s fun s =>
    let c := s.core n
    if !c.free [fRd w, fRs1 w] then none
    else
      let a := ldAddr c w
      localAccess n a 4 4 s fun s =>
        if c.writeWaits a.toNat 4 then none
        else some (retire n (fun c => { c with home := c.home.writeN a.toNat (bytesOf (c.getG (fRd w))) }) s)

/-! ### Branches -/

/-- A jump to a byte offset (R175): outside the loaded code IMEM_RANGE, else ALIGN for an offset that is no multiple of 4. -/
def jump (n : Fin 288) (t : Int) (f : Core → Core) (s : State) : State :=
  let c := s.core n
  if t < 0 || (c.codeBytes : Int) ≤ t then raise n xRange (BitVec.ofInt 32 t) s
  else if t % 4 ≠ 0 then raise n xAlign (BitVec.ofInt 32 t) s
  else setCore n (fun c => { f c with pc := BitVec.ofInt 32 t }) s

/-- The target of BR and BL. -/
def brTarget (c : Core) (w : BitVec 26) : Int := (c.pc.toNat : Int) + 4 * fOffB w

/-- BR (R175). -/
def execBr (n : Fin 288) (w : BitVec 26) (s : State) : Out :=
  coreRow n 0x0A w true s fun s => some (jump n (brTarget (s.core n) w) id s)

/-- BL (R175): g31 takes the return offset. -/
def execBl (n : Fin 288) (w : BitVec 26) (s : State) : Out :=
  coreRow n 0x0B w true s fun s =>
    whenFree n [31] s fun c => jump n (brTarget c w) (fun x => x.setG 31 (c.pc + 4)) s

/-- JR (R175). -/
def execJr (n : Fin 288) (w : BitVec 26) (s : State) : Out :=
  coreRow n 0x0C w true s fun s =>
    whenFree n [fRs1 w] s fun c => jump n ((c.getG (fRs1 w)).toNat : Int) id s

/-- PRED (R175); p7 waits for an AMO. -/
def execPred (n : Fin 288) (w : BitVec 26) (s : State) : Out :=
  coreRow n 0x0D w true s fun s =>
    let c := s.core n
    let ps := [fRd w % 8, fRs1 w % 8, fRs2 w % 8]
    if c.pBusy && ps.contains 7 then none
    else if 4 ≤ fFn w then some (illegal n s)
    else some (retire n (fun c => c.setP (fRd w) (predFlag (fFn w) (c.getP (fRs1 w)) (c.getP (fRs2 w)))) s)

/-! ### Synchronisation and system (Table 9.8) -/

/-- FENCE (R188): waits until every earlier tile, remote and message instruction has completed. -/
def execFence (n : Fin 288) (w : BitVec 26) (s : State) : Out :=
  coreRow n 0x30 w true s fun s =>
    let c := s.core n
    if c.tq.isEmpty && decide (c.gBusy = 0) && !c.pBusy && c.mc.isEmpty then some (coreNext n s) else none

/-- WAITT (R188): waits until at most IMM tile instructions are outstanding. -/
def execWaitt (n : Fin 288) (w : BitVec 26) (s : State) : Out :=
  coreRow n 0x31 w true s fun s => if ((s.core n).tq.length : Int) ≤ fImm w then some (coreNext n s) else none

/-- A mailbox of the mask holds a message. -/
def Core.hasMail (c : Core) (mask : Word) : Bool := (ixs c.box).any fun (i, b) => bit mask i.1 && !b.isEmpty

/-- A mailbox outside the core's MBOX_MASK that a mask names (R183): the lowest. -/
def Core.strayBox (c : Core) (mask : Word) : Option Nat := (List.range 8).find? fun i => bit mask i && !bit c.mbox i

/-- WAITM (R188): with a message the predicate reads 1; without one the wait begins and WAITM_TIMEOUT may end it. -/
def execWaitm (n : Fin 288) (w : BitVec 26) (s : State) : Out :=
  coreRow n 0x32 w true s fun s =>
    let c := s.core n
    if !c.free [fRs1 w, fRs2 w] || (c.pBusy && decide (fRd w % 8 = 7)) then none
    else match c.strayBox (c.getG (fRs1 w)) with
    | some i => some (raise n xMailbox (wd i) s)
    | none =>
      if c.hasMail (c.getG (fRs1 w)) then some (retire n (fun c => { c.setP (fRd w) true with waitSince := none }) s)
      else some (setCore n (fun c => { c with waitSince := some (c.waitSince.getD s.clk.tempo) }) s)

/-- WAITM_TIMEOUT (R188): the limit has passed and no message is present. -/
def execWaitmTimeout (n : Fin 288) (s : State) : Out :=
  let c := s.core n
  let w : BitVec 26 := BitVec.ofNat 26 (s.fetch n)
  let lim := (c.getG (fRs2 w)).toNat
  match c.waitSince with
  | none => .next s
  | some t => act s (s.coreRuns n && decide (lim ≠ 0) && decide (t + lim ≤ s.clk.tempo) && !c.hasMail (c.getG (fRs1 w)))
      (retire n (fun c => { c.setP (fRd w) false with waitSince := none }) s)

/-- RDTMP (R189): one sample of Tempo in a register pair. -/
def execRdtmp (n : Fin 288) (w : BitVec 26) (s : State) : Out :=
  coreRow n 0x33 w true s fun s =>
    if fRd w % 2 = 1 then some (illegal n s)
    else whenFree n [fRd w, fRd w + 1] s fun _ =>
      retire n (fun c => (c.setG (fRd w) (lo s.now)).setG (fRd w + 1) (hi s.now)) s

/-- RDPACE (R189): the measured pace at the present VCORE and temperature, a free function of both (log entry 12). -/
def execRdpace (n : Fin 288) (w : BitVec 26) (s : State) : Out :=
  coreRow n 0x34 w true s fun s =>
    whenFree n [fRd w] s fun _ => retire n (fun c => c.setG (fRd w) (wd (Config.pace n.1 s.pwr.measMv s.pwr.tj))) s

/-- HALT (R191): the core stops without fault. -/
def execHalt (n : Fin 288) (w : BitVec 26) (s : State) : Out :=
  coreRow n 0x36 w (fFn w == 0) s fun s => some (setCore n (fun c => { c with run := .halted }) s)

/-- SETX (R188). -/
def execSetx (n : Fin 288) (w : BitVec 26) (s : State) : Out :=
  coreRow n 0x36 w (fFn w == 1) s fun s =>
    whenFree n [fRs1 w] s fun _ => retire n (fun c => { c with evec := c.getG (fRs1 w) }) s

/-- XRET (R192): execution resumes at XPC + 4, and the handler is left. -/
def execXret (n : Fin 288) (w : BitVec 26) (s : State) : Out :=
  coreRow n 0x36 w (fFn w == 2) s fun s =>
    some (jump n (((s.core n).xpc.toNat : Int) + 4) (fun c => { c with handler := false }) s)

/-- RDX (R188): XPC, XCAUSE or XINFO; no rule states what another selector reads (log entry 2). -/
def execRdx (n : Fin 288) (w : BitVec 26) (s : State) : Out :=
  coreRow n 0x36 w (fFn w == 3) s fun s =>
    whenFree n [fRd w, fRs1 w] s fun c =>
      match (c.getG (fRs1 w)).toNat with
      | 0 => retire n (fun x => x.setG (fRd w) c.xpc) s
      | 1 => retire n (fun x => x.setG (fRd w) c.xcause) s
      | 2 => retire n (fun x => x.setG (fRd w) c.xinfo) s
      | _ => let (x, s) := s.pick (2 ^ 32); retire n (fun c => c.setG (fRd w) (wd x)) s

/-- Opcodes of a word that no instruction has (R173, R175, R176, R181). -/
def reservedOp (op fn : Nat) : Bool :=
  op == 0x0E || op == 0x0F || (decide (0x25 ≤ op) && decide (op ≤ 0x27)) || op == 0x2B || op == 0x2E || op == 0x2F
    || decide (0x38 ≤ op) || (op == 0x36 && decide (4 ≤ fn))

/-- CORE_NOP (R188). The row also carries the words no other row has: a reserved opcode or SYS FN raises ILLEGAL (R173), and an
uncorrectable error of the fetch raises ECC at the fetched offset (R192; log entry 29). -/
def execCoreNop (n : Fin 288) (w : BitVec 26) (fetchError : Bool) (s : State) : Out :=
  let word := s.fetch n
  let op := word / 2 ^ 26
  act s (s.coreRuns n && (fetchError || (decide (word % 2 ^ 26 = w.toNat) && (op == 0x37 || reservedOp op (fFn w)))))
    (let c := s.core n
     if fetchError then raise n xEcc c.pc s
     else if c.pBusy && decide (fPg w = 7) then s
     else if !c.getP (fPg w) || op == 0x37 then coreNext n s
     else illegal n s)

end Sys2Proof.Machine
end

