-- ==== Sys2Proof/Machine/Debug.lean ====
section
/-! DEFINITION. The trace port, the TAP and the debug access port (25_observation.md R433..R436). -/

namespace Sys2Proof.Machine

/-- The nibbles of a record (R433): 0xA, 0x5, its type, its bytes low nibble first. -/
def traceNibbles (kind : Nat) (ws : List Word) : List Nat :=
  [0xA, 0x5, kind] ++ (bytesOfWords ws).flatMap fun b => [b.toNat % 16, b.toNat / 16]

/-- TRACE_PORT_RECORD (R433, R434): the oldest record of the queue is sent. -/
def execTracePortRecord (s : State) : Out :=
  match s.dbg.trQueue with
  | [] => .next s
  | (kind, ws) :: more =>
    act s (s.dbg.trEn && decide (s.debugLevel ≠ 0)) { s with dbg := { s.dbg with trQueue := more, trOut := traceNibbles kind ws } }

/-- A TAP instruction made current (R435, R436): a session ends when the instruction changes. -/
def setTap (t : Tap) (s : State) : State :=
  let s := if s.dbg.tap = t then s else endDap s
  { s with dbg := { s.dbg with tap := t } }

/-- TAP_RESET (R435, R436): IDCODE is selected and a session ends. -/
def execTapReset (s : State) : Out := act s true (setTap .idcode (endDap s))
/-- BYPASS. -/
def execBypass (s : State) : Out := act s true (setTap .bypass s)
/-- IDCODE. -/
def execIdcode (s : State) : Out := act s true (setTap .idcode s)
/-- SAMPLE/PRELOAD: the cells preloaded. -/
def execSamplePreload (cells : List Bool) (s : State) : Out :=
  act s true (let s := setTap .sample s
              { s with dbg := { s.dbg with cells := cells } })
/-- EXTEST; acts as BYPASS where it is not available. -/
def execExtest (s : State) : Out := act s true (setTap (if s.scanFree then .extest else .bypass) s)
/-- CLAMP; acts as BYPASS where it is not available. -/
def execClamp (s : State) : Out := act s true (setTap (if s.scanFree then .clamp else .bypass) s)

/-- DAP (R436): opens a session where DEBUG permits, else acts as BYPASS. -/
def execDap (s : State) : Out :=
  act s true
    (if s.debugLevel = 0 then setTap .bypass s
     else if s.dbg.tap = .dap then s
     else
      let s := setTap .dap s
      logEvent 0x13 12 1 (wd s.debugLevel) { s with dbg := { s.dbg with session := true, result := (0, 0) } })

/-- What a scan shifts out: a status in bits 75..72 and data in 31..0 (R436). -/
def shiftOut (st : BitVec 4) (w : Word) (s : State) : State :=
  { s with dbg := { s.dbg with shifted := st ++ (w.setWidth 72 : BitVec 72) } }

/-- A scan (R436): it shifts out the previous result and issues its command; BUSY while the previous access runs, DENIED once the
session has ended. -/
def dapScan (busy : Bool) (f : State → State) (s : State) : Out :=
  act s (decide (s.dbg.tap = .dap))
    (if !s.dbg.session then shiftOut 1 0 s
     else if busy || s.dbg.busy.isSome then shiftOut 2 0 s
     else f (shiftOut s.dbg.result.1 s.dbg.result.2 s))

/-- An access issued: counted (Table 25.4 ACCESSES). -/
def dapIssue (s : State) : State := { s with dbg := { s.dbg with accesses := satAdd s.dbg.accesses 1 } }

/-- The 4-byte-aligned address of an access; its low two bits are not used (log entry 36). -/
def dapAddr (a : BitVec 40) : Nat := a.toNat / 4 * 4

/-- DAP_NOP. -/
def execDapNop (busy : Bool) (s : State) : Out := dapScan busy (dapResult 0 0) s

/-- DAP_REG_RD. -/
def execDapRegRd (a : BitVec 40) (busy : Bool) (s : State) : Out :=
  dapScan busy (fun s =>
    let (w, s) := fullRead .dap (dapAddr a) (dapIssue s)
    dapResult 0 w s) s

/-- DAP_REG_WR: needs DEBUG = OPEN. -/
def execDapRegWr (a : BitVec 40) (v : Word) (busy : Bool) (s : State) : Out :=
  dapScan busy (fun s =>
    if s.debugLevel = 2 then dapResult 0 0 (fullWrite .dap (dapAddr a) v (dapIssue s)) else dapResult 1 0 s) s

/-- A U-space access of the debug access port in class DEBUG (R436): it runs until its reply; one that the window rules forbid reads zero and
writes nothing, as the host's (21_guard.md R381). -/
def dapU (a : Nat) (write : Bool) (b : List Byte) (s : State) : State :=
  let id := s.hif.bar2Ctr
  let t := a / 4096
  let p := if write then bridgeWr 3 t (a % 4096) b else bridgeRd 3 t
  bridgeU t write (.dap id (a % 4096) write) p
    (fun s => dapResult 0 0 { s with dbg := { s.dbg with busy := none } }) (nextBar2 { s with dbg := { s.dbg with busy := some id } })

/-- DAP_U_RD (21_guard.md R381): under the window rules, as the host. -/
def execDapURd (a : BitVec 40) (busy : Bool) (s : State) : Out :=
  dapScan busy (fun s => dapU (dapAddr a) false [] (dapIssue s)) s

/-- DAP_U_WR: needs DEBUG = OPEN, and follows the window rules. -/
def execDapUWr (a : BitVec 40) (v : Word) (busy : Bool) (s : State) : Out :=
  dapScan busy (fun s => if s.debugLevel = 2 then dapU (dapAddr a) true (bytesOf v) (dapIssue s) else dapResult 1 0 s) s

end Sys2Proof.Machine
end

