-- ==== Sys2Proof/Machine/Timeouts.lean ====
section
/-! DEFINITION. CONFIG_COMMIT_TIMEOUT (18_rings.md R330, 19_commands.md R345): the command replies CONFIG_BUSY and what it staged is
taken back. -/

namespace Sys2Proof.Machine

/-- A wait that CONFIG_COMMIT_TIMEOUT ends (R330). A mode change is given up only while it waits for the boundaries of its graphs
(24_power.md R419). -/
def Wait.commits (on : Wait) (s : State) : Bool :=
  match on with
  | .ports _ => true
  | .hop => true
  | .cabin => true
  | .pitch _ => true
  | .switch _ => true
  | .stop _ => true
  | .unison => true
  | .mode m => decide (s.pwr.target = some m) && decide (s.pwr.mode = 3) && decide (m ≠ 3) && !s.graphsStill
      && s.grid.graph.toList.all fun x => !x.rowsDown
  | _ => false

/-- Another command with an opcode waits for the same thing. -/
def State.alsoWaits (s : State) (on : Wait) (op : Nat) : Bool := s.hif.waits.any fun w => decide (w.on = on) && decide (w.cmd.op = op)

/-- The cores of a graph that paused for a boundary go on when nothing waits for it any longer. -/
def unpause (g : Fin 8) (s : State) : State :=
  if s.boundaryDue g || (s.grid.graph[g]).rowsDown then s else resumeCores g s

/-- The same for every graph. -/
def unpauseAll (s : State) : State := (List.finRange 8).foldl (fun s g => unpause g s) s

/-- What a command staged for its ports taken back (04_audio_ports.md R91): a port that has not committed it keeps the old map, one that has
goes back to it at its next boundary, with an epoch step (R89; log entry 16). -/
def undoPorts (c : Cmd) (s : State) : State :=
  let s := match c.op with
    | 0x30 => setSap (cPort c) (fun x => { x with
        maskSt := if bit (c.w 2) 9 then none else x.maskSt, blockSt := if bit (c.w 2) 10 then none else x.blockSt
        syncCfgSt := if bit (c.w 2) 11 then none else x.syncCfgSt }) s
    | 0x33 =>
      let z := cPort c
      match (s.zone[z]).memSt with
      | some (m, due) =>
        let old := (s.zone[z]).mem
        let on := fun (p : Fin 8) => (old.toList ++ m.toList).any fun w => memValid w && decide (memPort w = p)
        let took := s.runPorts ((List.finRange 8).foldl (fun (d : BitVec 8) p => setBit d p.1 (on p)) 0) &&& ~~~due
        { s with zone := modAt s.zone z fun x => if took = 0 then { x with memSt := none } else { x with mem := m, memSt := some (old, took) } }
      | none => s
    | 0x34 =>
      let t := s.stream[c.sid]
      match t.zonesSt with
      | some (m, due, a) =>
        let took := s.runPorts (s.zonePorts (t.zones ||| m)) &&& ~~~due
        setStream c.sid (fun t => if took = 0 then { t with zonesSt := none } else { t with zones := m, atten := a, zonesSt := some (t.zones, took, t.atten) }) s
      | none => s
    | 0x35 => { s with zone := mapV s.zone (fun z x =>
        if bit (c.w 2) z.1 && decide (x.muteDue ≠ 0) then
          { x with hmute := !x.hmute, muteDue := s.runPorts (s.zonePorts (setBit 0 z.1 true)) &&& ~~~x.muteDue } else x) }
    | _ => s
  reportZones (wakeShadow s)

/-- The SEAT_MAPs that still wait, laid over each other in order. -/
def State.stagedSeats (s : State) : Option (Vector Word 16) :=
  (s.hif.waits.filter fun w => decide (w.on = .hop) && decide (w.cmd.op = 0x43)).foldl (fun d w => some (mergeSeats w.cmd.desc d)) none

/-- A pause that only STREAM_PAUSE asked for is dropped; safe state and shedding keep theirs (20_streams.md Table 20.6, 24_power.md
R426). -/
def undoPause (i : Fin 16) (s : State) : State :=
  if s.safe || (s.pwr.shed && (s.stream[i]).sheddable) || s.hif.waits.any (fun w => decide (w.on = .pitch i)) then s
  else setStream i (fun t => { t with pausing := false }) s

/-- The mode stays (24_power.md R419): graphs, separation, RNC and gates go on. -/
def undoMode (s : State) : State :=
  let s := unpauseAll (setPwr (fun x => { x with target := none }) s)
  let s := syncStopped (rncResume { s with fe := { s.fe with sepPath := if s.fe.sepPath = 0 then s.sepPathNow else s.fe.sepPath } })
  lateWake (nextModes s)

/-- What a command staged, taken back. -/
def undoCommit (c : Cmd) (on : Wait) (s : State) : State :=
  match on with
  | .ports _ => undoPorts c s
  | .hop =>
    if c.op = 0x43 then { s with fe := { s.fe with seatSt := s.stagedSeats } }
    else if s.alsoWaits .hop c.op then s else { s with fe := { s.fe with cfgSt := none } }
  | .cabin => if s.alsoWaits .cabin c.op then s else { s with fe := { s.fe with rncSt := none } }
  | .pitch i => undoPause i s
  | .switch g =>
    if s.alsoWaits (.switch g) c.op then s
    else unpause g (setGraph g (fun x => if c.op = 0xA0 then { x with stagedImage := none } else { x with stagedPlan := none }) s)
  | .stop g => if s.alsoWaits (.stop g) c.op then s else unpause g (setGraph g (fun x => { x with stopping := false }) s)
  | .unison =>
    let s := unpauseAll { s with grid := { s.grid with uPending := none } }
    if s.pwr.target.isSome then s else lateWake (nextModes s)
  | .mode _ => undoMode s
  | _ => s

/-- COMMIT_TIMEOUT (R330): the k-th waiting command found no commit point in its time. -/
def execCommitTimeout (k : Nat) (s : State) : Out :=
  match s.hif.waits[k]? with
  | none => .next s
  | some w => act s (Wait.commits w.on s && decide (w.deadline ≤ s.clk.tempo))
      (undoCommit w.cmd w.on (reply w.cmd 0x14 res0 { s with hif := { s.hif with waits := s.hif.waits.eraseIdx k } }))

end Sys2Proof.Machine
end

