-- ==== Sys2Proof/Machine/Dispatch.lean ====
section
/-! DEFINITION. One arm per command: a direct call of its meaning. -/

namespace Sys2Proof.Machine

-- The effect of a command on everything but the queue.
def exec (i : Instr) (s : State) : Host.Outcome State Fault Refusal :=
  match i with
  | .powerOnReset st => Sys2Proof.Machine.execPowerOnReset st s
  | .porNLowPulse ns st => Sys2Proof.Machine.execPorNLowPulse ns st s
  | .railUndervoltage r => Sys2Proof.Machine.execRailUndervoltage r s
  | .railRecovered r st => Sys2Proof.Machine.execRailRecovered r st s
  | .supplyLoss => Sys2Proof.Machine.execSupplyLoss s
  | .vrtcFirstApply => Sys2Proof.Machine.execVrtcFirstApply s
  | .perstNAssert => Sys2Proof.Machine.execPerstNAssert s
  | .perstNDeassert => Sys2Proof.Machine.execPerstNDeassert s
  | .zmuteHoldPlace z => Sys2Proof.Machine.execZmuteHoldPlace z s
  | .zmuteHoldRelease z => Sys2Proof.Machine.execZmuteHoldRelease z s
  | .tempoLoss => Sys2Proof.Machine.execTempoLoss s
  | .tempoRelock outageUs => Sys2Proof.Machine.execTempoRelock outageUs s
  | .clockSafeClear => Sys2Proof.Machine.execClockSafeClear s
  | .xtal32kLoss => Sys2Proof.Machine.execXtal32kLoss s
  | .xtal32kResume => Sys2Proof.Machine.execXtal32kResume s
  | .safeOscFault => Sys2Proof.Machine.execSafeOscFault s
  | .safeOscRecover => Sys2Proof.Machine.execSafeOscRecover s
  | .atomicPairLoRead src pair => Sys2Proof.Machine.execAtomicPairLoRead src pair s
  | .captureEvent sel fall => Sys2Proof.Machine.execCaptureEvent sel fall s
  | .trig src n v => Sys2Proof.Machine.execTrig src n v s
  | .tmpCapHiRead src n => Sys2Proof.Machine.execTmpCapHiRead src n s
  | .tmpCmpLoWrite src n v => Sys2Proof.Machine.execTmpCmpLoWrite src n v s
  | .tmpCmpHiWrite src n hi lo => Sys2Proof.Machine.execTmpCmpHiWrite src n hi lo s
  | .compareArm src n v => Sys2Proof.Machine.execCompareArm src n v s
  | .compareMatch n => Sys2Proof.Machine.execCompareMatch n s
  | .rtcTick => Sys2Proof.Machine.execRtcTick s
  | .commit src v => Sys2Proof.Machine.execCommit src v s
  | .rtcCommitNoClock => Sys2Proof.Machine.execRtcCommitNoClock s
  | .alarmArm src v => Sys2Proof.Machine.execAlarmArm src v s
  | .intakeEpochEnd => Sys2Proof.Machine.execIntakeEpochEnd s
  | .sapFrame p edge ph slots => Sys2Proof.Machine.execSapFrame p edge ph slots s
  | .blockBoundary p => Sys2Proof.Machine.execBlockBoundary p s
  | .shadowCommitTimeout k => Sys2Proof.Machine.execShadowCommitTimeout k s
  | .cabinFrame speech rows missed => Sys2Proof.Machine.execCabinFrame speech rows missed s
  | .rateWindowEnd p edges spanNs phMin phMax => Sys2Proof.Machine.execRateWindowEnd p edges spanNs phMin phMax s
  | .clkLoss p => Sys2Proof.Machine.execClkLoss p s
  | .asrcLock p => Sys2Proof.Machine.execAsrcLock p s
  | .asrcUnlock p slips => Sys2Proof.Machine.execAsrcUnlock p slips s
  | .tacetTimeout e => Sys2Proof.Machine.execTacetTimeout e s
  | .rampEnd g => Sys2Proof.Machine.execRampEnd g s
  | .intonationSectionDone sec r => Sys2Proof.Machine.execIntonationSectionDone sec r s
  | .ringLockLoss r => Sys2Proof.Machine.execRingLockLoss r s
  | .ringReintoneDone r relocked => Sys2Proof.Machine.execRingReintoneDone r relocked s
  | .laserFail l => Sys2Proof.Machine.execLaserFail l s
  | .laserSwitchDone => Sys2Proof.Machine.execLaserSwitchDone s
  | .rowFault sec row => Sys2Proof.Machine.execRowFault sec row s
  | .pmaJobRun sec => Sys2Proof.Machine.execPmaJobRun sec s
  | .pmaJobComplete sec => Sys2Proof.Machine.execPmaJobComplete sec s
  | .s23IdleTimeout => Sys2Proof.Machine.execS23IdleTimeout s
  | .s23WakeDone => Sys2Proof.Machine.execS23WakeDone s
  | .rotationStep sec => Sys2Proof.Machine.execRotationStep sec s
  | .rotationReturn sec ebCal bad => Sys2Proof.Machine.execRotationReturn sec ebCal bad s
  | .gapStepStart sec => Sys2Proof.Machine.execGapStepStart sec s
  | .gapStepEnd sec ebCal bad => Sys2Proof.Machine.execGapStepEnd sec ebCal bad s
  | .forcedGapStep sec => Sys2Proof.Machine.execForcedGapStep sec s
  | .rncPathMove => Sys2Proof.Machine.execRncPathMove s
  | .separationHop vad first => Sys2Proof.Machine.execSeparationHop vad first s
  | .anchorRowMove => Sys2Proof.Machine.execAnchorRowMove s
  | .coreReplace n => Sys2Proof.Machine.execCoreReplace n s
  | .programSwitch g => Sys2Proof.Machine.execProgramSwitch g s
  | .alu n w => Sys2Proof.Machine.execAlu n w s
  | .addi n w => Sys2Proof.Machine.execAddi n w s
  | .andi n w => Sys2Proof.Machine.execAndi n w s
  | .ori n w => Sys2Proof.Machine.execOri n w s
  | .xori n w => Sys2Proof.Machine.execXori n w s
  | .shi n w => Sys2Proof.Machine.execShi n w s
  | .lui n w => Sys2Proof.Machine.execLui n w s
  | .cmp n w => Sys2Proof.Machine.execCmp n w s
  | .ld n w ecc => Sys2Proof.Machine.execLd n w ecc s
  | .st n w => Sys2Proof.Machine.execSt n w s
  | .br n w => Sys2Proof.Machine.execBr n w s
  | .bl n w => Sys2Proof.Machine.execBl n w s
  | .jr n w => Sys2Proof.Machine.execJr n w s
  | .pred n w => Sys2Proof.Machine.execPred n w s
  | .valu n w => Sys2Proof.Machine.execValu n w s
  | .vld n w ecc => Sys2Proof.Machine.execVld n w ecc s
  | .vst n w => Sys2Proof.Machine.execVst n w s
  | .vred n w => Sys2Proof.Machine.execVred n w s
  | .vcvt n w => Sys2Proof.Machine.execVcvt n w s
  | .vspec n w => Sys2Proof.Machine.execVspec n w s
  | .vacc n w => Sys2Proof.Machine.execVacc n w s
  | .vperm n w => Sys2Proof.Machine.execVperm n w s
  | .tld n w ecc => Sys2Proof.Machine.execTld n w ecc s
  | .tst n w => Sys2Proof.Machine.execTst n w s
  | .tget n w => Sys2Proof.Machine.execTget n w s
  | .tput n w => Sys2Proof.Machine.execTput n w s
  | .tuget n w => Sys2Proof.Machine.execTuget n w s
  | .tuput n w => Sys2Proof.Machine.execTuput n w s
  | .tstat n w => Sys2Proof.Machine.execTstat n w s
  | .tmov n w => Sys2Proof.Machine.execTmov n w s
  | .tmma n w => Sys2Proof.Machine.execTmma n w s
  | .tzero n w => Sys2Proof.Machine.execTzero n w s
  | .tpack n w => Sys2Proof.Machine.execTpack n w s
  | .tunpack n w => Sys2Proof.Machine.execTunpack n w s
  | .txp n w => Sys2Proof.Machine.execTxp n w s
  | .tileComplete n => Sys2Proof.Machine.execTileComplete n s
  | .send n w => Sys2Proof.Machine.execSend n w s
  | .sendm n w => Sys2Proof.Machine.execSendm n w s
  | .recv n w => Sys2Proof.Machine.execRecv n w s
  | .amo n w => Sys2Proof.Machine.execAmo n w s
  | .rdcred n w => Sys2Proof.Machine.execRdcred n w s
  | .fence n w => Sys2Proof.Machine.execFence n w s
  | .waitt n w => Sys2Proof.Machine.execWaitt n w s
  | .waitm n w => Sys2Proof.Machine.execWaitm n w s
  | .waitmTimeout n => Sys2Proof.Machine.execWaitmTimeout n s
  | .rdtmp n w => Sys2Proof.Machine.execRdtmp n w s
  | .rdpace n w => Sys2Proof.Machine.execRdpace n w s
  | .pitch n w outs => Sys2Proof.Machine.execPitch n w outs s
  | .halt n w => Sys2Proof.Machine.execHalt n w s
  | .setx n w => Sys2Proof.Machine.execSetx n w s
  | .xret n w => Sys2Proof.Machine.execXret n w s
  | .rdx n w => Sys2Proof.Machine.execRdx n w s
  | .coreNop n w fetchError => Sys2Proof.Machine.execCoreNop n w fetchError s
  | .packetInject ix => Sys2Proof.Machine.execPacketInject ix s
  | .packetHop k e => Sys2Proof.Machine.execPacketHop k e s
  | .rdTile n ecc => Sys2Proof.Machine.execRdTile n ecc s
  | .wr512 n => Sys2Proof.Machine.execWr512 n s
  | .amoAdd n => Sys2Proof.Machine.execAmoAdd n s
  | .amoSwap n => Sys2Proof.Machine.execAmoSwap n s
  | .amoCas n => Sys2Proof.Machine.execAmoCas n s
  | .uRd ix ecc => Sys2Proof.Machine.execURd ix ecc s
  | .uWr ix ecc => Sys2Proof.Machine.execUWr ix ecc s
  | .data ix => Sys2Proof.Machine.execData ix s
  | .ack ix => Sys2Proof.Machine.execAck ix s
  | .credit ix => Sys2Proof.Machine.execCredit ix s
  | .nackPoison ix => Sys2Proof.Machine.execNackPoison ix s
  | .uRedirect ix => Sys2Proof.Machine.execURedirect ix s
  | .uMoved ix => Sys2Proof.Machine.execUMoved ix s
  | .uBusy ix => Sys2Proof.Machine.execUBusy ix s
  | .uBusyRetry ix tag => Sys2Proof.Machine.execUBusyRetry ix tag s
  | .msg n => Sys2Proof.Machine.execMsg n s
  | .msgTree n => Sys2Proof.Machine.execMsgTree n s
  | .pmaBridgeJob => Sys2Proof.Machine.execPmaBridgeJob s
  | .hRd n => Sys2Proof.Machine.execHRd n s
  | .hWr n => Sys2Proof.Machine.execHWr n s
  | .hClose n => Sys2Proof.Machine.execHClose n s
  | .hFree n => Sys2Proof.Machine.execHFree n s
  | .requestTimeout ix tag => Sys2Proof.Machine.execRequestTimeout ix tag s
  | .stallPurge k => Sys2Proof.Machine.execStallPurge k s
  | .topoEntryWrite ix dest e => Sys2Proof.Machine.execTopoEntryWrite ix dest e s
  | .orderedHoldEnd ix dest => Sys2Proof.Machine.execOrderedHoldEnd ix dest s
  | .belayRequest d off => Sys2Proof.Machine.execBelayRequest d off s
  | .belayDrainDone d => Sys2Proof.Machine.execBelayDrainDone d s
  | .belayFence d => Sys2Proof.Machine.execBelayFence d s
  | .belayAcknowledge d => Sys2Proof.Machine.execBelayAcknowledge d s
  | .belayCancel d => Sys2Proof.Machine.execBelayCancel d s
  | .belayAbort d => Sys2Proof.Machine.execBelayAbort d s
  | .domainWake d => Sys2Proof.Machine.execDomainWake d s
  | .tileMoveStart c => Sys2Proof.Machine.execTileMoveStart c s
  | .tileMoveDone c => Sys2Proof.Machine.execTileMoveDone c s
  | .dramScrub c errs => Sys2Proof.Machine.execDramScrub c errs s
  | .corePoolEmpty n unreadable => Sys2Proof.Machine.execCorePoolEmpty n unreadable s
  | .bar2Read off len tag => Sys2Proof.Machine.execBar2Read off len tag s
  | .bar2Write off bytes => Sys2Proof.Machine.execBar2Write off bytes s
  | .tierBar2Write src v => Sys2Proof.Machine.execTierBar2Write src v s
  | .fabSelWrite src v => Sys2Proof.Machine.execFabSelWrite src v s
  | .tierMapSelWrite src v => Sys2Proof.Machine.execTierMapSelWrite src v s
  | .ledgSelWrite src v => Sys2Proof.Machine.execLedgSelWrite src v s
  | .kvDrop busy => Sys2Proof.Machine.execKvDrop busy s
  | .kvReplay ix => Sys2Proof.Machine.execKvReplay ix s
  | .copyOnWrite ix => Sys2Proof.Machine.execCopyOnWrite ix s
  | .pageWaitTimeout ix => Sys2Proof.Machine.execPageWaitTimeout ix s
  | .parkIdleExpiry ix => Sys2Proof.Machine.execParkIdleExpiry ix s
  | .parkDone ix => Sys2Proof.Machine.execParkDone ix s
  | .restoreDone ix => Sys2Proof.Machine.execRestoreDone ix s
  | .unisonApply => Sys2Proof.Machine.execUnisonApply s
  | .commitTimeout k => Sys2Proof.Machine.execCommitTimeout k s
  | .pcieLinkUp speed width => Sys2Proof.Machine.execPcieLinkUp speed width s
  | .busMasterDisable => Sys2Proof.Machine.execBusMasterDisable s
  | .busMasterEnable => Sys2Proof.Machine.execBusMasterEnable s
  | .d3hotEntry => Sys2Proof.Machine.execD3hotEntry s
  | .d0Return => Sys2Proof.Machine.execD0Return s
  | .completionTimeout => Sys2Proof.Machine.execCompletionTimeout s
  | .completionError e => Sys2Proof.Machine.execCompletionError e s
  | .l1Entry l11 => Sys2Proof.Machine.execL1Entry l11 s
  | .l1Exit => Sys2Proof.Machine.execL1Exit s
  | .msixUnmask how => Sys2Proof.Machine.execMsixUnmask how s
  | .registerWrite src off v => Sys2Proof.Machine.execRegisterWrite src off v s
  | .rcRead src off => Sys2Proof.Machine.execRcRead src off s
  | .bar0PartialWrite src off bytes => Sys2Proof.Machine.execBar0PartialWrite src off bytes s
  | .bar0BigRead off len => Sys2Proof.Machine.execBar0BigRead off len s
  | .dbgEvtPeekRead src => Sys2Proof.Machine.execDbgEvtPeekRead src s
  | .irqTest v => Sys2Proof.Machine.execIrqTest v s
  | .spiNop => Sys2Proof.Machine.execSpiNop s
  | .spiRead off => Sys2Proof.Machine.execSpiRead off s
  | .spiWrite off v => Sys2Proof.Machine.execSpiWrite off v s
  | .spiBadFrame f => Sys2Proof.Machine.execSpiBadFrame f s
  | .health => Sys2Proof.Machine.execHealth s
  | .holdSet => Sys2Proof.Machine.execHoldSet s
  | .holdClear => Sys2Proof.Machine.execHoldClear s
  | .spvGuardPropose => Sys2Proof.Machine.execSpvGuardPropose s
  | .spvGuardConfirm => Sys2Proof.Machine.execSpvGuardConfirm s
  | .spvGuardVeto => Sys2Proof.Machine.execSpvGuardVeto s
  | .spvGuardQuery => Sys2Proof.Machine.execSpvGuardQuery s
  | .ledgerRead => Sys2Proof.Machine.execLedgerRead s
  | .spvUnknownOp op => Sys2Proof.Machine.execSpvUnknownOp op s
  | .execDone => Sys2Proof.Machine.execExecDone s
  | .ringEnable src r v => Sys2Proof.Machine.execRingEnable src r v s
  | .ringDisable src r v => Sys2Proof.Machine.execRingDisable src r v s
  | .ringDrainDone r => Sys2Proof.Machine.execRingDrainDone r s
  | .resume src r v => Sys2Proof.Machine.execResume src r v s
  | .sqDoorbell src r v => Sys2Proof.Machine.execSqDoorbell src r v s
  | .rqHeadWrite src r v => Sys2Proof.Machine.execRqHeadWrite src r v s
  | .descriptorFetch desc => Sys2Proof.Machine.execDescriptorFetch desc s
  | .ringStall r => Sys2Proof.Machine.execRingStall r s
  | .deferredExecute k => Sys2Proof.Machine.execDeferredExecute k s
  | .deferredTimeout k => Sys2Proof.Machine.execDeferredTimeout k s
  | .pageFlushTimer ix => Sys2Proof.Machine.execPageFlushTimer ix s
  | .pgRetEnable src v => Sys2Proof.Machine.execPgRetEnable src v s
  | .pgRetHeadWrite src v => Sys2Proof.Machine.execPgRetHeadWrite src v s
  | .nop => Sys2Proof.Machine.execNop s
  | .ping => Sys2Proof.Machine.execPing s
  | .queryInfo => Sys2Proof.Machine.execQueryInfo s
  | .setMode => Sys2Proof.Machine.execSetMode s
  | .modeChangeDone => Sys2Proof.Machine.execModeChangeDone s
  | .resetUnit => Sys2Proof.Machine.execResetUnit s
  | .safeState => Sys2Proof.Machine.execSafeState s
  | .packLoad => Sys2Proof.Machine.execPackLoad s
  | .packVerify => Sys2Proof.Machine.execPackVerify s
  | .packEvict => Sys2Proof.Machine.execPackEvict s
  | .objAlloc => Sys2Proof.Machine.execObjAlloc s
  | .objPlace => Sys2Proof.Machine.execObjPlace s
  | .objFlush => Sys2Proof.Machine.execObjFlush s
  | .objFree => Sys2Proof.Machine.execObjFree s
  | .sessionOpen => Sys2Proof.Machine.execSessionOpen s
  | .sessionClose => Sys2Proof.Machine.execSessionClose s
  | .streamOpen => Sys2Proof.Machine.execStreamOpen s
  | .streamStart => Sys2Proof.Machine.execStreamStart s
  | .streamPause => Sys2Proof.Machine.execStreamPause s
  | .streamResume => Sys2Proof.Machine.execStreamResume s
  | .streamDrain => Sys2Proof.Machine.execStreamDrain s
  | .streamClose => Sys2Proof.Machine.execStreamClose s
  | .prefixDefine => Sys2Proof.Machine.execPrefixDefine s
  | .prefixAttach => Sys2Proof.Machine.execPrefixAttach s
  | .prefixRelease => Sys2Proof.Machine.execPrefixRelease s
  | .textSubmit => Sys2Proof.Machine.execTextSubmit s
  | .sapConfig => Sys2Proof.Machine.execSapConfig s
  | .sapStart => Sys2Proof.Machine.execSapStart s
  | .sapStop => Sys2Proof.Machine.execSapStop s
  | .zoneDefine => Sys2Proof.Machine.execZoneDefine s
  | .zoneRoute => Sys2Proof.Machine.execZoneRoute s
  | .zoneMute => Sys2Proof.Machine.execZoneMute s
  | .feConfig => Sys2Proof.Machine.execFeConfig s
  | .rncEnable => Sys2Proof.Machine.execRncEnable s
  | .rncDisable => Sys2Proof.Machine.execRncDisable s
  | .seatMap => Sys2Proof.Machine.execSeatMap s
  | .pageGrant => Sys2Proof.Machine.execPageGrant s
  | .pageFlush => Sys2Proof.Machine.execPageFlush s
  | .guardPropose => Sys2Proof.Machine.execGuardPropose s
  | .guardConfirm => Sys2Proof.Machine.execGuardConfirm s
  | .guardVeto => Sys2Proof.Machine.execGuardVeto s
  | .guardQuery => Sys2Proof.Machine.execGuardQuery s
  | .proposalExpiry spv => Sys2Proof.Machine.execProposalExpiry spv s
  | .rtcSet => Sys2Proof.Machine.execRtcSet s
  | .rtcGet => Sys2Proof.Machine.execRtcGet s
  | .rtcAlarm => Sys2Proof.Machine.execRtcAlarm s
  | .healthQuery => Sys2Proof.Machine.execHealthQuery s
  | .bistRun pass detail => Sys2Proof.Machine.execBistRun pass detail s
  | .ledgerExport => Sys2Proof.Machine.execLedgerExport s
  | .ledgerImport => Sys2Proof.Machine.execLedgerImport s
  | .probeSet => Sys2Proof.Machine.execProbeSet s
  | .statsRead => Sys2Proof.Machine.execStatsRead s
  | .traceDump => Sys2Proof.Machine.execTraceDump s
  | .eventDrain => Sys2Proof.Machine.execEventDrain s
  | .programLoad => Sys2Proof.Machine.execProgramLoad s
  | .graphLaunch => Sys2Proof.Machine.execGraphLaunch s
  | .graphStop => Sys2Proof.Machine.execGraphStop s
  | .creditPlan => Sys2Proof.Machine.execCreditPlan s
  | .pmaCal => Sys2Proof.Machine.execPmaCal s
  | .pmaStatus => Sys2Proof.Machine.execPmaStatus s
  | .pmaJob => Sys2Proof.Machine.execPmaJob s
  | .resetHoldDone => Sys2Proof.Machine.execResetHoldDone s
  | .bootPllLock => Sys2Proof.Machine.execBootPllLock s
  | .bootOtpRead bad => Sys2Proof.Machine.execBootOtpRead bad s
  | .bootBistDone fails => Sys2Proof.Machine.execBootBistDone fails s
  | .bootCoreMap => Sys2Proof.Machine.execBootCoreMap s
  | .dramTrainingDone failed => Sys2Proof.Machine.execDramTrainingDone failed s
  | .configSpaceReady => Sys2Proof.Machine.execConfigSpaceReady s
  | .fwChunkFirst v => Sys2Proof.Machine.execFwChunkFirst v s
  | .fwChunkNext v => Sys2Proof.Machine.execFwChunkNext v s
  | .fwAbort v => Sys2Proof.Machine.execFwAbort v s
  | .fwChunkCopyDone => Sys2Proof.Machine.execFwChunkCopyDone s
  | .fwVerifyDone => Sys2Proof.Machine.execFwVerifyDone s
  | .sterdoStart ok => Sys2Proof.Machine.execSterdoStart ok s
  | .quietReadiness => Sys2Proof.Machine.execQuietReadiness s
  | .operatingSecond => Sys2Proof.Machine.execOperatingSecond s
  | .unitRetire cutOff => Sys2Proof.Machine.execUnitRetire cutOff s
  | .ledgerWrite failed => Sys2Proof.Machine.execLedgerWrite failed s
  | .lockstepMismatch pair => Sys2Proof.Machine.execLockstepMismatch pair s
  | .vcoreStep nacks => Sys2Proof.Machine.execVcoreStep nacks s
  | .pmbusPoll p => Sys2Proof.Machine.execPmbusPoll p s
  | .currentCapStep => Sys2Proof.Machine.execCurrentCapStep s
  | .pmbAlert status nacks => Sys2Proof.Machine.execPmbAlert status nacks s
  | .voutToleranceFault => Sys2Proof.Machine.execVoutToleranceFault s
  | .thermalSample grid phot dram => Sys2Proof.Machine.execThermalSample grid phot dram s
  | .thermalCapStep => Sys2Proof.Machine.execThermalCapStep s
  | .shedEnd => Sys2Proof.Machine.execShedEnd s
  | .shutdownPowerOff => Sys2Proof.Machine.execShutdownPowerOff s
  | .tracePortRecord => Sys2Proof.Machine.execTracePortRecord s
  | .tapReset => Sys2Proof.Machine.execTapReset s
  | .bypass => Sys2Proof.Machine.execBypass s
  | .idcode => Sys2Proof.Machine.execIdcode s
  | .samplePreload cells => Sys2Proof.Machine.execSamplePreload cells s
  | .extest => Sys2Proof.Machine.execExtest s
  | .clamp => Sys2Proof.Machine.execClamp s
  | .dap => Sys2Proof.Machine.execDap s
  | .dapNop busy => Sys2Proof.Machine.execDapNop busy s
  | .dapRegRd a busy => Sys2Proof.Machine.execDapRegRd a busy s
  | .dapRegWr a v busy => Sys2Proof.Machine.execDapRegWr a v busy s
  | .dapURd a busy => Sys2Proof.Machine.execDapURd a busy s
  | .dapUWr a v busy => Sys2Proof.Machine.execDapUWr a v busy s
  | .laserWavelengthLockRegained l => Sys2Proof.Machine.execLaserWavelengthLockRegained l s
  | .tagQuarantineEnd ix tag => Sys2Proof.Machine.execTagQuarantineEnd ix tag s

end Sys2Proof.Machine
end

