-- ==== Sys2Proof/Machine/Idle.lean ====
section
/-! DEFINITION. What a step does on an empty queue (log entry 7). -/

namespace Sys2Proof.Machine

/-- One TEMPO cycle passes (03_timing.md R59): Tempo adds 1 while the PLL is locked and the device runs; else it holds. -/
def idle (s : State) : State :=
  if s.powered && s.clk.pllLock then { s with clk := { s.clk with tempo := s.clk.tempo + 1 } } else s

end Sys2Proof.Machine
end

