-- ==== Sys2Proof/WellFormed.lean ====
section
/-! DEFINITION. What a command of the block must look like to be the command its row names: the operand limits that the
spec puts on the row. exec is total on ill-formed terms too; nothing rests on their meaning. -/

namespace Sys2Proof

/-- A bit of a written word. -/
def wbit (v : Word) (i : Nat) : Bool := v.getLsbD i

/-- FN of a core word (09_core_isa.md Table 9.1): bits 7..0. -/
def fnOf (w : BitVec 26) : Nat := w.toNat % 256

/-- The listed edge sources of a capture channel (03_timing.md Table 3.5). -/
def edgeSource (k : Nat) : Bool :=
  (0x10 ≤ k && k ≤ 0x1F) || (0x20 ≤ k && k ≤ 0x27) || k == 0x30 || k == 0x31

/-- A register offset: word-aligned in the 16 MiB of BAR0 (27_registers.md R450, 17_host_link.md R306). -/
def regOffset (off : BitVec 24) : Bool := off.toNat % 4 == 0

/-- A text record of the engine: each word entry names bytes of the text (18_rings.md R335). -/
def TextRec.wf (t : TextRec) : Bool := t.words.all fun x => decide (x.off.toNat + x.len.toNat ≤ t.text.length)

/-- The operands are those of the row. -/
def Instr.wf : Instr → Bool
  | .sapFrame _ e _ _ => (match e with | .early n => decide (0 < n) | _ => true)
  | .captureEvent sel _ => edgeSource sel.toNat
  | .trig _ _ v => wbit v 7
  | .compareArm _ _ v => wbit v 0
  | .commit _ v => wbit v 0
  | .alarmArm _ v => wbit v 1
  | .intonationSectionDone _ r => decide (r.ebCal.toNat ≤ 21)
  | .rotationStep sec => decide (sec.1 < 2)
  | .rotationReturn sec eb _ => decide (sec.1 < 2) && decide (eb.toNat ≤ 21)
  | .gapStepStart sec => decide (2 ≤ sec.1)
  | .gapStepEnd sec eb _ => decide (2 ≤ sec.1) && decide (eb.toNat ≤ 21)
  | .forcedGapStep sec => decide (2 ≤ sec.1)
  | .pmaJobRun sec => decide (2 ≤ sec.1)
  | .halt _ w => fnOf w == 0
  | .setx _ w => fnOf w == 1
  | .xret _ w => fnOf w == 2
  | .rdx _ w => fnOf w == 3
  | .pitch _ _ outs => decide (outs.length ≤ 16) && outs.all fun o => o.texts.all TextRec.wf
  | .bar2Read off len _ => decide (0 < len) && decide (len ≤ 4096) && decide (off + len ≤ 2 ^ 32)
  | .bar2Write off bytes => decide (0 < bytes.length) && decide (bytes.length ≤ 512) && decide (off + bytes.length ≤ 2 ^ 32)
  | .pcieLinkUp sp wd => decide (1 ≤ sp.toNat) && decide (sp.toNat ≤ 4) && (wd == 1 || wd == 2 || wd == 4)
  | .registerWrite _ off _ => regOffset off
  | .rcRead _ off => regOffset off
  | .spiRead off => regOffset off
  | .spiWrite off _ => regOffset off
  | .bar0PartialWrite _ off bytes => decide (0 < bytes.length) && decide (off.toNat % 4 + bytes.length ≤ 4) && decide (bytes.length < 4)
  | .bar0BigRead _ len => decide (64 < len)
  | .spvUnknownOp op => !([0x01, 0x02, 0x03, 0x10, 0x11, 0x12, 0x13, 0x20].contains op.toNat)
  | .ringEnable _ _ v => wbit v 0
  | .ringDisable _ _ v => !wbit v 0
  | .resume _ _ v => wbit v 1
  | .pgRetEnable _ v => wbit v 0
  | .fwChunkFirst v => wbit v 30 && !wbit v 29
  | .fwChunkNext v => !wbit v 30 && !wbit v 29
  | .fwAbort v => wbit v 29
  | .powerOnReset .. | .porNLowPulse .. | .railUndervoltage .. | .railRecovered .. | .supplyLoss | .vrtcFirstApply
  | .perstNAssert | .perstNDeassert | .zmuteHoldPlace .. | .zmuteHoldRelease .. | .tempoLoss | .tempoRelock ..
  | .clockSafeClear | .xtal32kLoss | .xtal32kResume | .safeOscFault | .safeOscRecover | .atomicPairLoRead ..
  | .tmpCapHiRead .. | .tmpCmpLoWrite .. | .tmpCmpHiWrite .. | .compareMatch .. | .rtcTick | .rtcCommitNoClock
  | .intakeEpochEnd | .rateWindowEnd .. | .blockBoundary .. | .shadowCommitTimeout .. | .cabinFrame .. | .clkLoss .. | .asrcLock ..
  | .asrcUnlock .. | .tacetTimeout .. | .rampEnd .. | .ringLockLoss .. | .ringReintoneDone .. | .laserFail ..
  | .laserSwitchDone | .rowFault .. | .pmaJobComplete .. | .s23IdleTimeout | .s23WakeDone | .rncPathMove
  | .separationHop .. | .anchorRowMove | .coreReplace .. | .programSwitch .. | .alu .. | .addi .. | .andi .. | .ori ..
  | .xori .. | .shi .. | .lui .. | .cmp .. | .ld .. | .st .. | .br .. | .bl .. | .jr .. | .pred .. | .valu ..
  | .vld .. | .vst .. | .vred .. | .vcvt .. | .vspec .. | .vacc .. | .vperm .. | .tld .. | .tst .. | .tget ..
  | .tput .. | .tuget .. | .tuput .. | .tstat .. | .tmov .. | .tmma .. | .tzero .. | .tpack .. | .tunpack .. | .txp ..
  | .tileComplete .. | .send .. | .sendm .. | .recv .. | .amo .. | .rdcred .. | .fence .. | .waitt .. | .waitm ..
  | .waitmTimeout .. | .rdtmp .. | .rdpace .. | .coreNop .. | .packetInject .. | .packetHop .. | .rdTile ..
  | .wr512 .. | .amoAdd .. | .amoSwap .. | .amoCas .. | .uRd .. | .uWr .. | .data .. | .ack .. | .credit ..
  | .nackPoison .. | .uRedirect .. | .uMoved .. | .uBusy .. | .uBusyRetry .. | .msg .. | .msgTree .. | .pmaBridgeJob
  | .hRd .. | .hWr .. | .hClose .. | .hFree .. | .requestTimeout .. | .stallPurge .. | .topoEntryWrite ..
  | .orderedHoldEnd .. | .belayRequest .. | .belayDrainDone .. | .belayFence .. | .belayAcknowledge ..
  | .belayCancel .. | .belayAbort .. | .domainWake .. | .tileMoveStart .. | .tileMoveDone .. | .dramScrub ..
  | .corePoolEmpty .. | .tierBar2Write .. | .fabSelWrite .. | .tierMapSelWrite .. | .ledgSelWrite .. | .kvDrop ..
  | .kvReplay .. | .copyOnWrite .. | .pageWaitTimeout .. | .parkIdleExpiry .. | .parkDone .. | .restoreDone ..
  | .unisonApply | .commitTimeout .. | .busMasterDisable | .busMasterEnable | .d3hotEntry | .d0Return
  | .completionTimeout | .completionError .. | .l1Entry .. | .l1Exit | .msixUnmask .. | .dbgEvtPeekRead ..
  | .irqTest .. | .spiNop | .spiBadFrame .. | .health | .holdSet | .holdClear | .spvGuardPropose | .spvGuardConfirm
  | .spvGuardVeto | .spvGuardQuery | .ledgerRead | .execDone | .ringDrainDone .. | .sqDoorbell .. | .rqHeadWrite ..
  | .descriptorFetch .. | .ringStall .. | .deferredExecute .. | .deferredTimeout .. | .pageFlushTimer ..
  | .pgRetHeadWrite .. | .nop | .ping | .queryInfo | .setMode | .modeChangeDone | .resetUnit | .safeState | .packLoad
  | .packVerify | .packEvict | .objAlloc | .objPlace | .objFlush | .objFree | .sessionOpen | .sessionClose
  | .streamOpen | .streamStart | .streamPause | .streamResume | .streamDrain | .streamClose | .prefixDefine
  | .prefixAttach | .prefixRelease | .textSubmit | .sapConfig | .sapStart | .sapStop | .zoneDefine | .zoneRoute
  | .zoneMute | .feConfig | .rncEnable | .rncDisable | .seatMap | .pageGrant | .pageFlush | .guardPropose
  | .guardConfirm | .guardVeto | .guardQuery | .proposalExpiry .. | .rtcSet | .rtcGet | .rtcAlarm | .healthQuery
  | .bistRun .. | .ledgerExport | .ledgerImport | .probeSet | .statsRead | .traceDump | .eventDrain | .programLoad
  | .graphLaunch | .graphStop | .creditPlan | .pmaCal | .pmaStatus | .pmaJob | .resetHoldDone | .bootPllLock
  | .bootOtpRead .. | .bootBistDone .. | .bootCoreMap | .dramTrainingDone .. | .configSpaceReady | .fwChunkCopyDone
  | .fwVerifyDone | .sterdoStart .. | .quietReadiness | .operatingSecond | .unitRetire .. | .ledgerWrite ..
  | .lockstepMismatch .. | .vcoreStep .. | .pmbusPoll .. | .currentCapStep | .pmbAlert .. | .voutToleranceFault
  | .thermalSample .. | .thermalCapStep | .shedEnd | .shutdownPowerOff | .tracePortRecord | .tapReset | .bypass
  | .idcode | .samplePreload .. | .extest | .clamp | .dap | .dapNop .. | .dapRegRd .. | .dapRegWr .. | .dapURd ..
  | .dapUWr .. | .laserWavelengthLockRegained .. | .tagQuarantineEnd .. => true

end Sys2Proof
end

