-- ==== Sys2Proof/Safety.lean ====
section
/-! DEFINITION. The terms in which statements about the block are made: what it means that a command completes, and the
conditions under which a core instruction, a host command, a packet or a supervisor EXEC is the one to run. -/

namespace Sys2Proof.Machine

/-- The command answers a next state with the property: it neither faults nor is refused. -/
def Completes (c : Instr) (s : State) (P : State → Prop) : Prop := ∃ t, exec c s = .next t ∧ P t

/-- A safe run of k steps: no step stops. -/
def RunsSafely (k : Nat) (s : State) : Prop := ∃ t, Host.Core.run Sys2Proof.core k s = .next t

/-- A command that a rail, POR_N, VRTC or the RTC's own crystal brings about: it acts on a device without power (02_package.md
R36..R41; 03_timing.md R57, R64, R66; 26_electrical.md R445). PERST_N is a level outside the device (R42). -/
def Instr.alwaysOn : Instr → Bool
  | .powerOnReset .. | .porNLowPulse .. | .railUndervoltage .. | .railRecovered .. | .supplyLoss | .vrtcFirstApply
  | .perstNAssert | .perstNDeassert | .xtal32kLoss | .xtal32kResume | .rtcTick => true
  | _ => false

/-- Instruction word w with opcode op stands at the program counter of core n, which runs, and its guard predicate is ready
and 1 (09_core_isa.md R173). -/
structure CoreAt (n : Fin 288) (op : Nat) (w : BitVec 26) (s : State) : Prop where
  /-- the device has power -/
  power : s.powered = true
  /-- the core runs -/
  runs : s.coreRuns n = true
  /-- the word at the program counter -/
  word : s.fetch n = op * 2 ^ 26 + w.toNat
  /-- the guard awaits no AMO -/
  ready : ((s.core n).pBusy && decide (fPg w = 7)) = false
  /-- the guard is 1 -/
  guard : (s.core n).getP (fPg w) = true

/-- The effect of an instruction that changes core n by f and goes on to the next word. -/
def Retired (n : Fin 288) (f : Core → Core) (s t : State) : Prop :=
  t = { s with grid := { s.grid with core := modAt s.grid.core n fun c => { f c with pc := (f c).pc + 4 } } }

/-- Command c, with opcode op, is the next host command; u is the state without it (18_rings.md R324, 20_streams.md R375). -/
structure HostNext (op : Nat) (c : Cmd) (s u : State) : Prop where
  /-- the device has power -/
  power : s.powered = true
  /-- Sterdo runs -/
  sterdo : s.sterdo = true
  /-- it is the next in the order of R324 -/
  next : s.nextCmd = some (c, u)
  /-- its opcode -/
  op : c.op = op
  /-- FENCE and ORDERED let it start -/
  free : Cmd.mayStart c s = true
  /-- no supervisor command overrules it -/
  kept : c.preempt = false

/-- Command c of a queueable opcode runs by row i, and u is the state without it: it is the next host command, or one that was deferred
and whose stream's state has become legal (19_commands.md R343). -/
def RunsNow (op : Nat) (row i : Instr) (c : Cmd) (s u : State) : Prop :=
  (HostNext op c s u ∧ i = row)
    ∨ ∃ k w, s.powered = true ∧ s.sterdo = true ∧ s.hif.waits[k]? = some w ∧ w.on = .deferred ∧ w.cmd = c ∧ c.op = op ∧ c.preempt = false
      ∧ u = { s with hif := { s.hif with waits := s.hif.waits.eraseIdx k } } ∧ i = .deferredExecute k

/-- The parameter words keep to the row's fields (19_commands.md R339): word i has no bit outside its mask, and a word from 2 on
that the list does not name is 0. -/
def WordsFit (c : Cmd) (masks : List (Nat × Word)) : Prop := (resv c masks).1 = false

/-- Device scope (19_commands.md R340): SESSION 0 and STREAM 0xFF. -/
def DeviceScope (c : Cmd) : Prop := c.session = 0 ∧ c.stream = 255

/-- Session scope (R340): the open session, STREAM 0xFF. -/
def SessionScope (c : Cmd) (s : State) : Prop := s.sess.open_ = true ∧ c.session = s.sess.id.toNat ∧ c.stream = 255

/-- Stream scope (R340): the open session and a stream slot. -/
def StreamScope (c : Cmd) (s : State) : Prop := s.sess.open_ = true ∧ c.session = s.sess.id.toNat ∧ c.stream < 16

/-- The row completes, and the final reply of host command c, with status st and results r, is written after every effect (18_rings.md
R321); P says the effects, and nothing but the reply and interrupt messages follows them. -/
def Answers (i : Instr) (c : Cmd) (st : BitVec 8) (r : Res) (s : State) (P : State → Prop) : Prop :=
  Completes i s fun t => ∃ u, P u
    ∧ t = { reply c st r u with hif := { (reply c st r u).hif with sent := t.hif.sent, pba := t.hif.pba }, pending := s.pending }

/-- The command waits for its event with its results kept (18_rings.md R324). -/
def Waits (c : Cmd) (on : Wait) (t : State) : Prop := ∃ w ∈ t.hif.waits, w.cmd = c ∧ w.on = on

/-- An unpoisoned packet of the command is the first of its kind that the NI has received (10_fabric_routing.md R198, R205). -/
structure Arrived (i : Fin 300) (cmd : Nat) (p : Packet) (s : State) : Prop where
  /-- the device has power -/
  power : s.powered = true
  /-- it is the first of its command -/
  first : s.firstRx i cmd = some p
  /-- not poisoned -/
  clean : p.poison = false

/-- An unpoisoned message of the command is the first of its kind that no earlier message to the same mailbox waits before (09_core_isa.md
R183). -/
structure MsgArrived (i : Fin 300) (cmd : Nat) (p : Packet) (s : State) : Prop where
  /-- the device has power -/
  power : s.powered = true
  /-- it is the first that may enter -/
  first : s.firstMsg i cmd = some p
  /-- not poisoned -/
  clean : p.poison = false

/-- What an instruction of core n leaves wherever it runs: the other cores, the graphs, the tiers, host memory, the streams and
Tempo. -/
def OthersStand (n : Fin 288) (s t : State) : Prop :=
  (∀ m, m ≠ n → t.core m = s.core m) ∧ t.grid.graph = s.grid.graph ∧ t.tiers = s.tiers ∧ t.hif.mem = s.hif.mem
    ∧ t.stream = s.stream ∧ t.clk = s.clk

/-- Core n changes by f and goes on to the next word, the rest standing as OthersStand says: the instructions that also take a
free value or send a packet. -/
def CoreBecomes (n : Fin 288) (f : Core → Core) (s t : State) : Prop :=
  t.core n = { f (s.core n) with pc := (f (s.core n)).pc + 4 } ∧ OthersStand n s t

/-- The initiator's NI holds one more request, at the end of its issue order: for dst, with this command, address and owner; it
waits for its credit. -/
def Requested (i : Fin 300) (dst : Nat) (cmd : BitVec 8) (addr : Nat) (o : Owner) (s t : State) : Prop :=
  ∃ r, (t.ni i).reqs = (s.ni i).reqs ++ [r] ∧ r.dst = dst ∧ r.owner = o ∧ r.sent = none ∧ r.pkt.cmd = cmd ∧ r.pkt.addr.toNat = addr

/-! ### Frames -/

/-- A part of the state, for frames. -/
inductive Part where
  | freeCtr | gen | otp | boot | clk | rtc | sap | zone | gates | fe | hubReset | pma | fab | grid | tiers | sess | stream | pack
  | holds | hif | hostMem | guard | hlt | pwr | dbg
deriving DecidableEq, Repr

/-- The part is in t what it was in s. Interrupt messages may be sent at any command (17_host_link.md R305), so hif leaves out the
messages sent and the pending bits; host memory is a part of its own. -/
def Part.Stands (s t : State) : Part → Prop
  | .freeCtr => t.freeCtr = s.freeCtr
  | .gen => t.gen = s.gen
  | .otp => t.otp = s.otp
  | .boot => t.boot = s.boot
  | .clk => t.clk = s.clk
  | .rtc => t.rtc = s.rtc
  | .sap => t.sap = s.sap
  | .zone => t.zone = s.zone
  | .gates => t.gates = s.gates
  | .fe => t.fe = s.fe
  | .hubReset => t.hubReset = s.hubReset
  | .pma => t.pma = s.pma
  | .fab => t.fab = s.fab
  | .grid => t.grid = s.grid
  | .tiers => t.tiers = s.tiers
  | .sess => t.sess = s.sess
  | .stream => t.stream = s.stream
  | .pack => t.pack = s.pack
  | .holds => t.holds = s.holds
  | .hif => t.hif = { s.hif with sent := t.hif.sent, pba := t.hif.pba, mem := t.hif.mem, upq := t.hif.upq }
  | .hostMem => t.hif.mem = s.hif.mem ∧ t.hif.upq = s.hif.upq
  | .guard => t.guard = s.guard
  | .hlt => t.hlt = s.hlt
  | .pwr => t.pwr = s.pwr
  | .dbg => t.dbg = s.dbg

/-- Nothing changes but the parts listed; the queue stands. -/
def Only (ps : List Part) (s t : State) : Prop := t.pending = s.pending ∧ ∀ p, p ∉ ps → p.Stands s t

/-- The command completes with the property, changing nothing but the parts listed. -/
def Does (c : Instr) (ps : List Part) (s : State) (P : State → Prop) : Prop := Completes c s fun t => Only ps s t ∧ P t

/-- Event codes, source and arguments of the one event logged (25_observation.md R429). -/
def Logged (code src : BitVec 8) (a0 a1 : Word) (s t : State) : Prop :=
  t.dbg.seq = s.dbg.seq + 1 ∧ ∃ e, t.dbg.newest = some e ∧ e.code = code ∧ e.src = src ∧ e.arg0 = a0 ∧ e.arg1 = a1
    ∧ e.seq = s.dbg.seq ∧ e.tempo = BitVec.ofNat 64 s.clk.tempo

/-- The volatile state at the values of reset; what VRTC, OTP and the outside keep stands (03_timing.md R64, 23_repair.md R401,
24_power.md R427). -/
structure VolatileReset (s u : State) : Prop where
  /-- the blocks that keep nothing -/
  blocks : u.boot = {} ∧ u.zone = Vector.replicate 8 {} ∧ u.gates = [] ∧ u.fe = {} ∧ u.hubReset = false ∧ u.pma = {} ∧ u.fab = {}
    ∧ u.grid = {} ∧ u.tiers = {} ∧ u.sess = {} ∧ u.stream = Vector.replicate 16 {} ∧ u.pack = Vector.replicate 24 none ∧ u.holds = {}
    ∧ u.guard = {}
  /-- the clocks, but for the RTC's own -/
  clk : u.clk = { ({} : Clk) with xtal32kRun := s.clk.xtal32kRun }
  /-- the calendar -/
  rtc : u.rtc = { ({} : Rtc) with now := s.rtc.now, valid := s.rtc.valid, range := s.rtc.range }
  /-- OTP -/
  otp : u.otp = s.otp
  /-- the operating time with its strikes -/
  hlt : u.hlt = { ({} : Hlt) with optime := s.hlt.optime, units := s.hlt.units, rows := s.hlt.rows }
  /-- host memory is outside the device -/
  hif : u.hif = { ({} : Hif) with mem := s.hif.mem }
  /-- TSD_SEEN; the junction's temperature is outside the device's reset -/
  pwr : u.pwr = { ({} : Pwr) with tsdSeen := s.pwr.tsdSeen, tj := s.pwr.tj }
  /-- the commands on their way -/
  pending : u.pending = s.pending

/-- A power-on reset with these straps (02_package.md R38, R46, R47): volatile state at reset, the straps sampled, a bank whose
supply disagrees with its strap kept off, an event for each such bank. -/
def PowerOn (t : Straps) (s u : State) : Prop :=
  let badA := t.vioAHigh != t.vselA
  let badB := t.vioBHigh != t.vselB
  VolatileReset s u
    ∧ u.gen = { ({} : Gen) with
        xtalExt := t.gpio0, pmicAddr := BitVec.ofNat 2 (b2n t.gpio1 + 2 * b2n t.gpio2), vselA := t.vselA, vselB := t.vselB
        vioAErr := badA, vioBErr := badB, testen := t.testen
        gpioIn := setBit (setBit (setBit s.gen.gpioIn 0 t.gpio0) 1 t.gpio1) 2 t.gpio2, perstN := s.gen.perstN }
    ∧ (∀ p : Fin 8, u.sap[p] = { ({} : Sap) with bankOff := if p.1 < 4 then badA else badB })
    ∧ u.dbg.seq = wd (b2n badA + b2n badB)

/-- The byte memories stand in their canonical form: addresses rising, no byte listed that equals what an unlisted one reads as. -/
def MemoryCanonical (s : State) : Prop :=
  (∀ n, (s.core n).home.wf = true ∧ (s.core n).imem.wf = true) ∧ s.tiers.dram.wf = true ∧ s.boot.mailbox.wf = true ∧ s.hif.mem.wf = true

/-! ### The fabric -/

/-- The NI holds one more packet to send, in reply to p, at the end of its replies: with this command, status and first operand. -/
def Responded (i : Fin 300) (p : Packet) (cmd st : BitVec 8) (opa : Word) (s t : State) : Prop :=
  ∃ r, (t.ni i).rsp = (s.ni i).rsp ++ [r] ∧ r.dest = p.src.toNat ∧ r.cmd = cmd ∧ r.status = st ∧ r.opa = opa ∧ r.tag = p.tag
    ∧ r.gen = p.gen ∧ r.cls = p.cls

/-- The packet has left the NI's received ones, and no other NI changed. -/
def Served (i : Fin 300) (p : Packet) (s t : State) : Prop :=
  (t.ni i).rx = (s.ni i).rx.erase p ∧ (∀ j, j ≠ i → t.ni j = s.ni j) ∧ t.fab.net = s.fab.net

/-- The packets in the fabric, in the order in which their heads came to their routers. -/
def State.packets (s : State) : List Packet := s.fab.net.map (·.pkt)

/-- An initiator's credits toward a destination after one has come back: never more than it starts with (09_core_isa.md R185). -/
def State.creditBack (s : State) (i : Fin 300) (dest : Nat) : Nat :=
  if s.credit i dest < s.creditCap i dest then s.credit i dest + 1 else s.credit i dest

/-! ### Failures and strikes (23_repair.md R402..R405) -/

/-- The unit is retired, or declared permanent and about to be retired. -/
def FoundFailed (u : UnitRef) (s : State) : Prop := s.isRetired u = true ∨ ∃ p ∈ s.hlt.permanent, p.1 = u

/-- A strike against a unit that is not retired: recorded at the present operating time, or counted as lost where the table is full;
the third makes the unit permanent. One against a retired unit is ignored. -/
def Struck (u : UnitRef) (s t : State) : Prop :=
  if s.isRetired u then t.hlt = s.hlt
  else bit t.hlt.irq 0 = true
    ∧ ((∃ r ∈ t.hlt.units, r.unit = u ∧ r.events.head? = some s.hlt.optime.toNat ∧ (3 ≤ r.events.length → FoundFailed u t))
      ∨ t.hlt.units = s.hlt.units ∧ t.hlt.strikeLost = satAdd s.hlt.strikeLost 1)

end Sys2Proof.Machine
end

