-- ==== Sys2Proof/Certificates/Slice0/Obligations.lean ====
section
/-! DEFINITION. The statements for the provers. Each docstring names the rules of spec/ that its statement comes from. Where
a statement says that a command completes, its hypotheses are on the state and the operands alone, and a witness in
Sys2Proof/Tests/Slice0.lean meets them. -/

open Sys2Proof Sys2Proof.Machine

/-! ### The machine as a whole -/

/-- A step takes the command at the front of the queue and runs it with the rest of the queue. 03_timing.md R59: on an empty queue one TEMPO
cycle passes while the PLL is locked and the device runs, and nothing else (log entry 7, the model's choice of what a step is). -/
def Obligations.StepTakesTheFrontCommand : Prop :=
  (∀ (c : Instr) (s : State), step { s with pending := c :: s.pending } = exec c s)
  ∧ (∀ s : State, s.pending = [] →
     (s.powered = true → s.clk.pllLock = true → step s = .next { s with clk := { s.clk with tempo := s.clk.tempo + 1 } })
     ∧ (s.powered = false ∨ s.clk.pllLock = false → step s = .next s))

/-- Every step answers a next state, whatever the state and the command, and takes exactly the front command from the queue: no command stops
the block, none is lost and none is added (log entry 1). -/
def Obligations.EveryStepAnswers : Prop :=
  ∀ s : State, ∃ t, step s = .next t ∧ t.pending = s.pending.tail

/-- Every step keeps the byte memories in their canonical form: home and instruction memories of the cores, DRAM, the firmware mailbox and host
memory. -/
def Obligations.MemoryStaysCanonical : Prop :=
  ∀ s t : State, step s = .next t →
    MemoryCanonical s → MemoryCanonical t

/-- 23_repair.md R411, 03_timing.md R59: whatever step runs, no entry of the OTP ledger is lost or changed, the fuses stand, and Tempo stands,
counts one cycle or starts again from 0. -/
def Obligations.LedgerAndTempoPersist : Prop :=
  ∀ s t : State, step s = .next t →
    s.otp.ledger <+: t.otp.ledger ∧ t.otp.grade = s.otp.grade ∧ t.otp.serial = s.otp.serial ∧ t.otp.keyHash = s.otp.keyHash ∧ t.otp.floor = s.otp.floor
      ∧ (t.clk.tempo = s.clk.tempo ∨ t.clk.tempo = s.clk.tempo + 1 ∧ s.pending = [] ∨ t.clk.tempo = 0)

/-- Table 27.2 of 27_registers.md: what the registers show after power-on reset. The byte memories are in their canonical form there. -/
def Obligations.ResetState : Prop :=
  (∀ x ∈ ([(0x44, 0x80000000), (0x80, 1), (0x10000, 0x440), (0x10F00, 0x440), (0x12000, 0x1403E8), (0x12004, 0x32), (0x12010, 8), (0x30000, 0x01000000),
      (0x30040, 0x3F0005), (0x30044, 3), (0x30050, 2), (0x40138, 7), (0x50000, 0x10), (0x57004, 0xBB80), (0x5000C, 1), (0x50010, 0x30), (0x50100, 0x01F41400),
      (0x50104, 0x2200), (0x50114, 1), (0x60004, 7), (0x60008, 9), (0x70018, 0x32), (0x80420, 0xC8), (0x90208, 0x40), (0x90280, 0x140000), (0xB0008, 0x025802EE),
      (0xB000C, 0x2EE)] : List (Nat × Word)), readNow .host x.1 State.reset = some x.2)
  ∧ (∀ o ∈ [0x48, 0x88, 0x100, 0x104, 0x140, 0x180, 0x10004, 0x10018, 0x10028, 0x10034, 0x11000, 0x11004, 0x11040, 0x12018, 0x21000, 0x30010, 0x30060, 0x40000, 0x40020,
      0x40108, 0x50018, 0x50120, 0x58000, 0x58044, 0x60000, 0x600C4, 0x70000, 0x80094, 0x80400, 0x804C0, 0x80800, 0x90000, 0x90014, 0x90100, 0x90200, 0x902C0, 0xA0014,
      0xA0C80, 0xB0000, 0xB0018, 0xC0010, 0xC0108, 0xD0000, 0xD0004, 0xD0040, 0xD0050], readNow .host o State.reset = some 0)
  ∧ MemoryCanonical State.reset

/-- R321: the reply of a command is written to its slot with the fields of Table 18.2, the tail goes on, PHASE inverts at the wrap, and the
cause REPLY is set where the descriptor carried IRQ. -/
def Obligations.ReplyLayout : Prop :=
  ∀ (c : Cmd) (st : BitVec 8) (r : Res) (s : State),
    let g := s.hif.ring[c.ring]
    let t := reply c st r s
    let n := logSize g.rqLog
    let tail := (g.rqTail.toNat + 1) % n
    let a := (g.rqBase + BitVec.ofNat 64 (32 * g.rqTail.toNat)).toNat
    s.hif.upstream = true → g.floor ≤ c.id →
      let w := fun (k : Nat) => wordOf (t.hif.mem.readN (a + 4 * k) 4)
      w 0 = BitVec.ofNat 32 (fld (c.w 0) 16 16 + st.toNat * 2 ^ 16 + c.op * 2 ^ 24)
      ∧ w 1 = BitVec.ofNat 32 (fld (c.w 1) 16 16 + b2n g.phase * 2 ^ 16 + b2n c.second * 2 ^ 17 + c.ring.1 * 2 ^ 24)
      ∧ (w 3 ++ w 2 : BitVec 64) = BitVec.ofNat 64 s.clk.tempo ∧ w 4 = r.1 ∧ w 5 = r.2.1 ∧ w 6 = r.2.2.1 ∧ w 7 = r.2.2.2
      ∧ (∀ x, x < a ∨ a + 32 ≤ x → t.hif.mem.read x = s.hif.mem.read x)
      ∧ (t.hif.ring[c.ring]).rqTail = BitVec.ofNat 12 tail ∧ (t.hif.ring[c.ring]).phase = (if tail = 0 then !g.phase else g.phase)
      ∧ bit (t.hif.ring[c.ring]).irq 0 = (c.flag 8 || bit g.irq 0) ∧ ∀ q, q ≠ c.ring → t.hif.ring[q] = s.hif.ring[q]

/-- R305: where a cause of a vector rises while enabled, its message is sent, or pends while the vector may not send; the pending bits of the
other vectors stand, and no message goes out for a vector none of whose causes rises. -/
def Obligations.InterruptMessages : Prop :=
  ∀ (v : Nat) (s s' : State), v < 24 → s.sterdo = true →
    let t := irqScan s s'
    (rises s s' v = true → canSend s'.hif v = true → message s'.hif v ∈ t.hif.sent ∧ bit t.hif.pba v = bit s'.hif.pba v)
    ∧ (rises s s' v = true → canSend s'.hif v = false → bit t.hif.pba v = true)
    ∧ (rises s s' v = false → bit t.hif.pba v = bit s'.hif.pba v ∧ (t.hif.sent.filter fun m => decide (m.1 = v)) = s'.hif.sent.filter fun m => decide (m.1 = v))
    ∧ t = { s' with hif := { s'.hif with sent := t.hif.sent, pba := t.hif.pba } }

/-- R429, R431: an event takes the next SEQ and the present Tempo; a log of 1024 records gives up its oldest record that no EVENT_DRAIN has
reserved, and where every one is reserved the new record is lost; both are counted. -/
def Obligations.EventLogKeepsTheNewest : Prop :=
  ∀ (code src : BitVec 8) (a0 a1 : Word) (k : Nat) (s : State), s.dbg.log.length ≤ 1024 →
    let t := logEvent code src a0 a1 s
    let full := s.dbg.log.length = 1024
    let held := fun (e : Event) => ∃ r ∈ s.dbg.resv, e.seq ∈ r.2
    Logged code src a0 a1 s t ∧ t.dbg.log.length ≤ 1024 ∧ t.dbg.lost = (if full then satAdd s.dbg.lost 1 else s.dbg.lost)
      ∧ (∀ e, t.dbg.newest = some e →
          (¬full → t.dbg.log = s.dbg.log ++ [e])
          ∧ (full → ∀ o, s.dbg.log[k]? = some o → ¬held o → (∀ j x, j < k → s.dbg.log[j]? = some x → held x) → t.dbg.log = s.dbg.log.eraseIdx k ++ [e])
          ∧ (full → (∀ x ∈ s.dbg.log, held x) → t.dbg.log = s.dbg.log))
      ∧ Only [.dbg] s t

/-! ### Grid cores (09_core_isa.md) -/

/-- R175, Table 9.3: ALU, ADDI, ANDI, ORI, XORI, SHI and LUI write g[RD] and nothing else of the machine but the program counter, which goes to
the next word. MIN and MAX compare signed values (log entry 28). R175, Table 9.3, R172: CMP and PRED write the predicate p[RD] and nothing
else of the machine but the program counter; p0 reads 1 whatever is written to it. -/
def Obligations.ScalarResultsAndPredicates : Prop :=
  (∀ (n : Fin 288) (w : BitVec 26) (s : State),
     let c := s.core n
     let a := c.getG (fRs1 w)
     let b := c.getG (fRs2 w)
     let imm : Word := BitVec.ofInt 32 (fImm w)
     (CoreAt n 0x00 w s → c.free [fRd w, fRs1 w, fRs2 w] = true → ∀ x : Word,
       (fFn w, x) ∈ [(0x00, a + b), (0x01, a - b), (0x02, a &&& b), (0x03, a ||| b), (0x04, a ^^^ b),
         (0x05, a <<< (b.toNat % 32)), (0x06, a >>> (b.toNat % 32)), (0x07, a.sshiftRight (b.toNat % 32)), (0x08, a * b),
         (0x09, BitVec.ofInt 32 (a.toInt * b.toInt / 2 ^ 32)), (0x0A, BitVec.ofNat 32 (a.toNat * b.toNat / 2 ^ 32)),
         (0x0B, if b = 0 then 0xFFFFFFFF else BitVec.ofInt 32 (a.toInt.tdiv b.toInt)),
         (0x0C, if b = 0 then 0xFFFFFFFF else BitVec.ofNat 32 (a.toNat / b.toNat)),
         (0x0D, if b = 0 then a else BitVec.ofInt 32 (a.toInt.tmod b.toInt)),
         (0x0E, if b = 0 then a else BitVec.ofNat 32 (a.toNat % b.toNat)),
         (0x0F, if a.toInt ≤ b.toInt then a else b), (0x10, if a.toInt ≤ b.toInt then b else a)] →
       Completes (.alu n w) s (Retired n (fun c => c.setG (fRd w) x) s))
     ∧ (CoreAt n 0x01 w s → c.free [fRd w, fRs1 w] = true →
       Completes (.addi n w) s (Retired n (fun c => c.setG (fRd w) (a + imm)) s))
     ∧ (CoreAt n 0x02 w s → c.free [fRd w, fRs1 w] = true →
       Completes (.andi n w) s (Retired n (fun c => c.setG (fRd w) (a &&& imm)) s))
     ∧ (CoreAt n 0x03 w s → c.free [fRd w, fRs1 w] = true →
       Completes (.ori n w) s (Retired n (fun c => c.setG (fRd w) (a ||| imm)) s))
     ∧ (CoreAt n 0x04 w s → c.free [fRd w, fRs1 w] = true →
       Completes (.xori n w) s (Retired n (fun c => c.setG (fRd w) (a ^^^ imm)) s))
     ∧ (CoreAt n 0x05 w s → c.free [fRd w, fRs1 w] = true → ∀ x : Word,
       (fld w 11 2, x) ∈ [(0, a <<< fld w 0 5), (1, a >>> fld w 0 5), (2, a.sshiftRight (fld w 0 5))] →
       Completes (.shi n w) s (Retired n (fun c => c.setG (fRd w) x) s))
     ∧ (CoreAt n 0x06 w s → c.free [fRd w] = true →
       Completes (.lui n w) s (Retired n (fun c => c.setG (fRd w) (BitVec.ofNat 32 (fImmU w * 2 ^ 14))) s)))
  ∧ (∀ (n : Fin 288) (w : BitVec 26) (s : State),
     let c := s.core n
     let a := c.getG (fRs1 w)
     let b := c.getG (fRs2 w)
     let p := c.getP (fRs1 w)
     let q := c.getP (fRs2 w)
     (CoreAt n 0x07 w s → c.free [fRs1 w, fRs2 w] = true → ∀ x : Bool,
       (fFn w, x) ∈ [(0, decide (a = b)), (1, decide (a ≠ b)), (2, decide (a.toInt < b.toInt)), (3, decide (a.toNat < b.toNat)),
         (4, decide (b.toInt ≤ a.toInt)), (5, decide (b.toNat ≤ a.toNat))] →
       Completes (.cmp n w) s fun t => Retired n (fun c => c.setP (fRd w) x) s t
         ∧ (t.core n).getP (fRd w) = (x || decide (fRd w % 8 = 0))
         ∧ ∀ k, k % 8 ≠ fRd w % 8 → (t.core n).getP k = c.getP k)
     ∧ (CoreAt n 0x0D w s → c.pBusy = false → ∀ x : Bool,
       (fFn w, x) ∈ [(0, p && q), (1, p || q), (2, xor p q), (3, p && !q)] →
       Completes (.pred n w) s fun t => Retired n (fun c => c.setP (fRd w) x) s t
         ∧ (t.core n).getP (fRd w) = (x || decide (fRd w % 8 = 0))
         ∧ ∀ k, k % 8 ≠ fRd w % 8 → (t.core n).getP k = c.getP k))

/-- R175, R179, R180: LD reads the word at g[RS1] + IMM of the scratch and ST writes g[RD] there; the address is 4-aligned, in the scratch, and
no earlier tile transfer is open over it. ST changes the four bytes and no other byte; LD changes none. R175, R179, R180: VLD fills v[VD]
from 64 bytes of the scratch and VST writes them there, 64 B aligned; VST changes those bytes and no other byte. R192, Table 9.9: a local
access that is not aligned raises ALIGN and one outside the scratch raises ACCESS: with a handler set and none running, XPC holds the
instruction's offset, XINFO the address, and execution goes on at EVEC; the instruction has no other effect. -/
def Obligations.LocalLoadsAndStores : Prop :=
  (∀ (n : Fin 288) (w : BitVec 26) (s : State),
     let c := s.core n
     let a := (ldAddr c w).toNat
     c.free [fRd w, fRs1 w] = true → a % 4 = 0 → c.inScratch a 4 = true →
     (CoreAt n 0x08 w s → c.readWaits a 4 = false →
       Completes (.ld n w .clean) s fun t => Retired n (fun c => c.setG (fRd w) (wordOf (c.home.readN a 4))) s t
         ∧ (t.core n).home = c.home)
     ∧ (CoreAt n 0x09 w s → c.writeWaits a 4 = false →
       Completes (.st n w) s fun t => Retired n (fun c => { c with home := c.home.writeN a (bytesOf (c.getG (fRd w))) }) s t
         ∧ ∀ x, x < a ∨ a + 4 ≤ x → (t.core n).home.read x = c.home.read x))
  ∧ (∀ (n : Fin 288) (w : BitVec 26) (s : State),
     let c := s.core n
     let a := (vldAddr c w).toNat
     c.free [fVmRs1 w] = true → a % 64 = 0 → c.inScratch a 64 = true →
     (CoreAt n 0x11 w s → c.readWaits a 64 = false →
       Completes (.vld n w .clean) s fun t => Retired n (fun c => c.setV (fVd w) (BitVec.ofNat 512 (natOf (c.home.readN a 64)))) s t
         ∧ (t.core n).home = c.home)
     ∧ (CoreAt n 0x12 w s → c.writeWaits a 64 = false →
       Completes (.vst n w) s fun t => Retired n (fun c => { c with home := c.home.writeN a (bytesN 64 (c.getV (fVd w)).toNat) }) s t
         ∧ ∀ x, x < a ∨ a + 64 ≤ x → (t.core n).home.read x = c.home.read x))
  ∧ (∀ (n : Fin 288) (w : BitVec 26) (s : State) (cause : Nat),
     let c := s.core n
     let a := ldAddr c w
     c.free [fRd w, fRs1 w] = true → c.evec ≠ 0 → c.handler = false →
     (a.toNat % 4 ≠ 0 ∧ cause = xAlign ∨ a.toNat % 4 = 0 ∧ c.inScratch a.toNat 4 = false ∧ cause = xAccess) →
     (∀ e, CoreAt n 0x08 w s → exec (.ld n w e) s = .next (setCore n (fun c =>
       { c with xpc := c.pc, xcause := wd cause, xinfo := a, pc := c.evec, handler := true }) s))
     ∧ (CoreAt n 0x09 w s → exec (.st n w) s = .next (setCore n (fun c =>
       { c with xpc := c.pc, xcause := wd cause, xinfo := a, pc := c.evec, handler := true }) s)))

/-- R175, R192: BR, BL and JR go to a word-aligned target inside the program; BL writes g31. Elsewhere on the core and in the rest of the
machine nothing changes. R173: an instruction whose guard predicate is 0 retires with no effect but the advance to the next word; one whose
guard awaits an AMO waits with no effect. Stated of the scalar group's loads and stores, the vector and the message instructions. -/
def Obligations.BranchesAndGuards : Prop :=
  (∀ (n : Fin 288) (w : BitVec 26) (s : State),
     let c := s.core n
     let b := (c.pc.toNat : Int) + 4 * fOffB w
     let j := ((c.getG (fRs1 w)).toNat : Int)
     let inside := fun (x : Int) => 0 ≤ x ∧ x < (c.codeBytes : Int) ∧ x % 4 = 0
     (CoreAt n 0x0A w s → inside b → exec (.br n w) s = .next (setCore n (fun c => { c with pc := BitVec.ofInt 32 b }) s))
     ∧ (CoreAt n 0x0B w s → inside b → c.free [31] = true →
       exec (.bl n w) s = .next (setCore n (fun c => { c.setG 31 (c.pc + 4) with pc := BitVec.ofInt 32 b }) s))
     ∧ (CoreAt n 0x0C w s → inside j → c.free [fRs1 w] = true →
       exec (.jr n w) s = .next (setCore n (fun c => { c with pc := BitVec.ofInt 32 j }) s)))
  ∧ (∀ (n : Fin 288) (op : Nat) (w : BitVec 26) (s : State) (i : Instr),
     (op, i) ∈ [(0x00, .alu n w), (0x07, .cmp n w), (0x08, .ld n w .clean), (0x09, .st n w), (0x0A, .br n w), (0x10, .valu n w),
       (0x12, .vst n w), (0x19, .tst n w), (0x1B, .tput n w), (0x20, .tmma n w), (0x28, .send ⟨n, .clean⟩ w), (0x2C, .amo n w)] →
     s.powered = true → s.coreRuns n = true → s.fetch n = op * 2 ^ 26 + w.toNat →
     (((s.core n).pBusy = false ∨ fPg w ≠ 7) → (s.core n).getP (fPg w) = false →
       exec i s = .next (setCore n (fun c => { c with pc := c.pc + 4 }) s))
     ∧ ((s.core n).pBusy = true → fPg w = 7 → exec i s = .next s))

/-- R188, R189, R191, R192: FENCE and WAITT end when their work has drained; WAITM sets its predicate at a message and WAITM_TIMEOUT clears it;
RDTMP reads Tempo into a pair; RDPACE and RDX read; SETX, XRET and HALT set EVEC, leave the handler and stop the core; a NOP only goes on.
Nothing else of the machine changes. The pace is a free value (log entry 12). -/
def Obligations.SystemInstructions : Prop :=
  ∀ (n : Fin 288) (w : BitVec 26) (s : State),
    let c := s.core n
    (CoreAt n 0x30 w s → c.tq = [] → c.gBusy = 0 → c.pBusy = false → c.mc = [] → Completes (.fence n w) s (Retired n id s))
    ∧ (CoreAt n 0x31 w s → (c.tq.length : Int) ≤ fImm w → Completes (.waitt n w) s (Retired n id s))
    ∧ (CoreAt n 0x32 w s → c.free [fRs1 w, fRs2 w] = true → c.pBusy = false → c.strayBox (c.getG (fRs1 w)) = none →
        c.hasMail (c.getG (fRs1 w)) = true →
        Completes (.waitm n w) s (Retired n (fun c => { c.setP (fRd w) true with waitSince := none }) s))
    ∧ (∀ t, s.powered = true → s.coreRuns n = true → s.fetch n = 0x32 * 2 ^ 26 + w.toNat → c.waitSince = some t →
        c.getG (fRs2 w) ≠ 0 → t + (c.getG (fRs2 w)).toNat ≤ s.clk.tempo → c.hasMail (c.getG (fRs1 w)) = false →
        Completes (.waitmTimeout n) s (Retired n (fun c => { c.setP (fRd w) false with waitSince := none }) s))
    ∧ (CoreAt n 0x33 w s → fRd w % 2 = 0 → c.free [fRd w, fRd w + 1] = true →
        Completes (.rdtmp n w) s fun t => Retired n (fun c => (c.setG (fRd w) (lo s.now)).setG (fRd w + 1) (hi s.now)) s t
          ∧ ((t.core n).getG (fRd w + 1) ++ (t.core n).getG (fRd w) : BitVec 64) = BitVec.ofNat 64 s.clk.tempo)
    ∧ (CoreAt n 0x34 w s → c.free [fRd w] = true →
        Completes (.rdpace n w) s (Retired n (fun c => c.setG (fRd w) (wd (Config.pace n.1 s.pwr.measMv s.pwr.tj))) s))
    ∧ (CoreAt n 0x36 w s → fFn w = 0 →
        exec (.halt n w) s = .next (setCore n (fun c => { c with run := .halted }) s))
    ∧ (CoreAt n 0x36 w s → fFn w = 1 → c.free [fRs1 w] = true →
        Completes (.setx n w) s (Retired n (fun c' => { c' with evec := c.getG (fRs1 w) }) s))
    ∧ (CoreAt n 0x36 w s → fFn w = 2 → c.xpc.toNat + 4 < c.codeBytes → c.xpc.toNat % 4 = 0 →
        exec (.xret n w) s = .next (setCore n (fun c => { c with handler := false, pc := BitVec.ofInt 32 (c.xpc.toNat + 4) }) s))
    ∧ (CoreAt n 0x36 w s → fFn w = 3 → c.free [fRd w, fRs1 w] = true → ∀ x : Word,
        ((c.getG (fRs1 w)).toNat, x) ∈ [(0, c.xpc), (1, c.xcause), (2, c.xinfo)] →
        Completes (.rdx n w) s (Retired n (fun c => c.setG (fRd w) x) s))
    ∧ (CoreAt n 0x37 w s → Completes (.coreNop n w false) s (Retired n id s))

/-- R175, Table 9.3: VALU works lane by lane in type DT, VRED leaves its result in lane 0 and zeros elsewhere, VPERM FN 0 repeats lane 0, FN 1
takes each lane from the index in VS2, FN 2 moves lanes up by g[VS2] and fills with zeros. Only v[VD] and the program counter change (a lane
whose index names no lane takes a free value, log entry 2). R175, R174: VCVT converts each lane that both widths have, VSPEC writes a result
of its function within 2 units in the last place (a free one of those, log entry 10), and VACC moves sixteen elements between a vector and
the row of an accumulator that g names below 64. -/
def Obligations.VectorLanesAndConversions : Prop :=
  (∀ (n : Fin 288) (w : BitVec 26) (s : State),
     let c := s.core n
     let t := vecElem (fDt w)
     let b := t.width
     let d := c.getV (fVd w)
     let x := c.getV (fVs1 w)
     let y := c.getV (fVs2 w)
     (CoreAt n 0x10 w s → fFn w < 9 → Completes (.valu n w) s fun u => ∃ r, Retired n (fun c => c.setV (fVd w) r) s u
       ∧ ∀ k, k < 512 / b → lane r b k = laneOp t (fFn w) (lane d b k) (lane x b k) (lane y b k) % 2 ^ b)
     ∧ (CoreAt n 0x13 w s → ∀ op, (fFn w, op) ∈ [(0, 0), (1, 5), (2, 4)] →
       Completes (.vred n w) s fun u => ∃ r, Retired n (fun c => c.setV (fVd w) r) s u
         ∧ lane r b 0 = tree (fun a e => laneOp t op 0 a e) 6 (lanesOf x b) % 2 ^ b ∧ ∀ k, 0 < k → k < 512 / b → lane r b k = 0)
     ∧ (CoreAt n 0x17 w s → fFn w = 0 → Completes (.vperm n w) s fun u => ∃ r, Retired n (fun c => c.setV (fVd w) r) s u
         ∧ ∀ k, k < 512 / b → lane r b k = lane x b 0)
     ∧ (CoreAt n 0x17 w s → fFn w = 1 → Completes (.vperm n w) s fun u => ∃ r, CoreBecomes n (fun c => c.setV (fVd w) r) s u
         ∧ ∀ k, k < 512 / b → lane y b k < 512 / b → lane r b k = lane x b (lane y b k))
     ∧ (CoreAt n 0x17 w s → fFn w = 2 → c.free [fVs2 w] = true →
         Completes (.vperm n w) s fun u => ∃ r, Retired n (fun c => c.setV (fVd w) r) s u
           ∧ ∀ k, k < 512 / b → lane r b k = if (c.getG (fVs2 w)).toNat ≤ k then lane x b (k - (c.getG (fVs2 w)).toNat) else 0))
  ∧ (∀ (n : Fin 288) (w : BitVec 26) (s : State),
     let c := s.core n
     let a := vecElem (fDt w)
     let b := vecElem (fFn w % 8)
     let g := (c.getG (fVs1 w)).toNat
     let acc := fld w 1 2
     (CoreAt n 0x14 w s → fFn w < 16 → Completes (.vcvt n w) s fun u => ∃ r, CoreBecomes n (fun c => c.setV (fVd w) r) s u
       ∧ ∀ k v, k < 512 / a.width → k < 512 / b.width → convert a b (bit w 3) (lane (c.getV (fVs1 w)) a.width k) = some v →
           lane r b.width k = v % 2 ^ b.width)
     ∧ (CoreAt n 0x15 w s → fFn w < 5 → fDt w = 5 ∨ fDt w = 7 → Completes (.vspec n w) s fun u =>
         ∃ r, Retired n (fun c => c.setV (fVd w) r) s u
           ∧ ∀ k, k < 512 / a.width → lane r a.width k = special (fFn w) (fDt w) (lane (c.getV (fVs1 w)) a.width k) % 2 ^ a.width)
     ∧ (CoreAt n 0x16 w s → fFn w < 32 → c.free [fVs1 w] = true → (c.tq.any fun o => decide (o.acc = some acc)) = false → g < 64 →
         (bit w 0 = false → Completes (.vacc n w) s
           (Retired n (fun c => c.setV (fVd w) (BitVec.ofNat 512 (fld (c.getA acc) (32 * (64 * g + 16 * fld w 3 2)) 512))) s))
         ∧ (bit w 0 = true → Completes (.vacc n w) s (Retired n (fun c => c.setA acc
             (accSet (c.getA acc) (64 * g + 16 * fld w 3 2) 16 (c.getV (fVd w)).toNat) ((c.accFp[acc]?).getD none)) s))))

/-- R176, R178, R180: a tile instruction whose registers are ready joins the end of the tile queue with the operands it captured, and the core
goes on; those that move no packet touch nothing else. R176, R182, R184, R235: TGET asks a graph core for a tile with one RD_TILE request,
TPUT sends eight WR_512 requests, TUGET and TUPUT ask the owner hauler of a tile whose place is not cached; each also joins the tile queue. -/
def Obligations.TileInstructionsIssue : Prop :=
  (∀ (n : Fin 288) (w : BitVec 26) (s : State),
     let c := s.core n
     let ready := fun (r : Nat) => c.tilePending r = false ∧ c.getTst r = 0
     let a := (c.getG (fTRs1 w)).toNat
     let issued := fun (op : Nat) (u : State) => CoreBecomes n (fun c => { c with tq := c.tq ++ [tileOpOf c op w], tid := c.tid + 1 }) s u
     (CoreAt n 0x18 w s → c.free [fTRs1 w] = true → a % 4096 = 0 → c.inScratch a 4096 = true → c.readWaits a 4096 = false →
         Completes (.tld n w .clean) s (issued 0x18))
     ∧ (CoreAt n 0x19 w s → c.free [fTRs1 w] = true → a % 4096 = 0 → c.inScratch a 4096 = true → ready (fTs w) →
         Completes (.tst n w) s (issued 0x19))
     ∧ (CoreAt n 0x1F w s → fTFn w = 0 ∧ ready (fTs w) ∨ fTFn w = 1 → Completes (.tmov n w) s (issued 0x1F))
     ∧ (CoreAt n 0x20 w s → fTFn w < 6 → bit w 22 = false → fld w 4 10 = 0 → ready (fTs w) → ready (fTt w) →
         Completes (.tmma n w) s (issued 0x20))
     ∧ (CoreAt n 0x21 w s → Completes (.tzero n w) s (issued 0x21))
     ∧ (CoreAt n 0x22 w s → fTFn w % 8 < 6 → bit w 22 = false → bit w 19 = false → fld w 14 3 = 0 → fld w 4 5 = 0 →
         c.free [fTRs1 w] = true → Completes (.tpack n w) s (issued 0x22))
     ∧ (CoreAt n 0x23 w s → fTFn w < 6 → bit w 22 = false → fld w 14 3 = 0 → fld w 4 10 = 0 → ready (fTs w) →
         Completes (.tunpack n w) s (issued 0x23))
     ∧ (CoreAt n 0x24 w s → ready (fTs w) → Completes (.txp n w) s (issued 0x24))
     ∧ (CoreAt n 0x1E w s → c.free [fTRs1 w] = true → c.tilePending (fTs w) = false →
         Completes (.tstat n w) s (Retired n (fun c => c.setG (fTRs1 w) ((c.getTst (fTs w)).setWidth 32)) s)))
  ∧ (∀ (n : Fin 288) (w : BitVec 26) (s : State),
     let c := s.core n
     let i := coreNi n
     let dest := (c.getG (fTRs1 w)).toNat
     let a := (c.getG (fTRs2 w)).toNat
     let issued := fun (op : Nat) (u : State) => CoreBecomes n (fun c => { c with tq := c.tq ++ [tileOpOf c op w], tid := c.tid + 1 }) s u
     (CoreAt n 0x1A w s → c.free [fTRs1 w, fTRs2 w] = true → a % 4096 = 0 → s.destOk n dest = true → (s.ni i).reserved + 4096 ≤ 32768 →
         Completes (.tget n w) s fun u => issued 0x1A u ∧ Requested i dest 0x01 a (.tile c.tid) s u
           ∧ (u.ni i).reserved = (s.ni i).reserved + 4096)
     ∧ (CoreAt n 0x1B w s → c.free [fTRs1 w, fTRs2 w] = true → a % 4096 = 0 → s.destOk n dest = true → (s.ni i).reserved + 256 ≤ 32768 →
         c.tilePending (fTs w) = false → c.getTst (fTs w) = 0 →
         Completes (.tput n w) s fun u => issued 0x1B u ∧ (u.ni i).reqs.length = (s.ni i).reqs.length + 8
           ∧ (u.ni i).reserved = (s.ni i).reserved + 256)
     ∧ (CoreAt n 0x1C w s → c.free [fTRs1 w] = true → s.haulerValid n dest = true → (s.ni i).reserved + 4096 ≤ 32768 → (s.ni i).redirect dest = none → dest < 2 ^ 28 →
         Completes (.tuget n w) s fun u => issued 0x1C u ∧ Requested i (0x208 + dest % 8) 0x06 (4096 * dest) (.tile c.tid) s u)
     ∧ (CoreAt n 0x1D w s → c.free [fTRs1 w] = true → s.haulerValid n dest = true → (s.ni i).reserved + 4096 ≤ 32768 →
         c.tilePending (fTs w) = false → c.getTst (fTs w) = 0 →
         Completes (.tuput n w) s fun u => issued 0x1D u ∧ (u.ni i).reqs.length = (s.ni i).reqs.length + 8))

/-- R176..R178: the first tile operation that may end has its effect on the core and leaves the queue; a TST writes its tile to the scratch and
no byte outside it. R181..R185, R204: SEND, SENDM and AMO issue their requests and mark the registers that await the answers; RECV takes the
oldest message of a mailbox into the scratch and answers its receipt; RDCRED reads the credits held. -/
def Obligations.TilesEndAndMessages : Prop :=
  (∀ (n : Fin 288) (k : Nat) (o : TileOp) (s : State),
     s.powered = true → (s.core n).tq[k]? = some o → s.tileReady n k o = true →
     (∀ j p, j < k → (s.core n).tq[j]? = some p → s.tileReady n j p = false) →
     Completes (.tileComplete n) s fun t => OthersStand n s t
       ∧ t.core n = tileEffect o s.freeCtr { s.core n with tq := (s.core n).tq.eraseIdx k }
       ∧ (o.op = 0x19 → ∀ x, x < o.a.toNat ∨ o.a.toNat + 4096 ≤ x → (t.core n).home.read x = (s.core n).home.read x)
       ∧ (o.op ≠ 0x19 → (t.core n).home = (s.core n).home))
  ∧ (∀ (n : Fin 288) (w : BitVec 26) (s : State),
     let c := s.core n
     let i := coreNi n
     let dest := (c.getG (fRs1 w)).toNat
     let a := (c.getG (fRs2 w)).toNat
     let len := 32 * (fLen w + 1)
     (CoreAt n 0x28 w s → c.free [fRd w, fRs1 w, fRs2 w] = true → a % 32 = 0 → c.inScratch a len = true → c.readWaits a len = false →
         s.destOk n dest = true → (fNb w = false ∨ s.hasCredit i dest = true) → (s.ni i).reserved + 32 ≤ 32768 →
         Completes (.send ⟨n, .uncorrectable⟩ w) s (fun t => (t.core n).getG (fRd w) = 0x3F ∧ (t.core n).pc = c.pc + 4 ∧ (t.ni i).reqs = (s.ni i).reqs
           ∧ OthersStand n s t)
         ∧ ∀ e, e ≠ Ecc.uncorrectable → Completes (.send ⟨n, e⟩ w) s fun t => Requested i dest 0x80 0 (.reg (fRd w) false) s t ∧ OthersStand n s t
           ∧ bit (t.core n).gBusy (fRd w) = true ∧ (t.core n).pc = c.pc + 4)
     ∧ (CoreAt n 0x28 w s → c.free [fRd w, fRs1 w, fRs2 w] = true → a % 32 = 0 → c.inScratch a len = true → c.readWaits a len = false →
         s.destOk n dest = true → fNb w = true → s.hasCredit i dest = false →
         ∀ e, Completes (.send ⟨n, e⟩ w) s (Retired n (fun c => c.setG (fRd w) 0x13) s))
     ∧ (∀ e ds tree, CoreAt n 0x29 w s → fRd w % 2 = 0 → c.free [fRd w, fRd w + 1, fRs1 w, fRs2 w] = true → a % 32 = 0 →
         c.inScratch a len = true → c.readWaits a len = false → dest = e → (s.ni i).mcast[e]? = some (some (ds, tree)) →
         (∀ d ∈ ds, s.destOk n d = true ∧ s.hasCredit i d = true) → (s.ni i).reserved + 32 * ds.length ≤ 32768 →
         Completes (.sendm ⟨n, .uncorrectable⟩ w) s (fun t => (t.ni i).reqs = (s.ni i).reqs ∧ (t.core n).getG (fRd w) = 2
           ∧ (t.core n).pc = c.pc + 4 ∧ OthersStand n s t)
         ∧ ∀ x, x ≠ Ecc.uncorrectable → Completes (.sendm ⟨n, x⟩ w) s fun t => (t.ni i).reqs.length = (s.ni i).reqs.length + ds.length
           ∧ (t.core n).mc = c.mc ++ [(fRd w, 0, ds.length)] ∧ (t.core n).pc = c.pc + 4 ∧ OthersStand n s t)
     ∧ (∀ m more mb, CoreAt n 0x2A w s → c.free [fRd w, fRs2 w] = true → mb = (⟨fMb w, Nat.mod_lt _ (by decide)⟩ : Fin 8) →
         bit c.mbox mb.1 = true → c.box[mb] = m :: more → a % 32 = 0 → c.inScratch a (32 * (m.len.toNat + 1)) = true →
         c.writeWaits a (32 * (m.len.toNat + 1)) = false →
         Completes (.recv n w) s fun t => (t.core n).getG (fRd w) = wd (m.src.toNat + m.len.toNat * 2 ^ 10 + 2 ^ 14)
           ∧ (t.core n).pc = c.pc + 4 ∧ OthersStand n s t
           ∧ ∀ x, x < a ∨ a + 32 * (m.len.toNat + 1) ≤ x → (t.core n).home.read x = c.home.read x)
     ∧ (CoreAt n 0x2C w s → fMb w < 3 → (fMb w = 2 → fRd w % 2 = 0 ∧ c.free [fRd w + 1] = true) → c.pBusy = false →
         c.free [fRd w, fRs1 w, fRs2 w] = true → a % 4 = 0 → s.destOk n dest = true → (s.ni i).reserved + 32 ≤ 32768 →
         Completes (.amo n w) s fun t => Requested i dest (BitVec.ofNat 8 (0x03 + fMb w)) a (.reg (fRd w) true) s t ∧ OthersStand n s t
           ∧ (t.core n).pBusy = true ∧ bit (t.core n).gBusy (fRd w) = true ∧ (t.core n).pc = c.pc + 4)
     ∧ (CoreAt n 0x2D w s → c.free [fRd w, fRs1 w] = true → (dest = 0x200 ∧ topoValid (s.topo i dest) = true ∨ s.destOk n dest = true) →
         Completes (.rdcred n w) s (Retired n (fun c => c.setG (fRd w) (wd (s.credit i dest))) s)))

/-! ### Supplies and resets (02_package.md) -/

/-- R38, R39, R41, R445: POR_N, a monitored rail or the supply puts every volatile field at its reset value, and the last rail's return samples
the straps; a pulse of 2.3 us or more always resets, one of 1.8 us or less never. R42, R301, R329, R333: PERST_N takes the link, its
configuration space, MSI-X and the rings to reset and abandons a firmware load that does not run yet; after it the configuration space is
ready once boot step 7 has ended. Host memory stands. -/
def Obligations.ResetsAndSupplies : Prop :=
  (∀ (t : Straps) (r : MonRail) (ns : Nat) (s : State),
     (s.gen.low = [] → Completes (.powerOnReset t) s (PowerOn t s))
     ∧ (s.gen.low ≠ [] → Completes (.powerOnReset t) s fun u => VolatileReset s u ∧ u.gen.low = s.gen.low ∧ u.gen.off = false ∧ u.powered = false)
     ∧ (s.gen.low = [] → s.gen.off = false → 2300 ≤ ns → Completes (.porNLowPulse ns t) s (PowerOn t s))
     ∧ (s.gen.low = [] → s.gen.off = false → ns ≤ 1800 → exec (.porNLowPulse ns t) s = .next s)
     ∧ (r ∉ s.gen.low → Completes (.railUndervoltage r) s fun u => VolatileReset s u ∧ u.gen.low = r :: s.gen.low ∧ u.powered = false)
     ∧ (s.gen.low = [r] → s.gen.off = false → Completes (.railRecovered r t) s (PowerOn t s))
     ∧ (r ∈ s.gen.low → (∃ q ∈ s.gen.low, q ≠ r) → Completes (.railRecovered r t) s fun u =>
         (∀ q, q ∈ u.gen.low ↔ q ∈ s.gen.low ∧ q ≠ r) ∧ u.powered = false ∧ Only [.gen] s u)
     ∧ Completes .supplyLoss s (fun u => VolatileReset s u ∧ u.gen.off = true ∧ u.powered = false)
     ∧ (s.gen.off = true → Does .vrtcFirstApply [.rtc, .hlt, .pwr] s fun u => u.rtc = {} ∧ u.hlt.optime = 0 ∧ u.hlt.units = []
         ∧ u.hlt.rows = [] ∧ u.pwr.tsdSeen = false))
  ∧ (∀ (s : State), s.powered = true →
     (s.gen.perstN = true → Does .perstNAssert [.gen, .boot, .fab, .tiers, .stream, .hif, .hostMem] s fun u =>
         u.gen = { s.gen with perstN := false } ∧ u.boot.cfgReady = false ∧ (s.boot.fw ≠ .running → u.boot.fw = .idle)
           ∧ (s.boot.fw = .running → u.boot = { s.boot with cfgReady := false })
           ∧ u.hif.speed = 0 ∧ u.hif.mse = false ∧ u.hif.bme = false ∧ u.hif.d3 = false ∧ u.hif.msixEn = false ∧ u.hif.table = Vector.replicate 64 {}
           ∧ u.hif.retEn = false ∧ u.hif.mem = s.hif.mem ∧ u.tiers.bar2 = 0
           ∧ ∀ r : Fin 16, (u.hif.ring[r]).en = false ∧ (u.hif.ring[r]).state = .disabled ∧ (u.hif.ring[r]).sqHead = 0
               ∧ (u.hif.ring[r]).sqTail = 0 ∧ (u.hif.ring[r]).rqHead = 0 ∧ (u.hif.ring[r]).rqTail = 0)
     ∧ (s.gen.perstN = false → Does .perstNDeassert [.gen, .boot] s fun u =>
         u.gen = { s.gen with perstN := true } ∧ u.boot = { s.boot with cfgReady := bit s.boot.done 7 }))

/-- R36..R42: without power no command has an effect, but those that a supply, POR_N, PERST_N or the RTC's own domain brings. -/
def Obligations.UnpoweredStands : Prop :=
  ∀ (c : Instr) (s : State), s.powered = false → Instr.alwaysOn c = false → exec c s = .next s

/-! ### Clocks (03_timing.md R57..R62) -/

/-- R57, R58: a lost PLL holds Tempo and places CLOCK_SAFE, which asserts FAULT_N; the relock event gives the outage, and the hold clears after
10 ms in lock. The 32 kHz crystal's loss makes the RTC not valid; the SAFE oscillator's faults are logged. R52, R377: a ZMUTE ball that
carries the function holds its zone until it is released, and each decision is logged as a ZONE_MUTE of the zone; the host's own mute of the
zone stands. -/
def Obligations.ClocksAndMutePins : Prop :=
  (∀ (us : Nat) (s : State), s.powered = true →
     (s.clk.pllLock = true → Does .tempoLoss [.clk, .sap, .gates, .fe, .tiers, .stream, .holds, .hif, .hostMem, .dbg] s fun t =>
         t.clk = { s.clk with pllLock := false, tempoLoss := true, lost := true }
           ∧ t.holds = { s.holds with clockSafe := true } ∧ t.safe = true ∧ t.faultN = true)
     ∧ (s.clk.pllLock = false → s.clk.lost = true → Does (.tempoRelock us) [.clk, .dbg] s fun t =>
         t.clk = { s.clk with pllLock := true, relockAt := s.clk.tempo } ∧ Logged 0x02 3 0 (wd us) s t)
     ∧ (s.clk.lost = true → s.clk.pllLock = true → s.clk.relockAt + 10 * ms ≤ s.clk.tempo →
         Does .clockSafeClear [.clk, .sap, .gates, .fe, .tiers, .stream, .holds, .hif, .hostMem, .dbg] s fun t =>
           t.clk = { s.clk with lost := false } ∧ t.holds = { s.holds with clockSafe := false })
     ∧ (s.clk.xtal32kRun = true → Does .xtal32kLoss [.clk, .rtc, .hif, .dbg] s fun t =>
         t.clk = { s.clk with xtal32kRun := false, xtal32kLoss := true } ∧ t.rtc = { s.rtc with valid := false }
           ∧ t.hif.mem = s.hif.mem ∧ Logged 0x02 3 1 0 { s with rtc := { s.rtc with valid := false } } t)
     ∧ (s.clk.xtal32kRun = false → Does .xtal32kResume [.clk] s fun t => t.clk = { s.clk with xtal32kRun := true })
     ∧ (s.clk.safeFault = false → Does .safeOscFault [.clk, .hif, .dbg] s fun t =>
         t.clk = { s.clk with safeErr := true, safeFault := true } ∧ bit t.hif.alert 1 = true ∧ t.faultN = true ∧ Logged 0x02 3 2 0 s t)
     ∧ (s.clk.safeFault = true → Does .safeOscRecover [.clk, .dbg] s fun t => t.clk = { s.clk with safeFault := false } ∧ Logged 0x02 3 2 0 s t))
  ∧ (∀ (z : Fin 8) (s : State), s.powered = true →
     (s.pinFunc (4 + z.1) = 2 → bit s.holds.pins z.1 = false → Does (.zmuteHoldPlace z) [.gen, .gates, .stream, .holds, .hif, .hostMem, .dbg] s fun t =>
         t.holds = { s.holds with pins := setBit s.holds.pins z.1 true } ∧ t.held z = true
           ∧ t.gen = { s.gen with gpioIn := setBit s.gen.gpioIn (4 + z.1) false })
     ∧ (bit s.holds.pins z.1 = true → Does (.zmuteHoldRelease z) [.gen, .gates, .stream, .holds, .hif, .hostMem, .dbg] s fun t =>
         t.holds = { s.holds with pins := setBit s.holds.pins z.1 false } ∧ t.held z = s.spvHeld z
           ∧ t.gen = { s.gen with gpioIn := setBit s.gen.gpioIn (4 + z.1) true }))

/-- R61, Table 3.5: an event on a free channel that selects it is captured 0 to 3 ns late (a free value, log entry 2) and sets VALID; on a
channel that holds a value it is counted in MISS; a full read of HI frees the channel. R62, R307, 00_scope.md R8: a target's LO word waits
until HI is written, which applies both; an armed target that is reached sets MATCH and clears ARM; one that has passed when it is written
or armed sets LATE too (at equality: the model's choice, log entry 52). A match at the moment of a write that clears MATCH stays. -/
def Obligations.TempoCaptureAndCompare : Prop :=
  (∀ (n : Fin 4) (sel : BitVec 6) (fall : Bool) (v : Word) (src : Src) (s : State), src ≠ .spv →
     let taken := fun (c : Cap) (t : State) => (t.clk.cap[n]).valid = true ∧ (t.clk.cap[n]).src = c.src ∧ (t.clk.cap[n]).fall = c.fall
       ∧ ∃ d, d < 4 ∧ (t.clk.cap[n]).value = BitVec.ofNat 64 (s.clk.tempo + d)
     (s.powered = true → capSource sel.toNat = true → (∀ p : Fin 8, sel.toNat = 0x20 + p.1 → (s.sap[p]).bankOff = false) →
         (s.clk.cap[n]).src = sel → (s.clk.cap[n]).fall = fall → Does (.captureEvent sel fall) [.freeCtr, .gen, .clk] s fun t =>
         ((s.clk.cap[n]).valid = false → taken (s.clk.cap[n]) t)
         ∧ ((s.clk.cap[n]).valid = true → t.clk.cap[n] = { s.clk.cap[n] with miss := satAdd (s.clk.cap[n]).miss 1 })
         ∧ t.clk.tempo = s.clk.tempo ∧ t.clk.cmp = s.clk.cmp ∧ (∀ k, k < 15 → sel.toNat = 0x10 + k → bit t.gen.gpioIn k = !fall)
         ∧ (∀ k, sel.toNat ≠ 0x10 + k → bit t.gen.gpioIn k = bit s.gen.gpioIn k)
         ∧ ∀ m : Fin 4, (s.clk.cap[m]).src ≠ sel ∨ (s.clk.cap[m]).fall ≠ fall → t.clk.cap[m] = s.clk.cap[m])
     ∧ (s.mayWrite src = true → bit v 7 = true → v.setWidth 6 = (1 : BitVec 6) → Does (.trig src n v) [.freeCtr, .clk] s fun t =>
         ((s.clk.cap[n]).valid = false → taken { s.clk.cap[n] with src := 1, fall := bit v 6 } t)
         ∧ ((s.clk.cap[n]).valid = true → t.clk.cap[n] = { s.clk.cap[n] with src := 1, fall := bit v 6, miss := satAdd (s.clk.cap[n]).miss 1 })
         ∧ ∀ m, m ≠ n → t.clk.cap[m] = s.clk.cap[m])
     ∧ (s.canAccess src = true → Does (.tmpCapHiRead src n) [.clk, .hif, .dbg] s fun t =>
         t.clk.cap[n] = { s.clk.cap[n] with valid := false } ∧ (∀ m, m ≠ n → t.clk.cap[m] = s.clk.cap[m]) ∧ t.hif.mem = s.hif.mem
           ∧ (src = .host → t.hif.rdata = bytesOf (hi (s.clk.cap[n]).value)) ∧ (src = .dap → t.dbg.result = (0, hi (s.clk.cap[n]).value))))
  ∧ (∀ (n : Fin 4) (v l : Word) (src : Src) (s : State), src ≠ .spv →
     let c := s.clk.cmp[n]
     let others := fun (t : State) => t.clk.cap = s.clk.cap ∧ t.clk.tempo = s.clk.tempo ∧ ∀ m, m ≠ n → t.clk.cmp[m] = s.clk.cmp[m]
     let new := fun (x : Cmp) => if x.target.toNat ≤ s.clk.tempo then { x with arm := false, match_ := true, late := true } else x
     let hit := c.match_ || (c.arm && decide (c.target.toNat ≤ s.clk.tempo))
     let armed := c.arm && decide (s.clk.tempo < c.target.toNat)
     (s.mayWrite src = true → Does (.tmpCmpLoWrite src n v) [.clk] s fun t =>
         t.clk.cmp[n] = { c with staged := upd c.staged (Src.ix src) (some v) } ∧ others t)
     ∧ (∀ w, s.mayWrite src = true → (w = some l ∨ w = none ∧ c.staged[Src.ix src] = some l) → Does (.tmpCmpHiWrite src n v w) [.clk] s fun t =>
         t.clk.cmp[n] = new { c with arm := armed, match_ := hit, target := v ++ l, staged := upd c.staged (Src.ix src) none } ∧ others t)
     ∧ (s.mayWrite src = true → bit v 0 = true → (c.arm = false ∨ s.clk.tempo < c.target.toNat) → Does (.compareArm src n v) [.clk] s fun t =>
         t.clk.cmp[n] = new { c with arm := true, irqEn := bit v 1, match_ := c.match_ && !bit v 2, late := c.late && !bit v 3 } ∧ others t)
     ∧ (s.mayWrite src = true → bit v 0 = true → c.arm = true → c.target.toNat = s.clk.tempo → Does (.compareArm src n v) [.clk] s fun t =>
         (t.clk.cmp[n]).match_ = true ∧ (t.clk.cmp[n]).arm = false ∧ (t.clk.cmp[n]).late = (c.late && !bit v 3) ∧ others t)
     ∧ (s.powered = true → c.arm = true → c.target.toNat ≤ s.clk.tempo → Does (.compareMatch n) [.clk] s fun t =>
         t.clk.cmp[n] = { c with arm := false, match_ := true } ∧ others t))

/-- R307: a read of the LO word of an atomic pair returns it and latches the HI word of that moment for the reader, which its read of HI then
returns; the latches of other readers and of other pairs stand. -/
def Obligations.AtomicPairs : Prop :=
  ∀ (src : Src) (p : AtomicPair) (w h : Word) (s : State), s.canAccess src = true → reaches src (AtomicPair.off p) = true →
    readNow src (AtomicPair.off p) s = some w → readNow src (AtomicPair.off p + 4) s = some h →
    Does (.atomicPairLoRead src p) [.hif, .dbg] s fun t => t.latched src p = some h
      ∧ (∀ q r, (q, r) ≠ (src, p) → t.latched q r = s.latched q r)
      ∧ (src = .host → t.hif.rdata = bytesOf w) ∧ (src = .dap → t.dbg.result = (0, w)) ∧ (src = .spv → t.dbg = s.dbg) ∧ t.hif.mem = s.hif.mem

/-! ### The calendar (03_timing.md R64..R72; 19_commands.md R356) -/

/-- R65: a year is a leap year when 4 divides it, but for centuries that 400 does not; 2000 is one, 2100, 2200 and 2300 are not. -/
def Obligations.LeapYears : Prop :=
  (∀ y : Nat, leap y = true ↔ 4 ∣ y ∧ (100 ∣ y → 400 ∣ y))
    ∧ leap 2000 = true ∧ leap 2100 = false ∧ leap 2200 = false ∧ leap 2300 = false

/-- R68: at 2399-12-31 23:59:59 and 1023/1024 s the RTC stops at that value and sets RANGE and RANGE_EVT; an event is logged; RANGE_EVT, where
it is enabled, asserts vector 23; the RTC stays stopped until a valid commit, which it takes and runs on from. -/
def Obligations.CalendarStopsAtRange : Prop :=
  ∀ s : State, s.powered = true → s.clk.xtal32kRun = true →
    let last : Cal := { year := 2399, month := 12, day := 31, hour := 23, minute := 59, second := 59, sub := 1023 }
    (s.rtc.now = last → s.rtc.queued = none → s.rtc.range = false → Completes .rtcTick s fun t => t.rtc.now = last ∧ t.rtc.range = true
        ∧ t.rtc.rangeEvt = true ∧ Logged 0x06 3 (calTime last) (calDate last) s t ∧ (bit s.rtc.irqEn 1 = true → asserted t 23 = true))
    ∧ (s.rtc.range = true → s.rtc.queued = none → Completes .rtcTick s fun t => t.rtc.now = s.rtc.now ∧ t.rtc.range = true)
    ∧ (∀ q, s.rtc.range = true → s.rtc.queued = some q → epochOf q.at_ < epochOf s.clk.tempo → Completes .rtcTick s fun t =>
        t.rtc.now = q.value ∧ t.rtc.range = false)

/-- R64..R66: a tick takes a valid calendar value, below the end of the range, to a later one that is valid too; only 1/1024 s passes, so the
order to the whole second never falls. R64, R66 step 4, R70: a tick advances the calendar by 1/1024 s, or applies the commit whose epoch has
ended and makes the RTC valid; where the sub-second rolls to 0 a correlation pair is recorded; the RTC's own domain ticks without the rest
of the device. R69: an armed alarm fires at the first tick at which the RTC is at or past it, which sets ALARM and clears ALARM_ARM. -/
def Obligations.CalendarTicks : Prop :=
  (∀ c : Cal, c.ok = true → c ≠ Cal.last → c.next.ok = true ∧ c.secs * 1024 + c.sub < c.next.secs * 1024 + c.next.sub)
  ∧ (∀ (q : Commit) (s : State), s.clk.xtal32kRun = true →
     (s.rtc.queued = none → s.rtc.range = false → s.rtc.now ≠ Cal.last → Does .rtcTick [.freeCtr, .rtc, .hif, .hostMem, .dbg] s fun t =>
         t.rtc.now = s.rtc.now.next ∧ t.rtc.valid = s.rtc.valid ∧ t.rtc.range = false
           ∧ (s.powered = true → s.rtc.now.sub = 1023 → t.rtc.corrSeq = s.rtc.corrSeq + 1 ∧ t.rtc.corrTime = calTime t.rtc.now
               ∧ t.rtc.corrDate = calDate t.rtc.now ∧ ∃ d, d < 4 ∧ t.rtc.corrTempo = BitVec.ofNat 64 (s.clk.tempo + d))
           ∧ (s.powered = false ∨ s.rtc.now.sub < 1023 → t.rtc.corrSeq = s.rtc.corrSeq))
     ∧ (s.powered = true → s.rtc.queued = some q → epochOf q.at_ < epochOf s.clk.tempo → Does .rtcTick [.freeCtr, .rtc, .hif, .hostMem, .dbg] s fun t =>
         t.rtc.now = q.value ∧ t.rtc.valid = true ∧ t.rtc.range = false ∧ t.rtc.queued = none ∧ ∀ w ∈ t.hif.waits, w.on ≠ .rtc))
  ∧ (∀ s : State, s.powered = true → s.clk.xtal32kRun = true → s.rtc.alarmArm = true → Completes .rtcTick s fun t =>
     ((calOf s.rtc.alarmTime s.rtc.alarmDate).secs ≤ t.rtc.now.secs → t.rtc.alarm = true ∧ t.rtc.alarmArm = false)
     ∧ (t.rtc.now.secs < (calOf s.rtc.alarmTime s.rtc.alarmDate).secs → t.rtc.alarm = s.rtc.alarm ∧ t.rtc.alarmArm = true))

/-- R66, R67, R69: COMMIT takes the source's own staged value, which must be a date, to wait for its tick, or sets BAD_DATE and logs; one that
finds another waiting is ignored, whatever its value, and sets its source's PREEMPT (but the supervisor's replaces the host's of the same
epoch). The same write and that of ALARM_ARM check and arm the alarm, or disarm it (a failed check disarms: the model's choice, log entry
52). Without XTAL32K a commit loads at the end of its epoch and VALID stays 0. R356, R66, R69: RTC_GET answers the time, the date and the
status of one moment; RTC_SET queues a valid value, whose reply waits for the tick, and answers BAD_DATE to one that is none and PREEMPTED
to one that finds COMMIT_BUSY set; RTC_ALARM stores the words and arms, or answers BAD_DATE and does not arm. -/
def Obligations.CalendarCommits : Prop :=
  (∀ (src : Src) (v : Word) (q : Commit) (s : State),
     let x := calOf s.rtc.stageTime[Src.ix src] s.rtc.stageDate[Src.ix src]
     let a := { calOf s.rtc.alarmTime s.rtc.alarmDate with sub := 0 }
     let alarm : Rtc := if bit v 1 then (if a.ok then { s.rtc with alarmArm := true } else { s.rtc with badDate := true, alarmArm := false })
       else { s.rtc with alarmArm := false }
     (s.mayWrite src = true → bit v 0 = true → x.ok = true → s.rtc.queued = none →
         (src = .spv ∨ s.hif.spvActs.any (fun a => decide (a = (epochOf s.clk.tempo, 0))) = false) →
         Does (.commit src v) [.rtc, .hif] s fun t => t.rtc = { alarm with queued := some { src := src, at_ := s.clk.tempo, value := x } }
           ∧ t.hif.mem = s.hif.mem)
     ∧ (s.mayWrite src = true → bit v 0 = true → x.ok = false → s.rtc.queued = none → Does (.commit src v) [.rtc, .dbg] s fun t =>
         t.rtc = { alarm with badDate := true } ∧ Logged 0x06 3 s.rtc.stageTime[Src.ix src] s.rtc.stageDate[Src.ix src] s t)
     ∧ (s.mayWrite src = true → bit v 0 = true → s.rtc.queued = some q → (src ≠ .spv ∨ q.src = .spv ∨ epochOf q.at_ ≠ epochOf s.clk.tempo) →
         Does (.commit src v) [.rtc] s fun t => t.rtc = { alarm with preempt := upd s.rtc.preempt (Src.ix src) true })
     ∧ (s.mayWrite .spv = true → src = .spv → bit v 0 = true → x.ok = true → s.rtc.queued = some q → q.src ≠ .spv → epochOf q.at_ = epochOf s.clk.tempo →
         Does (.commit src v) [.rtc, .hif] s fun t => t.rtc = { alarm with
             queued := some { src := .spv, at_ := s.clk.tempo, value := x }, preempt := upd s.rtc.preempt (Src.ix q.src) true }
           ∧ t.hif.mem = s.hif.mem)
     ∧ (s.mayWrite src = true → bit v 0 = false → bit v 1 = true → Does (.alarmArm src v) [.rtc] s fun t => t.rtc = alarm)
     ∧ (s.powered = true → s.clk.xtal32kRun = false → s.rtc.queued = some q → epochOf q.at_ < epochOf s.clk.tempo →
         Does .rtcCommitNoClock [.rtc, .hif, .hostMem] s fun t => t.rtc = { s.rtc with now := q.value, range := false, queued := none }
           ∧ ∀ w ∈ t.hif.waits, w.on ≠ .rtc))
  ∧ (∀ (c : Cmd) (s u : State),
     let v := calOf (c.w 2) (c.w 3)
     (HostNext 0x71 c s u → DeviceScope c → WordsFit c [] →
         Answers .rtcGet c 0x00 (calTime s.rtc.now, calDate s.rtc.now, rtcStatus .host s, 0) s fun t => t = u)
     ∧ (HostNext 0x70 c s u → DeviceScope c → WordsFit c [(2, 0x7FFFFFF), (3, 0x1FFFFF)] →
         (s.rtc.queued.isSome = true → Answers .rtcSet c 0x15 res0 s fun t => t = { u with rtc := { s.rtc with preempt := upd s.rtc.preempt 0 true } })
         ∧ (v.ok = true → s.rtc.queued = none → s.hif.spvActs.any (fun a => decide (a = (epochOf c.at_, 0))) = false →
           Does .rtcSet [.rtc, .hif] s fun t => t.rtc = { s.rtc with queued := some { src := .host, at_ := c.at_, value := v } }
             ∧ Waits c .rtc t ∧ t.hif.mem = s.hif.mem)
         ∧ (v.ok = false → s.rtc.queued = none → Answers .rtcSet c 0x1B res0 s fun t => Only [.rtc, .dbg] u t ∧ t.rtc = { s.rtc with badDate := true }))
     ∧ (HostNext 0x72 c s u → DeviceScope c → WordsFit c [(2, 0x7FFFFFF), (3, 0x1FFFFF), (4, 1)] →
         ((bit (c.w 4) 0 = true → { v with sub := 0 }.ok = true) → Answers .rtcAlarm c 0x00 res0 s fun t =>
           t = { u with rtc := { s.rtc with alarmTime := c.w 2, alarmDate := c.w 3, alarmArm := bit (c.w 4) 0 } })
         ∧ (bit (c.w 4) 0 = true → { v with sub := 0 }.ok = false → Answers .rtcAlarm c 0x1B res0 s fun t =>
           t = { u with rtc := { s.rtc with badDate := true } })))

/-! ### Audio ports, zones, gates (04_audio_ports.md, 05_audio_sync.md) -/

/-- R78, R79, R81, R98: a frame of a port joins its block, the first of which is stamped within 3 ns; an input takes its enabled slots in
ascending order, an output drives every slot of the frame; the phase, which a 48 kHz controller holds fixed (R77), is noted, the edge
counted in the rate window (R95) and a misplaced edge on a target in FRAME_ERR; a FAULTED port runs again, and a stopping port whose gates
are closed stops. The other ports stand. R98, R100, R101, R109: a target without an edge for 1 ms is FAULTED with its cause; an ASRC that
locks or unlocks says so with its causes, and the frames lost and gained across it are counted, in the port and in the block. -/
def Obligations.PortsRun : Prop :=
  (∀ (p : Fin 8) (edge : FsEdge) (ph : Int) (slots : Vector Word 16) (s : State), s.powered = true →
     let x := s.sap[p]
     let ends := x.stopping && s.chansSilent p
     let cut := match edge with | .early n => if x.controller then 0 else n | _ => 0
     x.blk.length < x.b →
     (x.state = .running → ends = false → s.clk.tempo < x.win.start + windowNs →
         (x.sync = false ∧ x.syncDue ≠ some true) ∨ (x.phaseOf ph - x.qualPh).natAbs ≤ 100 →
       Does (.sapFrame p edge ph slots) [.freeCtr, .sap, .fe, .stream, .hif, .hostMem] s fun t =>
         let y := t.sap[p]
         y.state = .running ∧ y.phase = BitVec.ofInt 32 (x.phaseOf ph) ∧ y.lastEdge = some s.clk.tempo ∧ y.win.edges = x.win.edges + 1 ∧ (∀ q, q ≠ p → t.sap[q] = s.sap[q])
           ∧ y.frameErr = (if edge ≠ .onTime ∧ x.controller = false then satAdd x.frameErr 1 else x.frameErr)
           ∧ (x.out = false → y.blk = x.blk ++ [x.enabled.map fun k => inSample x cut k slots[k]])
           ∧ (x.out = true → y.blk.length = x.blk.length + 1 ∧ (s.ballsTaken = false → y.driven.length = x.slots
               ∧ ∀ k, k < x.slots → bit x.mask k = false → y.driven[k]? = some (if bit x.cfg 16 then none else some 0)))
           ∧ (x.blk = [] → ∃ d, d < 4 ∧ y.blkTs = BitVec.ofNat 64 (s.clk.tempo + d)))
     ∧ (x.state = .faulted → ends = false → x.sync = false →
         Does (.sapFrame p edge ph slots) [.freeCtr, .sap, .zone, .gates, .fe, .stream, .hif, .hostMem, .dbg] s fun t =>
           (t.sap[p]).state = .running ∧ bit (t.sap[p]).irq 3 = true ∧ (t.sap[p]).blk.length = x.blk.length + 1)
     ∧ (x.state = .running → ends = true →
         Does (.sapFrame p edge ph slots) [.freeCtr, .sap, .zone, .gates, .fe, .hubReset, .stream, .hif, .hostMem, .dbg] s fun t =>
           (t.sap[p]).state = .stopped ∧ ∀ w ∈ t.hif.waits, w.on ≠ .sapStop p))
  ∧ (∀ (p : Fin 8) (n m at_ : Nat) (s : State), s.powered = true →
     let x := s.sap[p]
     x.state = .running →
     (x.controller = false → x.stopping = false → x.lastEdge = some at_ → at_ + 1000000 ≤ s.clk.tempo →
       Does (.clkLoss p) [.sap, .zone, .gates, .fe, .stream, .hif, .hostMem, .dbg] s fun t =>
         (t.sap[p]).state = .faulted ∧ (t.sap[p]).sync = false ∧ (t.sap[p]).locked = false ∧ bit (t.sap[p]).irq 2 = true)
     ∧ (x.sync = false → x.locked = false → x.controller = true ∨ x.cls ≠ 0 → Does (.asrcLock p) [.sap] s fun t =>
         t.sap[p] = { x with locked := true, unramp := 0, irq := setBit x.irq 4 true } ∧ ∀ q, q ≠ p → t.sap[q] = s.sap[q])
     ∧ (x.locked = true → x.controller = false → Does (.asrcUnlock p { lost := n, gained := m }) [.sap] s fun t =>
         let y := t.sap[p]
         y.locked = false ∧ y.unramp = 32 ∧ y.irq = setBit x.irq 5 true ∧ y.slipDrop = satAdd x.slipDrop n ∧ y.slipIns = satAdd x.slipIns m
           ∧ (x.out = true → y.blkSlips = x.blkSlips + (n + m)) ∧ (x.out = false → x.flight = [] → y.insBefore = x.insBefore + (n + m))
           ∧ y.fifo = x.fifo ∧ y.state = x.state ∧ ∀ q, q ≠ p → t.sap[q] = s.sap[q]))

/-- R82..R84, R89, R90, R107, Tables 4.3, 4.4: a block ends at B frames with its header and samples, an input's goes into the FIFO; what is
staged for the port takes effect, and the map epoch steps once when a change that steps it was staged. R91: a command that waited for a
shadow longer than CONFIG_COMMIT_TIMEOUT answers CONFIG_BUSY and applies nothing. -/
def Obligations.BlocksAndShadows : Prop :=
  (∀ (p : Fin 8) (s : State), s.powered = true →
     let x := s.sap[p]
     x.state = .running → x.b ≤ x.blk.length →
     Does (.blockBoundary p) [.sap, .zone, .gates, .fe, .stream, .hif, .hostMem, .dbg] s fun t =>
       let y := t.sap[p]
       y.seq = x.nextSeq ∧ y.nextSeq = x.nextSeq + 1 ∧ y.lastTs = x.blkTs ∧ y.blk = []
         ∧ y.mask = x.maskSt.getD x.mask ∧ y.block = x.blockSt.getD x.block ∧ y.syncCfg = x.syncCfgSt.getD x.syncCfg
         ∧ y.maskSt = none ∧ y.blockSt = none ∧ y.syncCfgSt = none
         ∧ y.epoch = (if s.epochStep p then x.epoch + 1 else x.epoch)
         ∧ (x.out = true → y.lastBlock = withSlips (blockHeader p x ++ x.blk.flatten) x.blkSlips)
         ∧ (x.out = false → s.hubOn = true → x.syncDue = none → bit y.syncCfg 0 = false → x.fifo.length + x.blk.length ≤ 4 * x.b →
             y.fifo = x.fifo ++ x.blk.map (fun f => (x.nextSeq, f))
               ∧ y.flight = x.flight ++ [(x.nextSeq, blockHeader p x ++ x.blk.flatten, x.insBefore)]))
  ∧ (∀ (k : Nat) (w : Waiting) (s : State), s.powered = true → s.hif.waits[k]? = some w → w.on = .shadow → w.deadline ≤ s.clk.tempo →
     Answers (.shadowCommitTimeout k) w.cmd 0x14 res0 s fun t => t = { s with hif := { s.hif with waits := s.hif.waits.eraseIdx k } })

/-- R15, R86, R100, R107, R143: a cabin frame gives each synchronous output that plays one frame and takes one from each synchronous input,
which reaches the cabin unchanged; an input whose ASRC has not locked brings zeros; an anti-noise sample that was not ready is counted;
commands that waited for the frame are answered. R95..R97, R100, R102: a rate window of 62.5 ms that ends shows the rate of the edges in it
and its class; a class seen in two windows is adopted; on a target the ASRC's ratio is the rate over 48 kHz; a 48 kHz target whose phase
kept within 40 ns in four whole windows becomes synchronous at its boundary; the next window begins where this one ended. R111..R113, Table
5.4: a gate that finds no crossing in time ramps for 32 frames, which its port counts; at the ramp's end it is CLOSED or OPEN, and a change
that met the ramp enters from there. Other gates stand. -/
def Obligations.CabinFramesRatesAndGates : Prop :=
  (∀ (speech : Vector Word 16) (rows : RowRewrites) (missed : Bool) (s : State), s.powered = true → s.clk.pllLock = true →
     Does (.cabinFrame speech rows missed) [.freeCtr, .sap, .gates, .fe, .pma, .stream, .hif, .hostMem, .hlt, .dbg] s fun t =>
       (∀ w ∈ t.hif.waits, w.on ≠ .cabin)
         ∧ t.fe.miss = (if missed && s.rncWorks then satAdd s.fe.miss 1 else s.fe.miss)
         ∧ ∀ p : Fin 8, let x := s.sap[p]
             let input := x.state = .running ∧ x.out = false ∧ s.hubOn = true ∧ x.insertLeft = 0
             (x.state = .stopped → (t.sap[p]).fifo = x.fifo)
             ∧ (x.state = .running → x.sync = true → x.out = true → x.fifo.length < 4 * x.b → (t.sap[p]).fifo.length = x.fifo.length + 1)
             ∧ (input → x.sync = true → (t.sap[p]).fifo.length = x.fifo.length - 1 ∧ ∀ f, x.fifo.head? = some f → (t.sap[p]).cabin = f.2)
             ∧ (input → x.sync = false → x.locked = false → x.unramp = 0 → (t.sap[p]).cabin = List.replicate x.width 0))
  ∧ (∀ (p : Fin 8) (s : State), s.powered = true →
     let x := s.sap[p]
     let w := x.win
     let rate := windowRate w.edges (w.last - w.first)
     let c := classOf rate
     x.state = .running → w.start + windowNs ≤ s.clk.tempo → s.clk.tempo < w.start + 2 * windowNs →
     Does (.rateWindowEnd p w.edges (w.last - w.first) w.phLo w.phHi) [.sap, .gates, .fe, .hif, .dbg] s fun t =>
       let y := t.sap[p]
       y.rateMeas = BitVec.ofNat 25 rate ∧ y.lastCls = some c ∧ y.win = { start := w.start + windowNs, whole := true }
         ∧ y.cls = (if some c = x.lastCls then c else x.cls)
         ∧ (some c = x.lastCls → c ≠ x.cls → y.rateRef = BitVec.ofNat 25 rate ∧ bit y.irq 0 = true)
         ∧ (x.controller = false → rate ≠ 0 → y.ratio = BitVec.ofNat 35 ((rate * 2 ^ 33 + 4800000) / 9600000))
         ∧ (x.controller = false → x.forced = false → x.sync = false → x.cls = 9 → c = 9 → x.quals.length = 3 → w.whole = true → w.edges ≠ 0 →
             (∀ a ∈ x.quals ++ [(w.phLo, w.phHi)], ∀ b ∈ x.quals ++ [(w.phLo, w.phHi)], a.2 - b.1 ≤ 40) → w.phLo ≤ w.phHi → y.syncDue = some true)
         ∧ t.hif.mem = s.hif.mem)
  ∧ (∀ (g : GateId) (v : Int) (s : State), s.powered = true →
     let x := s.gate g
     let p := gatePort g
     ((x.st = .waitClose ∨ x.st = .waitOpen) → (s.sap[p]).tacetFrames ≤ x.n → crossing x.prev v = false →
       Does (.tacetTimeout { gate := g, sample := v }) [.gates, .sap] s fun t =>
         t.gate g = { x with st := if x.st = .waitClose then .rampDown else .rampUp, n := 0, next := none }
           ∧ (t.sap[p]).tacetTo = satAdd (s.sap[p]).tacetTo 1 ∧ (∀ h, h ≠ g → t.gate h = s.gate h) ∧ ∀ q, q ≠ p → t.sap[q] = s.sap[q])
     ∧ ((x.st = .rampDown ∨ x.st = .rampUp) → 32 ≤ x.n → Does (.rampEnd g) [.gates, .stream, .hif, .hostMem] s fun t =>
         (t.gate g).st = (match x.next with
           | none => if x.st = .rampDown then .closed else .opened
           | some true => if x.st = .rampDown then .waitOpen else .opened
           | some false => if x.st = .rampDown then .closed else .waitClose)
         ∧ ∀ h, h ≠ g → t.gate h = s.gate h))

/-! ### The photonic sections (06_photonic.md) -/

/-- R117..R119, R122: a section's intonation fixes its rings and rows, without retired ones, its figure at most 10.5 bits, and makes it ready;
its lanes are dealt to the lowest-numbered usable channels; below eight lanes it retires; the last section ends the run. R130, R131, R122: a
rotation step calibrates the next lane of S0 or S1, S1 250 ms after S0, and ends; a gap step of S2 or S3 falls in an idle 10 ms, or is
forced after 100 ms; each end counts the step, notes Tempo and the figure, and a ring in service that it covers and could not bring within
its bound is tuned again. -/
def Obligations.SectionsIntoneAndCalibrate : Prop :=
  (∀ (i : Fin 4) (r : IntonationResult) (s : State), s.powered = true → s.pma.intoning = true → (s.sect i).ready = false →
     (∀ j, j < i → (s.sect j).ready = true) →
     Does (.intonationSectionDone i r) [.gates, .boot, .fe, .pma, .hif, .hostMem, .hlt, .dbg] s fun t =>
       let x := t.sect i
       x.ready = true ∧ x.ringsOk &&& s.deadChans i = 0 ∧ x.ringsOk &&& ~~~r.chans = 0 ∧ x.rows &&& ~~~r.rows = 0 ∧ x.rows &&& s.deadRows i = 0
         ∧ x.ebCal.toNat ≤ 21 ∧ x.retired = decide (t.lanesRaw i < 8) ∧ (x.retired = false → x.carriers = (t.chanList i).take (t.lanesRaw i))
         ∧ (i = 0 → t.pma.dead = s.pma.dead ||| r.deadLasers ∧ t.pma.lit = 0x1FFFF &&& ~~~t.pma.dead)
         ∧ t.pma.intoning = !decide (∀ j, (t.sect j).ready = true))
  ∧ (∀ (i : Fin 4) (eb : BitVec 5) (bad : List PmaRing) (r : PmaRing) (j c : Nat) (s : State), s.powered = true →
     let x := s.sect i
     let serves := r ∈ bad ∧ r.sec = i ∧ bit (s.chans i) r.chan.1 = true ∧ (∀ w, r.row = some w → bit x.rows w.1 = true)
     let ended := fun (covered : Prop) (t : State) => (t.sect i).steps = satAdd x.steps 1 ∧ (t.sect i).lastCal = s.now
       ∧ (t.sect i).ebCal = (if eb.toNat ≤ 21 then eb else 21)
       ∧ (bad = [] → t.pma.retuning = s.pma.retuning ∧ t.pma.irq = s.pma.irq)
       ∧ (serves → covered → bit t.pma.irq 6 = true ∧ r ∈ t.pma.retuning)
     let others := fun (t : State) => ∀ k, k ≠ i → t.sect k = s.sect k
     (i.1 < 2 → s.inService i = true → x.rotating = none → s.rotChan i ≠ 31 → s.pma.switching = [] →
         (x.calDue = true ∨ i.1 = 0 ∧ (∀ u, x.rotAt = some u → u + 500 * ms ≤ s.clk.tempo)
           ∨ i.1 = 1 ∧ (s.inService 0 = true ∧ s.rotChan 0 ≠ 31) ∧ ∃ u, (s.sect 0).rotAt = some u ∧ u + 250 * ms ≤ s.clk.tempo ∧ ∀ v, x.rotAt = some v → v < u) →
         Does (.rotationStep i) [.pma] s fun t =>
           t.sect i = { x with rotating := some (s.rotLane i), rotAt := some s.clk.tempo, calDue := false } ∧ others t)
     ∧ (x.rotating = some j → x.carriers[j]? = some c → Does (.rotationReturn i eb bad) [.pma] s fun t =>
           (t.sect i).rotating = none ∧ (t.sect i).rotNext = c + 1 ∧ ended (r.chan.1 = c) t ∧ others t)
     ∧ (2 ≤ i.1 → s.s23On = true → s.inService i = true → x.running = none → x.queue = [] → x.gap = false →
         (x.calDue = true ∨ x.gapAt + 10 * ms ≤ s.clk.tempo) → Does (.gapStepStart i) [.pma] s fun t =>
           t.sect i = { x with gap := true, calDue := false } ∧ others t)
     ∧ (2 ≤ i.1 → s.s23On = true → s.inService i = true → x.running = none → x.gap = false → x.gapAt + 100 * ms ≤ s.clk.tempo →
         Does (.forcedGapStep i) [.pma] s fun t => (t.sect i).gap = true ∧ (t.sect i).forced = satAdd x.forced 1 ∧ bit t.pma.irq 5 = true
           ∧ (∀ k, (t.sect k).queue.map (·.id) = (s.sect k).queue.map (·.id)) ∧ (∀ a ∈ (t.sect i).queue.head?, a.delayed = true)
           ∧ ∀ k, k ≠ i → { t.sect k with queue := [] } = { s.sect k with queue := [] })
     ∧ (x.gap = true → Does (.gapStepEnd i eb bad) [.pma] s fun t => (t.sect i).gap = false ∧ (t.sect i).gapAt = s.clk.tempo
           ∧ (t.sect i).held = x.held ∧ (t.sect i).heldW = x.heldW ∧ others t
           ∧ ended (x.gapRow < 17 ∧ ∀ w, r.row = some w → (w.1 + 17 - x.gapRow) % 17 < 4) t)
     ∧ (2 ≤ i.1 → x.gapAt + 100 * ms ≤ s.clk.tempo → exec (.pmaJobRun i) s = .next s))

/-- R120, R133, Table 6.6: a ring out of lock is tuned again; relocking is a strike against its channel or row, failing a hard failure of it,
which takes the ring's channel out of use in its section (a weight ring of a channel without a lane counts against the channel), and a row
fault a hard failure of the row, which the spare row replaces at the next boundary. R133, R134: a failed laser is a hard failure; in every
section its lane moves to the standby laser, while that is dark and usable, the other lanes staying; the switch ends with the lasers lit. A
laser that regains its lock counts a strike. -/
def Obligations.RingsRowsAndLasers : Prop :=
  (∀ (r : PmaRing) (i : Fin 4) (w : Fin 17) (s : State), s.powered = true →
     ((s.sect r.sec).ready = true → r ∉ s.pma.retuning → Does (.ringLockLoss r) [.pma] s fun t =>
         t.pma = { s.pma with retuning := s.pma.retuning ++ [r] })
     ∧ (r ∈ s.pma.retuning → Does (.ringReintoneDone r true) [.pma, .hlt] s fun t =>
         t.pma = { s.pma with retuning := s.pma.retuning.filter fun x => !decide (x = r) } ∧ Struck (ringUnit r) s t)
     ∧ (r ∈ s.pma.retuning → Does (.ringReintoneDone r false) [.pma, .gates, .fe, .hif, .hlt, .dbg] s fun t =>
         let lane := ∃ k, k < s.lanes r.sec ∧ s.laneChan r.sec k = r.chan.1
         r ∉ t.pma.retuning ∧ bit (t.sect r.sec).ringsOk r.chan.1 = false ∧ t.hif.mem = s.hif.mem
           ∧ (r.row = none ∨ lane → FoundFailed (ringUnit r) t) ∧ (¬lane → FoundFailed (unit uChan (r.sec.1 * 32 + r.chan.1)) t))
     ∧ (bit (s.sect i).rows w.1 = true → Does (.rowFault i w) [.pma, .gates, .fe, .hif, .hlt, .dbg] s fun t =>
         FoundFailed (unit uRow (i.1 * 32 + w.1)) t
           ∧ (2 ≤ i.1 ∧ (s.sect i).running = none → bit (t.sect i).rows w.1 = false ∧ (t.sect i).rowDue = none)
           ∧ (i.1 < 2 ∨ (s.sect i).running ≠ none → (t.sect i).rowDue = some w) ∧ t.hif.mem = s.hif.mem))
  ∧ (∀ (l : Fin 18) (ms : List LaneMove) (rest : List (List LaneMove)) (s : State), s.powered = true →
     (bit s.pma.dead l.1 = false → Does (.laserFail l) [.pma, .fe, .gates, .hif, .hlt, .dbg] s fun t =>
         bit t.pma.dead l.1 = true ∧ bit t.pma.lit l.1 = false ∧ FoundFailed (unit uLaser l.1) t ∧ t.hif.mem = s.hif.mem
           ∧ ∀ (i : Fin 4) (k : Nat), (s.sect i).carriers[k]? = some l.1 → (s.sect i).carriers.Nodup → s.inService i = true → s.rotOwn i ≠ some l.1 →
               (∀ c ∈ (s.sect i).carriers, c ≠ l.1 → bit (s.chans i) c = true) → 17 ∉ (s.sect i).carriers → bit (s.chans i) 17 = true →
               bit s.pma.lit 17 = false → (∃ ms ∈ t.pma.switching, { sec := i, lane := k, onto := 17 } ∈ ms) ∧ bit t.pma.irq 0 = true)
     ∧ (s.pma.switching = ms :: rest → Does .laserSwitchDone [.pma, .gates] s fun t =>
         t.pma = { s.pma with lit := t.pma.lit, switching := rest } ∧ (∀ m ∈ ms, m.onto < 18 → bit t.pma.lit m.onto = true)
           ∧ ∀ c, bit s.pma.lit c = true → bit t.pma.lit c = true)
     ∧ (bit s.pma.dead l.1 = false → Does (.laserWavelengthLockRegained l) [.hlt] s (Struck (unit uLaser l.1) s)))

/-- R129: S2 and S3 idle for PMA_IDLE_MS are belayed off; their wake ends with their intonation, which lifts the belay. R123..R128, R182: an
idle section starts its first queued job and reads its tiles; once they have been read the passes of a job that stands end with every
vector, those of one whose section lost its lanes with some, the section holds the matrix and the results are written; once that is done the
job ends and the submitter gets the completion. A job message is accepted into a section's queue, its credit given back. R362: PMA_CAL sets
the idle time and asks for calibration steps, PMA_STATUS shows a section, PMA_JOB queues a job that R127 accepts, whose reply is its
completion. -/
def Obligations.PhotonicJobs : Prop :=
  (∀ s : State, s.powered = true →
     (s.pma.s23 = 2 → (∀ i : Fin 4, 2 ≤ i.1 → (s.sect i).running = none ∧ (s.sect i).queue = [] ∧ (s.sect i).gap = false) →
         s.pma.idleAt + (max 1 s.pma.idleMs.toNat) * ms ≤ s.clk.tempo → (∀ b ∈ s.fab.belays, b.dom ≠ .s23) →
         Does .s23IdleTimeout [.pma, .fab] s fun t => t.pma = { s.pma with s23 := 3 }
           ∧ t.fab = { s.fab with belays := s.fab.belays ++ [{ dom := .s23, off := true, step := .request, since := s.clk.tempo }] })
     ∧ (s.pma.s23 = 1 → (s.sect 2).ready = true → (s.sect 3).ready = true → Does .s23WakeDone [.pma, .fab] s fun t =>
         t.pma = { s.pma with s23 := 2, idleAt := s.clk.tempo } ∧ (∀ b ∈ t.fab.belays, b.dom ≠ .s23) ∧ t.fab.net = s.fab.net))
  ∧ (∀ (i : Fin 4) (j : Job) (more : List Job) (p : Packet) (s : State), s.powered = true → 2 ≤ i.1 →
     let x := s.sect i
     let bridge := svcNi 0
     let reads := fun (is : List (Fin 4)) (t : State) => ∃ l, (t.ni bridge).reqs = (s.ni bridge).reqs ++ l ∧ l.length = (s.jobReads j is).length
       ∧ ∀ r ∈ l, r.owner = .pmaRead j.id ∧ r.pkt.cmd = 0x06 ∧ r.pkt.cls = 0 ∧ ∃ k ∈ s.jobReads j is, r.pkt.addr = BitVec.ofNat 40 (4096 * k)
     (x.queue = j :: more → jSect j.desc ≠ 3 → s.canRun i = true → Does (.pmaJobRun i) [.pma, .fab] s fun t =>
         (t.sect i).queue = more ∧ (t.sect i).held = x.held ∧ (∀ k, k ≠ i → t.sect k = s.sect k) ∧ reads [i] t
           ∧ (t.sect i).running = some { j with start := s.clk.tempo, loaded := !s.keeps j i || jComplex j.desc })
     ∧ (∀ more3, (s.sect 2).queue = j :: more → (s.sect 3).queue = j :: more3 → jSect j.desc = 3 → s.canRun 2 = true → s.canRun 3 = true →
         Does (.pmaJobRun i) [.pma, .fab] s fun t => (t.sect 2).queue = more ∧ (t.sect 3).queue = more3 ∧ reads [2, 3] t
           ∧ (∃ a, (t.sect 2).running = some a ∧ a.start = s.clk.tempo) ∧ ∃ a, (t.sect 3).running = some a ∧ a.start = s.clk.tempo)
     ∧ (x.running = some j → j.result = none → s.pma.switching = [] → s.jobOpen j.id = false → jSect j.desc ≠ 3 →
         Does (.pmaJobComplete i) [.freeCtr, .pma, .fab] s fun t => ∃ n sat,
           (t.sect i).running = some { j with result := some (if s.jobStands j i then 0 else 2, n,
               min (11 + jK j.desc) x.ebCal.toNat - (if jComplex j.desc then 1 else 0), sat) }
             ∧ (s.jobStands j i = true → n = jV j.desc) ∧ (s.jobStands j i = false → jV j.desc = 0 ∨ n < jV j.desc)
             ∧ (t.sect i).held = some (BitVec.ofNat 40 (jMatrix j.desc + if jComplex j.desc then 512 else 0)) ∧ (∀ k, k ≠ i → t.sect k = s.sect k)
             ∧ ∃ l, (t.ni bridge).reqs = (s.ni bridge).reqs ++ l ∧ ∀ r ∈ l, r.owner = .pmaWrite j.id ∧ r.pkt.cmd = 0x07 ∧ r.pkt.cls = 0)
     ∧ (∀ d, x.running = some j → j.result = some d → s.jobOpen j.id = false → jSect j.desc ≠ 3 →
         Does (.pmaJobComplete i) [.gates, .fe, .pma, .fab, .hif, .hostMem, .hlt, .dbg] s fun t =>
           (t.sect i).running = none ∧ (t.sect i).jobs = satAdd x.jobs 1 ∧ (t.sect i).queue.map (·.id) = x.queue.map (·.id) ∧ t.pma.idleAt = s.clk.tempo
             ∧ ∀ c, j.cmd = some c → ∀ w ∈ t.hif.waits, ¬(w.on = .job ∧ w.cmd.id = c.id))
     ∧ (Arrived (svcNi 0) 0x80 p s → ∀ n, s.nodeOf p.src.toNat = some n →
         let d : Vector Word 8 := Vector.ofFn fun k => wordOf ((bodyBytes p.body 32 |>.drop (4 * k.1)).take 4)
         validateJob s d = .ok [i] → Does .pmaBridgeJob [.pma, .fab, .grid] s fun t =>
           ∃ a, (t.sect i).queue = x.queue ++ [a] ∧ a.desc = d ∧ a.core = some (n, p.mb) ∧ a.cmd = none))
  ∧ (∀ (i : Fin 4) (c : Cmd) (s u : State), DeviceScope c →
     (HostNext 0xB0 c s u → WordsFit c [(2, 0xF03FF)] → fld (c.w 2) 0 10 ≤ 1000 →
         (∀ k : Fin 4, bit (c.w 2) (16 + k.1) = true → (s.sect k).retired = false) →
         Answers .pmaCal c 0x00 res0 s fun t => Only [.pma] u t
           ∧ t.pma.idleMs = (if fld (c.w 2) 0 10 = 0 then s.pma.idleMs else BitVec.ofNat 10 (fld (c.w 2) 0 10))
           ∧ ∀ k : Fin 4, t.sect k = { s.sect k with calDue := (s.sect k).calDue || bit (c.w 2) (16 + k.1) })
     ∧ (HostNext 0xB1 c s u → WordsFit c [(2, 3)] → fld (c.w 2) 0 2 = i.1 →
         Answers .pmaStatus c 0x00 (pmaStatus s, sectStat i s, (s.sect i).rows.setWidth 32, (s.chans i).setWidth 32) s fun t => t = u)
     ∧ (HostNext 0xB2 c s u → WordsFit c ((List.range 8).map fun k => (2 + k, -1)) → s.pwr.mode ≠ 1 → validateJob s (cJob c) = .ok [i] →
         Does .pmaJob [.pma, .fab, .hif] s fun t => Waits c .job t ∧ t.hif.mem = s.hif.mem
           ∧ ∃ a, (t.sect i).queue = (s.sect i).queue ++ [a] ∧ a.desc = cJob c ∧ a.cmd = some c ∧ a.core = none))

/-! ### Front end, grid, repair (07_front_end.md, 08_grid_cores.md, 23_repair.md) -/

/-- R145, R146, R149, 20_streams.md R366: RNC and separation move with their sections while the RNC matrix stays, and an event tells it; a hop
of 192 cabin frames gives each occupied seat its decision and 64 samples of talker signal, takes over what was staged for it and answers the
commands that waited for it. -/
def Obligations.FrontEndMoves : Prop :=
  ∀ (vad : BitVec 4) (s : State), s.powered = true →
    let seats : BitVec 4 := if s.sess.open_ && decide (s.fe.sepPath ≠ 0) then s.sess.occupied else 0
    (s.fe.rncOn = true → (s.fe.rncPath = 1 ∨ s.fe.rncPath = 2) → s.fe.rncPath ≠ s.rncPathNow → Does .rncPathMove [.fe, .dbg] s fun t =>
        t.fe.rncPath = s.rncPathNow ∧ t.fe.matrix = s.fe.matrix ∧ t.fe.rncOn = true ∧ t.fe.suspended = s.fe.suspended
          ∧ ∃ e, t.dbg.newest = some e ∧ e.code = 0xFF)
    ∧ (s.boot.quietReady = true → s.hubOn = true → s.fe.loaded = true → 192 ≤ s.fe.hopFrames →
        Does (.separationHop vad s.fe.hopFirst) [.freeCtr, .gates, .fe, .pma, .fab, .grid, .tiers, .sess, .stream, .hif, .hostMem, .pwr] s fun t =>
          t.fe.vad = s.voices vad &&& seats ∧ t.fe.hopFrames = s.fe.hopFrames - 192
            ∧ (∀ q : Fin 4, (t.fe.talker[q]).length = if bit seats q.1 then 64 else 0) ∧ (∀ w ∈ t.hif.waits, w.on ≠ .hop)
            ∧ t.fe.cfgSt = none ∧ t.fe.seatSt = none ∧ t.fe.sepDue = none ∧ t.sess.id = s.sess.id ∧ t.sess.open_ = s.sess.open_
            ∧ (∀ k m, s.fe.cfgSt = some (k, m) → t.fe.kSep = k ∧ t.fe.mics = m)
            ∧ (s.fe.seatSt = none → t.sess = s.sess))

/-- R160, R161: a retired compute core's number goes to the spare nearest to it; a front-end core's to a spare of the anchor row, or, where that
row has none, to its last compute core, whose number goes to a spare in turn. R161, R162: FE0..FE7 move at a hop to the first eight healthy
cores of the row designated for them, and the front end runs on; with fewer spares than numbers displaced the width drops. -/
def Obligations.CoresAndAnchorRow : Prop :=
  (∀ (n j k : Fin 288) (l lk : Nat) (s : State), s.powered = true → s.sterdo = true → s.logicalOf n = some l → l ∈ s.grid.toReplace →
     let row := s.spares.filter fun x => decide (nodeY x = s.grid.anchorY)
     let told := fun (a b : Fin 288) (t : State) => ∃ e, t.dbg.newest = some e ∧ e.code = 0xFF ∧ e.arg0 = wd a.1 ∧ e.arg1 = wd b.1
     let parts := [Part.fab, .grid, .tiers, .stream, .hif, .hostMem, .dbg]
     (l + 8 < s.grid.width → s.spareFor (nodeY n.1) = some j.1 → Does (.coreReplace n) parts s fun t =>
         t.logicalOf j = some l ∧ t.logicalOf n = none ∧ l ∉ t.grid.toReplace ∧ told n j t)
     ∧ (s.grid.width ≤ l + 8 → s.grid.anchorDue = none → row.head? = some j.1 → Does (.coreReplace n) parts s fun t =>
         t.logicalOf j = some l ∧ t.logicalOf n = none ∧ l ∉ t.grid.toReplace ∧ told n j t)
     ∧ (s.grid.width ≤ l + 8 → s.grid.anchorDue = none → row = [] → s.lastCompute = some (k, lk) → s.spareFor (nodeY k.1) = some j.1 →
         Does (.coreReplace n) parts s fun t => t.logicalOf k = some l ∧ t.logicalOf j = some lk ∧ l ∉ t.grid.toReplace ∧ lk ∉ t.grid.toReplace
           ∧ told k j t))
  ∧ (∀ (y : Nat) (s : State), s.powered = true → s.sterdo = true → s.grid.anchorDue = some y →
     let new := (s.healthyRow y).take 8
     let displaced := (s.grid.role.toList.zipIdx.filter fun x => decide (x.2 ∈ new) && (match x.1 with | .mapped l => decide (l < s.grid.width - 8) | _ => false)).length
     let room := ((List.finRange 288).filter fun j => (decide (s.grid.role[j] = .spare) || (s.isFe j && s.healthy j.1)) && decide (j.1 ∉ new)).length
     (room < displaced → s.grid.width ≠ 0 → Completes .anchorRowMove s fun t => t.grid.width < s.grid.width ∧ t.grid.anchorDue = none) ∧ (displaced < room →
     Does .anchorRowMove [.fe, .fab, .grid, .tiers, .stream, .hif, .hostMem, .dbg] s fun t =>
       t.grid.anchorY = y ∧ t.grid.anchorDue = none ∧ t.fe = { s.fe with frozen := false }
         ∧ (∃ e, t.dbg.newest = some e ∧ e.code = 0xFF ∧ e.arg0 = wd y)
         ∧ ∀ (k : Nat) (j : Fin 288), k < 8 → (s.healthyRow y)[k]? = some j.1 → t.logicalOf j = some (s.grid.width - 8 + k)))

/-- R165, R166, R190: with every core of a RUNNING graph paused at PITCH, a staged switch starts a new epoch: each core runs at its ENTRY with
its logical number, the graph's id and the epoch in g0 to g2, and the commands that waited are answered. R188, R190, 15_recurrence.md R282:
PITCH on a core of a graph commits the steps of its streams in the mask that take part: each one's slot flips and its pitch counts on, one
that is to pause becomes PAUSED; the core goes on, or pauses where the graph's boundary is awaited. -/
def Obligations.ProgramsSwitchAndPitch : Prop :=
  (∀ (g : Fin 8) (s : State), s.powered = true →
     let x := s.grid.graph[g]
     x.state = .running → (x.stagedImage.isSome || x.stagedPlan.isSome) = true → s.allPaused g = true → x.rowsDown = false →
     Does (.programSwitch g) [.freeCtr, .fab, .grid, .tiers, .hif, .hostMem, .dbg] s fun t =>
       let y := t.grid.graph[g]
       y.epoch = x.epoch + 1 ∧ y.state = .running ∧ y.stagedImage = none ∧ y.stagedPlan = none
         ∧ (x.stagedPlan.isSome = true → y.plan = x.stagedPlan) ∧ (∀ w ∈ t.hif.waits, w.on ≠ .switch g)
         ∧ ∀ a ∈ t.coresOf g, let c := t.core a.2
             c.run = .running ∧ c.pc = wd (4 * c.entry) ∧ c.g[0] = wd a.1 ∧ c.g[1] = wd g.1 ∧ c.g[2] = y.epoch.setWidth 32)
  ∧ (∀ (n : Fin 288) (w : BitVec 26) (outs : List StreamOut) (g : Fin 8) (s : State),
     let c := s.core n
     let out := fun (i : Fin 16) => (outs.find? fun o => decide (o.stream = i)).getD (StreamOut.none_ i)
     let is := (s.streamsOf g).filter fun i => bit (c.getG (fRs1 w)) i.1 && s.pitches i
     CoreAt n 0x35 w s → c.free [fRs1 w] = true →
     (c.graph = none → Completes (.pitch n w outs) s (Retired n id s))
     ∧ (c.graph = some g → (∀ i ∈ is, (out i).positions = [] ∨ s.ctxFull i (out i).positions = true ∨ s.stepReady i (out i).positions.length = true) →
         (s.grid.graph[g]).stopping = false → Does (.pitch n w outs) [.gates, .grid, .tiers, .stream, .hif, .hostMem, .dbg] s fun t =>
           (t.core n).pc = c.pc + 4 ∧ t.grid.graph = s.grid.graph
             ∧ (s.boundaryDue g = false → (t.core n).run = c.run)
             ∧ (s.boundaryDue g = true → (t.core n).run = .paused ∧ (t.core n).atPitch = true)
             ∧ (∀ i ∈ is, let x := (s.stream[i]).slotWord.toNat
                 (t.stream[i]).slotWord = wd ((x / 2 + 1) % 2 ^ 31 * 2 + (1 - x % 2))
                   ∧ ((s.stream[i]).pausing = true → (t.stream[i]).state = .paused))
             ∧ ∀ i, i ∉ is → (t.stream[i]).slotWord = (s.stream[i]).slotWord))

/-- R405, R411, R412, Table 23.2: the unit declared permanent first is retired: it is counted, its ledger entry is on its way to OTP, and its
part leaves service; no packet stays in a retired router or partly across a retired link (10_fabric_routing.md R209). The oldest entry is
programmed into the next OTP slot that verifies, else into the extension, else it is lost. R401, R403, R408, 12_tiers.md R247, R248:
operating time counts a second and drops strikes older than 24 h; a conductor mismatch has the effects of SAFE_STATE and is a hard failure;
a scrub is noted, and its corrected and uncorrectable errors are counted; the runs of a retired core that cannot be read are given up. -/
def Obligations.RetirementAndHealth : Prop :=
  (∀ (un : List (Fin 288)) (u : UnitRef) (cls : BitVec 2) (count failed : Nat) (more : List (UnitRef × BitVec 2 × Nat)) (e : BitVec 64)
     (rest : List (BitVec 64)) (s : State), s.powered = true →
     (s.hlt.permanent = (u, cls, count) :: more →
         Does (.unitRetire un) [.boot, .sap, .gates, .fe, .pma, .fab, .grid, .tiers, .stream, .hif, .hostMem, .hlt, .dbg] s fun t =>
           t.isRetired u = true ∧ t.hlt.last = ledgerEntry u cls count s.today ∧ t.hlt.count = satAdd s.hlt.count 1 ∧ bit t.hlt.irq 1 = true
             ∧ t.hlt.toWrite = s.hlt.toWrite ++ [ledgerEntry u cls count s.today] ∧ (∀ p ∈ t.hlt.permanent, p.1 ≠ u)
             ∧ (u.type = uLink → t.fab.deadLinks.contains u.id.toNat = true ∧ ∀ f ∈ t.fab.net, f.across u.id.toNat = false)
             ∧ (u.type = uRouter → ∀ p ∈ t.packets, p.at_ ≠ u.id.toNat) ∧ (u.type = uDram → t.boot.dramFail = true)
             ∧ (u.type = uCond → t.boot.lockstep = true))
     ∧ (s.hlt.toWrite = e :: rest → let k := s.otp.nextSlot + failed
         Does (.ledgerWrite failed) [.otp, .hlt, .dbg] s fun t => t.hlt.toWrite = rest
           ∧ (k < 512 → t.otp = { s.otp with ledger := s.otp.ledger ++ [(k, e)], nextSlot := k + 1 } ∧ t.hlt.ext = s.hlt.ext)
           ∧ (512 ≤ k → t.otp = { s.otp with nextSlot := 512 }
               ∧ (s.hlt.ext.length < 1536 → t.hlt.ext = s.hlt.ext ++ [e] ∧ t.hlt.lost = s.hlt.lost)
               ∧ (1536 ≤ s.hlt.ext.length → t.hlt.ext = s.hlt.ext ∧ t.hlt.lost = satAdd s.hlt.lost 1 ∧ bit t.hlt.irq 3 = true))))
  ∧ (∀ (pair : Fin 2) (ch : Fin 8) (es : List RowError) (e : RowError) (n : Fin 288) (bad : List Nat) (s : State), s.powered = true →
     (bit s.boot.done 1 = true → s.hlt.secAt + 1000 * ms ≤ s.clk.tempo → Does .operatingSecond [.hlt] s fun t => t.hlt.optime = s.hlt.optime + 1
         ∧ (∀ r ∈ t.hlt.units ++ t.hlt.rows, r.events ≠ [] ∧ ∀ x ∈ r.events, (s.hlt.optime + 1).toNat < x + 86400)
         ∧ t.hlt.retired = s.hlt.retired ∧ t.hlt.permanent = s.hlt.permanent)
     ∧ (bit s.boot.done 2 = true → Does (.lockstepMismatch pair) [.boot, .sap, .gates, .fe, .tiers, .stream, .hif, .hostMem, .hlt] s fun t =>
         t.boot = { s.boot with lockstep := true } ∧ t.safe = true ∧ t.faultN = true ∧ FoundFailed (unit uCond pair.1) t)
     ∧ (bit s.boot.done 5 = true → s.tiers.scrubAt[ch] + 28800 ≤ s.hlt.optime.toNat → Does (.dramScrub ch es) [.tiers, .hif, .hlt] s fun t =>
         t.tiers.scrubAt[ch] = s.hlt.optime.toNat ∧ t.hif.mem = s.hif.mem ∧ (es = [] → t.hlt = s.hlt)
           ∧ (es = [e] → e.uncorrectable = false → t.tiers.eccCorr[ch] = satAdd s.tiers.eccCorr[ch] 1 ∧ t.tiers.eccUnc = s.tiers.eccUnc)
           ∧ (es = [e] → e.uncorrectable = true → t.tiers.eccUnc[ch] = satAdd s.tiers.eccUnc[ch] 1 ∧ t.tiers.eccCorr = s.tiers.eccCorr
               ∧ FoundFailed (unit uDramRow (ch.1 * 2 ^ 21 + e.row)) t))
     ∧ (s.healthy n.1 = false → Does (.corePoolEmpty n bad) [.tiers, .hif, .hostMem] s fun t =>
         ∀ x, bad = [x] → (∃ r ∈ s.runsOf n.1, r.tile = x ∧ s.serving r = true) → (∀ r ∈ t.tiers.runs, r.tile ≠ x) ∧ (t.entry x).atHome = false))

/-! ### The fabric (10_fabric_routing.md, 11_fabric_service.md) -/

/-- R213, R216: an NI that holds a buffer credit injects a waiting reply first, else its eligible request of the highest class, which takes its
credit, its timer and a free tag, or keeps its tag where it is reissued (R198); the packet enters the fabric at the NI's router. A reply
that finds no buffer leaves the requests their turn. R198..R201, R205, R209, R218: a packet whose head is first in its buffer and is granted
its output port goes one hop on along its route where the next router has a buffer, or ejects at the NI of its port where the NI has a slot;
a body error goes on as POISON. One with an unreadable head, in a retired router or stalled for more than 1 ms is discarded and counted. -/
def Obligations.PacketsTravel : Prop :=
  (∀ (i : Fin 300) (p : Packet) (more : List Packet) (k : Nat) (r : Req) (s : State), s.powered = true →
     let x := s.ni i
     (x.rsp = p :: more → s.niRoom i 1 = true → Does (.packetInject i) [.freeCtr, .fab, .dbg] s fun t =>
         (t.ni i).rsp = more ∧ (t.ni i).reqs = x.reqs ∧ (∀ d, t.credit i d = s.credit i d)
           ∧ t.packets = s.packets ++ [{ routed s i p.dest p with slot := 0 }])
     ∧ ((x.rsp = [] ∨ s.niRoom i 1 = false) → s.candidate i = some (k, r) →
         let tag := if r.again then r.pkt.tag else x.freeTag.getD 0
         Does (.packetInject i) [.freeCtr, .fab, .dbg] s fun t =>
         (∃ q, (t.ni i).reqs[k]? = some q ∧ q.sent = some s.clk.tempo ∧ q.pkt.tag = tag ∧ q.pkt.gen = x.genOf tag ∧ q.dst = r.dst ∧ q.owner = r.owner
             ∧ t.packets = s.packets ++ [{ q.pkt with slot := 0 }])
           ∧ (t.ni i).rsp = x.rsp ∧ (t.ni i).nextTag = (if r.again then x.nextTag else tag + 1)
           ∧ (r.owner.isMcast = false → t.credit i r.dst = s.credit i r.dst - 1)
           ∧ ∀ j, j ≠ i → t.ni j = s.ni j))
  ∧ (∀ (k d : Nat) (ix : BitVec 5) (i : Fin 300) (f : Flight) (e : FlitErrors) (s : State), s.powered = true → s.fab.net[k]? = some f →
     let p := f.pkt
     let rest := (s.fab.net.eraseIdx k).map (·.pkt)
     let port := if p.dportV then 5 else 4
     (s.headOfLine k f = true → s.fab.deadRouters.contains p.at_ = false → p.mode ≠ 2 → f.taken = [] →
         (p.nextDir = (some d, ix) → s.canTake f d = true → s.granted f d = true → s.fab.deadLinks.contains (linkOf p.at_ d) = false →
             Does (.packetHop k ⟨.none, e.ni⟩) [.freeCtr, .fab, .dbg] s (fun t => t.packets = rest ++ [p.hop d ix s.clk.tempo] ∧ t.fab.ni = s.fab.ni)
             ∧ Does (.packetHop k ⟨.doubleBody, e.ni⟩) [.freeCtr, .fab, .dbg] s (fun t =>
                 t.packets = rest ++ [{ p with poison := true }.hop d ix s.clk.tempo] ∧ t.fab.ni = s.fab.ni))
         ∧ (p.nextDir = (none, ix) → portNi p.at_ p.dportV = some i → s.canTake f port = true → s.granted f port = true →
             (288 ≤ i.1 ∨ s.isRetired (unit uCore i.1) = false ∧ (isU p.cmd = true → (s.ni i).tierUsed < 32)) →
             Does (.packetHop k ⟨.none, .none⟩) [.freeCtr, .fab, .dbg] s (fun t =>
                 t.packets = rest ∧ (t.ni i).rx = (s.ni i).rx ++ [p] ∧ ∀ j, j ≠ i → t.ni j = s.ni j)
             ∧ Does (.packetHop k ⟨.none, .doubleHead⟩) [.freeCtr, .fab, .dbg] s (fun t =>
                 t.packets = rest ∧ t.fab.headDrop = satAdd s.fab.headDrop 1 ∧ t.fab.ni = s.fab.ni))
         ∧ ((e.router = .doubleHead ∨ e.router = .cpar) → Does (.packetHop k e) [.fab, .hlt, .dbg] s fun t =>
             t.packets = rest ∧ t.fab.headDrop = satAdd s.fab.headDrop 1 ∧ t.fab.ni = s.fab.ni))
     ∧ (s.headOfLine k f = true → s.fab.deadRouters.contains p.at_ = true → Does (.packetHop k e) [.fab, .dbg] s fun t =>
         t.packets = rest ∧ t.fab.headDrop = satAdd s.fab.headDrop 1 ∧ t.fab.ni = s.fab.ni)
     ∧ (p.since + ms < s.clk.tempo → Does (.stallPurge k) [.fab, .dbg] s fun t => t.packets = rest ∧ t.fab.ni = s.fab.ni
         ∧ t.fab.stallPurge = satAdd s.fab.stallPurge 1 ∧ t.fab.irq = setBit s.fab.irq 1 true ∧ Logged 0x09 7 (wd p.at_) 0 s t))

/-- R179, R181, R183, R184, R197: a core serves a request that it admits: a tile in eight DATA packets, 512 bytes written, an atomic operation
whose reply carries the value before it, or INTERNAL, applied to nothing, where its word cannot be read (R152); a message is stored and
acknowledged. What it does not admit answers DENIED and changes nothing. Bytes outside those written stand. -/
def Obligations.CoreServesRequests : Prop :=
  ∀ (n : Fin 288) (p : Packet) (s : State),
    let i := coreNi n
    let a := p.addr.toNat
    let old := wordOf ((s.core n).home.readN a 4)
    let home := fun (t : State) => (t.core n).home
    let atomic := fun (c : BankRead → Instr) (new : Word) =>
      (s.admits n p 4 = true → Does (c ⟨n, .clean⟩) [.fab, .grid] s fun t => Served i p s t ∧ Responded i p 0x41 0 old s t ∧ t.grid.graph = s.grid.graph
        ∧ home t = (home s).writeN a (bytesOf new) ∧ (∀ x, x < a ∨ a + 4 ≤ x → (home t).read x = (home s).read x) ∧ ∀ m, m ≠ n → t.core m = s.core m)
      ∧ (s.admits n p 4 = true → Does (c ⟨n, .uncorrectable⟩) [.fab, .hif, .hlt, .dbg] s fun t => Served i p s t ∧ Responded i p 0x41 0x3F 0 s t
          ∧ FoundFailed (sramRow n a) t)
      ∧ (s.admits n p 4 = false → ∀ e, Does (c ⟨n, e⟩) [.fab] s fun t => Served i p s t ∧ Responded i p 0x41 0x16 0 s t)
    (Arrived i 0x01 p s → (s.admits n p 4096 = true → Does (.rdTile n .clean) [.freeCtr, .fab] s fun t => Served i p s t
          ∧ ∀ k, k < 8 → ∃ r, (t.ni i).rsp[(s.ni i).rsp.length + k]? = some r ∧ r.cmd = 0x40 ∧ r.status = 0 ∧ r.tag = p.tag
              ∧ r.seq.toNat = k ∧ r.body = tilePart (BitVec.ofNat 32768 (natOf ((home s).readN a 4096))) k)
        ∧ (s.admits n p 4096 = false → ∀ e, Does (.rdTile n e) [.fab] s fun t => Served i p s t ∧ Responded i p 0x40 0x16 0 s t))
    ∧ (Arrived i 0x02 p s → (s.admits n p 512 = true → Does (.wr512 n) [.fab, .grid] s fun t => Served i p s t ∧ Responded i p 0x41 0 0 s t
          ∧ t.grid.graph = s.grid.graph ∧ home t = (home s).writeN a (bodyBytes p.body 512)
          ∧ (∀ x, x < a ∨ a + 512 ≤ x → (home t).read x = (home s).read x) ∧ ∀ m, m ≠ n → t.core m = s.core m)
        ∧ (s.admits n p 512 = false → Does (.wr512 n) [.fab] s fun t => Served i p s t ∧ Responded i p 0x41 0x16 0 s t))
    ∧ (Arrived i 0x03 p s → atomic .amoAdd (old + p.opa))
    ∧ (Arrived i 0x04 p s → atomic .amoSwap p.opa)
    ∧ (Arrived i 0x05 p s → atomic .amoCas (if old = p.opa then p.opb else old))
    ∧ ∀ c cmd, (c, cmd) ∈ [(Instr.msg n, 0x80), (.msgTree n, 0x81)] → MsgArrived i cmd p s →
        (bit (s.core n).mbox p.mb.toNat = true → Does c [.fab, .grid] s fun t => Served i p s t ∧ Responded i p 0x41 0 0 s t ∧ home t = home s
          ∧ (∀ m, m ≠ n → t.core m = s.core m)
          ∧ ((s.core n).landing = [] → ((s.core n).box[p.mb.toNat]'p.mb.isLt).length < 4 → (t.core n).landing = []
              ∧ (t.core n).box[p.mb.toNat]'p.mb.isLt = (s.core n).box[p.mb.toNat]'p.mb.isLt
                  ++ [{ src := p.src, len := BitVec.ofNat 4 (p.len.toNat - 1), mb := p.mb, body := p.body, cls := p.cls }]))
        ∧ (bit (s.core n).mbox p.mb.toNat = false → Does c [.fab] s fun t => Served i p s t ∧ Responded i p 0x41 0x16 0 s t)

/-- R232, R235, R236, R242, R248: an owner hauler answers a U-space read with the tile in eight DATA packets and applies a write to a RAW tile
in its frame; it redirects an access to a tile at home and refuses one outside every object (DENIED) or, for a read, to a poisoned tile
(INTERNAL); a tier store answers U_MOVED where the run named is not there or, to a read, no longer serves the tile. -/
def Obligations.TierAccesses : Prop :=
  ∀ (c : Fin 8) (n : Fin 288) (p : Packet) (o : Obj) (old : List Byte) (ecc : Ecc) (s : State), s.powered = true → p.poison = false →
    let i := dramNi c
    let k := p.addr.toNat / 4096
    let e := s.entry k
    let moved := wd (e.node + e.granule * 2 ^ 9)
    (s.firstU i 0x06 = some p →
        (s.objOf k = some o → e.poison = false → e.atHome = false → Does (.uRd i .clean) [.fab, .tiers, .stream] s fun t => Served i p s t
          ∧ ∀ x, x < 8 → ∃ r, (t.ni i).rsp[(s.ni i).rsp.length + x]? = some r ∧ r.cmd = 0x40 ∧ r.status = 0 ∧ r.tag = p.tag ∧ r.seq.toNat = x
              ∧ ∀ b, s.tileBytes k = some b → r.body = tilePart (tileVal b) x)
        ∧ (s.objOf k = some o → e.poison = false → e.atHome = true → Does (.uRd i ecc) [.fab] s fun t => Served i p s t ∧ Responded i p 0xC0 0 moved s t)
        ∧ (s.objOf k = none → Does (.uRd i ecc) [.fab] s fun t => Served i p s t ∧ Responded i p 0x40 0x16 0 s t)
        ∧ (s.objOf k = some o → e.poison = true → Does (.uRd i ecc) [.fab] s fun t => Served i p s t ∧ Responded i p 0x40 0x3F 0 s t))
    ∧ (s.firstU i 0x07 = some p →
        (s.objOf k = some o → e.tier = .dram → e.poison = false → e.fmt = 0 → e.len = 63 → p.addr.toNat % 4096 + p.writeLen ≤ 4096 → s.tileBytes k = some old →
          Does (.uWr i ecc) [.fab, .tiers, .stream] s fun t => Served i p s t ∧ Responded i p 0x41 0 0 s t
            ∧ t.tileBytes k = some (merge old (p.addr.toNat % 4096) (bodyBytes p.body p.writeLen)))
        ∧ (s.objOf k = some o → e.atHome = true → Does (.uWr i ecc) [.fab, .tiers] s fun t => Served i p s t ∧ Responded i p 0xC0 0 moved s t
            ∧ (o.cached = true → (t.entry k).dirty = true))
        ∧ (s.objOf k = none → Does (.uWr i ecc) [.fab] s fun t => Served i p s t ∧ Responded i p 0x41 0x16 0 s t))
    ∧ (s.firstU (coreNi n) 0x06 = some p → (∀ r, s.namedRun n.1 p = some r → s.serving r = false) →
        Does (.uRd (coreNi n) ecc) [.fab] s fun t => Served (coreNi n) p s t ∧ Responded (coreNi n) p 0xC1 0 0 s t)
    ∧ (∀ r, s.firstU (coreNi n) 0x06 = some p → s.namedRun n.1 p = some r → s.serving r = true → e.poison = false → Does (.uRd (coreNi n) .clean) [.fab, .tiers, .stream] s fun t =>
        Served (coreNi n) p s t ∧ (t.ni (coreNi n)).rsp.length = (s.ni (coreNi n)).rsp.length + 8)
    ∧ (∀ r, s.firstU (coreNi n) 0x07 = some p → s.namedRun n.1 p = some r → r.closed = false → r.len = 64 →
        Does (.uWr (coreNi n) ecc) [.fab, .grid, .tiers, .stream] s fun t => Served (coreNi n) p s t ∧ Responded (coreNi n) p 0x41 0 0 s t)
    ∧ (s.firstU (coreNi n) 0x07 = some p → s.namedRun n.1 p = none →
        Does (.uWr (coreNi n) ecc) [.fab] s fun t => Served (coreNi n) p s t ∧ Responded (coreNi n) p 0xC1 0 0 s t)

/-- R236, R241, R252, Table 12.3: a tier store reads a run's stored bytes out in packets of 512 bytes, writes one packet of a run, closes a run
whose earlier writes are applied, and releases one. A run whose bytes cannot be read answers INTERNAL (R152); a write to a run that is not
the tile's is denied (log entry 19, the model's choice). R184..R186, R217: an ACK ends the request it answers at a core: its credit is
restored, unless it was a message stored, and a register that awaited it takes the status, or for an atomic operation the value and p7; one
that answers no open request is counted as late, ends its tag's quarantine and restores the credit it carries. The last DATA packet of a
tile ends its request. CREDIT restores one credit. No return takes an initiator's credits over the number it starts with (log entry 27, the
model's choice). -/
def Obligations.HaulersAndReplies : Prop :=
  (∀ (n : Fin 288) (p : Packet) (s : State),
     let i := coreNi n
     let g := p.opa.toNat
     let here := fun (r : Run) => r.tile = p.addr.toNat / 4096 ∧ r.node = n.1 ∧ r.granule = g
     (Arrived i 0xC4 p s → Does (.hRd ⟨n, .clean⟩) [.freeCtr, .fab] s fun t => Served i p s t
         ∧ (t.ni i).rsp.length = (s.ni i).rsp.length + (p.opb.toNat + 7) / 8
         ∧ ∀ k, k < (p.opb.toNat + 7) / 8 → ∃ r, (t.ni i).rsp[(s.ni i).rsp.length + k]? = some r ∧ r.cmd = 0x40
             ∧ r.body = bodyOf (((s.homeBytes n.1 (64 * g) (64 * p.opb.toNat)).drop (512 * k)).take 512))
     ∧ (Arrived i 0xC4 p s → Does (.hRd ⟨n, .uncorrectable⟩) [.freeCtr, .fab, .hif, .hlt, .dbg] s fun t =>
         Served i p s t ∧ Responded i p 0x40 0x3F 0 s t)
     ∧ (Arrived i 0xC5 p s → (∀ r ∈ s.tiers.runs, ¬here r) → Does (.hWr n) [.fab] s fun t => Served i p s t ∧ Responded i p 0x41 0x16 0 s t)
     ∧ (Arrived i 0xC5 p s → (∃ r ∈ s.tiers.runs, here r) → let a := 64 * g + 512 * p.seq.toNat
         Does (.hWr n) [.fab, .grid] s fun t => Served i p s t ∧ Responded i p 0x41 0 0 s t ∧ t.grid.graph = s.grid.graph
           ∧ t.core n = { s.core n with home := (s.core n).home.writeN a (bodyBytes p.body (32 * p.len.toNat)) } ∧ (∀ m, m ≠ n → t.core m = s.core m)
           ∧ ∀ x, x < a ∨ a + 32 * p.len.toNat ≤ x → (t.core n).home.read x = (s.core n).home.read x)
     ∧ (Arrived i 0xC6 p s → s.writesAhead i p = false → Does (.hClose n) [.fab, .tiers] s fun t => Served i p s t ∧ Responded i p 0x41 0 0 s t
           ∧ t.tiers = { s.tiers with runs := s.tiers.runs.map fun r => if here r then { r with closed := true } else r })
     ∧ (Arrived i 0xC7 p s → Does (.hFree n) [.fab, .tiers] s fun t => Served i p s t ∧ Responded i p 0x41 0 0 s t
           ∧ (∀ r, r ∈ t.tiers.runs ↔ r ∈ s.tiers.runs ∧ ¬here r) ∧ t.tiers.map = s.tiers.map))
  ∧ (∀ (n : Fin 288) (j : Fin 300) (p : Packet) (k : Nat) (r : Req) (s : State),
     let i := coreNi n
     let u := dropRx i p s
     let gone := fun (t : State) => (t.ni i).reqs = (s.ni i).reqs.eraseIdx k
       ∧ t.credit i r.dst = (if isMsg r.pkt.cmd && decide (p.status = 0) then s.credit i r.dst else s.creditBack i r.dst)
     (Arrived i 0x41 p s → u.openReq i p = some (k, r) → Does (.ack i) [.fab, .grid] s fun t => gone t ∧ t.grid.graph = s.grid.graph
         ∧ (∀ rd, r.owner = .reg rd false → t.core n = { (s.core n).setG rd (p.status.setWidth 32) with gBusy := setBit (s.core n).gBusy rd false })
         ∧ (∀ rd, r.owner = .reg rd true → (t.core n).getG rd = (if p.status = 0 then p.opa else 0) ∧ (t.core n).getP 7 = decide (p.status = 0)
             ∧ (t.core n).pBusy = false ∧ bit (t.core n).gBusy rd = false)
         ∧ ∀ m, m ≠ n → t.core m = s.core m)
     ∧ (Arrived i 0x41 p s → u.openReq i p = none → Does (.ack i) [.fab] s fun t => (t.ni i).reqs = (s.ni i).reqs
         ∧ (t.ni i).stats.late = satAdd (s.ni i).stats.late 1
         ∧ ((∀ q ∈ (s.ni i).quarantine, q.matches p = false) → (t.ni i).quarantine = (s.ni i).quarantine ∧ ∀ d, t.credit i d = s.credit i d)
         ∧ ∀ q, (s.ni i).quarantine.find? (fun q => q.matches p) = some q → (t.ni i).quarantine = (s.ni i).quarantine.erase q
             ∧ t.credit i q.dst = (if q.msg && decide (p.status = 0) then s.credit i q.dst else s.creditBack i q.dst))
     ∧ (Arrived i 0x40 p s → u.openReq i p = some (k, r) → ∀ id, r.owner = .tile id → isMsg r.pkt.cmd = false → p.len ≠ 0 → (setBit r.got p.seq.toNat true).toNat + 1 = 2 ^ r.want →
         Does (.data i) [.fab, .grid] s fun t => gone t ∧ t.grid.graph = s.grid.graph ∧ (t.core n).tq.length = (s.core n).tq.length
           ∧ ∀ m, m ≠ n → t.core m = s.core m)
     ∧ (s.powered = true → s.firstRx j 0x42 = some p → Does (.credit j) [.fab] s fun t =>
         t.credit j p.src.toNat = s.creditBack j p.src.toNat ∧ (t.ni j).reqs = (s.ni j).reqs))

/-- R184, R198, R235, R236: a poisoned request waits to be sent again with its tag and the tag's next generation, at most twice; U_REDIRECT
sends an access on to the tier store it names, U_MOVED back to the owner, U_BUSY holds it for 1 us. R208, R216..R218, Table 11.4: a request
past its limit ends in TIMEOUT, its credit stays consumed and its tag is quarantined for 64 ms; a topo entry governs later injections, and
ORDERED holds them until the earlier ones to the destination are answered. -/
def Obligations.RequestsRepeatAndTimeOut : Prop :=
  (∀ (n : Fin 288) (i : Fin 300) (p : Packet) (k : Nat) (r : Req) (tag : BitVec 10) (s : State),
     let c := coreNi n
     let again := fun (t : State) (dst : Nat) (busy : Option Nat) => ∃ q, (t.ni i).reqs[k]? = some q ∧ q.dst = dst ∧ q.sent = none ∧ q.busyUntil = busy
       ∧ q.owner = r.owner ∧ (t.ni i).reqs.length = (s.ni i).reqs.length
     let tile := r.pkt.addr.toNat / 4096
     (Arrived i 0x43 p s → (dropRx i p s).openReq i p = some (k, r) → r.reissues < 2 → Does (.nackPoison i) [.fab] s fun t =>
         (∃ q, (t.ni i).reqs[k]? = some q ∧ q.reissues = r.reissues + 1 ∧ q.sent = none ∧ q.again = true ∧ q.pkt.tag = p.tag ∧ q.owner = r.owner ∧ q.dst = r.dst)
           ∧ (t.ni i).genOf p.tag = (s.ni i).genOf p.tag + 1 ∧ (t.ni i).reqs.length = (s.ni i).reqs.length
           ∧ (r.owner.isMcast = false → t.credit i r.dst = s.creditBack i r.dst))
     ∧ (Arrived c 0x43 p s → (dropRx c p s).openReq c p = some (k, r) → 2 ≤ r.reissues → ∀ rd, r.owner = .reg rd false →
         Does (.nackPoison c) [.fab, .grid] s fun t => (t.ni c).reqs = (s.ni c).reqs.eraseIdx k ∧ (t.core n).getG rd = 0x3F)
     ∧ (Arrived i 0xC0 p s → (dropRx i p s).openReq i p = some (k, r) → Does (.uRedirect i) [.fab] s fun t =>
         again t (storeDest (fld p.opa 0 9)) none
           ∧ (t.ni i).redirects.head? = some (tile, fld p.opa 0 9, fld p.opa 9 15, fld p.opb 0 6, fld p.opb 6 2) ∧ (t.ni i).redirects.length ≤ 32)
     ∧ (Arrived i 0xC1 p s → (dropRx i p s).openReq i p = some (k, r) → Does (.uMoved i) [.fab] s fun t =>
         again t (0x208 + tile % 8) none ∧ ∀ d ∈ (t.ni i).redirects, d.1 ≠ tile)
     ∧ (Arrived i 0xC2 p s → (dropRx i p s).openReq i p = some (k, r) → Does (.uBusy i) [.fab] s fun t => again t r.dst (some (s.clk.tempo + us)))
     ∧ (s.powered = true → (s.ni i).reqs.any (fun q => decide (q.pkt.tag = tag) && q.busyUntil.any fun t => decide (t ≤ s.clk.tempo)) = true →
         Does (.uBusyRetry i tag) [.fab] s fun t => (∀ q ∈ (t.ni i).reqs, q.pkt.tag = tag → ∀ u, q.busyUntil = some u → s.clk.tempo < u)
           ∧ (t.ni i).reqs.length = (s.ni i).reqs.length ∧ ∀ j, j ≠ i → t.ni j = s.ni j))
  ∧ (∀ (n : Fin 288) (i : Fin 300) (tag : BitVec 10) (r : Req) (dst : Nat) (e : BitVec 64) (s : State), s.powered = true →
     let c := coreNi n
     ((∃ q ∈ (s.ni i).reqs, q.pkt.tag = tag ∧ ∃ u, q.sent = some u ∧ u + (s.ni i).limit q ≤ s.clk.tempo) →
         Does (.requestTimeout i tag) [.pma, .fab, .grid, .tiers, .hif, .hostMem, .hlt, .dbg] s fun t => (t.ni i).genOf tag = (s.ni i).genOf tag + 1
           ∧ ∀ q ∈ (t.ni i).reqs, q.pkt.tag = tag → ∀ u, q.sent = some u → s.clk.tempo < u + (s.ni i).limit q)
     ∧ (∀ rd, (s.ni c).reqs = [r] → r.owner = .reg rd false → r.pkt.tag = tag → (∃ u, r.sent = some u ∧ u + (s.ni c).limit r ≤ s.clk.tempo) →
         Does (.requestTimeout c tag) [.fab, .grid, .hlt, .dbg] s fun t => (t.ni c).reqs = [] ∧ (t.core n).getG rd = 0x1D
           ∧ (∀ d, t.credit c d = s.credit c d) ∧ (t.ni c).stats.timeouts = satAdd (s.ni c).stats.timeouts 1
           ∧ ∃ q ∈ (t.ni c).quarantine, q.tag = tag ∧ q.since = s.clk.tempo ∧ q.dst = r.dst)
     ∧ ((∃ q ∈ (s.ni i).quarantine, q.tag = tag ∧ q.since + 64 * ms ≤ s.clk.tempo) → Does (.tagQuarantineEnd i tag) [.fab] s fun t =>
         (∀ q ∈ (t.ni i).quarantine, q.tag = tag → s.clk.tempo < q.since + 64 * ms) ∧ (t.ni i).reqs = (s.ni i).reqs)
     ∧ (s.sterdo = true → (dst < s.grid.width ∨ (serviceIx dst).isSome = true) → (fld e 10 2 ≠ 1 ∨ s.turnRule i e = true) →
         Does (.topoEntryWrite i dst e) [.fab] s fun t => t.topo i dst = e ∧ (∀ j d, (j, d) ≠ (i, dst) → t.topo j d = s.topo j d)
           ∧ (dst ∈ (t.ni i).hold ↔ dst ∈ (s.ni i).hold ∨ (bit e 12 = true ∧ ∃ q ∈ (s.ni i).outstanding, q.dst = dst)))
     ∧ (dst ∈ (s.ni i).hold → (∀ q ∈ (s.ni i).outstanding, q.dst ≠ dst) → Does (.orderedHoldEnd i dst) [.fab] s fun t =>
         (∀ d, d ∈ (t.ni i).hold ↔ d ∈ (s.ni i).hold ∧ d ≠ dst) ∧ (t.ni i).reqs = (s.ni i).reqs))

/-! ### The host link (17_host_link.md) and its rings (18_rings.md) -/

/-- R296, R298..R300, R305: the link comes up in Gen1..Gen4 on 1, 2 or 4 lanes; without Bus Master Enable or in D3hot upstream traffic is held,
and it goes on with all state kept when both allow it; a failed descriptor read puts its ring in FAULT; L1 is entered through a belay; a
vector unmasked sends its pending message. That MSE comes with the link is the model's choice (log entry 34). -/
def Obligations.LinkStates : Prop :=
  ∀ (speed width : BitVec 3) (l11 : Bool) (e : CplError) (v : Fin 64) (r : Fin 16) (s : State), s.powered = true →
    let held := fun (h : Hif) (t : State) => t.hif = { h with ring := t.hif.ring, sent := t.hif.sent, pba := t.hif.pba }
      ∧ t.hif.ring = mapV s.hif.ring fun _ g => { g with heldAt := none }
    let sentAll := fun (t : State) => ∀ k, k < 64 → canSend t.hif k = true → bit t.hif.pba k = false
    let goesOn := fun (t : State) => t.hif.upq = [] ∧ (∀ w ∈ t.hif.waits, w.on ≠ .busMaster) ∧ sentAll t
      ∧ t.hif.ready = (s.hif.waits.filter fun w => decide (w.on = .busMaster)).map (·.cmd) ++ s.hif.ready
    let failed := fun (k : Nat) (t : State) => t.hif.ring[r].state = .fault ∧ bit t.hif.ring[r].irq 2 = true ∧ bit t.hif.err k = true
      ∧ t.hif.intake = s.hif.intake ∧ ∀ q, q ≠ r → t.hif.ring[q] = s.hif.ring[q]
    (s.boot.cfgReady = true → s.gen.perstN = true → s.gen.testen = false → s.hif.speed = 0 → 1 ≤ speed.toNat → speed.toNat ≤ 4 →
        (width = 1 ∨ width = 2 ∨ width = 4) → Does (.pcieLinkUp speed width) [.hif] s fun t =>
          t.hif = { s.hif with speed := speed, width := width, mse := true, aspm := true, sent := t.hif.sent, pba := t.hif.pba })
    ∧ (s.hif.speed ≠ 0 → s.hif.bme = true → Does .busMasterDisable [.hif] s (held { s.hif with bme := false }))
    ∧ (s.hif.speed ≠ 0 → s.hif.d3 = false → Does .d3hotEntry [.hif] s (held { s.hif with d3 := true }))
    ∧ (s.hif.speed ≠ 0 → s.hif.bme = false → Does .busMasterEnable [.stream, .hif, .hostMem] s fun t => t.hif.bme = true ∧ t.hif.d3 = s.hif.d3
        ∧ (s.hif.d3 = false → goesOn t) ∧ (s.hif.d3 = true → t.hif.upq = s.hif.upq ∧ t.hif.mem = s.hif.mem ∧ t.hif.waits = s.hif.waits))
    ∧ (s.hif.speed ≠ 0 → s.hif.d3 = true → Does .d0Return [.stream, .hif, .hostMem] s fun t => t.hif.d3 = false ∧ t.hif.bme = s.hif.bme
        ∧ (s.hif.bme = true → goesOn t) ∧ (s.hif.bme = false → t.hif.upq = s.hif.upq ∧ t.hif.mem = s.hif.mem ∧ t.hif.waits = s.hif.waits))
    ∧ (s.fetching = true → s.fetchRing = some r → Does .completionTimeout [.hif] s (failed 4)
        ∧ Does (.completionError e) [.hif] s (failed (if e = .poisoned then 6 else 5)))
    ∧ (s.sterdo = true → s.hif.aspm = true → s.hif.speed ≠ 0 → s.hif.l1 = false → s.belayOf .hostLink = none → Does (.l1Entry l11) [.fab] s fun t =>
        t.belayOf .hostLink = some { dom := .hostLink, off := l11, step := .request, since := s.clk.tempo })
    ∧ (s.hif.l1 = true → Does .l1Exit [.fab, .hif] s fun t => t.hif.l1 = false ∧ t.hif.l11 = false ∧ t.belayOf .hostLink = none)
    ∧ (s.hif.speed ≠ 0 → s.boot.cfgReady = true →
        Does (.msixUnmask (.vector v)) [.hif] s (fun t => t.hif.table[v] = { s.hif.table[v] with masked := false } ∧ sentAll t)
        ∧ Does (.msixUnmask .enable) [.hif] s (fun t => t.hif.msixEn = true ∧ t.hif.table = s.hif.table ∧ sentAll t)
        ∧ Does (.msixUnmask .function) [.hif] s (fun t => t.hif.fmask = false ∧ t.hif.table = s.hif.table ∧ sentAll t))

/-- R7, R8, R306, R308, R432: a full write goes by its register's access codes and an offset that is not aligned has no effect; a read of a
register that clears on reading returns the value before it cleared; partial writes are discarded and reported, a read of more than 64 B
ends in UR; the peek of the newest event latches its other words for the reader; IRQ_TEST sends one message or leaves it pending. -/
def Obligations.RegisterAccess : Prop :=
  ∀ (src : Src) (off : BitVec 24) (v : Word) (bytes : List Byte) (len : Nat) (s : State),
    let o := off.toNat
    let hif := fun (h : Hif) (t : State) => t.hif = { h with sent := t.hif.sent, pba := t.hif.pba }
    let got := fun (w : Word) (t : State) => (src = .host → t.hif.rdata = bytesOf w ∧ t.hif.ur = false) ∧ (src = .dap → t.dbg.result = (0, w))
    (s.mayWrite src = true → reaches src o = true →
        (o % 4 ≠ 0 → Does (.registerWrite src off v) [] s fun _ => True)
        ∧ (o = 0x11004 → Does (.registerWrite src off v) [.hif] s (hif { s.hif with err := s.hif.err &&& ~~~(v.setWidth 7) }))
        ∧ (o = 0x11048 → Does (.registerWrite src off v) [.hif] s (hif { s.hif with alertEn := if src = .spv then v.setWidth 5 else s.hif.alertEn }))
        ∧ (o = 0x90000 → Does (.registerWrite src off v) [.tiers] s fun t => t.tiers = { s.tiers with bar2 := v.setWidth 8 })
        ∧ (o = 0xD0040 → Does (.registerWrite src off v) [.dbg] s fun t => t.dbg = { s.dbg with
            trEn := bit v 0, trDiv := BitVec.ofNat 4 (fld v 1 4), trEvents := bit v 5, trCairns := bit v 6 })
        ∧ (o % 4 = 0 → inMailbox o = true → Does (.registerWrite src off v) [.boot] s fun t =>
            t.boot = { s.boot with mailbox := s.boot.mailbox.writeN (o - 0x100000) (bytesOf v) }))
    ∧ (s.canAccess src = true → reaches src o = true →
        (o = 0xD0008 → Does (.rcRead src off) [.hif, .dbg] s fun t => t.dbg.lost = 0 ∧ t.dbg.log = s.dbg.log ∧ got s.dbg.lost t)
        ∧ (o = 0x11014 → Does (.rcRead src off) [.hif, .dbg] s fun t => t.hif.cnt2 = Vector.replicate 2 0 ∧ t.hif.cnt = s.hif.cnt
            ∧ got (wd (s.hif.cnt2[0].toNat + s.hif.cnt2[1].toNat * 2 ^ 8)) t)
        ∧ (readNow src o s = none → Does (.rcRead src off) [.hif, .dbg] s (got 0)))
    ∧ (s.canAccess src = true → Does (.dbgEvtPeekRead src) [.hif, .dbg] s fun t => got (newestWords s)[0] t ∧ t.dbg.log = s.dbg.log
        ∧ ∀ k, 1 ≤ k → k < 8 → look t.hif.peek[Src.ix src] k 0 = (newestWords s).toList.getD k 0)
    ∧ (s.canAccess .host = true → 0 < bytes.length → bytes.length < 4 → o % 4 + bytes.length ≤ 4 →
        (inMailbox o = true → Does (.bar0PartialWrite .host off bytes) [.boot] s fun t =>
          t.boot = { s.boot with mailbox := s.boot.mailbox.writeN (o - 0x100000) bytes })
        ∧ (inMailbox o = false → inMsix o = false → (readNow .host (o / 4 * 4) s).isSome = true →
            Does (.bar0PartialWrite .host off bytes) [.hif, .dbg] s fun t => bit t.hif.err 0 = true ∧ t.hif.errAddr = BitVec.ofNat 27 o
              ∧ Logged 0x05 1 (wd o) 0 s t))
    ∧ (s.canAccess .host = true → 64 < len → inMsix o = false → Does (.bar0BigRead off len) [.hif] s
        (hif { s.hif with ur := true, rdata := [], err := setBit s.hif.err 2 true }))
    ∧ (s.canAccess .host = true → s.sterdo = true → Does (.irqTest v) [.hif] s fun t => let k := fld v 0 6
        (k < 24 → canSend s.hif k = true → message s.hif k ∈ t.hif.sent ∧ t.hif.sent.length = s.hif.sent.length + 1 ∧ t.hif.pba = s.hif.pba)
        ∧ (k < 24 → canSend s.hif k = false → t.hif.sent = s.hif.sent ∧ t.hif.pba = setBit s.hif.pba k true)
        ∧ (24 ≤ k → t.hif = s.hif))

/-- R303, R249, R232, R235, R454: BAR2 maps U-space from the base in TIER_BAR2: an access that the window permits goes to the tile's owner as a
U-space request of the PCIe bridge; a read completes with the tile's bytes once they have come, or with zeros, BAR2_TO and an event once it
has timed out. A refused read returns zeros with an event, a refused write is discarded with an event. Writing a selector takes the selected
window. Stated of accesses within one tile whose place the bridge has not cached. -/
def Obligations.HostWindow : Prop :=
  ∀ (off len : Nat) (tag : BitVec 10) (bytes : List Byte) (src : Src) (v : Word) (o : Obj) (p : Packet) (n j k1 : Nat) (r : Req) (q : HostRead) (s : State),
    let i := svcNi 2
    let a := s.bar2Addr off
    let k := a / 4096
    let x := a % 4096
    (s.canAccess .host = true → 0 < len → len ≤ 4096 → off + len ≤ 2 ^ 32 → x + len ≤ 4096 →
      (s.objOf k = some o → s.hostMay o false = true → (s.ni i).redirect k = none → Does (.bar2Read off len tag) [.fab, .hif] s fun t =>
        Requested i (0x208 + k % 8) 0x06 (4096 * k) (.hostRead s.hif.bar2Ctr 0 x len) s t ∧ t.hif.rdata = s.hif.rdata
          ∧ t.hif.reads = { id := s.hif.bar2Ctr, tag := tag, off := off, bytes := List.replicate len 0, left := 1 } :: s.hif.reads)
      ∧ ((s.objOf k = none ∨ s.objOf k = some o ∧ s.hostMay o false = false) → Does (.bar2Read off len tag) [.hif, .dbg] s fun t =>
        t.hif.rdata = List.replicate len 0 ∧ t.hif.rtag = tag ∧ t.hif.ur = false ∧ Logged 0xFF 8 (wd k) 0 s t))
    ∧ (s.hif.reads = [q] → q.left = 1 → r.owner = .hostRead q.id j x n →
      (Arrived i 0x40 p s → (dropRx i p s).openReq i p = some (k1, r) → p.len ≠ 0 → r.worst = 0 → (setBit r.got p.seq.toNat true).toNat + 1 = 2 ^ r.want →
        Does (.data i) [.fab, .hif] s fun t => t.hif.rdata = splice q.bytes j (tileSlice (withPart r.buf p.seq.toNat p.body) x n)
          ∧ t.hif.rtag = q.tag ∧ t.hif.ur = false ∧ t.hif.reads = [])
      ∧ (s.powered = true → (s.ni i).reqs = [r] → (∃ u, r.sent = some u ∧ u + (s.ni i).limit r ≤ s.clk.tempo) →
        Does (.requestTimeout i r.pkt.tag) [.fab, .hif, .hlt, .dbg] s fun t => t.hif.rdata = splice q.bytes j (List.replicate n 0) ∧ t.hif.rtag = q.tag
          ∧ bit t.hif.err 3 = true ∧ t.hif.reads = [] ∧ ∃ e, t.dbg.newest = some e ∧ e.code = 0xFF ∧ e.src = 1 ∧ e.arg0 = wd q.off))
    ∧ (s.canAccess .host = true → 0 < bytes.length → bytes.length ≤ 512 → off + bytes.length ≤ 2 ^ 32 → x + bytes.length ≤ 4096 →
      ((s.objOf k = none ∨ s.objOf k = some o ∧ s.hostMay o true = false) → Does (.bar2Write off bytes) [.hif, .dbg] s (Logged 0xFF 8 (wd k) 0 s))
      ∧ (s.objOf k = some o → s.hostMay o true = true → (s.ni i).redirect k = none → Does (.bar2Write off bytes) [.fab, .hif] s fun t =>
            Requested i (0x208 + k % 8) 0x07 a (.hostWrite s.hif.bar2Ctr) s t ∧ ∃ r, (t.ni i).reqs.getLast? = some r
              ∧ bodyBytes r.pkt.body r.pkt.writeLen = bytes))
    ∧ (s.mayWrite src = true → src ≠ .spv →
        Does (.tierBar2Write src v) [.tiers] s (fun t => t.tiers = { s.tiers with bar2 := v.setWidth 8 })
        ∧ Does (.tierMapSelWrite src v) [.tiers] s (fun t => t.tiers = { s.tiers with mapSel := v.setWidth 28, mapWin := (s.entry (fld v 0 28)).word })
        ∧ Does (.fabSelWrite src v) [.fab] s (fun t => t.fab.sel = v.setWidth 9
            ∧ ∀ (k : Fin 300), fld v 0 9 = k.1 → t.fab = { s.fab with sel := v.setWidth 9, window := some (s.ni k) })
        ∧ Does (.ledgSelWrite src v) [.hlt] s (fun t => t.hlt = { s.hlt with sel := v.setWidth 11, win := (s.ledgerAt (fld v 0 11)).getD 0 }))

/-- R309..R313: NOP has no effect but its response; READ and WRITE reach the registers marked S, others answer DENIED; a frame that is not 72
clocks long, early, with a bad CRC or an unknown command has no effect but its count and its answer. -/
def Obligations.SupervisorFrames : Prop :=
  ∀ (off : BitVec 24) (v : Word) (f : SpiFrame) (i : Fin 4) (s : State), s.canAccess .spv = true →
    let o := off.toNat
    let hif := fun (h : Hif) (t : State) => t.hif = { h with sent := t.hif.sent, pba := t.hif.pba }
    Does .spiNop [.hif] s (hif { s.hif with resp := response 0 0 0 })
    ∧ (reaches .spv o = false → Does (.spiRead off) [.hif] s (hif { s.hif with resp := response 5 o 0, cnt := modAt s.hif.cnt 3 (satAdd · 1) })
        ∧ Does (.spiWrite off v) [.hif] s (hif { s.hif with resp := response 5 o 0, cnt := modAt s.hif.cnt 3 (satAdd · 1) }))
    ∧ (∀ w, reaches .spv o = true → readNow .spv o s = some w → (∀ p, pairAt o ≠ some (p, true)) → Does (.spiRead off) [.clk, .sap, .fe, .pma, .fab, .tiers, .stream, .hif, .hlt, .pwr, .dbg] s
        fun t => t.hif.resp = response 0 o w)
    ∧ (o = 0x11020 + 4 * i.1 →
        (s.hif.busy = false → Does (.spiWrite off v) [.hif] s (hif { s.hif with resp := response 0 o v, arg := upd s.hif.arg i v }))
        ∧ (s.hif.busy = true → Does (.spiWrite off v) [.hif] s (hif { s.hif with resp := response 6 o 0, cnt2 := modAt s.hif.cnt2 1 (satAdd · 1) })))
    ∧ (let bad := fun (c : Fin 4) (st : Nat) => Does (.spiBadFrame f) [.hif] s (hif { s.hif with resp := response st 0 0, cnt := modAt s.hif.cnt c (satAdd · 1) })
       (f.cycles ≠ 72 → bad 1 2)
       ∧ (f.cycles = 72 → f.early = true → bad 2 3)
       ∧ (f.cycles = 72 → f.early = false → crc8 (f.bytes.toList.take 8) ≠ f.bytes[8] → bad 0 1)
       ∧ (f.cycles = 72 → f.early = false → crc8 (f.bytes.toList.take 8) = f.bytes[8] → f.bytes[0] ∉ ([0, 1, 2, 4] : List (BitVec 8)) →
          Does (.spiBadFrame f) [.hif] s (hif { s.hif with resp := response 4 0 0, cnt2 := modAt s.hif.cnt2 0 (satAdd · 1) })))

/-- R314, R377, R382..R386, R415: an EXEC is answered at once, BUSY while another is in progress, and takes its effect with its result kept
until it completes: HEALTH's summary, a hold placed where POLICY permits it or cleared, a proposal with its digest, a confirmation of the
host's proposal with its digest or a veto, what is in force, a ledger entry, and BAD_OPCODE for any other op. Its end publishes result and
status. -/
def Obligations.SupervisorExecs : Prop :=
  ∀ (op : BitVec 8) (s : State), s.canAccess .spv = true →
    let arg := s.hif.arg
    let rows : List (BitVec 8 × Instr) := [(0x01, .health), (0x02, .holdSet), (0x03, .holdClear), (0x10, .spvGuardPropose), (0x11, .spvGuardConfirm),
      (0x12, .spvGuardVeto), (0x13, .spvGuardQuery), (0x20, .ledgerRead)]
    let runs := fun (op : BitVec 8) (i : Instr) (ps : List Part) (st : BitVec 8) (r : Vector Word 4) (P : State → Prop) => Does i ps s fun t =>
      t.hif.busy = true ∧ t.hif.done = false ∧ t.hif.op = op ∧ t.hif.exec_ = (r, st) ∧ t.hif.resp = response 0 0 0 ∧ t.hif.arg = arg ∧ P t
    let none4 : Vector Word 4 := #v[0, 0, 0, 0]
    let k := fld arg[0] 0 3
    let m := BitVec.ofNat 8 (fld arg[0] 8 8)
    let id := BitVec.ofNat 8 (fld arg[0] 0 8)
    let image := (bytesOfWords s.guard.stage.toList).take (fld arg[2] 0 16)
    (∀ x ∈ rows, s.hif.busy = true → Does x.2 [.hif] s fun t => t.hif.resp = response 6 0 0 ∧ t.hif.exec_ = s.hif.exec_ ∧ t.hif.op = s.hif.op)
    ∧ (∀ x ∈ rows, s.hif.busy = false → s.sterdo = false → Does x.2 [.hif] s fun t =>
        t.hif.stat = 0x3F ∧ t.hif.res = none4 ∧ t.hif.done = true ∧ t.hif.busy = false ∧ bit t.hif.alert 0 = true)
    ∧ (s.hif.busy = false → s.sterdo = true →
        runs 0x01 .health [.hif] 0 s.summary (fun _ => True)
        ∧ (k ≤ 5 → (if k = 1 then m ≠ 0 else if k = 2 then m ≠ 0 ∧ m.toNat ≤ 15 else m = 0) →
            (bit s.guard.policy (16 + k) = true →
              runs 0x02 .holdSet [.freeCtr, .sap, .zone, .gates, .fe, .hubReset, .pma, .fab, .grid, .tiers, .sess, .stream, .holds, .hif, .hostMem, .dbg]
                0 none4 fun t => bit t.holds.kinds k = true ∧ (∀ j, j < 6 → j ≠ k → bit t.holds.kinds j = bit s.holds.kinds j)
                  ∧ t.holds.zones = (if k = 1 then s.holds.zones ||| m else s.holds.zones)
                  ∧ t.holds.seats = (if k = 2 then s.holds.seats ||| m.setWidth 4 else s.holds.seats))
            ∧ (bit s.guard.policy (16 + k) = false → runs 0x02 .holdSet [.hif, .dbg] 0x16 none4 fun _ => True)
            ∧ (k ≤ 4 → runs 0x03 .holdClear [.sap, .gates, .fe, .tiers, .stream, .holds, .hif, .hostMem, .dbg] 0 none4 fun t =>
                t.holds.zones = (if k = 1 then s.holds.zones &&& ~~~m else s.holds.zones)
                ∧ t.holds.seats = (if k = 2 then s.holds.seats &&& ~~~(m.setWidth 4) else s.holds.seats)
                ∧ (k ≠ 1 → k ≠ 2 → bit t.holds.kinds k = false)))
        ∧ (tableSize id.toNat = some (fld arg[2] 0 16) → imageFault id.toNat image = none → let n := s.nextProposal
            runs 0x10 .spvGuardPropose [.hif, .guard, .dbg] 0
              #v[n.setWidth 32, digestWord (digestOf id 2 n arg[1] image) 0, digestWord (digestOf id 2 n arg[1] image) 1, 0] fun t =>
                t.guard.host = s.guard.host ∧ t.guard.policy = s.guard.policy
                ∧ ∃ p, t.guard.spv = some p ∧ p.id = n ∧ p.index = id ∧ p.image = image ∧ p.digest = digestOf id 2 n arg[1] image)
        ∧ (∀ p, s.pendingId id s.clk.tempo = some (true, p) → digestWord p.digest 0 = arg[1] → digestWord p.digest 1 = arg[2] →
            runs 0x11 .spvGuardConfirm [.hif, .guard] 0 none4 fun t => t.guard = { s.guard with
              host := none, confirmed := s.guard.confirmed ++ [(p, epochOf s.clk.tempo, true)] })
        ∧ (∀ p, s.pendingId id s.clk.tempo = some (true, p) → runs 0x12 .spvGuardVeto [.hif, .guard, .dbg] 0 none4 fun t =>
              t.guard = { s.guard with host := none, irq := setBit s.guard.irq 2 true } ∧ Logged 0x0D 2 (wd (p.id.toNat + p.index.toNat * 2 ^ 8)) 2 s t)
        ∧ (s.pendingId id s.clk.tempo = none → runs 0x11 .spvGuardConfirm [.hif] 0x1F none4 (fun _ => True)
            ∧ runs 0x12 .spvGuardVeto [.hif] 0x1F none4 (fun _ => True))
        ∧ (∀ t : Fin 6, fld arg[0] 0 8 = t.1 → runs 0x13 .spvGuardQuery [.hif] 0
            #v[s.guard.version[t], digestWord (s.tableDigest t) 0, digestWord (s.tableDigest t) 1, wd (s.pendIds.1 + s.pendIds.2 * 2 ^ 8)] (fun _ => True))
        ∧ (let e := (s.ledgerAt (fld arg[0] 0 9)).getD 0
           runs 0x20 .ledgerRead [.hif] 0 #v[lo e, hi e, 0, 0] (fun _ => True))
        ∧ (op ∉ rows.map (·.1) → runs op (.spvUnknownOp op) [.hif] 0x10 none4 (fun _ => True)))
    ∧ (s.hif.busy = true → s.sterdo = true → s.hif.op ≠ 0x11 → Does .execDone [.hif, .guard] s fun t =>
        t.hif.res = s.hif.exec_.1 ∧ t.hif.stat = s.hif.exec_.2 ∧ t.hif.busy = false ∧ t.hif.done = true ∧ bit t.hif.alert 0 = true
        ∧ (s.hif.op ≠ 0x10 → t.guard = s.guard))

/-- R317..R319, R326..R329: enabling a ring sets its indices to 0 and its state to RUNNING; disabling lets it drain; RESUME returns a faulted
ring, or a stalled one with room, to RUNNING; the doorbells move their index, modulo the size; a ring held back for space for STALL_MS
stalls. Other rings stand. R318, R319, R322, R324, R325, R332, R375: one descriptor of the ring whose turn it is moves its SQ_HEAD and
sequence on; one that passes the ring checks is taken into the epoch, one that fails is answered at once; at an epoch's end its commands are
put in order; a deferred command ends in STATE_CONFLICT after 10 s; a page with records is returned after FLUSH_MS. -/
def Obligations.RingsAndIntake : Prop :=
  (∀ (src : Src) (r : Fin 16) (v : Word) (s : State),
     let g := s.hif.ring[r]
     let ring := fun (x : Ring) (t : State) => t.hif = { s.hif with ring := upd s.hif.ring r { x with heldAt := (t.hif.ring[r]).heldAt }
                                                                    sent := t.hif.sent, pba := t.hif.pba }
     let n := fld v 0 12
     let prio := BitVec.ofNat 2 (fld v 2 2)
     (s.mayWrite src = true → src ≠ .spv →
       (bit v 0 = true → g.en = false → g.state = .disabled → Does (.ringEnable src r v) [.hif] s (ring { g with
           en := true, state := .running, prio := prio, sqLog := BitVec.ofNat 4 (fld v 4 4), rqLog := BitVec.ofNat 4 (fld v 8 4), sqHead := 0, sqTail := 0
           rqHead := 0, rqTail := 0, seq := 0, phase := true, need := 1 }))
       ∧ (bit v 0 = false → g.en = true → Does (.ringDisable src r v) [.hif] s (ring { g with en := false, state := .draining, prio := prio }))
       ∧ (bit v 0 = true → bit v 1 = true → g.en = true → (g.state = .fault ∨ g.state = .stalled ∧ g.room g.need = true) →
           Does (.resume src r v) [.hif] s (ring { g with state := .running, prio := prio }))
       ∧ Does (.sqDoorbell src r v) [.hif] s (ring { g with sqTail := BitVec.ofNat 12 (n % logSize g.sqLog) })
       ∧ Does (.rqHeadWrite src r v) [.hif] s (ring { g with rqHead := BitVec.ofNat 12 (n % logSize g.rqLog) })
       ∧ Does (.pgRetHeadWrite src v) [.stream, .hif, .hostMem] s (fun t => t.hif.retHead = BitVec.ofNat 12 (n % s.hif.retSize) ∧ t.hif.ring = s.hif.ring)
       ∧ (bit v 0 = true → s.hif.retEn = false → Does (.pgRetEnable src v) [.stream, .hif, .hostMem] s fun t => t.hif.retEn = true ∧ t.hif.retHead = 0
           ∧ t.hif.retLog = BitVec.ofNat 4 (fld v 1 4) ∧ t.hif.ring = s.hif.ring))
     ∧ (s.powered = true → g.state = .draining → s.outstanding r = false → Does (.ringDrainDone r) [.hif] s (ring { g with state := .disabled }))
     ∧ (∀ t0, s.powered = true → g.state = .running → g.heldAt = some t0 → t0 + (max 1 s.hif.stallMs.toNat) * ms ≤ s.clk.tempo →
         Does (.ringStall r) [.hif] s (ring { g with state := .stalled, irq := setBit g.irq 1 true, stalls := satAdd g.stalls 1 })))
  ∧ (∀ (desc : Vector Word 16) (r i : Fin 16) (k : Nat) (w : Waiting) (s : State), s.powered = true →
     let g := s.hif.ring[r]
     let c : Cmd := { ring := r, prio := g.prio, desc := desc, id := s.hif.nextId, at_ := s.clk.tempo, second := false, preempt := bit s.holds.kinds 5 }
     let moved := fun (t : State) => (t.hif.ring[r]).sqHead = BitVec.ofNat 12 ((g.sqHead.toNat + 1) % logSize g.sqLog) ∧ (t.hif.ring[r]).seq = g.seq + 1
       ∧ t.hif.rr = r ∧ t.hif.nextId = s.hif.nextId + 1 ∧ ∀ q, q ≠ r → t.hif.ring[q] = s.hif.ring[q]
     (s.fetching = true → s.fetchRing = some r → g.room (if c.flag 9 then 2 else 1) = true →
       (ringFault s c g.seq = none → Does (.descriptorFetch desc) [.fab, .hif, .dbg] s fun t => moved t ∧ t.hif.intake = s.hif.intake ++ [c])
       ∧ (ringFault s c g.seq ≠ none → Does (.descriptorFetch desc) [.hif, .hostMem] s fun t => moved t ∧ t.hif.intake = s.hif.intake))
     ∧ (s.fetching = true → s.fetchRing = some r → g.room (if c.flag 9 then 2 else 1) = false → Does (.descriptorFetch desc) [.hif] s fun t =>
         (t.hif.ring[r]).sqHead = g.sqHead ∧ (t.hif.ring[r]).seq = g.seq ∧ t.hif.intake = s.hif.intake)
     ∧ (∀ e, s.epochDue = some e → s.sterdo = true → s.hif.ready = [] →
         (s.guard.confirmed = [] → (∀ d ∈ s.hif.intake, epochOf d.at_ = e) → (∀ d ∈ s.hif.intake, s.overruled d = false) →
           Does .intakeEpochEnd [.hif] s fun t => t.hif.intake = [] ∧ t.hif.ready = byPrio s.hif.intake)
         ∧ Does .intakeEpochEnd [.boot, .rtc, .sap, .gates, .fe, .pma, .fab, .grid, .tiers, .stream, .hif, .hostMem, .guard, .hlt, .dbg] s fun t =>
             (∀ d ∈ t.hif.intake, epochOf d.at_ ≠ e) ∧ ∀ p ∈ t.guard.confirmed, e ≤ p.2.1)
     ∧ (s.sterdo = true → s.hif.waits[k]? = some w → w.on = .deferred → w.deadline ≤ s.clk.tempo → Does (.deferredTimeout k) [.hif, .hostMem] s fun t => t.hif.waits = s.hif.waits.eraseIdx k
             ∧ ∃ u, u.hif.waits = s.hif.waits.eraseIdx k
               ∧ t.hif.ring = (reply w.cmd 0x12 (res1 (wd (s.stream[w.cmd.sid]).state.code)) u).hif.ring ∧ u.hif.ring = s.hif.ring)
     ∧ (∀ p, s.hif.pagesOk = true → (s.stream[i]).page = some p → 16 < p.used → p.first + (max 1 s.hif.flushMs.toNat) * ms ≤ s.clk.tempo →
         Does (.pageFlushTimer i) [.stream, .hif, .hostMem] s fun t => t.stream = mapV s.stream fun j x =>
           if j = i then { x with page := none, pseq := x.pseq + 1, held := (t.stream[j]).held } else { x with held := (t.stream[j]).held }))

/-! ### Host commands (19_commands.md to 21_guard.md) -/

/-- R347, R357, R378, R417..R419, 16_unison.md R291, R292: NOP and PING answer, PING with its words; QUERY_INFO and HEALTH_QUERY with what they
show and without effect; SAFE_STATE enters and leaves the host's safe state; RESET_UNIT begins the reset of its unit, that of the PMA ends
at once in STANDBY, where its sections are off (log entry 2); SET_MODE without a change answers the mode in force, begins a change and waits
for its end, waits while another is under way, and is preempted where safe state forbids ACTIVE. -/
def Obligations.SystemCommands : Prop :=
  ∀ (c : Cmd) (s u : State), DeviceScope c →
    let q := s.infoSettings (fld (c.w 2) 8 8)
    let modeBits : Word := wd (s.pwr.mode.toNat + b2n s.grid.unison * 4)
    (HostNext 0x00 c s u → WordsFit c [] → Answers .nop c 0 res0 s fun t => t = u)
    ∧ (HostNext 0x01 c s u → WordsFit c [(2, -1), (3, -1), (4, -1), (5, -1)] → Answers .ping c 0 (c.w 2, c.w 3, c.w 4, c.w 5) s fun t => t = u)
    ∧ (HostNext 0x02 c s u → WordsFit c [(2, 0xFF0F)] → (fld (c.w 2) 0 4 = 0 → Answers .queryInfo c 0 s.infoIdentity s fun t => t = u)
        ∧ (fld (c.w 2) 0 4 = 1 → Answers .queryInfo c 0 q s fun t => t = u)
        ∧ (1 < fld (c.w 2) 0 4 → Answers .queryInfo c 0x11 (res1 3) s fun t => Only [.fab, .dbg] u t))
    ∧ (HostNext 0x80 c s u → WordsFit c [(2, 0xF)] → ∀ v : Vector Word 4, (fld (c.w 2) 0 4, v) ∈ [(0, s.summary), (1, s.retiredCounts)] →
        Answers .healthQuery c 0 (v[0], v[1], v[2], v[3]) s fun t => t = u)
    ∧ (HostNext 0x05 c s u → WordsFit c [(2, 1)] → let parts := [Part.freeCtr, .sap, .gates, .fe, .tiers, .stream, .holds, .hif, .hostMem, .dbg]
        (bit (c.w 2) 0 = true → Answers .safeState c 0 res0 s fun t => Only parts u t ∧ t.holds = { s.holds with hostSafe := true } ∧ t.safe = true)
        ∧ (bit (c.w 2) 0 = false → s.holds.hostSafe = true → bit s.holds.kinds 4 = false → s.holds.clockSafe = false → s.boot.lockstep = false →
            Answers .safeState c 0 res0 s fun t => Only parts u t ∧ t.holds = { s.holds with hostSafe := false } ∧ t.safe = false))
    ∧ (HostNext 0x04 c s u → WordsFit c [(2, 0xF)] →
        (fld (c.w 2) 0 4 = 1 → (∃ p : Fin 8, (s.sap[p]).state = .running) → Does .resetUnit [.sap, .zone, .gates, .fe, .hubReset, .stream, .hif, .hostMem, .dbg] s
          fun t => t.hubReset = true ∧ t.fe.rncOn = false ∧ Waits c (.reset 1) t ∧ ∀ p : Fin 8, (s.sap[p]).state = .running → (t.sap[p]).stopping = true)
        ∧ (fld (c.w 2) 0 4 = 2 → Does .resetUnit [.freeCtr, .fe, .pma, .fab, .grid, .tiers, .stream, .hif, .hostMem, .dbg] s fun t =>
            (if s.pwr.mode = 1 ∧ s.pwr.target = none then ∀ w ∈ t.hif.waits, w.on ≠ .reset 2 else t.pma.intoning = true ∧ Waits c (.reset 2) t)
              ∧ ∀ i : Fin 4, (t.sect i).jobs = 0 ∧ (t.sect i).steps = 0 ∧ (t.sect i).forced = 0))
    ∧ (HostNext 0x03 c s u → WordsFit c [(2, 0xF3)] → bit (c.w 2) 4 = false →
        (cMode c = 3 → s.safe = true → Answers .setMode c 0x15 res0 s fun t => Only [.fab, .dbg] u t)
        ∧ ((cMode c = 3 → s.safe = false) → (s.pwr.target ≠ none ∨ s.grid.uPending ≠ none) → Does .setMode [.hif] s fun t => Waits c .modeBusy t ∧ t.hif.mem = s.hif.mem)
        ∧ ((cMode c = 3 → s.safe = false) → s.pwr.target = none → s.grid.uPending = none →
            ((cMode c = 0 ∨ cMode c = s.pwr.mode) → Answers .setMode c 0 (res1 modeBits) s fun t => t = u)
            ∧ (cMode c ≠ 0 → cMode c ≠ s.pwr.mode → Does .setMode [.gates, .fe, .pma, .pwr, .hif] s fun t =>
                t.pwr = { s.pwr with target := some (cMode c) } ∧ Waits c (.mode (cMode c)) t)))

/-- 16_unison.md R291, 24_power.md R419, 18_rings.md R330, 20_streams.md Table 20.6, 21_guard.md R386: a unison change applies when every stream
of the RUNNING graphs stands at a boundary; a mode change ends with the mode in force and its commands answered; a command without a commit
point in time ends in CONFIG_BUSY with what it staged taken back; the RESET hold clears itself; a proposal expires. -/
def Obligations.CommandsEnd : Prop :=
  ∀ (k : Nat) (w : Waiting) (spv : Bool) (p : Proposal) (m : BitVec 2) (on : Bool) (s : State), s.powered = true →
    (s.grid.uPending = some on → (∀ g : Fin 8, (s.grid.graph[g]).state = .running → s.atBoundary g = true) → (∀ w ∈ s.hif.waits, w.on ≠ .modeBusy) →
        Does .unisonApply [.gates, .fe, .pma, .grid, .hif, .hostMem, .pwr] s fun t => t.grid.unison = on ∧ t.grid.uPending = none
          ∧ ∀ w ∈ t.hif.waits, w.on ≠ .unison)
    ∧ (s.pwr.target = some m → s.modeReached m = true → s.pwr.tsdAt = none → Does .modeChangeDone [.sap, .gates, .fe, .pma, .grid, .hif, .hostMem, .pwr] s fun t =>
        t.pwr.mode = m ∧ bit t.pwr.irq 0 = true ∧ ∀ w ∈ t.hif.waits, w.on ≠ .mode m)
    ∧ (s.hif.waits[k]? = some w → w.deadline ≤ s.clk.tempo →
        let u : State := { s with hif := { s.hif with waits := s.hif.waits.eraseIdx k } }
        let lone := ∀ x ∈ u.hif.waits, x.on ≠ w.on
        let busy := fun (ps : List Part) (P : State → Prop) => Does (.commitTimeout k) (ps ++ [.hif, .hostMem]) s fun t =>
          t.hif.waits = u.hif.waits ∧ t.hif.ring = (reply w.cmd 0x14 res0 u).hif.ring ∧ P t
        lone →
        (w.on = .hop → w.cmd.op = 0x40 → busy [.fe] fun t => t.fe = { s.fe with cfgSt := none })
        ∧ (w.on = .cabin → busy [.fe] fun t => t.fe = { s.fe with rncSt := none })
        ∧ (∀ g, w.on = .switch g → w.cmd.op = 0xA0 → busy [.grid] fun t => (t.grid.graph[g]).stagedImage = none ∧ (t.grid.graph[g]).state = (s.grid.graph[g]).state)
        ∧ (∀ g, w.on = .stop g → busy [.grid] fun t => (t.grid.graph[g]).stopping = false ∧ (t.grid.graph[g]).state = (s.grid.graph[g]).state)
        ∧ (∀ i, w.on = .pitch i → s.safe = false → s.pwr.shed = false → busy [.stream] fun t => t.stream = modAt s.stream i fun x => { x with pausing := false }))
    ∧ (bit s.holds.kinds 5 = true → s.hubReset = false → s.pma.intoning = false → Does .resetHoldDone [.holds, .dbg] s fun t =>
        t.holds = { s.holds with kinds := setBit s.holds.kinds 5 false } ∧ Logged 0x0C 0 5 2 s t)
    ∧ ((if spv then s.guard.spv else s.guard.host) = some p → p.ends ≤ s.clk.tempo → Does (.proposalExpiry spv) [.guard, .dbg] s fun t =>
        t.guard = { s.guard with spv := if spv then none else s.guard.spv, host := if spv then s.guard.host else none, irq := setBit s.guard.irq 3 true }
          ∧ Logged 0x0D 2 (wd (p.id.toNat + p.index.toNat * 2 ^ 8)) 3 s t)

/-- R349, R350, 14_attention_kv.md R263, 20_streams.md R363..R365, R373: SESSION_OPEN opens the one session with an id unlike the last one's and
makes its KV pool; SESSION_CLOSE closes every stream with it; STREAM_OPEN opens a free stream with its graph, pack and state object;
STREAM_CLOSE closes it. -/
def Obligations.SessionCommands : Prop :=
  ∀ (c : Cmd) (o : Obj) (p : Pack) (i : Fin 16) (s u : State),
    let kind := fld (c.w 2) 0 2
    (HostNext 0x20 c s u → DeviceScope c → WordsFit c [(2, 0x1FFFFF), (3, 0x1FFF), (4, 0xFFFF), (5, -1), (6, -1), (7, -1), (8, -1)] → openLayers c ≠ 0 →
        16 ≤ openMark c → openMark c ≤ 4096 → s.sess.open_ = false → s.hostObj (fld (c.w 2) 0 16) = some o → o.cls = 2 → o.cached = false → o.policy ≠ .park →
        openMark c + 2 * openLayers c ≤ poolPages o.tiles → ∃ id : BitVec 8, id ≠ 0 ∧ id ≠ s.sess.prevId ∧
          Answers .sessionOpen c 0 (res1 (id.setWidth 32)) s fun t => Only [.freeCtr, .tiers, .sess] u t
            ∧ t.sess.open_ = true ∧ t.sess.id = id ∧ (∀ q : Fin 4, bit t.sess.occupied q.1 = decide (fld (c.w 4) (4 * q.1) 4 % 2 = 1))
            ∧ t.tiers.pool = some (fld (c.w 2) 0 16) ∧ t.tiers.pages = poolPages o.tiles ∧ t.tiers.layers = openLayers c
            ∧ t.tiers.mark.toNat = openMark c ∧ t.tiers.map = s.tiers.map)
    ∧ (HostNext 0x21 c s u → SessionScope c s → WordsFit c [] → Answers .sessionClose c 0 res0 s fun t =>
        Only [.gates, .fe, .tiers, .sess, .stream, .hif, .hostMem] u t ∧ t.sess.open_ = false ∧ t.sess.prevId = s.sess.id ∧ t.tiers.pool = none
          ∧ ∀ i : Fin 16, (t.stream[i]).state = .closed)
    ∧ (HostNext 0x22 c s u → s.sess.open_ = true → c.session = s.sess.id.toNat → (c.stream < 16 ∨ c.stream = 255) →
        WordsFit c [(2, 0xFFFF001F), (3, -1), (4, -1), (5, 0x71F)] → kind ≠ 3 → fld (c.w 3) 16 16 ≤ 600 → s.openTarget c = some i → (s.stream[i]).state = .closed →
        (kind = 2 → fld (c.w 3) 0 8 = 0) → (kind = 1 → fld (c.w 2) 2 2 = 0) → s.namedPack c = some p →
        s.carries p kind (openSeat c) (fld (c.w 2) 16 16) = true → s.expired p.expiry = false → (s.grid.graph[openGraph c]).state ≠ .empty →
        s.objFits (stateTiles (packState p)) 3 = true → Answers .streamOpen c 0 (res1 (wd i.1)) s fun t =>
          Only [.freeCtr, .grid, .tiers, .stream, .hif, .hostMem] u t ∧ let x := t.stream[i]
            x.state = .opened ∧ x.kind.toNat = kind ∧ x.graph = openGraph c ∧ x.pack.1 = openPack c % 32 ∧ x.zones.toNat = fld (c.w 3) 0 8 ∧ x.seed = c.w 4
              ∧ x.obj.isSome = true ∧ ∀ j, j ≠ i → (t.stream[j]).state = (s.stream[j]).state)
    ∧ (HostNext 0x27 c s u → StreamScope c s → WordsFit c [] → c.sid = i → (s.stream[i]).state ≠ .closed → Answers .streamClose c 0 res0 s fun t =>
        Only [.gates, .tiers, .stream, .hif, .hostMem] u t ∧ (t.stream[i]).state = .closed ∧ (t.stream[i]).obj = none ∧ (t.stream[i]).granted = []
          ∧ (t.stream[i]).page = none ∧ ∀ j, j ≠ i → (t.stream[j]).state = (s.stream[j]).state)

/-- R343, R349, 14_attention_kv.md R270..R273, 15_recurrence.md R286, 20_streams.md R365: where Table 20.3 allows it, a stream starts, pauses at
its next boundary, resumes and drains; a context is attached; a text waits for synthesis. The same holds of a command that was deferred and
whose state has become legal; one that may be deferred and finds an illegal state waits 10 s for it. Prefixes are defined and released.
R354, 18_rings.md R331, R332: PAGE_GRANT gives its pages to the stream, all or none; PAGE_FLUSH returns a stream's page that holds records,
and waits while the device may not write to host memory. -/
def Obligations.StreamAndPageCommands : Prop :=
  (∀ (c : Cmd) (row : Instr) (p : Prefix) (s u : State),
     let i := c.sid
     let x := s.stream[i]
     let h := BitVec.ofNat 8 (fld (c.w 2) 0 8)
     let others := fun (t : State) => ∀ j, j ≠ i → (t.stream[j]).state = (s.stream[j]).state
     let parts := [Part.gates, .grid, .stream, .hif, .hostMem]
     (StreamScope c s →
       (RunsNow 0x23 .streamStart row c s u → WordsFit c [] → s.safe = false → (x.state = .opened ∨ x.state = .faulted) → (s.pwr.shed = false ∨ x.sheddable = false) →
           Answers row c 0 res0 s fun t => Only parts u t ∧ (t.stream[i]).state = .listening ∧ (t.stream[i]).pausing = false ∧ bit t.grid.taint i.1 = false ∧ others t)
       ∧ (RunsNow 0x25 .streamResume row c s u → WordsFit c [] → s.safe = false → x.state = .paused → (s.pwr.shed = false ∨ x.sheddable = false) →
           Answers row c 0 res0 s fun t => Only parts u t ∧ (t.stream[i]).state = .listening ∧ t.grid = s.grid ∧ others t)
       ∧ (RunsNow 0x24 .streamPause row c s u → WordsFit c [] → (x.state = .listening ∨ x.state = .active) → Does row [.gates, .tiers, .stream, .hif, .hostMem] s fun t =>
           (s.streamIdle i = true → (t.stream[i]).state = .paused ∧ ∀ w ∈ t.hif.waits, w.on ≠ .pitch i)
           ∧ (s.streamIdle i = false → (t.stream[i]).state = x.state ∧ (t.stream[i]).pausing = true ∧ Waits c (.pitch i) t))
       ∧ (RunsNow 0x26 .streamDrain row c s u → WordsFit c [] → (x.state = .listening ∨ x.state = .active) → Answers row c 0 res0 s fun t =>
           Only [.gates, .stream, .hif, .hostMem] u t ∧ (t.stream[i]).state = (if x.state = .active ∧ (x.inputs ≠ 0 ∨ x.texts ≠ []) then .draining else .opened)
           ∧ (t.stream[i]).inputs ≤ 1 ∧ (t.stream[i]).texts.length ≤ 1 ∧ others t)
       ∧ (RunsNow 0x29 .prefixAttach row c s u → WordsFit c [(2, 0xFF), (3, -1), (4, 0xFF)] → c.flag 10 = false →
           (x.state = .opened ∨ x.state = .listening ∨ x.state = .paused) →
           (h = 0 → Answers row c 0 res0 s fun t => Only [.grid, .tiers, .stream] u t ∧ (t.kv i).length = 0 ∧ (t.kv i).cols = [] ∧ bit t.grid.taint i.1 = false)
           ∧ (h ≠ 0 → s.prefixOf h = some p → (∀ k ∈ (p.cols.filterMap id).flatMap id, ((clearContext i s).pageRef k) < 254) → Answers row c 0 res0 s fun t =>
               Only [.grid, .tiers, .stream] u t ∧ (t.kv i).length = p.words.length ∧ (t.kv i).cols = p.cols ∧ (t.kv i).handle = p.handle)
           ∧ (h ≠ 0 → s.prefixOf h = none → Answers row c 0x17 res0 s fun t => Only [.fab, .dbg] u t))
       ∧ (RunsNow 0x2B .textSubmit row c s u → WordsFit c [(2, 0x1FFF), (3, -1), (4, 0xFF)] → 0 < fld (c.w 2) 0 13 → fld (c.w 2) 0 13 ≤ 4096 →
           tokenAddr c + fld (c.w 2) 0 13 ≤ 2 ^ 40 → s.safe = false → (x.state = .listening ∨ x.state = .active) → x.kind = 1 → x.texts.length < 8 →
           (s.kv i).full = false → (s.kv i).length < 4096 → ∃ id, Answers row c 0 (res1 id) s fun t => Only [.freeCtr, .gates, .fe, .pma, .tiers, .stream, .hif, .pwr] u t
             ∧ (t.stream[i]).texts = x.texts ++ [(BitVec.ofNat 40 (tokenAddr c), fld (c.w 2) 0 13, id)] ∧ others t)
       ∧ (HostNext 0x23 c s u → WordsFit c [] → s.safe = false → c.flag 9 = true → c.second = false → x.state ≠ .opened → x.state ≠ .faulted → u.deferred c.ring < 16 →
           Does .streamStart [.hif, .hostMem] s fun t => ∃ w ∈ t.hif.waits, w.cmd = { c with second := true } ∧ w.on = .deferred
             ∧ w.deadline = s.clk.tempo + 10000 * ms))
     ∧ (SessionScope c s →
       (HostNext 0x28 c s u → WordsFit c [(2, 0xFF), (3, -1), (4, 0xFF)] → h ≠ 0 → tokenAddr c % 4096 = 0 → s.prefixOf h = none → s.tiers.prefixes.length < 64 →
           ∀ b, s.tokenPage c = some b → let n := fld (wordOf (b.take 4)) 0 10
             0 < n → colsFor n * s.tiers.layers ≤ s.kvFree → (s.freePages (colsFor n * s.tiers.layers)).isSome = true → Answers .prefixDefine c 0 res0 s fun t =>
               Only [.freeCtr, .grid, .tiers, .stream] u t ∧ ∃ q, t.tiers.prefixes = s.tiers.prefixes ++ [q] ∧ q.handle = h ∧ q.words.length = n
                 ∧ q.cols.length = colsFor n)
       ∧ (HostNext 0x2A c s u → WordsFit c [(2, 0xFF)] → s.prefixOf h = some p → Answers .prefixRelease c 0 res0 s fun t => Only [.tiers] u t
           ∧ t.tiers.prefixes = s.tiers.prefixes.filter fun q => !decide (q.handle = h))))
  ∧ (∀ (c : Cmd) (p : Page) (s u : State), StreamScope c s →
     let i := c.sid
     let x := s.stream[i]
     let ps := grantPages c
     (HostNext 0x50 c s u → ps ≠ [] → (∀ a ∈ ps, a.toNat % 4096 = 0) → (∀ a ∈ (grantSlots c).drop ps.length, a = 0) → x.state ≠ .closed →
         (x.held + ps.length ≤ 16 → Answers .pageGrant c 0 (res1 (wd (x.held + ps.length))) s fun t => Only [.stream, .hif, .hostMem] u t
           ∧ (x.backlog = [] → x.gap = none → t = { u with stream := modAt s.stream i fun y => { y with granted := y.granted ++ ps, held := y.held + ps.length } }))
         ∧ (16 < x.held + ps.length → Answers .pageGrant c 0x13 res0 s fun t => Only [.fab, .dbg] u t))
     ∧ (HostNext 0x51 c s u → WordsFit c [] → x.state ≠ .closed →
         ((∀ p, x.page = some p → p.used ≤ 16) → Answers .pageFlush c 0 res0 s fun t => t = u)
         ∧ (x.page = some p → 16 < p.used → s.hif.upstream = true → Answers .pageFlush c 0 (res1 (wd (2 ^ i.1))) s fun t =>
             Only [.stream, .hif, .hostMem] u t ∧ (t.stream[i]).page = none ∧ (t.stream[i]).pseq = x.pseq + 1)
         ∧ (x.page = some p → 16 < p.used → s.hif.upstream = false → Does .pageFlush [.hif] s fun t => Waits c .busMaster t ∧ t.hif.mem = s.hif.mem)))

/-- 12_tiers.md R230..R232, R239, R242, 20_streams.md R371..R374: an object is made, placed, flushed and freed; a pack that passes the checks of
R372 is loaded at the lowest free handle, one that is resident is named, one that fails answers why; a pack that nothing uses is evicted
with its objects. -/
def Obligations.ObjectCommands : Prop :=
  ∀ (c : Cmd) (o : Obj) (h : Fin 24) (s u : State), DeviceScope c →
    let id := fld (c.w 2) 0 16
    let n := fld (c.w 2) 0 21
    let named := (s.hostObj id).filter fun o => decide (o.cls = 8)
    let aff := if bit (c.w 3) 16 then (0, 255) else (fld (c.w 3) 0 8, fld (c.w 3) 8 8)
    let noFree := ∀ w ∈ s.hif.waits, ∀ k, w.on ≠ .free k
    (HostNext 0x13 c s u → WordsFit c [(2, 0x1FFFFF), (3, 0x3FF)] → 0 < n → n ≤ 1048576 → formatOk (fld (c.w 3) 0 4) (bit (c.w 3) 4) (fld (c.w 3) 5 2) = true →
        s.boot.dramFail = false → s.objFits n (BitVec.ofNat 4 (fld (c.w 3) 0 4)) = true → ∃ y : Obj, y.tiles = n ∧ y.cls.toNat = fld (c.w 3) 0 4
          ∧ y.cached = bit (c.w 3) 4 ∧ y.comp.toNat = fld (c.w 3) 5 2 ∧ s.objId y.id = none
          ∧ (∀ z ∈ s.tiers.objs, y.base + n ≤ z.base ∨ z.base + z.tiles ≤ y.base)
          ∧ Answers .objAlloc c 0 (wd y.id, wd (4096 * y.base), wd (4096 * y.base / 2 ^ 32), 0) s fun t => Only [.freeCtr, .tiers] u t
              ∧ t.tiers = { s.tiers with objs := s.tiers.objs ++ [y] })
    ∧ (HostNext 0x14 c s u → WordsFit c [(2, 0x3FFFF), (3, 0x1FFFF)] → (bit (c.w 3) 16 = true ∨ aff.1 ≤ aff.2 ∧ aff.2 + 9 ≤ s.grid.width) → s.hostObj id = some o →
        policyOf (fld (c.w 2) 16 2) ≠ .park → (policyOf (fld (c.w 2) 16 2) = .pinHome → s.homeSuffices { o with aff := aff } = true) → s.boot.dramFail = false → noFree →
        Does .objPlace [.tiers, .hif, .hostMem] s fun t => t.tiers.map = s.tiers.map
          ∧ ∃ y, t.objId id = some y ∧ y.policy = policyOf (fld (c.w 2) 16 2) ∧ y.aff = aff ∧ y.base = o.base ∧ y.tiles = o.tiles)
    ∧ (HostNext 0x15 c s u → WordsFit c [(2, 0xFFFF)] → s.hostObj id = some o → noFree → Does .objFlush [.tiers, .hif, .hostMem] s fun t =>
        t.tiers.map = s.tiers.map ∧ t.tiers.objs = s.tiers.objs ∧ (o.cached = true → ∀ x ∈ s.written o, x.2.dirty = true →
          let m : Move := { kind := .evict, tile := x.1, toHome := false, drop := false, widen := false, relocate := false }
          m ∈ t.tiers.haul[x.1 % 8]'(Nat.mod_lt _ (by decide)) ∨ ∃ a ∈ t.tiers.moving[x.1 % 8]'(Nat.mod_lt _ (by decide)), a.move = m))
    ∧ (HostNext 0x16 c s u → WordsFit c [(2, 0xFFFF)] → s.hostObj id = some o →
        (s.objUse o = 0 → s.still o = true → Does .objFree [.tiers, .hif, .hostMem] s fun t => t.objId id = none)
        ∧ (s.objUse o = 0 → s.still o = false → noFree → Does .objFree [.hif, .hostMem] s fun t => Waits c (.free id) t ∧ t.tiers = s.tiers)
        ∧ (s.objUse o ≠ 0 → Answers .objFree c 0x12 (res1 (wd (s.objUse o))) s fun t => Only [.fab, .dbg] u t))
    ∧ (WordsFit c [(2, 0xFFFF)] → s.boot.dramFail = false → named = some o →
        (∀ st, s.checkPack o false = .fails st → HostNext 0x10 c s u → Answers .packLoad c st res0 s fun t => t = u)
        ∧ (∀ y, s.checkPack o false = .resident h → s.pack[h] = some y → HostNext 0x10 c s u →
            Answers .packLoad c 0 (wd h.1, wd (y.id.toNat + y.version.toNat * 2 ^ 16), 0, 0) s fun t => t = u)
        ∧ (∀ b, s.checkPack o false = .loads b → (List.finRange 24).find? (fun h => s.pack[h].isNone) = some h → HostNext 0x10 c s u →
            Answers .packLoad c 0 (wd h.1, wd ((packId b).toNat + (packVersion b).toNat * 2 ^ 16), 0, 0) s fun t =>
              Only [.freeCtr, .grid, .tiers, .pack, .stream] u t ∧ (∀ k, k ≠ h → t.pack[k] = s.pack[k])
                ∧ ∃ y, t.pack[h] = some y ∧ y.id = packId b ∧ y.version = packVersion b ∧ y.expiry = imgWord b 12 ∧ y.obj = o.id)
        ∧ (∀ st, s.checkPack o true = .fails st → HostNext 0x11 c s u → Answers .packVerify c st res0 s fun t => t = u)
        ∧ ((∀ st, s.checkPack o true ≠ .fails st) → HostNext 0x11 c s u → Answers .packVerify c 0 res0 s fun t => t = u))
    ∧ (HostNext 0x12 c s u → WordsFit c [(2, 0x1F)] → fld (c.w 2) 0 5 = h.1 → s.pack[h] ≠ none →
        (s.packStream h = false → s.packGraph h = false → noFree → Answers .packEvict c 0 res0 s fun t => Only [.tiers, .pack, .hif, .hostMem] u t
          ∧ t.pack[h] = none ∧ (∀ k, k ≠ h → t.pack[k] = s.pack[k]) ∧ ∀ y ∈ t.tiers.objs, y.id ∉ s.packObjs h)
        ∧ (s.packStream h = true → s.packGraph h = false → Answers .packEvict c 0x12 (res1 1) s fun t => Only [.fab, .dbg] u t))

/-- R360, R361, 08_grid_cores.md R162..R169, Table 8.2: an image is loaded on the cores named, staged where the graph runs, and refused in
unison where its NUMERICS is not its pack's (Table 8.3); a loaded graph with a plan is launched; a stop waits for the boundary, ends at once
where the graph has faulted, and empties a loaded one; a plan is taken, or staged. -/
def Obligations.GraphCommands : Prop :=
  ∀ (c : Cmd) (o : Obj) (im : List Word × List Byte) (p : Plan) (s u : State), DeviceScope c →
    let g := cGraph c
    let x := s.grid.graph[g]
    let id := fld (c.w 2) 16 16
    let cores := cCores c
    let grid := [Part.freeCtr, .fab, .grid, .tiers, .stream, .hif, .hostMem]
    (HostNext 0xA0 c s u → WordsFit c ((2, 0xFFFF0007) :: (List.range 8).map fun k => (3 + k, -1)) → s.hostObj id = some o → o.cls = 7 → s.image o = some im →
        imageOk im.1 im.2 = true → (∀ l ∈ cores, l + 9 ≤ s.grid.width) → x.state ≠ .faulted → (∀ l ∈ cores, s.coreTaken g l = false) →
        (∀ l ∈ cores, ∀ j, s.nodeOf l = some j → s.poolHolds j (hScratch im.1) = true) → s.numericsDiffer g o.pack (hNumerics im.1) = false →
        (x.state ≠ .running → Answers .programLoad c 0 (res1 (wd cores.length)) s fun t => Only [.fab, .grid, .tiers, .dbg] u t
          ∧ (t.grid.graph[g]).build = hBuild im.1
          ∧ (t.grid.graph[g]).state = .loaded ∧ (t.grid.graph[g]).image = id ∧ (t.grid.graph[g]).cores = cores
          ∧ ∀ l ∈ cores, ∀ j, s.nodeOf l = some j → (t.core j).graph = some g ∧ (t.core j).entry = hEntry im.1 ∧ (t.core j).codeBytes = hCode im.1)
        ∧ (x.state = .running → Does .programLoad [.grid, .hif] s fun t => Waits c (.switch g) t ∧ t.hif.mem = s.hif.mem
          ∧ t.grid = { s.grid with graph := modAt s.grid.graph g fun y => { y with stagedImage := some (id, cores) } }))
    ∧ (HostNext 0xA0 c s u → WordsFit c ((2, 0xFFFF0007) :: (List.range 8).map fun k => (3 + k, -1)) → s.hostObj id = some o → o.cls = 7 → s.image o = some im →
        s.numericsDiffer g o.pack (hNumerics im.1) = true → Does .programLoad [.fab, .hif, .hostMem, .dbg] s fun t => t.grid = s.grid)
    ∧ (HostNext 0xA1 c s u → WordsFit c [(2, 7)] → s.safe = false → s.grid.oos = false → x.state = .loaded → s.pwr.mode = 3 → x.plan.isSome = true →
        s.numericsClash g = false → Answers .graphLaunch c 0 res0 s fun t => Only [.freeCtr, .fab, .grid] u t ∧ (t.grid.graph[g]).state = .running
          ∧ (t.grid.graph[g]).epoch = x.epoch ∧ ∀ a ∈ t.coresOf g, let y := t.core a.2
              y.run = .running ∧ y.pc = wd (4 * y.entry) ∧ y.g[0] = wd a.1 ∧ y.g[1] = wd g.1 ∧ y.g[2] = x.epoch.setWidth 32)
    ∧ (HostNext 0xA2 c s u → WordsFit c [(2, 7)] →
        (x.state = .running → s.atBoundary g = false → Does .graphStop [.grid, .hif] s fun t => (t.grid.graph[g]).stopping = true
          ∧ (t.grid.graph[g]).state = .running ∧ Waits c (.stop g) t)
        ∧ (x.state = .running → s.atBoundary g = true → Does .graphStop grid s fun t => (t.grid.graph[g]).state = .loaded
          ∧ (∀ w ∈ t.hif.waits, w.on ≠ .stop g) ∧ ∀ j, (s.core j).graph = some g → (t.core j).run = .idle)
        ∧ (x.state = .faulted → Answers .graphStop c 0 res0 s fun t => Only [.fab, .grid, .stream, .hif, .hostMem] u t ∧ (t.grid.graph[g]).state = .loaded)
        ∧ (x.state = .loaded → Answers .graphStop c 0 res0 s fun t => Only [.fab, .grid] u t ∧ (t.grid.graph[g]).state = .empty
          ∧ ∀ j, (s.core j).graph = some g → (t.core j).graph = none)
        ∧ (x.state = .empty → Answers .graphStop c 0x12 res0 s fun t => Only [.fab, .dbg] u t))
    ∧ (HostNext 0xA3 c s u → WordsFit c [(2, 0xFFFF0007)] → (s.hostObj id).isSome = true → s.planOf g id = some p → s.treesFit g p = true →
        (x.state = .loaded → Answers .creditPlan c 0 res0 s fun t => Only [.grid] u t
          ∧ t.grid = { s.grid with graph := modAt s.grid.graph g fun y => { y with plan := some p } })
        ∧ (x.state = .running → Does .creditPlan [.grid, .hif] s fun t => Waits c (.switch g) t ∧ t.hif.mem = s.hif.mem
          ∧ t.grid = { s.grid with graph := modAt s.grid.graph g fun y => { y with stagedPlan := some p } }))

/-- R351..R353, 04_audio_ports.md R73..R93: a port takes its configuration while stopped, starts from an empty block and stops through its
gates; zones are defined, routed and muted, held ones stay muted; the front end's changes are staged for their boundary, RNC ends at once. -/
def Obligations.AudioCommands : Prop :=
  ∀ (c : Cmd) (s u : State),
    let p := cPort c
    let x := s.sap[p]
    let still := ∀ q : Fin 8, (s.sap[q]).state ≠ .running
    let free := s.shadowBusy c = false
    let parts := [Part.sap, .zone, .gates, .stream, .hif, .hostMem]
    let ms : Vector (BitVec 16) 16 := Vector.ofFn (cMember c)
    let zm : BitVec 8 := (c.w 2).setWidth 8
    let mics := cChans c 3 16
    let rnc := cChans c 3 8 ++ cChans c 5 8 ++ cChans c 7 8
    let count := fun (l : List Byte) => (validChans l).length
    (DeviceScope c →
      (HostNext 0x30 c s u → (∀ k ∈ sapConfigFields c x, k.1 = false) → free →
          (x.state = .stopped → bit (c.w 2) 8 = true → ∃ div, (sapCfgOf c x).divFor (c.w 4 |>.setWidth 18).toNat = some div
            ∧ Answers .sapConfig c 0 (res1 (wd div)) s fun t => Only parts u t ∧ (t.sap[p]).cfg = (c.w 3).setWidth 17 ∧ (t.sap[p]).rate = (c.w 4).setWidth 18
              ∧ (t.sap[p]).div = BitVec.ofNat 9 div ∧ (t.sap[p]).state = .stopped ∧ (t.sap[p]).maskSt = none
              ∧ (bit (c.w 2) 9 = true → (t.sap[p]).mask = (c.w 5).setWidth 16))
          ∧ (x.state = .running → bit (c.w 2) 8 = false → bit (c.w 2) 9 = true → Does .sapConfig parts s fun t =>
              (t.sap[p]).maskSt = some ((c.w 5).setWidth 16) ∧ (t.sap[p]).mask = x.mask ∧ ∃ d, Waits c (.ports d) t))
      ∧ (HostNext 0x31 c s u → WordsFit c [(2, 7)] → x.state = .stopped → x.bankOff = false → x.maskOk x.mask.toNat = true → s.hubReset = false →
          Answers .sapStart c 0 res0 s fun t => Only [.freeCtr, .sap, .gates, .fe, .stream, .hif, .hostMem] u t ∧ (t.sap[p]).state = .running ∧ (t.sap[p]).nextSeq = 0
            ∧ (t.sap[p]).blk = [] ∧ (t.sap[p]).fifo.length = 2 * x.b ∧ ∀ q, q ≠ p → (t.sap[q]).state = (s.sap[q]).state)
      ∧ (HostNext 0x32 c s u → WordsFit c [(2, 7)] →
          (x.state = .running → Does .sapStop [.sap, .gates, .fe, .hif, .dbg] s fun t => (t.sap[p]).stopping = true ∧ (t.sap[p]).state = .running ∧ Waits c (.sapStop p) t)
          ∧ (x.state = .faulted → Does .sapStop [.sap, .zone, .gates, .fe, .hubReset, .stream, .hif, .hostMem, .dbg] s fun t => (t.sap[p]).state = .stopped
              ∧ ∀ w ∈ t.hif.waits, w.on ≠ .sapStop p)
          ∧ (x.state = .stopped → Answers .sapStop c 0x12 res0 s fun t => Only [.fab, .dbg] u t))
      ∧ (HostNext 0x33 c s u → WordsFit c ((2, 7) :: (List.range 8).map fun k => (3 + k, -1)) → free → (∀ m ∈ ms.toList, memValid m = false → m = 0) →
          (∀ m ∈ ms.toList, memValid m = true → (s.sap[memPort m]).out = true) →
          (still → Answers .zoneDefine c 0 res0 s fun t => Only parts u t ∧ (t.zone[p]).mem = ms)
          ∧ (∀ q, s.zoneOn p q = true → (s.sap[q]).state = .running → Does .zoneDefine parts s fun t => (∃ d, Waits c (.ports d) t)
              ∧ (t.zone[p]).mem = (s.zone[p]).mem ∧ ∃ d, (t.zone[p]).memSt = some (ms, d)))
      ∧ (HostNext 0x35 c s u → WordsFit c [(2, 0x1FF)] → (bit (c.w 2) 8 = false → s.heldZones zm ≠ 0 → Answers .zoneMute c 0x15 (res1 ((s.heldZones zm).setWidth 32)) s
              fun t => Only [.fab, .dbg] u t)
          ∧ (free → (bit (c.w 2) 8 = true ∨ s.heldZones zm = 0 ∧ bit s.holds.kinds 0 = false ∧ s.safe = false) → Does .zoneMute parts s fun t =>
              ∀ z : Fin 8, (t.zone[z]).hmute = if bit (c.w 2) z.1 then bit (c.w 2) 8 else (s.zone[z]).hmute))
      ∧ (HostNext 0x40 c s u → WordsFit c [(2, 0xF), (3, -1), (4, -1), (5, -1), (6, -1)] → chansReserved mics = false → fld (c.w 2) 0 4 ≤ 10 → 2 ≤ count mics →
          count mics ≤ s.planLanes 1 → chansTwice mics = false → (reasonOf (s.portReason false) mics).1 = false → Does .feConfig [.fe, .hif] s fun t =>
            Waits c .hop t ∧ t.fe = { s.fe with cfgSt := some ((c.w 2).setWidth 4, Vector.ofFn fun k => descByte c.desc 3 k.1) } ∧ t.hif.mem = s.hif.mem)
      ∧ (HostNext 0x41 c s u → WordsFit c ((2, 0x1F0F) :: (List.range 6).map fun k => (3 + k, -1)) → chansReserved rnc = false → fld (c.w 2) 0 4 ≤ 8 →
          0 < count (cChans c 3 8) → 0 < count (cChans c 5 8) → 0 < count (cChans c 7 8) →
          fld (c.w 2) 8 5 + max (count (cChans c 3 8)) (count (cChans c 5 8)) ≤ s.planLanes 0 → chansTwice rnc = false → bit s.holds.kinds 3 = false → s.safe = false →
          (∀ b ∈ validChans (cChans c 3 8), s.portReason false b = none ∧ s.refLate b = none) → (∀ b ∈ validChans (cChans c 5 8), s.portReason true b = none) →
          (∀ b ∈ validChans (cChans c 7 8), s.portReason false b = none) → Does .rncEnable [.fe, .hif] s fun t =>
            Waits c .cabin t ∧ t.fe = { s.fe with rncSt := some c.desc } ∧ t.hif.mem = s.hif.mem)
      ∧ (HostNext 0x42 c s u → WordsFit c [] → Answers .rncDisable c 0 res0 s fun t => Only [.sap, .gates, .fe] u t
          ∧ t.fe = { s.fe with rncOn := false, rncPath := 0, suspended := false, rncSt := none }))
    ∧ (HostNext 0x34 c s u → StreamScope c s → WordsFit c [(2, 0xFF01FF)] → free → (s.stream[c.sid]).state ≠ .closed → (s.stream[c.sid]).kind ≠ 2 → still →
        Answers .zoneRoute c 0 res0 s fun t => Only parts u t ∧ (t.stream[c.sid]).zones = zm
          ∧ (t.stream[c.sid]).atten = if bit (c.w 2) 8 then BitVec.ofNat 8 (fld (c.w 2) 16 8) else (s.stream[c.sid]).atten)
    ∧ (HostNext 0x43 c s u → SessionScope c s → WordsFit c [(2, 0xF), (4, 0xFFFF), (5, -1), (6, -1), (7, -1), (8, -1)] → Does .seatMap [.fe, .hif] s fun t =>
        Waits c .hop t ∧ t.fe = { s.fe with seatSt := some (mergeSeats c.desc s.fe.seatSt) } ∧ t.hif.mem = s.hif.mem)

/-- R355, R357..R359, 21_guard.md R382..R388, 23_repair.md R405, R407, R413, R414, 25_observation.md R431, 11_fabric_service.md R225, R228: a
table is proposed with its digest, confirmed, vetoed and queried; BIST reports its unit, a failure is a hard one; the ledger is written out
and proposed from an object; a cairn is set; statistics, trace and events are written to host memory as they stand. -/
def Obligations.GuardAndRecordCommands : Prop :=
  ∀ (c : Cmd) (image : List Byte) (p : Proposal) (passed : Bool) (detail : Word) (s u : State), DeviceScope c →
    let id := BitVec.ofNat 8 (fld (c.w 2) 0 8)
    let wrote := fun (a : BitVec 64) (ws : List Word) (t : State) => t.hif.mem = if ws = [] then s.hif.mem else s.hif.mem.writeN a.toNat (bytesOfWords ws)
    let proposed := fun (row : Instr) (t : BitVec 8) (nonce : Word) => let d := digestOf t 1 s.nextProposal nonce image
      Answers row c 0 (s.nextProposal.setWidth 32, digestWord d 0, digestWord d 1, 0) s fun v => Only [.hif, .guard, .dbg] u v ∧ v.guard.spv = s.guard.spv
        ∧ bit v.hif.alert 2 = true ∧ ∃ q, v.guard.host = some q ∧ q.id = s.nextProposal ∧ q.index = t ∧ q.image = image ∧ q.digest = d
    (HostNext 0x60 c s u → WordsFit c [(2, 0xFF), (3, -1), (4, 0xFFFF), (5, 0xFFFF)] → tableSize id.toNat = some (fld (c.w 5) 0 16) →
        (s.hostObj (fld (c.w 4) 0 16)).bind (fun o => s.objBytes o 0 (fld (c.w 5) 0 16)) = some image → imageFault id.toNat image = none →
        proposed .guardPropose id (c.w 3))
    ∧ (HostNext 0x83 c s u → WordsFit c [(2, 0xFFFF), (3, 0xFFFF)] → 1 ≤ fld (c.w 3) 0 16 → fld (c.w 3) 0 16 ≤ 1536 →
        (s.hostObj (fld (c.w 2) 0 16)).bind (fun o => s.objBytes o 0 (8 * fld (c.w 3) 0 16)) = some image → (entriesOf image).all entryOk = true →
        proposed .ledgerImport 0x80 0)
    ∧ (HostNext 0x61 c s u → WordsFit c [(2, 0xFF), (3, -1), (4, -1)] →
        (s.pendingId id c.at_ = some (false, p) → digestWord p.digest 0 = c.w 3 → digestWord p.digest 1 = c.w 4 → Does .guardConfirm [.guard, .hif] s fun t =>
          Waits c .guard t ∧ t.guard = { s.guard with spv := none, confirmed := s.guard.confirmed ++ [(p, epochOf c.at_, false)] } ∧ t.hif.mem = s.hif.mem)
        ∧ (s.pendingId id c.at_ = some (true, p) → Answers .guardConfirm c 0x16 res0 s fun t => t = u)
        ∧ (s.pendingId id c.at_ = none → Answers .guardConfirm c 0x1F res0 s fun t => t = u))
    ∧ (HostNext 0x62 c s u → WordsFit c [(2, 0xFF)] →
        (s.pendingId id c.at_ = some (false, p) → Answers .guardVeto c 0 res0 s fun t => Only [.guard, .dbg] u t
          ∧ t.guard = { s.guard with spv := none, irq := setBit s.guard.irq 2 true })
        ∧ (s.pendingId id c.at_ = none → Answers .guardVeto c 0x1F res0 s fun t => t = u))
    ∧ (HostNext 0x63 c s u → WordsFit c [(2, 0xFF), (3, -1), (4, -1)] → ∀ t : Fin 6, fld (c.w 2) 0 8 = t.1 →
        (c.w64 3 4 = 0 → Answers .guardQuery c 0 (s.queryTable t) s fun v => v = u)
        ∧ (c.w64 3 4 ≠ 0 → busAligned (c.w64 3 4) = true → s.hif.upstream = true → wordsOf (s.tableImage t) ≠ [] → Answers .guardQuery c 0 (s.queryTable t) s fun v =>
            Only [.hostMem] u v ∧ wrote (c.w64 3 4) (wordsOf (s.tableImage t)) v)
        ∧ (c.w64 3 4 ≠ 0 → busAligned (c.w64 3 4) = true → s.hif.upstream = false → Does .guardQuery [.hif] s fun v => Waits c .busMaster v ∧ v.hif.mem = s.hif.mem))
    ∧ (HostNext 0x81 c s u → WordsFit c [(2, 0xFFFF)] → let t := fld (c.w 2) 0 4; let x := fld (c.w 2) 4 12
        bistIds t x = true → s.unitBusy t x = false →
        (passed = true → Answers (.bistRun passed detail) c 0 (1, detail, 0, 0) s fun v => v = u)
        ∧ (passed = false → Answers (.bistRun passed detail) c 0 (0, detail, 0, 0) s fun v => Only [.hif, .hlt, .dbg] u v ∧ FoundFailed (unit (BitVec.ofNat 4 t) x) v))
    ∧ (HostNext 0x82 c s u → WordsFit c [(2, -1), (3, -1), (4, -1)] → fld (c.w 4) 0 16 ≤ 2047 → busAligned (c.w64 2 3) = true → s.hif.upstream = true →
        let es := (List.range (min (fld (c.w 4) 16 16) (2048 - fld (c.w 4) 0 16))).filterMap fun k => s.ledgerAt (fld (c.w 4) 0 16 + k)
        Answers .ledgerExport c 0 (res1 (wd es.length)) s fun t => Only [.hostMem] u t ∧ wrote (c.w64 2 3) (es.flatMap fun e => [lo e, hi e]) t)
    ∧ (HostNext 0x90 c s u → WordsFit c [(2, 0xF), (3, 0x3F7FFFF), (4, -1), (5, -1), (6, -1), (7, -1), (8, 1)] → fld (c.w 3) 1 2 ≠ 3 → fld (c.w 3) 3 9 < 288 →
        fld (c.w 3) 12 3 < 6 → ∀ k : Fin 16, fld (c.w 2) 0 4 = k.1 → Answers .probeSet c 0 res0 s fun t => Only [.fab] u t
          ∧ t.fab.cairn = upd s.fab.cairn k { cfg := (c.w 3).setWidth 25, match_ := c.w64 4 5, mask := c.w64 6 7 } ∧ t.fab.wrap = bit (c.w 8) 0
          ∧ t.fab.trace = s.fab.trace ∧ t.fab.ni = s.fab.ni)
    ∧ (HostNext 0x91 c s u → WordsFit c [(2, 0x3FF), (3, -1), (4, -1)] → ∀ i : Fin 300, fld (c.w 2) 0 9 = i.1 → busAligned (c.w64 3 4) = true →
        (s.hif.upstream = true → Answers .statsRead c 0 res0 s fun t => Only [.fab, .hostMem] u t ∧ wrote (c.w64 3 4) (statWords (s.ni i).stats) t
          ∧ t.ni i = (if bit (c.w 2) 9 then { s.ni i with stats := {} } else s.ni i) ∧ ∀ j, j ≠ i → t.ni j = s.ni j)
        ∧ (s.hif.upstream = false → Does .statsRead [.hif] s fun t => Waits c .busMaster t ∧ t.hif.mem = s.hif.mem))
    ∧ (HostNext 0x92 c s u → WordsFit c [(2, -1), (3, -1), (4, 0x10FFF)] → busAligned (c.w64 2 3) = true → s.hif.upstream = true →
        let rs := s.dumpOf c
        Answers .traceDump c 0 (res1 (wd rs.length)) s fun t => Only [.fab, .dbg, .hostMem] u t ∧ wrote (c.w64 2 3) (rs.flatMap fun r => r.toList) t
          ∧ t.fab.trace = (if bit (c.w 4) 16 then [] else s.fab.trace) ∧ t.dbg.log = s.dbg.log)
    ∧ (HostNext 0x93 c s u → WordsFit c [(2, -1), (3, -1), (4, 0x7FF)] → busAligned (c.w64 2 3) = true → s.hif.upstream = true →
        let es := s.drainOf c
        let left := s.dbg.log.filter fun e => !(look s.dbg.resv c.id []).contains e.seq
        Answers .eventDrain c 0 (wd es.length, wd left.length, 0, 0) s fun t => Only [.fab, .dbg, .hostMem] u t
          ∧ wrote (c.w64 2 3) (es.flatMap fun e => e.words.toList) t ∧ t.dbg.log = left ∧ t.dbg.newest = s.dbg.newest)

/-! ### Belay, tiers, start-up, power, debug (11, 12, 14, 15, 22, 24, 25) -/

/-- R220..R223, Tables 11.2, 11.3: belay takes a domain through request, drain, fence and its target state; rows pause their graphs, a row
switched off loses its instruction memories and keeps its home memories; demand before the fence cancels, 20 ms abort with a count and an
event, and a wake lifts the holds. -/
def Obligations.BelaySteps : Prop :=
  ∀ (d : Domain) (off : Bool) (b : Belay) (s : State), s.powered = true →
    let at_ := fun (t : State) (k : BelayStep) => ∃ x, t.belayOf d = some x ∧ x.step = k ∧ x.off = b.off ∧ x.since = b.since
    let others := fun (t : State) => ∀ e, e ≠ d → t.belayOf e = s.belayOf e
    (s.belayOf d = none → s.sterdo = true → s.mayBelay d off = true → (∀ y, d = .row y → off = true → s.rowRuns y.1 = []) →
        Does (.belayRequest d off) [.pma, .fab, .grid] s fun t => t.belayOf d = some { dom := d, off := off, step := .request, since := s.clk.tempo } ∧ others t
          ∧ (d = .s23 → t.pma = { s.pma with s23 := 3 }) ∧ (d ≠ .s23 → t.pma = s.pma)
          ∧ ((∃ y, d = .row y) → ∀ g : Fin 8, (s.grid.graph[g]).state = .running → (t.grid.graph[g]).rowsDown = true))
    ∧ (s.belayOf d = some b →
        (b.step = .request → s.drained d = true → Does (.belayDrainDone d) [.fab] s fun t => at_ t .drained ∧ others t)
        ∧ (b.step = .drained → s.drained d = true → (∀ p ∈ s.packets, Domain.touches d s p = false) → Does (.belayFence d) [.fab] s fun t => at_ t .fenced ∧ others t)
        ∧ (b.step = .fenced → Does (.belayAcknowledge d) [.pma, .fab, .grid, .hif] s fun t =>
            (d = .hostLink → at_ t .switched ∧ t.hif.l1 = true ∧ t.hif.l11 = b.off)
            ∧ (d = .dram → at_ t .switched ∧ t.pma = s.pma ∧ t.grid = s.grid)
            ∧ (d = .s23 → s.s23Empty = true → at_ t .switched ∧ t.pma = { s.pma with s23 := 0 })
            ∧ ∀ y, d = .row y → at_ t .switched ∧ ∀ j, t.core j = if nodeY j.1 = y.1 ∧ b.off = true then { s.core j with imem := [] } else s.core j)
        ∧ ((b.step = .request ∨ b.step = .drained) → s.demanded d = true → Does (.belayCancel d) [.pma, .fab] s fun t => t.belayOf d = none ∧ others t
            ∧ t.pma = if d = .s23 then { s.pma with s23 := 2 } else s.pma)
        ∧ (b.step ≠ .switched → b.since + 20 * ms < s.clk.tempo → Does (.belayAbort d) [.pma, .fab, .dbg] s fun t => t.belayOf d = none ∧ others t
            ∧ t.fab.belayAbort = satAdd s.fab.belayAbort 1 ∧ bit t.fab.irq 0 = true ∧ Logged 0x10 7 (wd (Domain.bit d)) 0 s t)
        ∧ (b.step = .switched → s.wakes d = true → Does (.domainWake d) [.pma, .fab, .grid, .hif] s fun t => t.belayOf d = none ∧ others t
            ∧ (d = .hostLink → t.hif.l1 = false ∧ t.hif.l11 = false) ∧ (d = .s23 → t.pma = { s.pma with s23 := 2, idleAt := s.clk.tempo })
            ∧ (d ≠ .hostLink → t.hif.l1 = s.hif.l1) ∧ ∀ j, (t.core j).home = (s.core j).home))

/-- R223: belays of different domains run at the same time: one that is requested while another stands begins, and the other stands as it was; a
request for a domain that is in belay or in its target state is ignored. -/
def Obligations.BelaysRunSideBySide : Prop :=
  ∀ (d e : Domain) (off : Bool) (b : Belay) (s : State),
    (s.belayOf d = some b → exec (.belayRequest d off) s = .next s)
    ∧ (s.pma.s23 = 0 → exec (.belayRequest .s23 off) s = .next s) ∧ (s.hif.l1 = true → exec (.belayRequest .hostLink off) s = .next s)
    ∧ (s.powered = true → s.sterdo = true → s.belayOf d = some b → s.belayOf e = none → s.mayBelay e off = true → (∀ y, e = .row y → off = true → s.rowRuns y.1 = []) →
        Completes (.belayRequest e off) s fun t => (∃ x, t.belayOf e = some x ∧ x.step = .request ∧ x.off = off) ∧ t.belayOf d = some b)

/-- R241, R244: a hauler that moves nothing starts its queued move: the source run is closed first and the tile is in flight; a move whose copy
has ended rewrites the entry, ends the flight and is counted. R274..R277: a step's next column gets private pages, absent columns are
replayed, columns are dropped below the mark, and pages lacking for 100 ms fault the stream. R283, R284: idle state is parked, and comes
home, each counted at its end. -/
def Obligations.TilesMove : Prop :=
  ∀ (c : Fin 8) (m : Move) (a : Moving) (i : Fin 16) (k : Nat) (ps : List Nat) (busy : BitVec 16) (o : Obj) (s : State), s.powered = true →
    let e := s.entry m.tile
    let x := s.stream[i]
    let homes := [Part.grid, .tiers, .stream]
    let idle := s.tiers.moving[c] = []
    (s.sterdo = true → s.boot.dramReady = true → idle →
        (s.tiers.haul[c] = [] → ∀ ecc, Does (.tileMoveStart ⟨c, ecc⟩) [.tiers] s fun t => t.tiers.moving[c] = [] ∧ t.tiers.map = s.tiers.map)
        ∧ (s.tiers.haul[c] = [m] → s.moveDue m = true → m.toHome = false → m.widen = false → e.atHome = true → m.tile < 2 ^ 28 →
            (∀ d : Fin 8, ∀ y ∈ s.tiers.moving[d], y.move.tile ≠ m.tile) →
            ∀ ecc, Does (.tileMoveStart ⟨c, ecc⟩) [.fab, .tiers] s fun t => (t.entry m.tile).inflight = true ∧ t.tiers.haul[c] = []
              ∧ (∃ y, t.tiers.moving[c] = [y] ∧ y.move = m ∧ y.phase = 0 ∧ y.target = none ∧ y.source = e.run)
              ∧ Requested (dramNi c) (storeDest e.node) 0xC6 (4096 * m.tile) .service s t)
        ∧ (s.tiers.haul[c] = [m] → s.moveDue m = true → m.toHome = true → m.widen = false → e.tier = .dram → (s.moveTarget m).isSome = true →
            (∀ d : Fin 8, ∀ y ∈ s.tiers.moving[d], y.move.tile ≠ m.tile) → m.tile < 2 ^ 28 →
            Does (.tileMoveStart ⟨c, .clean⟩) [.fab, .tiers] s fun t => (t.entry m.tile).inflight = true
              ∧ (∃ y, t.tiers.moving[c] = [y] ∧ y.move = m ∧ y.phase = 2 ∧ y.target = (s.moveTarget m).map (fun z => (z.1.1, z.2, e.len.toNat + 1)))
              ∧ (t.ni (dramNi c)).reqs.length = (s.ni (dramNi c)).reqs.length + (e.len.toNat + 8) / 8))
    ∧ (s.tiers.moving[c] = [a] → a.phase = 3 → a.target = none → s.objOf a.move.tile = some o → Does (.tileMoveDone c) [.fab, .grid, .tiers, .hif, .hostMem] s fun t =>
        t.tiers.moving[c] = [] ∧ t.tiers.moves = satAdd s.tiers.moves 1 ∧ (t.entry a.move.tile).inflight = false ∧ ∀ d, d ≠ c → t.tiers.moving[d] = s.tiers.moving[d])
    ∧ (∀ y g n, s.tiers.moving[c] = [a] → a.phase = 3 → a.target = some (y, g, n) → s.objOf a.move.tile = some o → (s.moveBytes a).length = 64 * n →
        a.source = (s.entry a.move.tile).run → (∃ r ∈ s.tiers.runs, r.at_ a.move.tile y g = true) → (∀ w ∈ s.hif.waits, ∀ id, w.on ≠ .free id) →
        Does (.tileMoveDone c) [.fab, .grid, .tiers, .hif, .hostMem] s fun t => t.tiers.moving[c] = [] ∧ t.tiers.moves = satAdd s.tiers.moves 1
          ∧ (t.entry a.move.tile).inflight = false ∧ (t.entry a.move.tile).atHome = true ∧ (t.entry a.move.tile).node = y ∧ (t.entry a.move.tile).granule = g)
    ∧ (s.sterdo = true → s.tiers.pool.isSome = true →
        (s.dropCandidate busy = some ps → s.kvFree < s.tiers.mark.toNat → Does (.kvDrop busy) homes s fun t => (∀ j, some ps ∉ (t.kv j).cols)
          ∧ s.kvFree ≤ t.kvFree ∧ s.tiers.drops.toNat ≤ t.tiers.drops.toNat)
        ∧ (s.colToGive i = some k → x.state ≠ .closed →
            (s.freePages s.tiers.layers = some ps → Does (.copyOnWrite i) homes s fun t => (t.kv i).cols[k]? = some (some ps) ∧ (t.kv i).waitAt = none
              ∧ ∀ j, j ≠ i → t.kv j = s.kv j)
            ∧ (s.freePages s.tiers.layers = none → (∀ b, s.dropCandidate b = none) → Does (.copyOnWrite i) [.freeCtr, .tiers] s fun t =>
              (t.kv i) = { s.kv i with waitAt := some ((s.kv i).waitAt.getD s.clk.tempo) })
            ∧ (((makeRoom (BitVec.twoPow 16 i.1) s.tiers.layers s).freePages s.tiers.layers).isSome = true →
                Does (.copyOnWrite i) (Part.freeCtr :: homes) s fun t => (t.kv i).waitAt = none ∧ ∃ ps', (t.kv i).cols[k]? = some (some ps')))
        ∧ ((s.kv i).absent ≠ [] →
            (s.freePages (s.tiers.layers * (s.kv i).absent.length) = some ps → Does (.kvReplay i) homes s fun t => (t.kv i).absent = [] ∧ (t.kv i).waitAt = none
              ∧ (t.kv i).length = (s.kv i).length)
            ∧ (s.freePages (s.tiers.layers * (s.kv i).absent.length) = none → (∀ b, s.dropCandidate b = none) →
                Does (.kvReplay i) [.freeCtr, .tiers] s fun t => (t.kv i).waitAt.isSome = true ∧ (t.kv i).cols = (s.kv i).cols)))
    ∧ (∀ t0, (s.kv i).waitAt = some t0 → t0 + 100 * ms ≤ s.clk.tempo → x.state ≠ .closed → x.state ≠ .faulted →
        Does (.pageWaitTimeout i) [.tiers, .stream, .hif, .hostMem, .dbg] s fun t => (t.stream[i]).state = .faulted ∧ (t.kv i).waitAt = none
          ∧ Logged 0x12 13 (wd i.1) 0x13 s t)
    ∧ (s.stateObj i = some o →
        (s.sterdo = true → x.state ≠ .closed → x.state ≠ .paused → x.pausing = false → s.streamIdle i = true → x.moving = none → x.parked = false →
          x.idleAt + x.idle100.toNat * (100 * ms) ≤ s.clk.tempo → Does (.parkIdleExpiry i) [.tiers, .stream] s fun t =>
            t.stream = modAt s.stream i (fun y => { y with moving := some true }) ∧ t.tiers.map = s.tiers.map)
        ∧ (x.moving = some true → s.allParked o = true → Does (.parkDone i) [.tiers, .stream] s fun t =>
            t.stream = modAt s.stream i (fun y => { y with parked := true, moving := none }) ∧ t.tiers = { s.tiers with parks := satAdd s.tiers.parks 1 })
        ∧ (x.moving = some false → s.allHome o = true → Does (.restoreDone i) [.fe, .tiers, .stream] s fun t =>
            t.stream = modAt s.stream i (fun y => { y with parked := false, moving := none, idleAt := s.clk.tempo })
            ∧ t.tiers.restores = satAdd s.tiers.restores 1 ∧ s.tiers.restoreMax.toNat ≤ t.tiers.restoreMax.toNat ∧ t.tiers.map = s.tiers.map))

/-- R391..R395, Table 22.1: the steps of the boot sequence end in their order: the PLL locks and Tempo runs, the ledger's units are out of use
and intonation begins, failing units are retired, the core map is made or the grid is out of service, DRAM is trained, the configuration
space is ready, Sterdo starts, and the device stands in QUIET. A bad OTP word, or Sterdo failing, halts it. -/
def Obligations.BootSteps : Prop :=
  ∀ (bad : OtpFault) (fails : List UnitRef) (failed : BitVec 8) (n ay : Nat) (s : State), s.powered = true →
    let go := s.booting = true
    let ended := fun (k : Nat) (t : State) => t.did k = true ∧ ∀ j, j < 11 → j ≠ k → t.did j = s.did j
    let halted := fun (i : Instr) (k : Nat) => Does i [.freeCtr, .boot, .dbg] s fun t => t.boot = { s.boot with failStep := k }
      ∧ t.dbg.seq = s.dbg.seq + 1 ∧ ∃ e, t.dbg.newest = some e ∧ e.code = 0x01 ∧ e.arg0 = wd k
    (s.did 1 = false → s.pwr.tj < 110 → Does .bootPllLock [.boot, .clk] s fun t => ended 1 t ∧ t.clk = { s.clk with pllLock := true })
    ∧ (go → s.did 1 = true → s.did 2 = false → ((bad.word = true ∨ bad.lockstep = true) → halted (.bootOtpRead bad) 2)
        ∧ (bad.word = false → bad.lockstep = false → Does (.bootOtpRead bad) [.boot, .pma, .fab, .tiers, .hlt, .dbg] s fun t => ended 2 t ∧ t.pma.intoning = true
            ∧ ∀ x ∈ s.otp.ledger, x.1 ∉ bad.ledger → t.isRetired (entryUnit x.2) = true))
    ∧ (go → s.did 2 = true → s.did 3 = false → Does (.bootBistDone fails) [.boot, .pma, .fab, .tiers, .hif, .hlt, .dbg] s fun t => ended 3 t
        ∧ (∀ u ∈ fails, t.isRetired u = true) ∧ (fails = [] → t.hlt = s.hlt ∧ t.fab = s.fab ∧ t.pma = s.pma))
    ∧ (go → s.did 3 = true → s.did 4 = false →
        (s.fitWidth s.fused = some n → s.anchorRow = some ay → Does .bootCoreMap [.boot, .fab, .grid, .hlt, .dbg] s fun t => ended 4 t ∧ t.grid.width = n
          ∧ t.grid.anchorY = ay ∧ t.grid.oos = false ∧ t.grid.narrowed = decide (n < s.fused) ∧ t.boot.gridOos = s.boot.gridOos)
        ∧ (s.fitWidth s.fused = none → Does .bootCoreMap [.freeCtr, .boot, .fab, .grid, .dbg] s fun t => ended 4 t ∧ t.grid.width = 0 ∧ t.grid.oos = true
          ∧ t.boot.gridOos = true))
    ∧ (go → s.did 2 = true → s.did 5 = false → Does (.dramTrainingDone failed) [.freeCtr, .boot, .tiers, .dbg] s fun t => ended 5 t ∧ t.boot.dramReady = true
        ∧ t.boot.dramFail = (decide (failed ≠ 0) || s.hlt.retired.any fun u => decide (u.type = uDram)) ∧ t.tiers.map = s.tiers.map)
    ∧ (go → s.did 2 = true → s.did 4 = true → s.did 5 = true → s.did 7 = false → s.gen.perstN = true → Does .configSpaceReady [.boot, .fab] s fun t =>
        ended 7 t ∧ t.boot.cfgReady = true)
    ∧ (go → s.did 8 = true → s.did 4 = true → s.did 5 = true → s.did 9 = false → Does (.sterdoStart true) [.boot] s (ended 9) ∧ halted (.sterdoStart false) 9)
    ∧ (go → s.did 9 = true → s.did 10 = false → s.pma.ready = true → Does .quietReadiness [.boot, .fe, .fab, .pwr] s fun t => ended 10 t ∧ t.boot.quietReady = true
        ∧ t.pwr = { s.pwr with mode := 2, target := none } ∧ t.fe.loaded = true
        ∧ ∀ y : Fin 16, y.1 ≠ s.grid.anchorY → ∃ b ∈ t.fab.belays, b.dom = .row y ∧ b.step = .switched ∧ b.off = s.pwr.quietRows)

/-- R397..R400: GEN_FW_CTRL takes a first or a next chunk of a legal size, rejects another with its reason and an event, ignores and counts one
while it is busy, and aborts; a copy appends the mailbox's bytes; an image that passes the checks of R399 runs, one that fails is rejected
with the first reason. -/
def Obligations.FirmwareLoad : Prop :=
  ∀ (v : Word) (n : Nat) (last : Bool) (r : BitVec 3) (s : State),
    let b := s.boot
    let size := fld v 0 19
    let busy := b.fw = .copying ∨ b.fw = .verifying ∨ b.fw = .running
    let legal := 64 ≤ size ∧ size ≤ 262144 ∧ size % 64 = 0 ∧ (if bit v 30 then 0 else b.image.length) + size ≤ 1572864
    let boot := fun (x : Boot) (t : State) => t.boot = x
    let rejected := fun (k : BitVec 3) (t : State) => t.boot = { b with fw := .rejected, fwReason := k } ∧ Logged 0x0F 0 (k.setWidth 32) 0 s t
    (s.canAccess .host = true →
      (∀ i, (bit v 29, bit v 30, i) ∈ [(true, true, Instr.fwAbort v), (true, false, .fwAbort v), (false, true, .fwChunkFirst v), (false, false, .fwChunkNext v)] →
          busy → Does i [.boot] s (boot { b with fwIgnored := satAdd b.fwIgnored 1 }))
      ∧ (¬busy →
          (bit v 29 = true → Does (.fwAbort v) [.boot] s (boot { b with fw := .idle, image := [], chunk := none }))
          ∧ (bit v 29 = false → bit v 30 = true → legal → Does (.fwChunkFirst v) [.boot] s (boot { b with fw := .copying, image := [], chunk := some (size, bit v 31) }))
          ∧ (bit v 29 = false → bit v 30 = true → ¬legal → Does (.fwChunkFirst v) [.boot, .dbg] s (rejected 2))
          ∧ (bit v 29 = false → bit v 30 = false → legal → b.fw = .receiving → Does (.fwChunkNext v) [.boot] s
              (boot { b with fw := .copying, chunk := some (size, bit v 31) }))
          ∧ (bit v 29 = false → bit v 30 = false → legal → b.fw ≠ .receiving → Does (.fwChunkNext v) [.boot, .dbg] s (rejected 6))))
    ∧ (s.powered = true → b.fw = .copying → b.chunk = some (n, last) → Does .fwChunkCopyDone [.boot] s
        (boot { b with image := b.image ++ b.mailbox.readN 0 n, chunk := none, fw := if last then .verifying else .receiving }))
    ∧ (s.powered = true → b.fw = .verifying → fwCheck s.otp b.image = none → Does .fwVerifyDone [.boot] s fun t => t.boot.fw = .running
        ∧ t.boot.sterdo = imgWord b.image 8 ∧ t.did 8 = true ∧ t.boot.image = b.image)
    ∧ (s.powered = true → b.fw = .verifying → fwCheck s.otp b.image = some r → Does .fwVerifyDone [.boot, .dbg] s (rejected r))

/-- R421, R423, R424: VCORE's request moves by at most 10 mV towards its goal over PMBus; 4 refusals set PMBUS_FAIL; a poll takes the current,
the voltage and the status, a status bit is a fault that is reported and cleared; out of tolerance for 10 ms asserts FAULT_N; the current
cap steps down 10 mV above 72 A and comes back below 65 A. R425..R427: a sample takes Tj as the highest sensor; from 115 C shedding pauses
the streams that deliver no audio, until Tj has stayed below 110 C for 1 s; the thermal cap steps 10 mV every 10 ms from 105 C and comes
back below 100 C; 125 C silences the outputs, and 1 ms later the domains go off. -/
def Obligations.VoltageAndHeat : Prop :=
  (∀ (nacks : Nat) (p : PmicPoll) (w : BitVec 16) (s : State), s.powered = true → s.did 9 = true → s.pwr.tsdAt = none →
     let x := s.pwr
     let g := s.goalMv
     let next := if x.reqMv < g then min g (x.reqMv + 10) else max g (x.reqMv - 10)
     let cap := max (modeFloor s.modeGoal) ((match x.curCap with | some c => min (s.baseMv x.thermCap) c | none => s.baseMv x.thermCap) - 10)
     let dead := fun (i : Instr) (y : Pwr) => x.pmbusFail = false → Does i [.pwr, .dbg] s fun t => t.pwr = { y with pmbusFail := true, irq := setBit x.irq 4 true }
       ∧ t.dbg.seq = s.dbg.seq + 1
     (x.pmbusFail = false → g ≠ x.reqMv → x.stepAt + 50 * us ≤ s.clk.tempo →
         let sent := { x with pmbus := (0x21, BitVec.ofNat 16 ((next * 4096 + 500) / 1000)) :: x.pmbus }
         (nacks < 4 → Does (.vcoreStep nacks) [.pwr] s fun t => t.pwr = { sent with reqMv := next, stepAt := s.clk.tempo })
         ∧ (4 ≤ nacks → dead (.vcoreStep nacks) sent))
     ∧ (4 ≤ p.nacks → dead (.pmbusPoll p) x) ∧ (4 ≤ nacks → dead (.pmbAlert w nacks) x)
     ∧ (p.nacks < 4 → Does (.pmbusPoll p) [.hif, .pwr, .dbg] s fun t => t.pwr.iout = centi11 p.iout ∧ t.pwr.measMv = min 1023 ((p.vout.toNat * 1000 + 2048) / 4096)
         ∧ t.pwr.pmbusFail = false ∧ t.pwr.reqMv = x.reqMv ∧ (p.status = 0 → t.hif = { s.hif with sent := t.hif.sent, pba := t.hif.pba } ∧ t.pwr.irq = x.irq)
         ∧ (p.status ≠ 0 → bit t.pwr.irq 3 = true ∧ bit t.hif.alert 3 = true ∧ t.pwr.pmbus.head? = some (0x03, 0)))
     ∧ (nacks < 4 → Does (.pmbAlert w nacks) [.hif, .pwr, .dbg] s fun t => t.pwr.pmbusFail = false
         ∧ (w = 0 → t.pwr.irq = x.irq ∧ t.dbg = s.dbg) ∧ (w ≠ 0 → bit t.pwr.irq 3 = true ∧ bit t.hif.alert 3 = true ∧ t.pwr.pmbus.head? = some (0x03, 0)))
     ∧ (∀ t0, x.voutFault = false → x.voutBad = some t0 → t0 + 10 * ms ≤ s.clk.tempo → Does .voutToleranceFault [.pwr] s fun t =>
         t.pwr = { x with voutFault := true } ∧ t.faultN = true)
     ∧ (x.mode ≠ 0 → 7200 < x.iout → x.curAt + ms ≤ s.clk.tempo → Does .currentCapStep [.pwr] s fun t =>
         t.pwr = { x with curAt := s.clk.tempo, curCap := some cap })
     ∧ (∀ c, x.mode ≠ 0 → x.iout < 6500 → x.curCap = some c → x.curAt + 10 * ms ≤ s.clk.tempo → Does .currentCapStep [.pwr] s fun t =>
         t.pwr = { x with curAt := s.clk.tempo, curCap := if s.baseMv x.thermCap ≤ c + 10 then none else some (c + 10) }))
  ∧ (∀ (grid phot dram : Int) (s : State), s.powered = true →
     let x := s.pwr
     let tj := max grid (max phot dram)
     let lower := max (modeFloor s.modeGoal) ((match x.thermCap with | some c => min (s.baseMv x.curCap) c | none => s.baseMv x.curCap) - 10)
     (x.tsdAt = none →
       (tj < 115 → Does (.thermalSample grid phot dram) [.pwr] s fun t => t.pwr = { x with
           tGrid := BitVec.ofInt 8 grid, tPhot := BitVec.ofInt 8 phot, tDram := BitVec.ofInt 8 dram, tj := tj
           thermAt := if 100 ≤ x.tj ∧ tj < 100 then s.clk.tempo else x.thermAt, coolAt := if tj < 110 then some (x.coolAt.getD s.clk.tempo) else none })
       ∧ (115 ≤ tj → tj < 125 → x.shed = false → s.did 9 = true → Does (.thermalSample grid phot dram) [.gates, .tiers, .stream, .hif, .hostMem, .pwr, .dbg] s
           fun t => t.pwr.shed = true ∧ t.pwr.sheds = satAdd x.sheds 1 ∧ bit t.pwr.irq 2 = true ∧ t.pwr.tj = tj
             ∧ ∀ i : Fin 16, (s.stream[i]).sheddable = true → ((s.stream[i]).state = .listening ∨ (s.stream[i]).state = .active) →
                 (t.stream[i]).state = .paused ∨ (t.stream[i]).pausing = true)
       ∧ (125 ≤ tj → Does (.thermalSample grid phot dram) [.gates, .pwr, .dbg] s fun t => t.pwr.tsdSeen = true ∧ t.pwr.tsdAt = some s.clk.tempo ∧ t.pwr.target = none
           ∧ t.pwr.tj = tj ∧ t.gates = s.gates.map fun g => if GateId.isOutput g.1 then (g.1, Gate.force g.2) else g))
     ∧ (s.did 9 = true → x.tsdAt = none → 105 ≤ x.tj → x.mode ≠ 0 → (x.thermAt = 0 ∨ x.thermAt + 10 * ms ≤ s.clk.tempo) → Does .thermalCapStep [.hif, .pwr, .dbg] s
         fun t => t.pwr.thermCap = some lower ∧ t.pwr.thermAt = s.clk.tempo ∧ t.pwr.throttle = true
           ∧ t.pwr.steps = (if lower < s.goalMv then satAdd x.steps 1 else x.steps) ∧ (x.throttle = false → bit t.pwr.irq 1 = true ∧ t.dbg.seq = s.dbg.seq + 1))
     ∧ (∀ c, s.did 9 = true → x.tsdAt = none → x.tj < 100 → x.thermCap = some c → (x.thermAt = 0 ∨ x.thermAt + 100 * ms ≤ s.clk.tempo) → Does .thermalCapStep [.pwr] s
         fun t => t.pwr.thermAt = s.clk.tempo ∧ t.pwr.thermCap = if s.baseMv x.curCap ≤ c + 10 then none else some (c + 10))
     ∧ (∀ t0, x.shed = true → x.tj < 110 → x.coolAt = some t0 → t0 + 1000 * ms ≤ s.clk.tempo → Does .shedEnd [.pwr, .dbg] s fun t =>
         t.pwr = { x with shed := false } ∧ t.dbg.seq = s.dbg.seq + 1)
     ∧ (∀ t0, x.tsdAt = some t0 → t0 + ms ≤ s.clk.tempo → Does .shutdownPowerOff [.pwr] s fun t => t.pwr = { x with down := true }))

/-- R433..R436, Table 25.3: the trace port sends the oldest record of its queue; TAP instructions are selected, EXTEST and CLAMP only where
boundary scan is free; DAP opens a session where DEBUG permits one, and leaving it ends the session with an event; a scan shifts out the
previous result and issues its access, writes only with DEBUG = OPEN; while an access runs, a scan shifts out BUSY. A U-space access that
the window permits is sent to the tile's owner, and its data is the result once they have come. -/
def Obligations.DebugPort : Prop :=
  ∀ (cells : List Bool) (a : BitVec 40) (v : Word) (kind : Nat) (ws : List Word) (more : List (Nat × List Word)) (o : Obj)
      (p : Packet) (k n off : Nat) (r : Req) (s : State), s.powered = true →
    let d := s.dbg
    let plain := d.session = false
    let shifted : BitVec 76 := d.result.1 ++ (d.result.2.setWidth 72 : BitVec 72)
    let sel := fun (i : Instr) (x : Tap) => plain → Does i [.dbg] s fun t => t.dbg = { d with tap := x }
    let rows := fun (x : Bool) => [Instr.dapNop x, .dapRegRd a x, .dapRegWr a v x, .dapURd a x, .dapUWr a v x]
    let at_ := a.toNat / 4 * 4
    let i := svcNi 2
    (d.trQueue = (kind, ws) :: more → d.trEn = true → s.debugLevel ≠ 0 → Does .tracePortRecord [.dbg] s fun t =>
        t.dbg = { d with trQueue := more, trOut := traceNibbles kind ws })
    ∧ sel .tapReset .idcode ∧ sel .idcode .idcode ∧ sel .bypass .bypass
    ∧ (plain → Does (.samplePreload cells) [.dbg] s fun t => t.dbg = { d with tap := .sample, cells := cells })
    ∧ sel .extest (if s.gen.testen = true ∨ s.debugLevel = 2 then .extest else .bypass)
    ∧ sel .clamp (if s.gen.testen = true ∨ s.debugLevel = 2 then .clamp else .bypass)
    ∧ (d.session = true → ∀ i ∈ [Instr.tapReset, .bypass], d.tap = .dap → Does i [.dbg] s fun t => t.dbg.session = false ∧ t.dbg.result = (0, 0)
        ∧ Logged 0x13 12 0 (wd s.debugLevel) s t)
    ∧ (s.debugLevel = 0 → sel .dap .bypass)
    ∧ (s.debugLevel ≠ 0 → plain → d.tap ≠ .dap → Does .dap [.dbg] s fun t => t.dbg.tap = .dap ∧ t.dbg.session = true ∧ t.dbg.result = (0, 0)
        ∧ Logged 0x13 12 1 (wd s.debugLevel) s t)
    ∧ (d.tap = .dap → d.session = true → (∀ i ∈ rows true, Does i [.dbg] s fun t => t.dbg = { d with shifted := (2 : BitVec 4) ++ (0 : BitVec 72) }))
    ∧ (d.tap = .dap → d.session = true → d.busy ≠ none →
        ∀ i ∈ rows false, Does i [.dbg] s fun t => t.dbg = { d with shifted := (2 : BitVec 4) ++ (0 : BitVec 72) })
    ∧ (d.tap = .dap → d.session = true → d.busy = none →
        Does (.dapNop false) [.dbg] s (fun t => t.dbg = { d with shifted := shifted, result := (0, 0) })
        ∧ (a.toNat / 4 * 4 = 0x40124 → Does (.dapRegRd a false) [.dbg] s fun t =>
            t.dbg = { d with shifted := shifted, result := (0, 0), accesses := satAdd d.accesses 1 })
        ∧ (a.toNat / 4 * 4 = 0x11000 → Does (.dapRegRd a false) [.dbg] s fun t =>
            t.dbg = { d with shifted := shifted, result := (0, hifLink s.hif), accesses := satAdd d.accesses 1 })
        ∧ (s.debugLevel = 2 → a.toNat / 4 * 4 = 0x90000 → Does (.dapRegWr a v false) [.tiers, .dbg] s fun t =>
            t.tiers = { s.tiers with bar2 := v.setWidth 8 } ∧ t.dbg = { d with shifted := shifted, result := (0, 0), accesses := satAdd d.accesses 1 })
        ∧ (s.debugLevel ≠ 2 → ∀ i ∈ [Instr.dapRegWr a v false, .dapUWr a v false], Does i [.dbg] s fun t => t.dbg = { d with shifted := shifted, result := (1, 0) })
        ∧ ((s.objOf (at_ / 4096) = none ∨ s.objOf (at_ / 4096) = some o ∧ s.hostMay o false = false) → Does (.dapURd a false) [.hif, .dbg] s fun t =>
            t.dbg.shifted = shifted ∧ t.dbg.result = (0, 0) ∧ t.dbg.busy = none ∧ Logged 0xFF 8 (wd (at_ / 4096)) 0 s t)
        ∧ (s.debugLevel = 2 → (s.objOf (at_ / 4096) = none ∨ s.objOf (at_ / 4096) = some o ∧ s.hostMay o true = false) →
            Does (.dapUWr a v false) [.hif, .dbg] s fun t => t.dbg.shifted = shifted ∧ t.dbg.result = (0, 0) ∧ Logged 0xFF 8 (wd (at_ / 4096)) 0 s t)
        ∧ (s.objOf (at_ / 4096) = some o → (s.ni i).redirect (at_ / 4096) = none →
            (s.hostMay o false = true → Does (.dapURd a false) [.fab, .hif, .dbg] s fun t =>
              t.dbg = { d with shifted := shifted, accesses := satAdd d.accesses 1, busy := some s.hif.bar2Ctr }
                ∧ Requested i (0x208 + at_ / 4096 % 8) 0x06 (at_ / 4096 * 4096) (.dap s.hif.bar2Ctr (at_ % 4096) false) s t)
            ∧ (s.hostMay o true = true → s.debugLevel = 2 → Does (.dapUWr a v false) [.fab, .hif, .dbg] s fun t =>
              t.dbg = { d with shifted := shifted, accesses := satAdd d.accesses 1, busy := some s.hif.bar2Ctr }
                ∧ Requested i (0x208 + at_ / 4096 % 8) 0x07 at_ (.dap s.hif.bar2Ctr (at_ % 4096) true) s t
                ∧ ∃ r, (t.ni i).reqs.getLast? = some r ∧ bodyBytes r.pkt.body r.pkt.writeLen = bytesOf v)))
    ∧ (Arrived i 0x40 p s → (dropRx i p s).openReq i p = some (k, r) → r.owner = .dap n off false → d.busy = some n → p.len ≠ 0 → r.worst = 0 →
        (setBit r.got p.seq.toNat true).toNat + 1 = 2 ^ r.want → Does (.data i) [.fab, .dbg] s fun t =>
          t.dbg = { d with busy := none, result := (0, wordOf (tileSlice (withPart r.buf p.seq.toNat p.body) off 4)) })
end

