-- ==== Sys2Proof/Laws/Mem.lean ====
section
/-! SUPPORT. The byte memory: every operation keeps the canonical form, a byte written is read back, and no other byte changes. -/

namespace Sys2Proof

/-- The canonical form: no listed byte is 0, and addresses rise. -/
theorem Mem.wf_iff (m : Mem) : m.wf = true ↔ (∀ c ∈ m, c.2 ≠ 0) ∧ m.Pairwise (fun c d => c.1 < d.1) := by
  induction m with
  | nil => simp [Mem.wf]
  | cons c m ih =>
    cases m with
    | nil => simp [Mem.wf]
    | cons d m =>
      simp only [Mem.wf, Bool.and_eq_true, bne_iff_ne, decide_eq_true_eq, ih, List.pairwise_cons, List.mem_cons, forall_eq_or_imp]
      constructor
      · rintro ⟨⟨hc, hcd⟩, ⟨hd, hm⟩, hlt, hp⟩
        exact ⟨⟨hc, hd, hm⟩, ⟨hcd, fun x hx => lt_trans hcd (hlt x hx)⟩, hlt, hp⟩
      · rintro ⟨⟨hc, hd, hm⟩, ⟨hcd, -⟩, hlt, hp⟩
        exact ⟨⟨hc, hcd⟩, ⟨hd, hm⟩, hlt, hp⟩

/-- What a written memory lists: the byte written, or what was listed before at another address. -/
theorem Mem.mem_write (m : Mem) (a : Nat) (b : Byte) (c : Host.Cell) (h : c ∈ m.write a b) : (c = (a, b) ∧ b ≠ 0) ∨ c ∈ m := by
  induction m with
  | nil => unfold Mem.write at h; split at h <;> simp_all
  | cons d m ih =>
    unfold Mem.write at h
    split at h
    · split at h <;> simp_all
    · split at h
      · split at h <;> simp_all; tauto
      · simp only [List.mem_cons] at h ⊢
        rcases h with rfl | h
        · simp
        · rcases ih h with h | h
          · exact .inl h
          · exact .inr (.inr h)

/-- A write keeps the canonical form. -/
theorem Mem.write_wf (m : Mem) (a : Nat) (b : Byte) (h : m.wf = true) : (m.write a b).wf = true := by
  rw [Mem.wf_iff] at h ⊢
  induction m with
  | nil => unfold Mem.write; split <;> simp_all
  | cons c m ih =>
    obtain ⟨hz, hp⟩ := h
    rw [List.pairwise_cons] at hp
    have hm : (∀ c ∈ m, c.2 ≠ 0) ∧ m.Pairwise (fun c d => c.1 < d.1) := ⟨fun x hx => hz x (by simp [hx]), hp.2⟩
    unfold Mem.write
    split
    next hlt =>
      split
      · exact ⟨hz, List.pairwise_cons.2 hp⟩
      next hb =>
        refine ⟨?_, List.pairwise_cons.2 ⟨?_, List.pairwise_cons.2 hp⟩⟩
        · intro x hx
          rcases List.mem_cons.1 hx with rfl | hx
          · exact hb
          · exact hz x hx
        · intro x hx
          rcases List.mem_cons.1 hx with rfl | hx
          · exact hlt
          · exact lt_trans hlt (hp.1 x hx)
    next hge =>
      split
      next heq =>
        split
        · exact hm
        next hb =>
          refine ⟨?_, List.pairwise_cons.2 ⟨fun x hx => by have := hp.1 x hx; simp_all, hp.2⟩⟩
          intro x hx
          rcases List.mem_cons.1 hx with rfl | hx
          · exact hb
          · exact hm.1 x hx
      next hne =>
        have ih := ih hm
        refine ⟨?_, List.pairwise_cons.2 ⟨?_, ih.2⟩⟩
        · intro x hx
          rcases List.mem_cons.1 hx with rfl | hx
          · exact hz _ (by simp)
          · exact ih.1 x hx
        · intro x hx
          rcases Mem.mem_write m a b x hx with ⟨rfl, -⟩ | hx
          · show c.1 < a
            omega
          · exact hp.1 x hx

/-- A run of bytes written keeps the canonical form. -/
theorem Mem.writeN_wf (bs : List Byte) (m : Mem) (a : Nat) (h : m.wf = true) : (m.writeN a bs).wf = true := by
  induction bs generalizing m a with
  | nil => exact h
  | cons b bs ih => exact ih _ _ (Mem.write_wf m a b h)

/-- What the memory made of bytes lists lies at or after its first address. -/
theorem Mem.ofBytes_ge (bs : List Byte) (a : Nat) (c : Host.Cell) (h : c ∈ Mem.ofBytes a bs) : a ≤ c.1 ∧ c.2 ≠ 0 := by
  induction bs generalizing a with
  | nil => simp [Mem.ofBytes] at h
  | cons b bs ih =>
    unfold Mem.ofBytes at h
    split at h
    · exact ⟨le_of_lt (Nat.lt_of_succ_le (ih _ h).1), (ih _ h).2⟩
    · rcases List.mem_cons.1 h with rfl | h
      · simp_all
      · exact ⟨le_of_lt (Nat.lt_of_succ_le (ih _ h).1), (ih _ h).2⟩

/-- The memory made of bytes is in canonical form. -/
theorem Mem.ofBytes_wf (bs : List Byte) (a : Nat) : (Mem.ofBytes a bs).wf = true := by
  rw [Mem.wf_iff]
  refine ⟨fun c h => (Mem.ofBytes_ge bs a c h).2, ?_⟩
  induction bs generalizing a with
  | nil => simp [Mem.ofBytes]
  | cons b bs ih =>
    unfold Mem.ofBytes
    split
    · exact ih _
    · exact List.pairwise_cons.2 ⟨fun x hx => Nat.lt_of_succ_le (Mem.ofBytes_ge bs _ x hx).1, ih _⟩

/-- An address below every listed one reads 0. -/
theorem Mem.read_below (m : Mem) (a : Nat) (h : ∀ c ∈ m, a < c.1) : m.read a = 0 := by
  induction m with
  | nil => rfl
  | cons c m ih =>
    have := h c (by simp)
    unfold Mem.read
    rw [if_neg (by omega)]
    exact ih fun x hx => h x (by simp [hx])

/-- Reading after a write of one byte, in a memory in canonical form: the byte written at its address, every other as before. -/
theorem Mem.read_write (m : Mem) (a x : Nat) (b : Byte) (h : m.wf = true) :
    (m.write a b).read x = if x = a then b else m.read x := by
  rw [Mem.wf_iff] at h
  induction m with
  | nil =>
    by_cases hb : b = 0
    · simp [Mem.write, Mem.read, hb]
    · by_cases hx : x = a
      · subst hx; rw [Mem.write, if_neg hb]; simp [Mem.read]
      · have : ¬ a = x := fun e => hx e.symm
        rw [Mem.write, if_neg hb]; simp [Mem.read, hx, this]
  | cons c m ih =>
    obtain ⟨hz, hp⟩ := h
    rw [List.pairwise_cons] at hp
    have hm : (∀ c ∈ m, c.2 ≠ 0) ∧ m.Pairwise (fun c d => c.1 < d.1) := ⟨fun x hx => hz x (by simp [hx]), hp.2⟩
    unfold Mem.write
    split
    next hlt =>
      have hb : Mem.read (c :: m) a = 0 := Mem.read_below _ a fun y hy => by
        rcases List.mem_cons.1 hy with rfl | hy
        · exact hlt
        · exact lt_trans hlt (hp.1 y hy)
      split
      · by_cases hx : x = a <;> simp_all
      · by_cases hx : x = a
        · subst hx; simp [Mem.read]
        · have : ¬ a = x := fun e => hx e.symm
          simp [Mem.read, hx, this]
    next hge =>
      split
      next heq =>
        have hb : Mem.read m a = 0 := Mem.read_below _ a fun y hy => by have := hp.1 y hy; omega
        split
        · by_cases hx : x = a
          · subst hx; simp_all
          · have : ¬ c.1 = x := by omega
            simp [Mem.read, hx, this]
        · by_cases hx : x = a
          · subst hx; simp [Mem.read]
          · have : ¬ a = x := fun e => hx e.symm
            have h2 : ¬ c.1 = x := by omega
            simp [Mem.read, hx, this, h2]
      next hne =>
        simp only [Mem.read, ih hm]
        by_cases hx : x = a
        · subst hx; simp [hne]
        · simp [hx]

/-- Reading after a run of bytes written: the run's bytes at its addresses, every other byte as before. -/
theorem Mem.read_writeN (bs : List Byte) (m : Mem) (a x : Nat) (h : m.wf = true) :
    (m.writeN a bs).read x = if h : a ≤ x ∧ x < a + bs.length then bs[x - a]'(by omega) else m.read x := by
  induction bs generalizing m a with
  | nil =>
    have : ¬ (a ≤ x ∧ x < a + ([] : List Byte).length) := by simp
    rw [dif_neg this]; rfl
  | cons b bs ih =>
    rw [Mem.writeN, ih _ _ (Mem.write_wf m a b h), Mem.read_write m a x b h]
    simp only [List.length_cons]
    by_cases h1 : a + 1 ≤ x ∧ x < a + 1 + bs.length
    · have h2 : a ≤ x ∧ x < a + (bs.length + 1) := by omega
      have h3 : x - a = (x - (a + 1)) + 1 := by omega
      simp [h1, h2, h3]
    · by_cases hx : x = a
      · subst hx; simp
      · have h2 : ¬ (a ≤ x ∧ x < a + (bs.length + 1)) := by omega
        rw [dif_neg h1, dif_neg h2, if_neg hx]

end Sys2Proof
end

