-- ==== Sys2Proof/Laws/State.lean ====
section
/-! SUPPORT. What the setters of State leave and write: one lemma per field and setter, and reading an element of a changed vector. -/

namespace Sys2Proof

/-- The element that modAt changes. -/
@[simp] theorem modAt_same {α : Type} {n : Nat} (v : Vector α n) (i : Fin n) (f : α → α) : (modAt v i f)[i.1] = f v[i.1] := by
  simp [modAt, upd]

/-- The elements that modAt leaves. -/
theorem modAt_other {α : Type} {n : Nat} (v : Vector α n) (i j : Fin n) (f : α → α) (h : i ≠ j) : (modAt v i f)[j.1] = v[j.1] := by
  have h' : i.1 ≠ j.1 := fun e => h (Fin.ext e)
  simp [modAt, upd, h']

/-- Changing an element to what it is changes nothing. -/
theorem modAt_id {α : Type} {n : Nat} (v : Vector α n) (i : Fin n) (f : α → α) (h : f v[i.1] = v[i.1]) : modAt v i f = v := by
  simp only [modAt, upd, Fin.getElem_fin, h]; exact Vector.set_getElem_self _

end Sys2Proof

namespace Sys2Proof.Machine

/-! ### setHif -/

@[simp] theorem setHif_pending (f : Hif → Hif) (s : State) : (setHif f s).pending = s.pending := rfl
@[simp] theorem setHif_freeCtr (f : Hif → Hif) (s : State) : (setHif f s).freeCtr = s.freeCtr := rfl
@[simp] theorem setHif_gen (f : Hif → Hif) (s : State) : (setHif f s).gen = s.gen := rfl
@[simp] theorem setHif_otp (f : Hif → Hif) (s : State) : (setHif f s).otp = s.otp := rfl
@[simp] theorem setHif_boot (f : Hif → Hif) (s : State) : (setHif f s).boot = s.boot := rfl
@[simp] theorem setHif_clk (f : Hif → Hif) (s : State) : (setHif f s).clk = s.clk := rfl
@[simp] theorem setHif_rtc (f : Hif → Hif) (s : State) : (setHif f s).rtc = s.rtc := rfl
@[simp] theorem setHif_sap (f : Hif → Hif) (s : State) : (setHif f s).sap = s.sap := rfl
@[simp] theorem setHif_zone (f : Hif → Hif) (s : State) : (setHif f s).zone = s.zone := rfl
@[simp] theorem setHif_gates (f : Hif → Hif) (s : State) : (setHif f s).gates = s.gates := rfl
@[simp] theorem setHif_fe (f : Hif → Hif) (s : State) : (setHif f s).fe = s.fe := rfl
@[simp] theorem setHif_hubReset (f : Hif → Hif) (s : State) : (setHif f s).hubReset = s.hubReset := rfl
@[simp] theorem setHif_pma (f : Hif → Hif) (s : State) : (setHif f s).pma = s.pma := rfl
@[simp] theorem setHif_fab (f : Hif → Hif) (s : State) : (setHif f s).fab = s.fab := rfl
@[simp] theorem setHif_grid (f : Hif → Hif) (s : State) : (setHif f s).grid = s.grid := rfl
@[simp] theorem setHif_tiers (f : Hif → Hif) (s : State) : (setHif f s).tiers = s.tiers := rfl
@[simp] theorem setHif_sess (f : Hif → Hif) (s : State) : (setHif f s).sess = s.sess := rfl
@[simp] theorem setHif_stream (f : Hif → Hif) (s : State) : (setHif f s).stream = s.stream := rfl
@[simp] theorem setHif_pack (f : Hif → Hif) (s : State) : (setHif f s).pack = s.pack := rfl
@[simp] theorem setHif_holds (f : Hif → Hif) (s : State) : (setHif f s).holds = s.holds := rfl
@[simp] theorem setHif_hif (f : Hif → Hif) (s : State) : (setHif f s).hif = f s.hif := rfl
@[simp] theorem setHif_guard (f : Hif → Hif) (s : State) : (setHif f s).guard = s.guard := rfl
@[simp] theorem setHif_hlt (f : Hif → Hif) (s : State) : (setHif f s).hlt = s.hlt := rfl
@[simp] theorem setHif_pwr (f : Hif → Hif) (s : State) : (setHif f s).pwr = s.pwr := rfl
@[simp] theorem setHif_dbg (f : Hif → Hif) (s : State) : (setHif f s).dbg = s.dbg := rfl

/-! ### setBoot -/

@[simp] theorem setBoot_pending (f : Boot → Boot) (s : State) : (setBoot f s).pending = s.pending := rfl
@[simp] theorem setBoot_freeCtr (f : Boot → Boot) (s : State) : (setBoot f s).freeCtr = s.freeCtr := rfl
@[simp] theorem setBoot_gen (f : Boot → Boot) (s : State) : (setBoot f s).gen = s.gen := rfl
@[simp] theorem setBoot_otp (f : Boot → Boot) (s : State) : (setBoot f s).otp = s.otp := rfl
@[simp] theorem setBoot_boot (f : Boot → Boot) (s : State) : (setBoot f s).boot = f s.boot := rfl
@[simp] theorem setBoot_clk (f : Boot → Boot) (s : State) : (setBoot f s).clk = s.clk := rfl
@[simp] theorem setBoot_rtc (f : Boot → Boot) (s : State) : (setBoot f s).rtc = s.rtc := rfl
@[simp] theorem setBoot_sap (f : Boot → Boot) (s : State) : (setBoot f s).sap = s.sap := rfl
@[simp] theorem setBoot_zone (f : Boot → Boot) (s : State) : (setBoot f s).zone = s.zone := rfl
@[simp] theorem setBoot_gates (f : Boot → Boot) (s : State) : (setBoot f s).gates = s.gates := rfl
@[simp] theorem setBoot_fe (f : Boot → Boot) (s : State) : (setBoot f s).fe = s.fe := rfl
@[simp] theorem setBoot_hubReset (f : Boot → Boot) (s : State) : (setBoot f s).hubReset = s.hubReset := rfl
@[simp] theorem setBoot_pma (f : Boot → Boot) (s : State) : (setBoot f s).pma = s.pma := rfl
@[simp] theorem setBoot_fab (f : Boot → Boot) (s : State) : (setBoot f s).fab = s.fab := rfl
@[simp] theorem setBoot_grid (f : Boot → Boot) (s : State) : (setBoot f s).grid = s.grid := rfl
@[simp] theorem setBoot_tiers (f : Boot → Boot) (s : State) : (setBoot f s).tiers = s.tiers := rfl
@[simp] theorem setBoot_sess (f : Boot → Boot) (s : State) : (setBoot f s).sess = s.sess := rfl
@[simp] theorem setBoot_stream (f : Boot → Boot) (s : State) : (setBoot f s).stream = s.stream := rfl
@[simp] theorem setBoot_pack (f : Boot → Boot) (s : State) : (setBoot f s).pack = s.pack := rfl
@[simp] theorem setBoot_holds (f : Boot → Boot) (s : State) : (setBoot f s).holds = s.holds := rfl
@[simp] theorem setBoot_hif (f : Boot → Boot) (s : State) : (setBoot f s).hif = s.hif := rfl
@[simp] theorem setBoot_guard (f : Boot → Boot) (s : State) : (setBoot f s).guard = s.guard := rfl
@[simp] theorem setBoot_hlt (f : Boot → Boot) (s : State) : (setBoot f s).hlt = s.hlt := rfl
@[simp] theorem setBoot_pwr (f : Boot → Boot) (s : State) : (setBoot f s).pwr = s.pwr := rfl
@[simp] theorem setBoot_dbg (f : Boot → Boot) (s : State) : (setBoot f s).dbg = s.dbg := rfl

/-! ### setFab -/

@[simp] theorem setFab_pending (f : Fab → Fab) (s : State) : (setFab f s).pending = s.pending := rfl
@[simp] theorem setFab_freeCtr (f : Fab → Fab) (s : State) : (setFab f s).freeCtr = s.freeCtr := rfl
@[simp] theorem setFab_gen (f : Fab → Fab) (s : State) : (setFab f s).gen = s.gen := rfl
@[simp] theorem setFab_otp (f : Fab → Fab) (s : State) : (setFab f s).otp = s.otp := rfl
@[simp] theorem setFab_boot (f : Fab → Fab) (s : State) : (setFab f s).boot = s.boot := rfl
@[simp] theorem setFab_clk (f : Fab → Fab) (s : State) : (setFab f s).clk = s.clk := rfl
@[simp] theorem setFab_rtc (f : Fab → Fab) (s : State) : (setFab f s).rtc = s.rtc := rfl
@[simp] theorem setFab_sap (f : Fab → Fab) (s : State) : (setFab f s).sap = s.sap := rfl
@[simp] theorem setFab_zone (f : Fab → Fab) (s : State) : (setFab f s).zone = s.zone := rfl
@[simp] theorem setFab_gates (f : Fab → Fab) (s : State) : (setFab f s).gates = s.gates := rfl
@[simp] theorem setFab_fe (f : Fab → Fab) (s : State) : (setFab f s).fe = s.fe := rfl
@[simp] theorem setFab_hubReset (f : Fab → Fab) (s : State) : (setFab f s).hubReset = s.hubReset := rfl
@[simp] theorem setFab_pma (f : Fab → Fab) (s : State) : (setFab f s).pma = s.pma := rfl
@[simp] theorem setFab_fab (f : Fab → Fab) (s : State) : (setFab f s).fab = f s.fab := rfl
@[simp] theorem setFab_grid (f : Fab → Fab) (s : State) : (setFab f s).grid = s.grid := rfl
@[simp] theorem setFab_tiers (f : Fab → Fab) (s : State) : (setFab f s).tiers = s.tiers := rfl
@[simp] theorem setFab_sess (f : Fab → Fab) (s : State) : (setFab f s).sess = s.sess := rfl
@[simp] theorem setFab_stream (f : Fab → Fab) (s : State) : (setFab f s).stream = s.stream := rfl
@[simp] theorem setFab_pack (f : Fab → Fab) (s : State) : (setFab f s).pack = s.pack := rfl
@[simp] theorem setFab_holds (f : Fab → Fab) (s : State) : (setFab f s).holds = s.holds := rfl
@[simp] theorem setFab_hif (f : Fab → Fab) (s : State) : (setFab f s).hif = s.hif := rfl
@[simp] theorem setFab_guard (f : Fab → Fab) (s : State) : (setFab f s).guard = s.guard := rfl
@[simp] theorem setFab_hlt (f : Fab → Fab) (s : State) : (setFab f s).hlt = s.hlt := rfl
@[simp] theorem setFab_pwr (f : Fab → Fab) (s : State) : (setFab f s).pwr = s.pwr := rfl
@[simp] theorem setFab_dbg (f : Fab → Fab) (s : State) : (setFab f s).dbg = s.dbg := rfl

/-! ### setNi -/

@[simp] theorem setNi_pending (i : Fin 300) (f : Ni → Ni) (s : State) : (setNi i f s).pending = s.pending := rfl
@[simp] theorem setNi_freeCtr (i : Fin 300) (f : Ni → Ni) (s : State) : (setNi i f s).freeCtr = s.freeCtr := rfl
@[simp] theorem setNi_gen (i : Fin 300) (f : Ni → Ni) (s : State) : (setNi i f s).gen = s.gen := rfl
@[simp] theorem setNi_otp (i : Fin 300) (f : Ni → Ni) (s : State) : (setNi i f s).otp = s.otp := rfl
@[simp] theorem setNi_boot (i : Fin 300) (f : Ni → Ni) (s : State) : (setNi i f s).boot = s.boot := rfl
@[simp] theorem setNi_clk (i : Fin 300) (f : Ni → Ni) (s : State) : (setNi i f s).clk = s.clk := rfl
@[simp] theorem setNi_rtc (i : Fin 300) (f : Ni → Ni) (s : State) : (setNi i f s).rtc = s.rtc := rfl
@[simp] theorem setNi_sap (i : Fin 300) (f : Ni → Ni) (s : State) : (setNi i f s).sap = s.sap := rfl
@[simp] theorem setNi_zone (i : Fin 300) (f : Ni → Ni) (s : State) : (setNi i f s).zone = s.zone := rfl
@[simp] theorem setNi_gates (i : Fin 300) (f : Ni → Ni) (s : State) : (setNi i f s).gates = s.gates := rfl
@[simp] theorem setNi_fe (i : Fin 300) (f : Ni → Ni) (s : State) : (setNi i f s).fe = s.fe := rfl
@[simp] theorem setNi_hubReset (i : Fin 300) (f : Ni → Ni) (s : State) : (setNi i f s).hubReset = s.hubReset := rfl
@[simp] theorem setNi_pma (i : Fin 300) (f : Ni → Ni) (s : State) : (setNi i f s).pma = s.pma := rfl
@[simp] theorem setNi_fab (i : Fin 300) (f : Ni → Ni) (s : State) : (setNi i f s).fab = { s.fab with ni := modAt s.fab.ni i f } := rfl
@[simp] theorem setNi_grid (i : Fin 300) (f : Ni → Ni) (s : State) : (setNi i f s).grid = s.grid := rfl
@[simp] theorem setNi_tiers (i : Fin 300) (f : Ni → Ni) (s : State) : (setNi i f s).tiers = s.tiers := rfl
@[simp] theorem setNi_sess (i : Fin 300) (f : Ni → Ni) (s : State) : (setNi i f s).sess = s.sess := rfl
@[simp] theorem setNi_stream (i : Fin 300) (f : Ni → Ni) (s : State) : (setNi i f s).stream = s.stream := rfl
@[simp] theorem setNi_pack (i : Fin 300) (f : Ni → Ni) (s : State) : (setNi i f s).pack = s.pack := rfl
@[simp] theorem setNi_holds (i : Fin 300) (f : Ni → Ni) (s : State) : (setNi i f s).holds = s.holds := rfl
@[simp] theorem setNi_hif (i : Fin 300) (f : Ni → Ni) (s : State) : (setNi i f s).hif = s.hif := rfl
@[simp] theorem setNi_guard (i : Fin 300) (f : Ni → Ni) (s : State) : (setNi i f s).guard = s.guard := rfl
@[simp] theorem setNi_hlt (i : Fin 300) (f : Ni → Ni) (s : State) : (setNi i f s).hlt = s.hlt := rfl
@[simp] theorem setNi_pwr (i : Fin 300) (f : Ni → Ni) (s : State) : (setNi i f s).pwr = s.pwr := rfl
@[simp] theorem setNi_dbg (i : Fin 300) (f : Ni → Ni) (s : State) : (setNi i f s).dbg = s.dbg := rfl

/-! ### setSap -/

@[simp] theorem setSap_pending (p : Fin 8) (f : Sap → Sap) (s : State) : (setSap p f s).pending = s.pending := rfl
@[simp] theorem setSap_freeCtr (p : Fin 8) (f : Sap → Sap) (s : State) : (setSap p f s).freeCtr = s.freeCtr := rfl
@[simp] theorem setSap_gen (p : Fin 8) (f : Sap → Sap) (s : State) : (setSap p f s).gen = s.gen := rfl
@[simp] theorem setSap_otp (p : Fin 8) (f : Sap → Sap) (s : State) : (setSap p f s).otp = s.otp := rfl
@[simp] theorem setSap_boot (p : Fin 8) (f : Sap → Sap) (s : State) : (setSap p f s).boot = s.boot := rfl
@[simp] theorem setSap_clk (p : Fin 8) (f : Sap → Sap) (s : State) : (setSap p f s).clk = s.clk := rfl
@[simp] theorem setSap_rtc (p : Fin 8) (f : Sap → Sap) (s : State) : (setSap p f s).rtc = s.rtc := rfl
@[simp] theorem setSap_sap (p : Fin 8) (f : Sap → Sap) (s : State) : (setSap p f s).sap = modAt s.sap p f := rfl
@[simp] theorem setSap_zone (p : Fin 8) (f : Sap → Sap) (s : State) : (setSap p f s).zone = s.zone := rfl
@[simp] theorem setSap_gates (p : Fin 8) (f : Sap → Sap) (s : State) : (setSap p f s).gates = s.gates := rfl
@[simp] theorem setSap_fe (p : Fin 8) (f : Sap → Sap) (s : State) : (setSap p f s).fe = s.fe := rfl
@[simp] theorem setSap_hubReset (p : Fin 8) (f : Sap → Sap) (s : State) : (setSap p f s).hubReset = s.hubReset := rfl
@[simp] theorem setSap_pma (p : Fin 8) (f : Sap → Sap) (s : State) : (setSap p f s).pma = s.pma := rfl
@[simp] theorem setSap_fab (p : Fin 8) (f : Sap → Sap) (s : State) : (setSap p f s).fab = s.fab := rfl
@[simp] theorem setSap_grid (p : Fin 8) (f : Sap → Sap) (s : State) : (setSap p f s).grid = s.grid := rfl
@[simp] theorem setSap_tiers (p : Fin 8) (f : Sap → Sap) (s : State) : (setSap p f s).tiers = s.tiers := rfl
@[simp] theorem setSap_sess (p : Fin 8) (f : Sap → Sap) (s : State) : (setSap p f s).sess = s.sess := rfl
@[simp] theorem setSap_stream (p : Fin 8) (f : Sap → Sap) (s : State) : (setSap p f s).stream = s.stream := rfl
@[simp] theorem setSap_pack (p : Fin 8) (f : Sap → Sap) (s : State) : (setSap p f s).pack = s.pack := rfl
@[simp] theorem setSap_holds (p : Fin 8) (f : Sap → Sap) (s : State) : (setSap p f s).holds = s.holds := rfl
@[simp] theorem setSap_hif (p : Fin 8) (f : Sap → Sap) (s : State) : (setSap p f s).hif = s.hif := rfl
@[simp] theorem setSap_guard (p : Fin 8) (f : Sap → Sap) (s : State) : (setSap p f s).guard = s.guard := rfl
@[simp] theorem setSap_hlt (p : Fin 8) (f : Sap → Sap) (s : State) : (setSap p f s).hlt = s.hlt := rfl
@[simp] theorem setSap_pwr (p : Fin 8) (f : Sap → Sap) (s : State) : (setSap p f s).pwr = s.pwr := rfl
@[simp] theorem setSap_dbg (p : Fin 8) (f : Sap → Sap) (s : State) : (setSap p f s).dbg = s.dbg := rfl

/-! ### setGate -/

@[simp] theorem setGate_pending (g : GateId) (x : Gate) (s : State) : (setGate g x s).pending = s.pending := rfl
@[simp] theorem setGate_freeCtr (g : GateId) (x : Gate) (s : State) : (setGate g x s).freeCtr = s.freeCtr := rfl
@[simp] theorem setGate_gen (g : GateId) (x : Gate) (s : State) : (setGate g x s).gen = s.gen := rfl
@[simp] theorem setGate_otp (g : GateId) (x : Gate) (s : State) : (setGate g x s).otp = s.otp := rfl
@[simp] theorem setGate_boot (g : GateId) (x : Gate) (s : State) : (setGate g x s).boot = s.boot := rfl
@[simp] theorem setGate_clk (g : GateId) (x : Gate) (s : State) : (setGate g x s).clk = s.clk := rfl
@[simp] theorem setGate_rtc (g : GateId) (x : Gate) (s : State) : (setGate g x s).rtc = s.rtc := rfl
@[simp] theorem setGate_sap (g : GateId) (x : Gate) (s : State) : (setGate g x s).sap = s.sap := rfl
@[simp] theorem setGate_zone (g : GateId) (x : Gate) (s : State) : (setGate g x s).zone = s.zone := rfl
@[simp] theorem setGate_gates (g : GateId) (x : Gate) (s : State) : (setGate g x s).gates = put s.gates g x := rfl
@[simp] theorem setGate_fe (g : GateId) (x : Gate) (s : State) : (setGate g x s).fe = s.fe := rfl
@[simp] theorem setGate_hubReset (g : GateId) (x : Gate) (s : State) : (setGate g x s).hubReset = s.hubReset := rfl
@[simp] theorem setGate_pma (g : GateId) (x : Gate) (s : State) : (setGate g x s).pma = s.pma := rfl
@[simp] theorem setGate_fab (g : GateId) (x : Gate) (s : State) : (setGate g x s).fab = s.fab := rfl
@[simp] theorem setGate_grid (g : GateId) (x : Gate) (s : State) : (setGate g x s).grid = s.grid := rfl
@[simp] theorem setGate_tiers (g : GateId) (x : Gate) (s : State) : (setGate g x s).tiers = s.tiers := rfl
@[simp] theorem setGate_sess (g : GateId) (x : Gate) (s : State) : (setGate g x s).sess = s.sess := rfl
@[simp] theorem setGate_stream (g : GateId) (x : Gate) (s : State) : (setGate g x s).stream = s.stream := rfl
@[simp] theorem setGate_pack (g : GateId) (x : Gate) (s : State) : (setGate g x s).pack = s.pack := rfl
@[simp] theorem setGate_holds (g : GateId) (x : Gate) (s : State) : (setGate g x s).holds = s.holds := rfl
@[simp] theorem setGate_hif (g : GateId) (x : Gate) (s : State) : (setGate g x s).hif = s.hif := rfl
@[simp] theorem setGate_guard (g : GateId) (x : Gate) (s : State) : (setGate g x s).guard = s.guard := rfl
@[simp] theorem setGate_hlt (g : GateId) (x : Gate) (s : State) : (setGate g x s).hlt = s.hlt := rfl
@[simp] theorem setGate_pwr (g : GateId) (x : Gate) (s : State) : (setGate g x s).pwr = s.pwr := rfl
@[simp] theorem setGate_dbg (g : GateId) (x : Gate) (s : State) : (setGate g x s).dbg = s.dbg := rfl

/-! ### setGuard -/

@[simp] theorem setGuard_pending (f : Guard → Guard) (s : State) : (setGuard f s).pending = s.pending := rfl
@[simp] theorem setGuard_freeCtr (f : Guard → Guard) (s : State) : (setGuard f s).freeCtr = s.freeCtr := rfl
@[simp] theorem setGuard_gen (f : Guard → Guard) (s : State) : (setGuard f s).gen = s.gen := rfl
@[simp] theorem setGuard_otp (f : Guard → Guard) (s : State) : (setGuard f s).otp = s.otp := rfl
@[simp] theorem setGuard_boot (f : Guard → Guard) (s : State) : (setGuard f s).boot = s.boot := rfl
@[simp] theorem setGuard_clk (f : Guard → Guard) (s : State) : (setGuard f s).clk = s.clk := rfl
@[simp] theorem setGuard_rtc (f : Guard → Guard) (s : State) : (setGuard f s).rtc = s.rtc := rfl
@[simp] theorem setGuard_sap (f : Guard → Guard) (s : State) : (setGuard f s).sap = s.sap := rfl
@[simp] theorem setGuard_zone (f : Guard → Guard) (s : State) : (setGuard f s).zone = s.zone := rfl
@[simp] theorem setGuard_gates (f : Guard → Guard) (s : State) : (setGuard f s).gates = s.gates := rfl
@[simp] theorem setGuard_fe (f : Guard → Guard) (s : State) : (setGuard f s).fe = s.fe := rfl
@[simp] theorem setGuard_hubReset (f : Guard → Guard) (s : State) : (setGuard f s).hubReset = s.hubReset := rfl
@[simp] theorem setGuard_pma (f : Guard → Guard) (s : State) : (setGuard f s).pma = s.pma := rfl
@[simp] theorem setGuard_fab (f : Guard → Guard) (s : State) : (setGuard f s).fab = s.fab := rfl
@[simp] theorem setGuard_grid (f : Guard → Guard) (s : State) : (setGuard f s).grid = s.grid := rfl
@[simp] theorem setGuard_tiers (f : Guard → Guard) (s : State) : (setGuard f s).tiers = s.tiers := rfl
@[simp] theorem setGuard_sess (f : Guard → Guard) (s : State) : (setGuard f s).sess = s.sess := rfl
@[simp] theorem setGuard_stream (f : Guard → Guard) (s : State) : (setGuard f s).stream = s.stream := rfl
@[simp] theorem setGuard_pack (f : Guard → Guard) (s : State) : (setGuard f s).pack = s.pack := rfl
@[simp] theorem setGuard_holds (f : Guard → Guard) (s : State) : (setGuard f s).holds = s.holds := rfl
@[simp] theorem setGuard_hif (f : Guard → Guard) (s : State) : (setGuard f s).hif = s.hif := rfl
@[simp] theorem setGuard_guard (f : Guard → Guard) (s : State) : (setGuard f s).guard = f s.guard := rfl
@[simp] theorem setGuard_hlt (f : Guard → Guard) (s : State) : (setGuard f s).hlt = s.hlt := rfl
@[simp] theorem setGuard_pwr (f : Guard → Guard) (s : State) : (setGuard f s).pwr = s.pwr := rfl
@[simp] theorem setGuard_dbg (f : Guard → Guard) (s : State) : (setGuard f s).dbg = s.dbg := rfl

/-! ### setCore -/

@[simp] theorem setCore_pending (n : Fin 288) (f : Core → Core) (s : State) : (setCore n f s).pending = s.pending := rfl
@[simp] theorem setCore_freeCtr (n : Fin 288) (f : Core → Core) (s : State) : (setCore n f s).freeCtr = s.freeCtr := rfl
@[simp] theorem setCore_gen (n : Fin 288) (f : Core → Core) (s : State) : (setCore n f s).gen = s.gen := rfl
@[simp] theorem setCore_otp (n : Fin 288) (f : Core → Core) (s : State) : (setCore n f s).otp = s.otp := rfl
@[simp] theorem setCore_boot (n : Fin 288) (f : Core → Core) (s : State) : (setCore n f s).boot = s.boot := rfl
@[simp] theorem setCore_clk (n : Fin 288) (f : Core → Core) (s : State) : (setCore n f s).clk = s.clk := rfl
@[simp] theorem setCore_rtc (n : Fin 288) (f : Core → Core) (s : State) : (setCore n f s).rtc = s.rtc := rfl
@[simp] theorem setCore_sap (n : Fin 288) (f : Core → Core) (s : State) : (setCore n f s).sap = s.sap := rfl
@[simp] theorem setCore_zone (n : Fin 288) (f : Core → Core) (s : State) : (setCore n f s).zone = s.zone := rfl
@[simp] theorem setCore_gates (n : Fin 288) (f : Core → Core) (s : State) : (setCore n f s).gates = s.gates := rfl
@[simp] theorem setCore_fe (n : Fin 288) (f : Core → Core) (s : State) : (setCore n f s).fe = s.fe := rfl
@[simp] theorem setCore_hubReset (n : Fin 288) (f : Core → Core) (s : State) : (setCore n f s).hubReset = s.hubReset := rfl
@[simp] theorem setCore_pma (n : Fin 288) (f : Core → Core) (s : State) : (setCore n f s).pma = s.pma := rfl
@[simp] theorem setCore_fab (n : Fin 288) (f : Core → Core) (s : State) : (setCore n f s).fab = s.fab := rfl
@[simp] theorem setCore_grid (n : Fin 288) (f : Core → Core) (s : State) : (setCore n f s).grid = { s.grid with core := modAt s.grid.core n f } := rfl
@[simp] theorem setCore_tiers (n : Fin 288) (f : Core → Core) (s : State) : (setCore n f s).tiers = s.tiers := rfl
@[simp] theorem setCore_sess (n : Fin 288) (f : Core → Core) (s : State) : (setCore n f s).sess = s.sess := rfl
@[simp] theorem setCore_stream (n : Fin 288) (f : Core → Core) (s : State) : (setCore n f s).stream = s.stream := rfl
@[simp] theorem setCore_pack (n : Fin 288) (f : Core → Core) (s : State) : (setCore n f s).pack = s.pack := rfl
@[simp] theorem setCore_holds (n : Fin 288) (f : Core → Core) (s : State) : (setCore n f s).holds = s.holds := rfl
@[simp] theorem setCore_hif (n : Fin 288) (f : Core → Core) (s : State) : (setCore n f s).hif = s.hif := rfl
@[simp] theorem setCore_guard (n : Fin 288) (f : Core → Core) (s : State) : (setCore n f s).guard = s.guard := rfl
@[simp] theorem setCore_hlt (n : Fin 288) (f : Core → Core) (s : State) : (setCore n f s).hlt = s.hlt := rfl
@[simp] theorem setCore_pwr (n : Fin 288) (f : Core → Core) (s : State) : (setCore n f s).pwr = s.pwr := rfl
@[simp] theorem setCore_dbg (n : Fin 288) (f : Core → Core) (s : State) : (setCore n f s).dbg = s.dbg := rfl

/-! ### setGraph -/

@[simp] theorem setGraph_pending (g : Fin 8) (f : Graph → Graph) (s : State) : (setGraph g f s).pending = s.pending := rfl
@[simp] theorem setGraph_freeCtr (g : Fin 8) (f : Graph → Graph) (s : State) : (setGraph g f s).freeCtr = s.freeCtr := rfl
@[simp] theorem setGraph_gen (g : Fin 8) (f : Graph → Graph) (s : State) : (setGraph g f s).gen = s.gen := rfl
@[simp] theorem setGraph_otp (g : Fin 8) (f : Graph → Graph) (s : State) : (setGraph g f s).otp = s.otp := rfl
@[simp] theorem setGraph_boot (g : Fin 8) (f : Graph → Graph) (s : State) : (setGraph g f s).boot = s.boot := rfl
@[simp] theorem setGraph_clk (g : Fin 8) (f : Graph → Graph) (s : State) : (setGraph g f s).clk = s.clk := rfl
@[simp] theorem setGraph_rtc (g : Fin 8) (f : Graph → Graph) (s : State) : (setGraph g f s).rtc = s.rtc := rfl
@[simp] theorem setGraph_sap (g : Fin 8) (f : Graph → Graph) (s : State) : (setGraph g f s).sap = s.sap := rfl
@[simp] theorem setGraph_zone (g : Fin 8) (f : Graph → Graph) (s : State) : (setGraph g f s).zone = s.zone := rfl
@[simp] theorem setGraph_gates (g : Fin 8) (f : Graph → Graph) (s : State) : (setGraph g f s).gates = s.gates := rfl
@[simp] theorem setGraph_fe (g : Fin 8) (f : Graph → Graph) (s : State) : (setGraph g f s).fe = s.fe := rfl
@[simp] theorem setGraph_hubReset (g : Fin 8) (f : Graph → Graph) (s : State) : (setGraph g f s).hubReset = s.hubReset := rfl
@[simp] theorem setGraph_pma (g : Fin 8) (f : Graph → Graph) (s : State) : (setGraph g f s).pma = s.pma := rfl
@[simp] theorem setGraph_fab (g : Fin 8) (f : Graph → Graph) (s : State) : (setGraph g f s).fab = s.fab := rfl
@[simp] theorem setGraph_grid (g : Fin 8) (f : Graph → Graph) (s : State) : (setGraph g f s).grid = { s.grid with graph := modAt s.grid.graph g f } := rfl
@[simp] theorem setGraph_tiers (g : Fin 8) (f : Graph → Graph) (s : State) : (setGraph g f s).tiers = s.tiers := rfl
@[simp] theorem setGraph_sess (g : Fin 8) (f : Graph → Graph) (s : State) : (setGraph g f s).sess = s.sess := rfl
@[simp] theorem setGraph_stream (g : Fin 8) (f : Graph → Graph) (s : State) : (setGraph g f s).stream = s.stream := rfl
@[simp] theorem setGraph_pack (g : Fin 8) (f : Graph → Graph) (s : State) : (setGraph g f s).pack = s.pack := rfl
@[simp] theorem setGraph_holds (g : Fin 8) (f : Graph → Graph) (s : State) : (setGraph g f s).holds = s.holds := rfl
@[simp] theorem setGraph_hif (g : Fin 8) (f : Graph → Graph) (s : State) : (setGraph g f s).hif = s.hif := rfl
@[simp] theorem setGraph_guard (g : Fin 8) (f : Graph → Graph) (s : State) : (setGraph g f s).guard = s.guard := rfl
@[simp] theorem setGraph_hlt (g : Fin 8) (f : Graph → Graph) (s : State) : (setGraph g f s).hlt = s.hlt := rfl
@[simp] theorem setGraph_pwr (g : Fin 8) (f : Graph → Graph) (s : State) : (setGraph g f s).pwr = s.pwr := rfl
@[simp] theorem setGraph_dbg (g : Fin 8) (f : Graph → Graph) (s : State) : (setGraph g f s).dbg = s.dbg := rfl

/-! ### setPwr -/

@[simp] theorem setPwr_pending (f : Pwr → Pwr) (s : State) : (setPwr f s).pending = s.pending := rfl
@[simp] theorem setPwr_freeCtr (f : Pwr → Pwr) (s : State) : (setPwr f s).freeCtr = s.freeCtr := rfl
@[simp] theorem setPwr_gen (f : Pwr → Pwr) (s : State) : (setPwr f s).gen = s.gen := rfl
@[simp] theorem setPwr_otp (f : Pwr → Pwr) (s : State) : (setPwr f s).otp = s.otp := rfl
@[simp] theorem setPwr_boot (f : Pwr → Pwr) (s : State) : (setPwr f s).boot = s.boot := rfl
@[simp] theorem setPwr_clk (f : Pwr → Pwr) (s : State) : (setPwr f s).clk = s.clk := rfl
@[simp] theorem setPwr_rtc (f : Pwr → Pwr) (s : State) : (setPwr f s).rtc = s.rtc := rfl
@[simp] theorem setPwr_sap (f : Pwr → Pwr) (s : State) : (setPwr f s).sap = s.sap := rfl
@[simp] theorem setPwr_zone (f : Pwr → Pwr) (s : State) : (setPwr f s).zone = s.zone := rfl
@[simp] theorem setPwr_gates (f : Pwr → Pwr) (s : State) : (setPwr f s).gates = s.gates := rfl
@[simp] theorem setPwr_fe (f : Pwr → Pwr) (s : State) : (setPwr f s).fe = s.fe := rfl
@[simp] theorem setPwr_hubReset (f : Pwr → Pwr) (s : State) : (setPwr f s).hubReset = s.hubReset := rfl
@[simp] theorem setPwr_pma (f : Pwr → Pwr) (s : State) : (setPwr f s).pma = s.pma := rfl
@[simp] theorem setPwr_fab (f : Pwr → Pwr) (s : State) : (setPwr f s).fab = s.fab := rfl
@[simp] theorem setPwr_grid (f : Pwr → Pwr) (s : State) : (setPwr f s).grid = s.grid := rfl
@[simp] theorem setPwr_tiers (f : Pwr → Pwr) (s : State) : (setPwr f s).tiers = s.tiers := rfl
@[simp] theorem setPwr_sess (f : Pwr → Pwr) (s : State) : (setPwr f s).sess = s.sess := rfl
@[simp] theorem setPwr_stream (f : Pwr → Pwr) (s : State) : (setPwr f s).stream = s.stream := rfl
@[simp] theorem setPwr_pack (f : Pwr → Pwr) (s : State) : (setPwr f s).pack = s.pack := rfl
@[simp] theorem setPwr_holds (f : Pwr → Pwr) (s : State) : (setPwr f s).holds = s.holds := rfl
@[simp] theorem setPwr_hif (f : Pwr → Pwr) (s : State) : (setPwr f s).hif = s.hif := rfl
@[simp] theorem setPwr_guard (f : Pwr → Pwr) (s : State) : (setPwr f s).guard = s.guard := rfl
@[simp] theorem setPwr_hlt (f : Pwr → Pwr) (s : State) : (setPwr f s).hlt = s.hlt := rfl
@[simp] theorem setPwr_pwr (f : Pwr → Pwr) (s : State) : (setPwr f s).pwr = f s.pwr := rfl
@[simp] theorem setPwr_dbg (f : Pwr → Pwr) (s : State) : (setPwr f s).dbg = s.dbg := rfl

/-! ### setTiers -/

@[simp] theorem setTiers_pending (f : Tiers → Tiers) (s : State) : (setTiers f s).pending = s.pending := rfl
@[simp] theorem setTiers_freeCtr (f : Tiers → Tiers) (s : State) : (setTiers f s).freeCtr = s.freeCtr := rfl
@[simp] theorem setTiers_gen (f : Tiers → Tiers) (s : State) : (setTiers f s).gen = s.gen := rfl
@[simp] theorem setTiers_otp (f : Tiers → Tiers) (s : State) : (setTiers f s).otp = s.otp := rfl
@[simp] theorem setTiers_boot (f : Tiers → Tiers) (s : State) : (setTiers f s).boot = s.boot := rfl
@[simp] theorem setTiers_clk (f : Tiers → Tiers) (s : State) : (setTiers f s).clk = s.clk := rfl
@[simp] theorem setTiers_rtc (f : Tiers → Tiers) (s : State) : (setTiers f s).rtc = s.rtc := rfl
@[simp] theorem setTiers_sap (f : Tiers → Tiers) (s : State) : (setTiers f s).sap = s.sap := rfl
@[simp] theorem setTiers_zone (f : Tiers → Tiers) (s : State) : (setTiers f s).zone = s.zone := rfl
@[simp] theorem setTiers_gates (f : Tiers → Tiers) (s : State) : (setTiers f s).gates = s.gates := rfl
@[simp] theorem setTiers_fe (f : Tiers → Tiers) (s : State) : (setTiers f s).fe = s.fe := rfl
@[simp] theorem setTiers_hubReset (f : Tiers → Tiers) (s : State) : (setTiers f s).hubReset = s.hubReset := rfl
@[simp] theorem setTiers_pma (f : Tiers → Tiers) (s : State) : (setTiers f s).pma = s.pma := rfl
@[simp] theorem setTiers_fab (f : Tiers → Tiers) (s : State) : (setTiers f s).fab = s.fab := rfl
@[simp] theorem setTiers_grid (f : Tiers → Tiers) (s : State) : (setTiers f s).grid = s.grid := rfl
@[simp] theorem setTiers_tiers (f : Tiers → Tiers) (s : State) : (setTiers f s).tiers = f s.tiers := rfl
@[simp] theorem setTiers_sess (f : Tiers → Tiers) (s : State) : (setTiers f s).sess = s.sess := rfl
@[simp] theorem setTiers_stream (f : Tiers → Tiers) (s : State) : (setTiers f s).stream = s.stream := rfl
@[simp] theorem setTiers_pack (f : Tiers → Tiers) (s : State) : (setTiers f s).pack = s.pack := rfl
@[simp] theorem setTiers_holds (f : Tiers → Tiers) (s : State) : (setTiers f s).holds = s.holds := rfl
@[simp] theorem setTiers_hif (f : Tiers → Tiers) (s : State) : (setTiers f s).hif = s.hif := rfl
@[simp] theorem setTiers_guard (f : Tiers → Tiers) (s : State) : (setTiers f s).guard = s.guard := rfl
@[simp] theorem setTiers_hlt (f : Tiers → Tiers) (s : State) : (setTiers f s).hlt = s.hlt := rfl
@[simp] theorem setTiers_pwr (f : Tiers → Tiers) (s : State) : (setTiers f s).pwr = s.pwr := rfl
@[simp] theorem setTiers_dbg (f : Tiers → Tiers) (s : State) : (setTiers f s).dbg = s.dbg := rfl

/-! ### setKv -/

@[simp] theorem setKv_pending (i : Fin 16) (f : Kv → Kv) (s : State) : (setKv i f s).pending = s.pending := rfl
@[simp] theorem setKv_freeCtr (i : Fin 16) (f : Kv → Kv) (s : State) : (setKv i f s).freeCtr = s.freeCtr := rfl
@[simp] theorem setKv_gen (i : Fin 16) (f : Kv → Kv) (s : State) : (setKv i f s).gen = s.gen := rfl
@[simp] theorem setKv_otp (i : Fin 16) (f : Kv → Kv) (s : State) : (setKv i f s).otp = s.otp := rfl
@[simp] theorem setKv_boot (i : Fin 16) (f : Kv → Kv) (s : State) : (setKv i f s).boot = s.boot := rfl
@[simp] theorem setKv_clk (i : Fin 16) (f : Kv → Kv) (s : State) : (setKv i f s).clk = s.clk := rfl
@[simp] theorem setKv_rtc (i : Fin 16) (f : Kv → Kv) (s : State) : (setKv i f s).rtc = s.rtc := rfl
@[simp] theorem setKv_sap (i : Fin 16) (f : Kv → Kv) (s : State) : (setKv i f s).sap = s.sap := rfl
@[simp] theorem setKv_zone (i : Fin 16) (f : Kv → Kv) (s : State) : (setKv i f s).zone = s.zone := rfl
@[simp] theorem setKv_gates (i : Fin 16) (f : Kv → Kv) (s : State) : (setKv i f s).gates = s.gates := rfl
@[simp] theorem setKv_fe (i : Fin 16) (f : Kv → Kv) (s : State) : (setKv i f s).fe = s.fe := rfl
@[simp] theorem setKv_hubReset (i : Fin 16) (f : Kv → Kv) (s : State) : (setKv i f s).hubReset = s.hubReset := rfl
@[simp] theorem setKv_pma (i : Fin 16) (f : Kv → Kv) (s : State) : (setKv i f s).pma = s.pma := rfl
@[simp] theorem setKv_fab (i : Fin 16) (f : Kv → Kv) (s : State) : (setKv i f s).fab = s.fab := rfl
@[simp] theorem setKv_grid (i : Fin 16) (f : Kv → Kv) (s : State) : (setKv i f s).grid = s.grid := rfl
@[simp] theorem setKv_tiers (i : Fin 16) (f : Kv → Kv) (s : State) : (setKv i f s).tiers = { s.tiers with kv := modAt s.tiers.kv i f } := rfl
@[simp] theorem setKv_sess (i : Fin 16) (f : Kv → Kv) (s : State) : (setKv i f s).sess = s.sess := rfl
@[simp] theorem setKv_stream (i : Fin 16) (f : Kv → Kv) (s : State) : (setKv i f s).stream = s.stream := rfl
@[simp] theorem setKv_pack (i : Fin 16) (f : Kv → Kv) (s : State) : (setKv i f s).pack = s.pack := rfl
@[simp] theorem setKv_holds (i : Fin 16) (f : Kv → Kv) (s : State) : (setKv i f s).holds = s.holds := rfl
@[simp] theorem setKv_hif (i : Fin 16) (f : Kv → Kv) (s : State) : (setKv i f s).hif = s.hif := rfl
@[simp] theorem setKv_guard (i : Fin 16) (f : Kv → Kv) (s : State) : (setKv i f s).guard = s.guard := rfl
@[simp] theorem setKv_hlt (i : Fin 16) (f : Kv → Kv) (s : State) : (setKv i f s).hlt = s.hlt := rfl
@[simp] theorem setKv_pwr (i : Fin 16) (f : Kv → Kv) (s : State) : (setKv i f s).pwr = s.pwr := rfl
@[simp] theorem setKv_dbg (i : Fin 16) (f : Kv → Kv) (s : State) : (setKv i f s).dbg = s.dbg := rfl

/-! ### setStream -/

@[simp] theorem setStream_pending (i : Fin 16) (f : Stream → Stream) (s : State) : (setStream i f s).pending = s.pending := rfl
@[simp] theorem setStream_freeCtr (i : Fin 16) (f : Stream → Stream) (s : State) : (setStream i f s).freeCtr = s.freeCtr := rfl
@[simp] theorem setStream_gen (i : Fin 16) (f : Stream → Stream) (s : State) : (setStream i f s).gen = s.gen := rfl
@[simp] theorem setStream_otp (i : Fin 16) (f : Stream → Stream) (s : State) : (setStream i f s).otp = s.otp := rfl
@[simp] theorem setStream_boot (i : Fin 16) (f : Stream → Stream) (s : State) : (setStream i f s).boot = s.boot := rfl
@[simp] theorem setStream_clk (i : Fin 16) (f : Stream → Stream) (s : State) : (setStream i f s).clk = s.clk := rfl
@[simp] theorem setStream_rtc (i : Fin 16) (f : Stream → Stream) (s : State) : (setStream i f s).rtc = s.rtc := rfl
@[simp] theorem setStream_sap (i : Fin 16) (f : Stream → Stream) (s : State) : (setStream i f s).sap = s.sap := rfl
@[simp] theorem setStream_zone (i : Fin 16) (f : Stream → Stream) (s : State) : (setStream i f s).zone = s.zone := rfl
@[simp] theorem setStream_gates (i : Fin 16) (f : Stream → Stream) (s : State) : (setStream i f s).gates = s.gates := rfl
@[simp] theorem setStream_fe (i : Fin 16) (f : Stream → Stream) (s : State) : (setStream i f s).fe = s.fe := rfl
@[simp] theorem setStream_hubReset (i : Fin 16) (f : Stream → Stream) (s : State) : (setStream i f s).hubReset = s.hubReset := rfl
@[simp] theorem setStream_pma (i : Fin 16) (f : Stream → Stream) (s : State) : (setStream i f s).pma = s.pma := rfl
@[simp] theorem setStream_fab (i : Fin 16) (f : Stream → Stream) (s : State) : (setStream i f s).fab = s.fab := rfl
@[simp] theorem setStream_grid (i : Fin 16) (f : Stream → Stream) (s : State) : (setStream i f s).grid = s.grid := rfl
@[simp] theorem setStream_tiers (i : Fin 16) (f : Stream → Stream) (s : State) : (setStream i f s).tiers = s.tiers := rfl
@[simp] theorem setStream_sess (i : Fin 16) (f : Stream → Stream) (s : State) : (setStream i f s).sess = s.sess := rfl
@[simp] theorem setStream_stream (i : Fin 16) (f : Stream → Stream) (s : State) : (setStream i f s).stream = modAt s.stream i f := rfl
@[simp] theorem setStream_pack (i : Fin 16) (f : Stream → Stream) (s : State) : (setStream i f s).pack = s.pack := rfl
@[simp] theorem setStream_holds (i : Fin 16) (f : Stream → Stream) (s : State) : (setStream i f s).holds = s.holds := rfl
@[simp] theorem setStream_hif (i : Fin 16) (f : Stream → Stream) (s : State) : (setStream i f s).hif = s.hif := rfl
@[simp] theorem setStream_guard (i : Fin 16) (f : Stream → Stream) (s : State) : (setStream i f s).guard = s.guard := rfl
@[simp] theorem setStream_hlt (i : Fin 16) (f : Stream → Stream) (s : State) : (setStream i f s).hlt = s.hlt := rfl
@[simp] theorem setStream_pwr (i : Fin 16) (f : Stream → Stream) (s : State) : (setStream i f s).pwr = s.pwr := rfl
@[simp] theorem setStream_dbg (i : Fin 16) (f : Stream → Stream) (s : State) : (setStream i f s).dbg = s.dbg := rfl

/-! ### setSect -/

@[simp] theorem setSect_pending (i : Fin 4) (f : Sect → Sect) (s : State) : (setSect i f s).pending = s.pending := rfl
@[simp] theorem setSect_freeCtr (i : Fin 4) (f : Sect → Sect) (s : State) : (setSect i f s).freeCtr = s.freeCtr := rfl
@[simp] theorem setSect_gen (i : Fin 4) (f : Sect → Sect) (s : State) : (setSect i f s).gen = s.gen := rfl
@[simp] theorem setSect_otp (i : Fin 4) (f : Sect → Sect) (s : State) : (setSect i f s).otp = s.otp := rfl
@[simp] theorem setSect_boot (i : Fin 4) (f : Sect → Sect) (s : State) : (setSect i f s).boot = s.boot := rfl
@[simp] theorem setSect_clk (i : Fin 4) (f : Sect → Sect) (s : State) : (setSect i f s).clk = s.clk := rfl
@[simp] theorem setSect_rtc (i : Fin 4) (f : Sect → Sect) (s : State) : (setSect i f s).rtc = s.rtc := rfl
@[simp] theorem setSect_sap (i : Fin 4) (f : Sect → Sect) (s : State) : (setSect i f s).sap = s.sap := rfl
@[simp] theorem setSect_zone (i : Fin 4) (f : Sect → Sect) (s : State) : (setSect i f s).zone = s.zone := rfl
@[simp] theorem setSect_gates (i : Fin 4) (f : Sect → Sect) (s : State) : (setSect i f s).gates = s.gates := rfl
@[simp] theorem setSect_fe (i : Fin 4) (f : Sect → Sect) (s : State) : (setSect i f s).fe = s.fe := rfl
@[simp] theorem setSect_hubReset (i : Fin 4) (f : Sect → Sect) (s : State) : (setSect i f s).hubReset = s.hubReset := rfl
@[simp] theorem setSect_pma (i : Fin 4) (f : Sect → Sect) (s : State) : (setSect i f s).pma = { s.pma with sect := modAt s.pma.sect i f } := rfl
@[simp] theorem setSect_fab (i : Fin 4) (f : Sect → Sect) (s : State) : (setSect i f s).fab = s.fab := rfl
@[simp] theorem setSect_grid (i : Fin 4) (f : Sect → Sect) (s : State) : (setSect i f s).grid = s.grid := rfl
@[simp] theorem setSect_tiers (i : Fin 4) (f : Sect → Sect) (s : State) : (setSect i f s).tiers = s.tiers := rfl
@[simp] theorem setSect_sess (i : Fin 4) (f : Sect → Sect) (s : State) : (setSect i f s).sess = s.sess := rfl
@[simp] theorem setSect_stream (i : Fin 4) (f : Sect → Sect) (s : State) : (setSect i f s).stream = s.stream := rfl
@[simp] theorem setSect_pack (i : Fin 4) (f : Sect → Sect) (s : State) : (setSect i f s).pack = s.pack := rfl
@[simp] theorem setSect_holds (i : Fin 4) (f : Sect → Sect) (s : State) : (setSect i f s).holds = s.holds := rfl
@[simp] theorem setSect_hif (i : Fin 4) (f : Sect → Sect) (s : State) : (setSect i f s).hif = s.hif := rfl
@[simp] theorem setSect_guard (i : Fin 4) (f : Sect → Sect) (s : State) : (setSect i f s).guard = s.guard := rfl
@[simp] theorem setSect_hlt (i : Fin 4) (f : Sect → Sect) (s : State) : (setSect i f s).hlt = s.hlt := rfl
@[simp] theorem setSect_pwr (i : Fin 4) (f : Sect → Sect) (s : State) : (setSect i f s).pwr = s.pwr := rfl
@[simp] theorem setSect_dbg (i : Fin 4) (f : Sect → Sect) (s : State) : (setSect i f s).dbg = s.dbg := rfl

/-! ### setHlt -/

@[simp] theorem setHlt_pending (f : Hlt → Hlt) (s : State) : (setHlt f s).pending = s.pending := rfl
@[simp] theorem setHlt_freeCtr (f : Hlt → Hlt) (s : State) : (setHlt f s).freeCtr = s.freeCtr := rfl
@[simp] theorem setHlt_gen (f : Hlt → Hlt) (s : State) : (setHlt f s).gen = s.gen := rfl
@[simp] theorem setHlt_otp (f : Hlt → Hlt) (s : State) : (setHlt f s).otp = s.otp := rfl
@[simp] theorem setHlt_boot (f : Hlt → Hlt) (s : State) : (setHlt f s).boot = s.boot := rfl
@[simp] theorem setHlt_clk (f : Hlt → Hlt) (s : State) : (setHlt f s).clk = s.clk := rfl
@[simp] theorem setHlt_rtc (f : Hlt → Hlt) (s : State) : (setHlt f s).rtc = s.rtc := rfl
@[simp] theorem setHlt_sap (f : Hlt → Hlt) (s : State) : (setHlt f s).sap = s.sap := rfl
@[simp] theorem setHlt_zone (f : Hlt → Hlt) (s : State) : (setHlt f s).zone = s.zone := rfl
@[simp] theorem setHlt_gates (f : Hlt → Hlt) (s : State) : (setHlt f s).gates = s.gates := rfl
@[simp] theorem setHlt_fe (f : Hlt → Hlt) (s : State) : (setHlt f s).fe = s.fe := rfl
@[simp] theorem setHlt_hubReset (f : Hlt → Hlt) (s : State) : (setHlt f s).hubReset = s.hubReset := rfl
@[simp] theorem setHlt_pma (f : Hlt → Hlt) (s : State) : (setHlt f s).pma = s.pma := rfl
@[simp] theorem setHlt_fab (f : Hlt → Hlt) (s : State) : (setHlt f s).fab = s.fab := rfl
@[simp] theorem setHlt_grid (f : Hlt → Hlt) (s : State) : (setHlt f s).grid = s.grid := rfl
@[simp] theorem setHlt_tiers (f : Hlt → Hlt) (s : State) : (setHlt f s).tiers = s.tiers := rfl
@[simp] theorem setHlt_sess (f : Hlt → Hlt) (s : State) : (setHlt f s).sess = s.sess := rfl
@[simp] theorem setHlt_stream (f : Hlt → Hlt) (s : State) : (setHlt f s).stream = s.stream := rfl
@[simp] theorem setHlt_pack (f : Hlt → Hlt) (s : State) : (setHlt f s).pack = s.pack := rfl
@[simp] theorem setHlt_holds (f : Hlt → Hlt) (s : State) : (setHlt f s).holds = s.holds := rfl
@[simp] theorem setHlt_hif (f : Hlt → Hlt) (s : State) : (setHlt f s).hif = s.hif := rfl
@[simp] theorem setHlt_guard (f : Hlt → Hlt) (s : State) : (setHlt f s).guard = s.guard := rfl
@[simp] theorem setHlt_hlt (f : Hlt → Hlt) (s : State) : (setHlt f s).hlt = f s.hlt := rfl
@[simp] theorem setHlt_pwr (f : Hlt → Hlt) (s : State) : (setHlt f s).pwr = s.pwr := rfl
@[simp] theorem setHlt_dbg (f : Hlt → Hlt) (s : State) : (setHlt f s).dbg = s.dbg := rfl

/-! ### setHolds -/

@[simp] theorem setHolds_pending (f : Holds → Holds) (s : State) : (setHolds f s).pending = s.pending := rfl
@[simp] theorem setHolds_freeCtr (f : Holds → Holds) (s : State) : (setHolds f s).freeCtr = s.freeCtr := rfl
@[simp] theorem setHolds_gen (f : Holds → Holds) (s : State) : (setHolds f s).gen = s.gen := rfl
@[simp] theorem setHolds_otp (f : Holds → Holds) (s : State) : (setHolds f s).otp = s.otp := rfl
@[simp] theorem setHolds_boot (f : Holds → Holds) (s : State) : (setHolds f s).boot = s.boot := rfl
@[simp] theorem setHolds_clk (f : Holds → Holds) (s : State) : (setHolds f s).clk = s.clk := rfl
@[simp] theorem setHolds_rtc (f : Holds → Holds) (s : State) : (setHolds f s).rtc = s.rtc := rfl
@[simp] theorem setHolds_sap (f : Holds → Holds) (s : State) : (setHolds f s).sap = s.sap := rfl
@[simp] theorem setHolds_zone (f : Holds → Holds) (s : State) : (setHolds f s).zone = s.zone := rfl
@[simp] theorem setHolds_gates (f : Holds → Holds) (s : State) : (setHolds f s).gates = s.gates := rfl
@[simp] theorem setHolds_fe (f : Holds → Holds) (s : State) : (setHolds f s).fe = s.fe := rfl
@[simp] theorem setHolds_hubReset (f : Holds → Holds) (s : State) : (setHolds f s).hubReset = s.hubReset := rfl
@[simp] theorem setHolds_pma (f : Holds → Holds) (s : State) : (setHolds f s).pma = s.pma := rfl
@[simp] theorem setHolds_fab (f : Holds → Holds) (s : State) : (setHolds f s).fab = s.fab := rfl
@[simp] theorem setHolds_grid (f : Holds → Holds) (s : State) : (setHolds f s).grid = s.grid := rfl
@[simp] theorem setHolds_tiers (f : Holds → Holds) (s : State) : (setHolds f s).tiers = s.tiers := rfl
@[simp] theorem setHolds_sess (f : Holds → Holds) (s : State) : (setHolds f s).sess = s.sess := rfl
@[simp] theorem setHolds_stream (f : Holds → Holds) (s : State) : (setHolds f s).stream = s.stream := rfl
@[simp] theorem setHolds_pack (f : Holds → Holds) (s : State) : (setHolds f s).pack = s.pack := rfl
@[simp] theorem setHolds_holds (f : Holds → Holds) (s : State) : (setHolds f s).holds = f s.holds := rfl
@[simp] theorem setHolds_hif (f : Holds → Holds) (s : State) : (setHolds f s).hif = s.hif := rfl
@[simp] theorem setHolds_guard (f : Holds → Holds) (s : State) : (setHolds f s).guard = s.guard := rfl
@[simp] theorem setHolds_hlt (f : Holds → Holds) (s : State) : (setHolds f s).hlt = s.hlt := rfl
@[simp] theorem setHolds_pwr (f : Holds → Holds) (s : State) : (setHolds f s).pwr = s.pwr := rfl
@[simp] theorem setHolds_dbg (f : Holds → Holds) (s : State) : (setHolds f s).dbg = s.dbg := rfl

/-! ### setRing -/

@[simp] theorem setRing_pending (r : Fin 16) (f : Ring → Ring) (s : State) : (setRing r f s).pending = s.pending := rfl
@[simp] theorem setRing_freeCtr (r : Fin 16) (f : Ring → Ring) (s : State) : (setRing r f s).freeCtr = s.freeCtr := rfl
@[simp] theorem setRing_gen (r : Fin 16) (f : Ring → Ring) (s : State) : (setRing r f s).gen = s.gen := rfl
@[simp] theorem setRing_otp (r : Fin 16) (f : Ring → Ring) (s : State) : (setRing r f s).otp = s.otp := rfl
@[simp] theorem setRing_boot (r : Fin 16) (f : Ring → Ring) (s : State) : (setRing r f s).boot = s.boot := rfl
@[simp] theorem setRing_clk (r : Fin 16) (f : Ring → Ring) (s : State) : (setRing r f s).clk = s.clk := rfl
@[simp] theorem setRing_rtc (r : Fin 16) (f : Ring → Ring) (s : State) : (setRing r f s).rtc = s.rtc := rfl
@[simp] theorem setRing_sap (r : Fin 16) (f : Ring → Ring) (s : State) : (setRing r f s).sap = s.sap := rfl
@[simp] theorem setRing_zone (r : Fin 16) (f : Ring → Ring) (s : State) : (setRing r f s).zone = s.zone := rfl
@[simp] theorem setRing_gates (r : Fin 16) (f : Ring → Ring) (s : State) : (setRing r f s).gates = s.gates := rfl
@[simp] theorem setRing_fe (r : Fin 16) (f : Ring → Ring) (s : State) : (setRing r f s).fe = s.fe := rfl
@[simp] theorem setRing_hubReset (r : Fin 16) (f : Ring → Ring) (s : State) : (setRing r f s).hubReset = s.hubReset := rfl
@[simp] theorem setRing_pma (r : Fin 16) (f : Ring → Ring) (s : State) : (setRing r f s).pma = s.pma := rfl
@[simp] theorem setRing_fab (r : Fin 16) (f : Ring → Ring) (s : State) : (setRing r f s).fab = s.fab := rfl
@[simp] theorem setRing_grid (r : Fin 16) (f : Ring → Ring) (s : State) : (setRing r f s).grid = s.grid := rfl
@[simp] theorem setRing_tiers (r : Fin 16) (f : Ring → Ring) (s : State) : (setRing r f s).tiers = s.tiers := rfl
@[simp] theorem setRing_sess (r : Fin 16) (f : Ring → Ring) (s : State) : (setRing r f s).sess = s.sess := rfl
@[simp] theorem setRing_stream (r : Fin 16) (f : Ring → Ring) (s : State) : (setRing r f s).stream = s.stream := rfl
@[simp] theorem setRing_pack (r : Fin 16) (f : Ring → Ring) (s : State) : (setRing r f s).pack = s.pack := rfl
@[simp] theorem setRing_holds (r : Fin 16) (f : Ring → Ring) (s : State) : (setRing r f s).holds = s.holds := rfl
@[simp] theorem setRing_hif (r : Fin 16) (f : Ring → Ring) (s : State) : (setRing r f s).hif = { s.hif with ring := modAt s.hif.ring r f } := rfl
@[simp] theorem setRing_guard (r : Fin 16) (f : Ring → Ring) (s : State) : (setRing r f s).guard = s.guard := rfl
@[simp] theorem setRing_hlt (r : Fin 16) (f : Ring → Ring) (s : State) : (setRing r f s).hlt = s.hlt := rfl
@[simp] theorem setRing_pwr (r : Fin 16) (f : Ring → Ring) (s : State) : (setRing r f s).pwr = s.pwr := rfl
@[simp] theorem setRing_dbg (r : Fin 16) (f : Ring → Ring) (s : State) : (setRing r f s).dbg = s.dbg := rfl

/-! ### setCap -/

@[simp] theorem setCap_pending (n : Fin 4) (f : Cap → Cap) (s : State) : (setCap n f s).pending = s.pending := rfl
@[simp] theorem setCap_freeCtr (n : Fin 4) (f : Cap → Cap) (s : State) : (setCap n f s).freeCtr = s.freeCtr := rfl
@[simp] theorem setCap_gen (n : Fin 4) (f : Cap → Cap) (s : State) : (setCap n f s).gen = s.gen := rfl
@[simp] theorem setCap_otp (n : Fin 4) (f : Cap → Cap) (s : State) : (setCap n f s).otp = s.otp := rfl
@[simp] theorem setCap_boot (n : Fin 4) (f : Cap → Cap) (s : State) : (setCap n f s).boot = s.boot := rfl
@[simp] theorem setCap_clk (n : Fin 4) (f : Cap → Cap) (s : State) : (setCap n f s).clk = { s.clk with cap := modAt s.clk.cap n f } := rfl
@[simp] theorem setCap_rtc (n : Fin 4) (f : Cap → Cap) (s : State) : (setCap n f s).rtc = s.rtc := rfl
@[simp] theorem setCap_sap (n : Fin 4) (f : Cap → Cap) (s : State) : (setCap n f s).sap = s.sap := rfl
@[simp] theorem setCap_zone (n : Fin 4) (f : Cap → Cap) (s : State) : (setCap n f s).zone = s.zone := rfl
@[simp] theorem setCap_gates (n : Fin 4) (f : Cap → Cap) (s : State) : (setCap n f s).gates = s.gates := rfl
@[simp] theorem setCap_fe (n : Fin 4) (f : Cap → Cap) (s : State) : (setCap n f s).fe = s.fe := rfl
@[simp] theorem setCap_hubReset (n : Fin 4) (f : Cap → Cap) (s : State) : (setCap n f s).hubReset = s.hubReset := rfl
@[simp] theorem setCap_pma (n : Fin 4) (f : Cap → Cap) (s : State) : (setCap n f s).pma = s.pma := rfl
@[simp] theorem setCap_fab (n : Fin 4) (f : Cap → Cap) (s : State) : (setCap n f s).fab = s.fab := rfl
@[simp] theorem setCap_grid (n : Fin 4) (f : Cap → Cap) (s : State) : (setCap n f s).grid = s.grid := rfl
@[simp] theorem setCap_tiers (n : Fin 4) (f : Cap → Cap) (s : State) : (setCap n f s).tiers = s.tiers := rfl
@[simp] theorem setCap_sess (n : Fin 4) (f : Cap → Cap) (s : State) : (setCap n f s).sess = s.sess := rfl
@[simp] theorem setCap_stream (n : Fin 4) (f : Cap → Cap) (s : State) : (setCap n f s).stream = s.stream := rfl
@[simp] theorem setCap_pack (n : Fin 4) (f : Cap → Cap) (s : State) : (setCap n f s).pack = s.pack := rfl
@[simp] theorem setCap_holds (n : Fin 4) (f : Cap → Cap) (s : State) : (setCap n f s).holds = s.holds := rfl
@[simp] theorem setCap_hif (n : Fin 4) (f : Cap → Cap) (s : State) : (setCap n f s).hif = s.hif := rfl
@[simp] theorem setCap_guard (n : Fin 4) (f : Cap → Cap) (s : State) : (setCap n f s).guard = s.guard := rfl
@[simp] theorem setCap_hlt (n : Fin 4) (f : Cap → Cap) (s : State) : (setCap n f s).hlt = s.hlt := rfl
@[simp] theorem setCap_pwr (n : Fin 4) (f : Cap → Cap) (s : State) : (setCap n f s).pwr = s.pwr := rfl
@[simp] theorem setCap_dbg (n : Fin 4) (f : Cap → Cap) (s : State) : (setCap n f s).dbg = s.dbg := rfl

/-! ### setCmp -/

@[simp] theorem setCmp_pending (n : Fin 4) (f : Cmp → Cmp) (s : State) : (setCmp n f s).pending = s.pending := rfl
@[simp] theorem setCmp_freeCtr (n : Fin 4) (f : Cmp → Cmp) (s : State) : (setCmp n f s).freeCtr = s.freeCtr := rfl
@[simp] theorem setCmp_gen (n : Fin 4) (f : Cmp → Cmp) (s : State) : (setCmp n f s).gen = s.gen := rfl
@[simp] theorem setCmp_otp (n : Fin 4) (f : Cmp → Cmp) (s : State) : (setCmp n f s).otp = s.otp := rfl
@[simp] theorem setCmp_boot (n : Fin 4) (f : Cmp → Cmp) (s : State) : (setCmp n f s).boot = s.boot := rfl
@[simp] theorem setCmp_clk (n : Fin 4) (f : Cmp → Cmp) (s : State) : (setCmp n f s).clk = { s.clk with cmp := modAt s.clk.cmp n f } := rfl
@[simp] theorem setCmp_rtc (n : Fin 4) (f : Cmp → Cmp) (s : State) : (setCmp n f s).rtc = s.rtc := rfl
@[simp] theorem setCmp_sap (n : Fin 4) (f : Cmp → Cmp) (s : State) : (setCmp n f s).sap = s.sap := rfl
@[simp] theorem setCmp_zone (n : Fin 4) (f : Cmp → Cmp) (s : State) : (setCmp n f s).zone = s.zone := rfl
@[simp] theorem setCmp_gates (n : Fin 4) (f : Cmp → Cmp) (s : State) : (setCmp n f s).gates = s.gates := rfl
@[simp] theorem setCmp_fe (n : Fin 4) (f : Cmp → Cmp) (s : State) : (setCmp n f s).fe = s.fe := rfl
@[simp] theorem setCmp_hubReset (n : Fin 4) (f : Cmp → Cmp) (s : State) : (setCmp n f s).hubReset = s.hubReset := rfl
@[simp] theorem setCmp_pma (n : Fin 4) (f : Cmp → Cmp) (s : State) : (setCmp n f s).pma = s.pma := rfl
@[simp] theorem setCmp_fab (n : Fin 4) (f : Cmp → Cmp) (s : State) : (setCmp n f s).fab = s.fab := rfl
@[simp] theorem setCmp_grid (n : Fin 4) (f : Cmp → Cmp) (s : State) : (setCmp n f s).grid = s.grid := rfl
@[simp] theorem setCmp_tiers (n : Fin 4) (f : Cmp → Cmp) (s : State) : (setCmp n f s).tiers = s.tiers := rfl
@[simp] theorem setCmp_sess (n : Fin 4) (f : Cmp → Cmp) (s : State) : (setCmp n f s).sess = s.sess := rfl
@[simp] theorem setCmp_stream (n : Fin 4) (f : Cmp → Cmp) (s : State) : (setCmp n f s).stream = s.stream := rfl
@[simp] theorem setCmp_pack (n : Fin 4) (f : Cmp → Cmp) (s : State) : (setCmp n f s).pack = s.pack := rfl
@[simp] theorem setCmp_holds (n : Fin 4) (f : Cmp → Cmp) (s : State) : (setCmp n f s).holds = s.holds := rfl
@[simp] theorem setCmp_hif (n : Fin 4) (f : Cmp → Cmp) (s : State) : (setCmp n f s).hif = s.hif := rfl
@[simp] theorem setCmp_guard (n : Fin 4) (f : Cmp → Cmp) (s : State) : (setCmp n f s).guard = s.guard := rfl
@[simp] theorem setCmp_hlt (n : Fin 4) (f : Cmp → Cmp) (s : State) : (setCmp n f s).hlt = s.hlt := rfl
@[simp] theorem setCmp_pwr (n : Fin 4) (f : Cmp → Cmp) (s : State) : (setCmp n f s).pwr = s.pwr := rfl
@[simp] theorem setCmp_dbg (n : Fin 4) (f : Cmp → Cmp) (s : State) : (setCmp n f s).dbg = s.dbg := rfl

/-- The core that setCore changes. -/
@[simp] theorem setCore_core (n : Fin 288) (f : Core → Core) (s : State) : (setCore n f s).core n = f (s.core n) := by
  simp [State.core]

/-- The cores that setCore leaves. -/
theorem setCore_other (n m : Fin 288) (f : Core → Core) (s : State) (h : n ≠ m) : (setCore n f s).core m = s.core m := by
  simp only [State.core, setCore_grid]; exact modAt_other _ _ _ _ h

end Sys2Proof.Machine
end

