-- ==== Sys2Proof/Laws/Ops.lean ====
section
/-! SUPPORT. What each shared operation can do: the outcome of a command, interrupt messages, the event log, replies, the rows of
host commands, of core instructions and of packets served. Each lemma says everything its operation may change. -/

namespace Sys2Proof.Machine

/-! ### Interrupt messages -/

/-- Sending a vector changes only the messages sent and the pending bits. -/
theorem sendVec_eq (run : Bool) (v : Nat) (h : Hif) : ∃ sent pba, sendVec run v h = { h with sent := sent, pba := pba } := by
  unfold sendVec
  split
  · exact ⟨h.sent, h.pba, rfl⟩
  · split
    · exact ⟨_, _, rfl⟩
    · exact ⟨_, _, rfl⟩

/-- A scan of the vectors changes only the messages sent and the pending bits. -/
theorem sendVecs_eq (run : Bool) (p : Nat → Bool) (vs : List Nat) (h : Hif) :
    ∃ sent pba, vs.foldl (fun h v => if p v then sendVec run v h else h) h = { h with sent := sent, pba := pba } := by
  induction vs generalizing h with
  | nil => exact ⟨h.sent, h.pba, rfl⟩
  | cons v vs ih =>
    simp only [List.foldl_cons]
    split
    · obtain ⟨a, b, e⟩ := sendVec_eq run v h
      obtain ⟨a', b', e'⟩ := ih (sendVec run v h)
      exact ⟨a', b', by rw [e', e]⟩
    · exact ih h

/-- irqScan changes only the messages sent and the pending bits. -/
theorem irqScan_eq (s s' : State) : ∃ sent pba, irqScan s s' = { s' with hif := { s'.hif with sent := sent, pba := pba } } := by
  obtain ⟨a, b, e⟩ := sendVecs_eq s.sterdo (rises s s') (List.range 24) s'.hif
  exact ⟨a, b, by unfold irqScan; rw [e]⟩

/-- With no cause risen nothing is sent. -/
theorem irqScan_quiet (s s' : State) (h : ∀ v < 24, rises s s' v = false) : irqScan s s' = s' := by
  have : ∀ (vs : List Nat) (x : Hif), (∀ v ∈ vs, v < 24) → vs.foldl (fun h v => if rises s s' v then sendVec s.sterdo v h else h) x = x := by
    intro vs
    induction vs with
    | nil => intros; rfl
    | cons v vs ih =>
      intro x hv
      simp only [List.foldl_cons, h v (hv v (by simp)), Bool.false_eq_true, if_false]
      exact ih x fun w hw => hv w (by simp [hw])
  unfold irqScan
  rw [this _ _ fun v hv => List.mem_range.1 hv]

/-- A vector whose causes and enables are as before has not risen. -/
theorem rises_same (s s' : State) (v : Nat) (h : causes s' v = causes s v) : rises s s' v = false := by
  simp [rises, h]

/-- Where every register that holds a cause or an enable stands as before, nothing is sent. -/
theorem irqScan_frame (s s' : State) (hh : s'.hif = s.hif) (h1 : s'.sap = s.sap) (h2 : s'.guard = s.guard) (h3 : s'.hlt = s.hlt)
    (h4 : s'.pwr = s.pwr) (h5 : s'.fab = s.fab) (h6 : s'.pma = s.pma) (h7 : s'.clk = s.clk) (h8 : s'.rtc = s.rtc) : irqScan s s' = s' := by
  apply irqScan_quiet
  intro v _
  apply rises_same
  simp only [causes, hh, h1, h2, h3, h4, h5, h6, h7, h8]

/-! ### The outcome of a command -/

/-- A command whose event takes place: its effect, with interrupt messages, on everything but the queue. -/
theorem act_next (s : State) (ok : Bool) (s' : State) (hp : s.powered = true) (ho : ok = true) :
    ∃ sent pba, act s ok s' = .next { s' with hif := { s'.hif with sent := sent, pba := pba }, pending := s.pending } := by
  obtain ⟨a, b, e⟩ := irqScan_eq s s'
  exact ⟨a, b, by simp [act, hp, ho, e]⟩

/-- A command whose event does not take place leaves the state. -/
theorem act_not (s : State) (ok : Bool) (s' : State) (h : s.powered = false ∨ ok = false) : act s ok s' = .next s := by
  rcases h with h | h <;> simp [act, h]

/-- A command's effect that touches no cause register and not the queue is the next state as it stands. -/
theorem act_exact (s : State) (ok : Bool) (s' : State) (hp : s.powered = true) (ho : ok = true) (hq : s'.pending = s.pending)
    (hh : s'.hif = s.hif) (h1 : s'.sap = s.sap) (h2 : s'.guard = s.guard) (h3 : s'.hlt = s.hlt)
    (h4 : s'.pwr = s.pwr) (h5 : s'.fab = s.fab) (h6 : s'.pma = s.pma) (h7 : s'.clk = s.clk) (h8 : s'.rtc = s.rtc) :
    act s ok s' = .next s' := by
  simp only [act, hp, ho, Bool.and_self, if_true, irqScan_frame s s' hh h1 h2 h3 h4 h5 h6 h7 h8, ← hq]

/-- Every command answers a next state that holds the queue it was given. -/
theorem act_pending (s : State) (ok : Bool) (s' : State) : ∃ t, act s ok s' = .next t ∧ t.pending = s.pending := by
  unfold act
  split
  · exact ⟨_, rfl, rfl⟩
  · exact ⟨_, rfl, rfl⟩

/-! ### The event log -/

/-- An offer to the trace port changes only its queue and its drop count. -/
theorem traceOffer_eq (k : Nat) (ws : List Word) (s : State) :
    ∃ q d, traceOffer k ws s = { s with dbg := { s.dbg with trQueue := q, trDrop := d } } := by
  unfold traceOffer
  generalize (s.dbg.trEn && (if k = 1 then s.dbg.trCairns else s.dbg.trEvents) && decide (s.debugLevel ≠ 0)) = b
  cases b
  · exact ⟨s.dbg.trQueue, s.dbg.trDrop, rfl⟩
  · simp only [if_true]
    split
    · exact ⟨_, s.dbg.trDrop, rfl⟩
    · exact ⟨s.dbg.trQueue, _, rfl⟩

/-- Logging an event changes only the observation registers. -/
theorem logEvent_eq (code src : BitVec 8) (a0 a1 : Word) (s : State) : ∃ d, logEvent code src a0 a1 s = { s with dbg := d } := by
  unfold logEvent
  obtain ⟨q, d, e⟩ := traceOffer_eq 2 _ { s with dbg := _ }
  exact ⟨_, e⟩

/-! ### Writes to host memory and replies -/

/-- An upstream write changes only host memory or the writes held. -/
theorem upWrite_eq (a : BitVec 64) (ws : List Word) (s : State) :
    ∃ m q, upWrite a ws s = { s with hif := { s.hif with mem := m, upq := q } } := by
  unfold upWrite
  split
  · exact ⟨s.hif.mem, s.hif.upq, rfl⟩
  · split
    · exact ⟨_, s.hif.upq, rfl⟩
    · exact ⟨s.hif.mem, _, rfl⟩

/-- A reply changes only the rings, host memory and the writes held. -/
theorem replyWith_eq (c : Cmd) (st : BitVec 8) (r : Res) (fin : Bool) (s : State) :
    ∃ g m q, replyWith c st r fin s = { s with hif := { s.hif with ring := g, mem := m, upq := q } } := by
  unfold replyWith
  simp only
  split
  · exact ⟨s.hif.ring, s.hif.mem, s.hif.upq, rfl⟩
  · obtain ⟨m, q, e⟩ := upWrite_eq ((s.hif.ring[c.ring]).rqBase + BitVec.ofNat 64 (32 * (s.hif.ring[c.ring]).rqTail.toNat)) _ s
    rw [e]
    exact ⟨_, m, q, rfl⟩

/-- Ending waits changes only the host interface. -/
theorem finishWaits_eq (p : Waiting → Bool) (f : Waiting → BitVec 8 × Res) (s : State) :
    ∃ g m q, finishWaits p f s =
      { s with hif := { s.hif with waits := s.hif.waits.filter (fun w => !p w), ring := g, mem := m, upq := q } } := by
  unfold finishWaits
  simp only
  generalize s.hif.waits.filter p = ws
  generalize hs : ({ s with hif := { s.hif with waits := s.hif.waits.filter (fun w => !p w) } } : State) = s0
  have key : ∀ (ws : List Waiting) (u : State), ∃ g m q,
      ws.foldl (fun s w => reply w.cmd (f w).1 (f w).2 s) u = { u with hif := { u.hif with ring := g, mem := m, upq := q } } := by
    intro ws
    induction ws with
    | nil => exact fun u => ⟨u.hif.ring, u.hif.mem, u.hif.upq, rfl⟩
    | cons w ws ih =>
      intro u
      obtain ⟨g, m, q, e⟩ := ih (reply w.cmd (f w).1 (f w).2 u)
      obtain ⟨g', m', q', e'⟩ := replyWith_eq w.cmd (f w).1 (f w).2 true u
      refine ⟨g, m, q, ?_⟩
      rw [List.foldl_cons, e]
      simp only [reply, e']
  obtain ⟨g, m, q, e⟩ := key ws s0
  exact ⟨g, m, q, by rw [e, ← hs]⟩

/-- A wait adds the command to those that wait. -/
theorem waitOn_eq (c : Cmd) (on : Wait) (ns : Nat) (r : Res) (s : State) : waitOn c on ns r s =
    { s with hif := { s.hif with waits := s.hif.waits ++ [{ cmd := c, on := on, deadline := s.clk.tempo + ns, res := r }] } } := rfl

/-! ### Host commands -/

/-- The row of a host opcode, when the next command is its own and neither FENCE nor ORDERED holds it. -/
theorem hostRow_next (op : Nat) (f : Cmd → State → State) (s t : State) (c : Cmd) (hp : s.powered = true) (hs : s.sterdo = true)
    (hn : s.nextCmd = some (c, t)) (ho : c.op = op) (hm : Cmd.mayStart c s = true) :
    ∃ sent pba, hostRow op f s =
      .next { f c t with hif := { (f c t).hif with sent := sent, pba := pba }, pending := s.pending } := by
  unfold hostRow
  simp only [hn, hm, if_true]
  exact act_next s _ _ hp (by simp [hs, ho])

/-- A command that passes every check runs. -/
theorem runCmd_go (c : Cmd) (fields : List Check) (hold st : Check) (more : List Check) (go : State → State) (s : State)
    (h1 : fields.find? (·.1) = none) (h2 : c.preempt = false) (h3 : hold.1 = false) (h4 : st.1 = false)
    (h5 : more.find? (·.1) = none) : runCmd c fields hold st more go s = go s := by
  simp [runCmd, h1, h2, h3, h4, h5]

/-- Taking the next command leaves everything but the host interface. -/
theorem nextCmd_eq (s t : State) (c : Cmd) (h : s.nextCmd = some (c, t)) : ∃ w r, t = { s with hif := { s.hif with waits := w, ready := r } } := by
  unfold State.nextCmd at h
  split at h
  · rename_i k _
    simp only [Option.map_eq_some_iff, Prod.mk.injEq] at h
    obtain ⟨w, -, -, rfl⟩ := h
    exact ⟨_, s.hif.ready, rfl⟩
  · split at h
    · cases h
    · simp only [Option.some.injEq, Prod.mk.injEq] at h
      obtain ⟨-, rfl⟩ := h
      exact ⟨s.hif.waits, _, rfl⟩

/-! ### Core instructions -/

/-- A core instruction whose word stands at the program counter and whose guard is 1 runs its body. -/
theorem coreRow_body (n : Fin 288) (op : Nat) (w : BitVec 26) (fn : Bool) (s : State) (body : State → Option State) (s' : State)
    (hp : s.powered = true) (hr : s.coreRuns n = true) (hw : s.fetch n = op * 2 ^ 26 + w.toNat) (hf : fn = true)
    (hb : ((s.core n).pBusy && decide (fPg w = 7)) = false) (hg : (s.core n).getP (fPg w) = true) (h : body s = some s') :
    ∃ sent pba, coreRow n op w fn s body = .next { s' with hif := { s'.hif with sent := sent, pba := pba }, pending := s.pending } := by
  unfold coreRow
  simp only [hb, hg, h, Bool.false_eq_true, if_false, if_true, Option.getD_some]
  exact act_next s _ _ hp (by simp [hr, hw, hf])

/-- The same for a body that touches no cause register. -/
theorem coreRow_exact (n : Fin 288) (op : Nat) (w : BitVec 26) (fn : Bool) (s : State) (body : State → Option State) (s' : State)
    (hp : s.powered = true) (hr : s.coreRuns n = true) (hw : s.fetch n = op * 2 ^ 26 + w.toNat) (hf : fn = true)
    (hb : ((s.core n).pBusy && decide (fPg w = 7)) = false) (hg : (s.core n).getP (fPg w) = true) (h : body s = some s')
    (hq : s'.pending = s.pending)
    (hh : s'.hif = s.hif) (h1 : s'.sap = s.sap) (h2 : s'.guard = s.guard) (h3 : s'.hlt = s.hlt)
    (h4 : s'.pwr = s.pwr) (h5 : s'.fab = s.fab) (h6 : s'.pma = s.pma) (h7 : s'.clk = s.clk) (h8 : s'.rtc = s.rtc) :
    coreRow n op w fn s body = .next s' := by
  unfold coreRow
  simp only [hb, hg, h, Bool.false_eq_true, if_false, if_true, Option.getD_some]
  exact act_exact s _ _ hp (by simp [hr, hw, hf]) hq hh h1 h2 h3 h4 h5 h6 h7 h8

/-- A core instruction whose guard is 0 retires with no effect but the program counter's advance (R173). -/
theorem coreRow_guarded (n : Fin 288) (op : Nat) (w : BitVec 26) (fn : Bool) (s : State) (body : State → Option State)
    (hp : s.powered = true) (hr : s.coreRuns n = true) (hw : s.fetch n = op * 2 ^ 26 + w.toNat) (hf : fn = true)
    (hb : ((s.core n).pBusy && decide (fPg w = 7)) = false) (hg : (s.core n).getP (fPg w) = false) :
    coreRow n op w fn s body = .next (coreNext n s) := by
  unfold coreRow
  simp only [hb, hg, Bool.false_eq_true, if_false]
  exact act_exact s _ _ hp (by simp [hr, hw, hf]) rfl rfl rfl rfl rfl rfl rfl rfl rfl rfl

/-! ### Packets served -/

/-- A packet served leaves its slot, and an unpoisoned one has its effect. -/
theorem servePacket_next (i : Fin 300) (s : State) (f : Packet → State → State) (p : Packet) (hp : s.powered = true) (hn : p.poison = false) :
    ∃ sent pba, servePacket i p s f =
      .next { f p (dropRx i p s) with hif := { (f p (dropRx i p s)).hif with sent := sent, pba := pba }, pending := s.pending } := by
  simpa [servePacket, hn] using act_next s true (f p (dropRx i p s)) hp rfl

/-- A request served: the first packet of the command. -/
theorem serve_next (i : Fin 300) (cmd : Nat) (s : State) (f : Packet → State → State) (p : Packet) (hp : s.powered = true)
    (h : s.firstRx i cmd = some p) (hn : p.poison = false) :
    ∃ sent pba, serve i cmd s f =
      .next { f p (dropRx i p s) with hif := { (f p (dropRx i p s)).hif with sent := sent, pba := pba }, pending := s.pending } := by
  simpa [serve, h] using servePacket_next i s f p hp hn

/-- A message served: the first of its command that no earlier one to its mailbox waits before. -/
theorem serveMsg_next (i : Fin 300) (cmd : Nat) (s : State) (f : Packet → State → State) (p : Packet) (hp : s.powered = true)
    (h : s.firstMsg i cmd = some p) (hn : p.poison = false) :
    ∃ sent pba, serveMsg i cmd s f =
      .next { f p (dropRx i p s) with hif := { (f p (dropRx i p s)).hif with sent := sent, pba := pba }, pending := s.pending } := by
  simpa [serveMsg, h] using servePacket_next i s f p hp hn

end Sys2Proof.Machine
end

