-- ==== Sys2Proof/Tests/Slice0.lean ====
section
/-! SUPPORT. Tests: ill-formed commands that WellFormed refuses, and, for every statement of Obligations.lean, states and operands
that meet its hypotheses. Expected results come from spec/ or are worked out by hand from it. Each theorem looks at a few fields
after one command on a small state. -/

open Sys2Proof Sys2Proof.Machine

set_option Elab.async false

namespace Sys2Proof.Tests

/-- The state after a command. -/
def after (c : Instr) (s : State) : State := match exec c s with | .next t => t | _ => s

/-- A step on a queue that holds one command. -/
def stepped (c : Instr) (s : State) : State := match step { s with pending := [c] } with | .next t => t | _ => s

/-! ### Grid cores (09_core_isa.md) -/

/-- An instruction word: opcode, guard p0 and fields. -/
def word (op w : Nat) : Word := BitVec.ofNat 32 (op * 2 ^ 26 + w)

/-- Core 0 runs one word, with 64 KiB of scratch. -/
def coreSt (op : Nat) (w : BitVec 26) (f : Core → Core) : State :=
  setCore 0 (fun _ => f { run := .running, imem := Mem.ofBytes 0 (bytesOf (word op w.toNat) ++ bytesOf 0), codeBytes := 64, scratch := 16 }) State.reset

/-- The hypotheses of CoreAt as a check. -/
def atB (op : Nat) (w : BitVec 26) (s : State) : Bool :=
  s.powered && s.coreRuns 0 && decide (s.fetch 0 = op * 2 ^ 26 + w.toNat) && !((s.core 0).pBusy && decide (fPg w = 7)) && (s.core 0).getP (fPg w)

/-- The check means CoreAt. -/
theorem coreAt_of_atB (op : Nat) (w : BitVec 26) (s : State) (h : atB op w s = true) : CoreAt 0 op w s := by
  simp only [atB, Bool.and_eq_true, Bool.not_eq_true', decide_eq_true_eq] at h
  exact ⟨h.1.1.1.1, h.1.1.1.2, h.1.1.2, h.1.2, h.2⟩

/-- R format: RD, RS1, RS2, FN. -/
def fR (rd rs1 rs2 fn : Nat) : BitVec 26 := BitVec.ofNat 26 (rd * 2 ^ 18 + rs1 * 2 ^ 13 + rs2 * 2 ^ 8 + fn)

/-! ### The running device and its commands -/

/-- A device in ACTIVE at Tempo 1 s: booted, Sterdo running, the link up in Gen4 x4 with rings, ring 0 enabled at 0x1000. -/
def dev : State :=
  { State.reset with
    boot := { step := 10, done := 0x7FE, cfgReady := true, dramReady := true, quietReady := true, fw := .running }
    clk := { pllLock := true, tempo := 1000000000 }
    pwr := { mode := 3 }
    pma := { ready := true }
    hif := { speed := 4, width := 4, bme := true, mse := true, msixEn := true
             ring := Vector.ofFn fun r => if r.1 = 0 then { en := true, state := .running, rqBase := 0x1000 } else {} } }

/-- A descriptor: opcode, session, stream, parameter words from 2 on. -/
def cmdOf (op session stream : Nat) (ws : List Word) : Cmd :=
  { ring := 0, prio := 0, id := 0, at_ := 0, second := false, preempt := false
    desc := Vector.ofFn fun i => if i.1 = 0 then wd op else if i.1 = 1 then wd (session + stream * 2 ^ 8) else (ws[i.1 - 2]?).getD 0 }

/-- A command of device scope. -/
def devCmd (op : Nat) (ws : List Word) : Cmd := cmdOf op 0 255 ws

/-- The command is next. -/
def queued (c : Cmd) (s : State) : State := { s with hif := { s.hif with ready := [c] } }

/-- The hypotheses of HostNext as a check. -/
def hostB (op : Nat) (c : Cmd) (s : State) : Bool :=
  s.powered && s.sterdo && decide (s.hif.waits = []) && decide (s.hif.ready = []) && decide (c.op = op) && Cmd.mayStart c (queued c s) && !c.preempt

/-- The check means HostNext, the state without the command being the one it was put in. -/
theorem hostNext_of_hostB (op : Nat) (c : Cmd) (s : State) (h : hostB op c s = true) : HostNext op c (queued c s) s := by
  simp only [hostB, Bool.and_eq_true, Bool.not_eq_true', decide_eq_true_eq] at h
  obtain ⟨⟨⟨⟨⟨⟨h1, h2⟩, h3⟩, h4⟩, h5⟩, h6⟩, h7⟩ := h
  refine ⟨h1, h2, ?_, h5, h6, h7⟩
  have e : (queued c s).hif.waits = [] := h3
  have e2 : (queued c s).hif.ready = [c] := rfl
  simp only [State.nextCmd, e, e2, List.findIdx?_nil]
  have e3 : setHif (fun x => { x with ready := [] }) (queued c s) = s := by
    simp only [setHif, queued]
    rw [← h4]
  rw [e3]

/-- The status of the first reply in ring 0's queue, and its result words. -/
def answer (t : State) : Nat × List Word :=
  (fld (wordOf (t.hif.mem.readN 0x1000 4)) 16 8, [wordOf (t.hif.mem.readN 0x1010 4), wordOf (t.hif.mem.readN 0x1014 4),
    wordOf (t.hif.mem.readN 0x1018 4), wordOf (t.hif.mem.readN 0x101C 4)])

/-- The row's answer to a command that is next. -/
def answers (i : Instr) (c : Cmd) (s : State) : Nat × List Word := answer (after i (queued c s))

/-- A core with three numbers in g1, g2 and g4. -/
def regs (a b d : Word) (c : Core) : Core := ((c.setG 1 a).setG 2 b).setG 4 d

/-- ALU on 7 and -3: sums, products, the signed and unsigned forms of division, minimum and maximum (R175). -/
theorem test_alu : ∀ x ∈ ([(0x00, 4), (0x01, 10), (0x02, 5), (0x03, 0xFFFFFFFF), (0x04, 0xFFFFFFFA), (0x05, 0xE0000000), (0x06, 0), (0x07, 0),
      (0x08, 0xFFFFFFEB), (0x09, 0xFFFFFFFF), (0x0A, 6), (0x0B, 0xFFFFFFFE), (0x0C, 0), (0x0D, 1), (0x0E, 7), (0x0F, 0xFFFFFFFD), (0x10, 7)] :
      List (Nat × Word)),
    let s := coreSt 0x00 (fR 3 1 2 x.1) (regs 7 0xFFFFFFFD 0)
    atB 0x00 (fR 3 1 2 x.1) s = true ∧ (s.core 0).free [3, 1, 2] = true
      ∧ ((after (.alu 0 (fR 3 1 2 x.1)) s).core 0).getG 3 = x.2 ∧ ((after (.alu 0 (fR 3 1 2 x.1)) s).core 0).pc = 4 := by decide +kernel

/-- Division by 0 gives all ones and the dividend (R175). -/
theorem test_alu_zero : ∀ x ∈ ([(0x0B, 0xFFFFFFFF), (0x0C, 0xFFFFFFFF), (0x0D, 7), (0x0E, 7)] : List (Nat × Word)),
    ((after (.alu 0 (fR 3 1 2 x.1)) (coreSt 0x00 (fR 3 1 2 x.1) (regs 7 0 0))).core 0).getG 3 = x.2 := by decide +kernel

/-- The immediate forms: -1 as the immediate, shifts by 4, LUI by 2^14 (R175, Table 9.2). -/
theorem test_immediates : ∀ x ∈ ([(0x01, fR 3 1 31 0xFF, .addi 0 (fR 3 1 31 0xFF), 0xF000000E), (0x02, fR 3 1 31 0xFF, .andi 0 (fR 3 1 31 0xFF), 0xF000000F),
      (0x03, fR 3 1 31 0xFF, .ori 0 (fR 3 1 31 0xFF), 0xFFFFFFFF), (0x04, fR 3 1 31 0xFF, .xori 0 (fR 3 1 31 0xFF), 0x0FFFFFF0),
      (0x05, fR 3 1 0 4, .shi 0 (fR 3 1 0 4), 0xF0), (0x05, fR 3 1 8 4, .shi 0 (fR 3 1 8 4), 0x0F000000),
      (0x05, fR 3 1 16 4, .shi 0 (fR 3 1 16 4), 0xFF000000), (0x06, fR 3 1 0 1, .lui 0 (fR 3 1 0 1), 0x08004000)] : List (Nat × BitVec 26 × Instr × Word)),
    let s := coreSt x.1 x.2.1 (regs 0xF000000F 0 0)
    atB x.1 x.2.1 s = true ∧ (s.core 0).free [3, 1] = true ∧ ((after x.2.2.1 s).core 0).getG 3 = x.2.2.2 := by decide +kernel

/-- CMP of -1 and 1, signed and unsigned, and PRED of p1 = 1 and p2 = 0 (R175). -/
theorem test_predicates : (∀ x ∈ ([(0, false), (1, true), (2, true), (3, false), (4, false), (5, true)] : List (Nat × Bool)),
      let s := coreSt 0x07 (fR 3 1 2 x.1) (regs 0xFFFFFFFF 1 0)
      atB 0x07 (fR 3 1 2 x.1) s = true ∧ ((after (.cmp 0 (fR 3 1 2 x.1)) s).core 0).getP 3 = x.2)
    ∧ (∀ x ∈ ([(0, false), (1, true), (2, true), (3, true)] : List (Nat × Bool)),
      let s := coreSt 0x0D (fR 3 1 2 x.1) (fun c => c.setP 1 true)
      atB 0x0D (fR 3 1 2 x.1) s = true ∧ (s.core 0).pBusy = false ∧ ((after (.pred 0 (fR 3 1 2 x.1)) s).core 0).getP 3 = x.2)
    ∧ ((after (.cmp 0 (fR 0 1 2 1)) (coreSt 0x07 (fR 0 1 2 1) (regs 5 5 0))).core 0).getP 0 = true := by decide +kernel

/-- LD and ST at the last word of the scratch (R179). -/
theorem test_load_store :
    let l := coreSt 0x08 (fR 3 1 0 0) fun c => { c.setG 1 0x1FFFFC with home := Mem.ofBytes 0x1FFFFC [0x78, 0x56, 0x34, 0x12] }
    let s := coreSt 0x09 (fR 2 1 0 0) (regs 0x1FFFFC 0xA1B2C3D4 0)
    atB 0x08 (fR 3 1 0 0) l = true ∧ (l.core 0).inScratch 0x1FFFFC 4 = true ∧ (l.core 0).readWaits 0x1FFFFC 4 = false
      ∧ ((after (.ld 0 (fR 3 1 0 0) .clean) l).core 0).getG 3 = 0x12345678
      ∧ atB 0x09 (fR 2 1 0 0) s = true ∧ (s.core 0).writeWaits 0x1FFFFC 4 = false
      ∧ ((after (.st 0 (fR 2 1 0 0)) s).core 0).home = [(0x1FFFFC, 0xD4), (0x1FFFFD, 0xC3), (0x1FFFFE, 0xB2), (0x1FFFFF, 0xA1)] := by decide +kernel

/-- An odd address raises ALIGN and one past the scratch ACCESS; with a handler the core goes on at EVEC (R192). -/
theorem test_local_exceptions :
    (∀ x ∈ ([0x1FFFFD, 0x200000] : List Nat), ∀ i ∈ ([(0x08, .ld 0 (fR 3 1 0 0) .clean), (0x09, .st 0 (fR 3 1 0 0))] : List (Nat × Instr)),
      let s := coreSt i.1 (fR 3 1 0 0) fun c => { c.setG 1 (wd x) with evec := 0x20 }
      let c := (after i.2 s).core 0
      atB i.1 (fR 3 1 0 0) s = true ∧ c.pc = 0x20 ∧ c.handler = true ∧ c.xinfo = wd x ∧ c.xpc = 0 ∧ c.xcause ≠ 0) := by decide +kernel

/-- BR, BL and JR (R175): forward by 2 words, with the return address in g31, to an address. -/
theorem test_branches :
    let b := coreSt 0x0A 2 id
    let l := coreSt 0x0B 2 id
    let j := coreSt 0x0C (fR 0 1 0 0) (regs 0x3C 0 0)
    atB 0x0A 2 b = true ∧ ((after (.br 0 2) b).core 0).pc = 8 ∧ atB 0x0B 2 l = true ∧ ((after (.bl 0 2) l).core 0).pc = 8
      ∧ ((after (.bl 0 2) l).core 0).getG 31 = 4 ∧ atB 0x0C (fR 0 1 0 0) j = true ∧ ((after (.jr 0 (fR 0 1 0 0)) j).core 0).pc = 0x3C := by decide +kernel

/-- A guard of 0 retires without effect; a guard that awaits an AMO waits (R173, R181). -/
theorem test_guard :
    let w : BitVec 26 := fR 3 1 2 0 + 7 * 2 ^ 23
    let off := coreSt 0x00 w (regs 1 2 0)
    let wait := coreSt 0x00 w fun c => { regs 1 2 0 c with pBusy := true }
    off.coreRuns 0 = true ∧ off.fetch 0 = w.toNat ∧ fPg w = 7 ∧ (off.core 0).getP 7 = false ∧ ((after (.alu 0 w) off).core 0).pc = 4
      ∧ ((after (.alu 0 w) off).core 0).getG 3 = 0 ∧ wait.fetch 0 = w.toNat ∧ ((after (.alu 0 w) wait).core 0).pc = 0 := by decide +kernel

/-- The system group (R188..R192): FENCE and WAITT with nothing open, WAITM with a message and past its limit, HALT, SETX, XRET, RDX, NOP. -/
theorem test_system :
    let f := coreSt 0x30 0 id
    let t := coreSt 0x31 0 id
    let wm := coreSt 0x32 (fR 3 1 2 0) fun c => { regs 1 0 0 c with mbox := 1, box := c.box.set 0 [{ src := 5, len := 0, mb := 0, body := 0 }] }
    let tmo := setCore 0 (fun c => { regs 1 10 0 c with waitSince := some 0, mbox := 1 }) { coreSt 0x32 (fR 3 1 2 0) id with clk := { pllLock := true, tempo := 10 } }
    let h := coreSt 0x36 0 id
    let sx := coreSt 0x36 (fR 0 1 0 1) (regs 0x20 0 0)
    let xr := coreSt 0x36 (fR 0 0 0 2) fun c => { c with xpc := 8, handler := true }
    let rx := coreSt 0x36 (fR 3 1 0 3) fun c => { regs 2 0 0 c with xinfo := 0x77 }
    let nop := coreSt 0x37 0 id
    (atB 0x30 0 f = true ∧ (f.core 0).tq = [] ∧ (f.core 0).gBusy = 0 ∧ (f.core 0).mc = [] ∧ ((after (.fence 0 0) f).core 0).pc = 4)
    ∧ (atB 0x31 0 t = true ∧ ((after (.waitt 0 0) t).core 0).pc = 4)
    ∧ (atB 0x32 (fR 3 1 2 0) wm = true ∧ (wm.core 0).strayBox 1 = none ∧ (wm.core 0).hasMail 1 = true
        ∧ ((after (.waitm 0 (fR 3 1 2 0)) wm).core 0).getP 3 = true)
    ∧ (tmo.fetch 0 = 0x32 * 2 ^ 26 + (fR 3 1 2 0).toNat ∧ (tmo.core 0).hasMail 1 = false ∧ ((after (.waitmTimeout 0) tmo).core 0).pc = 4
        ∧ ((after (.waitmTimeout 0) tmo).core 0).waitSince = none)
    ∧ (atB 0x36 0 h = true ∧ ((after (.halt 0 0) h).core 0).run = .halted)
    ∧ (atB 0x36 (fR 0 1 0 1) sx = true ∧ ((after (.setx 0 (fR 0 1 0 1)) sx).core 0).evec = 0x20)
    ∧ (atB 0x36 (fR 0 0 0 2) xr = true ∧ ((after (.xret 0 (fR 0 0 0 2)) xr).core 0).pc = 12 ∧ ((after (.xret 0 (fR 0 0 0 2)) xr).core 0).handler = false)
    ∧ (atB 0x36 (fR 3 1 0 3) rx = true ∧ ((after (.rdx 0 (fR 3 1 0 3)) rx).core 0).getG 3 = 0x77)
    ∧ (atB 0x37 0 nop = true ∧ ((after (.coreNop 0 0 false) nop).core 0).pc = 4) := by decide +kernel

/-- RDTMP reads both halves of Tempo into a pair, RDPACE the pace (R189). -/
theorem test_time :
    let t := { coreSt 0x33 (fR 4 0 0 0) id with clk := { pllLock := true, tempo := 0x500000007 } }
    let p := coreSt 0x34 (fR 3 0 0 0) id
    atB 0x33 (fR 4 0 0 0) t = true ∧ ((after (.rdtmp 0 (fR 4 0 0 0)) t).core 0).getG 4 = 7 ∧ ((after (.rdtmp 0 (fR 4 0 0 0)) t).core 0).getG 5 = 5
      ∧ atB 0x34 (fR 3 0 0 0) p = true ∧ ((after (.rdpace 0 (fR 3 0 0 0)) p).core 0).pc = 4 := by decide +kernel

/-- V format: VD, VS1, VS2, DT, FN. -/
def fV (vd vs1 vs2 dt fn : Nat) : BitVec 26 := BitVec.ofNat 26 (vd * 2 ^ 19 + vs1 * 2 ^ 15 + vs2 * 2 ^ 11 + dt * 2 ^ 8 + fn)

/-- Vectors with 32-bit lanes 5, 6 and 7 in v1 and 1, 2, 3 in v2. -/
def vecs (c : Core) : Core := (c.setV 1 (5 + 6 * 2 ^ 32 + 7 * 2 ^ 64)).setV 2 (1 + 2 * 2 ^ 32 + 3 * 2 ^ 64)

/-- Lane operations on INT32 (DT 2): the sum, the tree sum, the broadcast, the permutation and the shift (R175, Table 9.3). -/
theorem test_lanes :
    let a := coreSt 0x10 (fV 3 1 2 2 0) vecs
    let r := coreSt 0x13 (fV 3 1 0 2 0) vecs
    let b := coreSt 0x17 (fV 3 1 0 2 0) vecs
    let q := coreSt 0x17 (fV 3 1 2 2 1) vecs
    let m := coreSt 0x17 (fV 3 1 1 2 2) fun c => (vecs c).setG 1 1
    (atB 0x10 (fV 3 1 2 2 0) a = true ∧ ((after (.valu 0 (fV 3 1 2 2 0)) a).core 0).getV 3 = 6 + 8 * 2 ^ 32 + 10 * 2 ^ 64)
    ∧ (atB 0x13 (fV 3 1 0 2 0) r = true ∧ ((after (.vred 0 (fV 3 1 0 2 0)) r).core 0).getV 3 = 18)
    ∧ (atB 0x17 (fV 3 1 0 2 0) b = true ∧ lane (((after (.vperm 0 (fV 3 1 0 2 0)) b).core 0).getV 3) 32 15 = 5)
    ∧ (atB 0x17 (fV 3 1 2 2 1) q = true ∧ lane (((after (.vperm 0 (fV 3 1 2 2 1)) q).core 0).getV 3) 32 0 = 6)
    ∧ (atB 0x17 (fV 3 1 1 2 2) m = true ∧ lane (((after (.vperm 0 (fV 3 1 1 2 2)) m).core 0).getV 3) 32 2 = 6
        ∧ lane (((after (.vperm 0 (fV 3 1 1 2 2)) m).core 0).getV 3) 32 0 = 0) := by decide +kernel

/-- VLD and VST at the last 64 bytes; VCVT INT32 to INT32; VSPEC runs; VACC moves a quarter row (R175). -/
theorem test_vector_moves :
    let w : BitVec 26 := BitVec.ofNat 26 (3 * 2 ^ 19 + 1 * 2 ^ 14)
    let l := coreSt 0x11 w fun c => { c.setG 1 0x1FFFC0 with home := [(0x1FFFC0, 9)] }
    let s := coreSt 0x12 w fun c => (c.setG 1 0x1FFFC0).setV 3 0x1234
    let cv := coreSt 0x14 (fV 3 1 0 2 2) vecs
    let sp := coreSt 0x15 (fV 3 1 0 7 0) vecs
    let rd := coreSt 0x16 (fV 3 1 0 2 0) fun c => (c.setG 1 0).setA 0 0x55 none
    let wr := coreSt 0x16 (fV 3 1 0 2 1) fun c => (c.setG 1 0).setV 3 0x66
    (atB 0x11 w l = true ∧ (l.core 0).inScratch 0x1FFFC0 64 = true ∧ ((after (.vld 0 w .clean) l).core 0).getV 3 = 9)
    ∧ (atB 0x12 w s = true ∧ ((after (.vst 0 w) s).core 0).home = [(0x1FFFC0, 0x34), (0x1FFFC1, 0x12)])
    ∧ (atB 0x14 (fV 3 1 0 2 2) cv = true ∧ lane (((after (.vcvt 0 (fV 3 1 0 2 2)) cv).core 0).getV 3) 32 1 = 6)
    ∧ (atB 0x15 (fV 3 1 0 7 0) sp = true ∧ ((after (.vspec 0 (fV 3 1 0 7 0)) sp).core 0).pc = 4)
    ∧ (atB 0x16 (fV 3 1 0 2 0) rd = true ∧ ((after (.vacc 0 (fV 3 1 0 2 0)) rd).core 0).getV 3 = 0x55)
    ∧ (atB 0x16 (fV 3 1 0 2 1) wr = true ∧ ((after (.vacc 0 (fV 3 1 0 2 1)) wr).core 0).getA 0 = 0x66) := by decide +kernel

/-- The FP32 values nearest to e, -1/100, 1/2 (RSQRT of 4), 0 (TANH of 0) and 1/2 (SIGMOID of 0), which VSPEC stays within 2 units of (R175). -/
theorem test_special_values : ∀ x ∈ [(0, 0x3F800000, 0x402DF854), (1, 0xC2C80000, 0xBC23D70A), (2, 0x40800000, 0x3F000000), (3, 0, 0), (4, 0, 0x3F000000)],
    (specialReal x.1 (Fl.ofBits fFp32 x.2.1)).map (fun t => ratBits fFp32 t.1 t.2.1 t.2.2) = some x.2.2 := by decide +kernel

/-- T format: TD, TS, TT, RS1, RS2, FN. -/
def fT (td ts tt rs1 rs2 fn : Nat) : BitVec 26 := BitVec.ofNat 26 (td * 2 ^ 20 + ts * 2 ^ 17 + tt * 2 ^ 14 + rs1 * 2 ^ 9 + rs2 * 2 ^ 4 + fn)

/-- The tile instructions without a packet join the tile queue (R176, R178). -/
theorem test_tile_issue : ∀ x ∈ ([(0x18, fT 1 0 0 1 0 0, .tld 0 (fT 1 0 0 1 0 0) .clean), (0x19, fT 0 1 0 1 0 0, .tst 0 (fT 0 1 0 1 0 0)),
      (0x1F, fT 1 0 0 0 0 1, .tmov 0 (fT 1 0 0 0 0 1)), (0x20, fT 0 1 2 0 0 0, .tmma 0 (fT 0 1 2 0 0 0)), (0x21, fT 0 0 0 0 0 0, .tzero 0 (fT 0 0 0 0 0 0)),
      (0x22, fT 1 0 0 1 0 0, .tpack 0 (fT 1 0 0 1 0 0)), (0x23, fT 0 1 0 0 0 0, .tunpack 0 (fT 0 1 0 0 0 0)), (0x24, fT 1 2 0 0 0 0, .txp 0 (fT 1 2 0 0 0 0))] :
      List (Nat × BitVec 26 × Instr)),
    let s := coreSt x.1 x.2.1 (regs 0x1FF000 0 0)
    let c := (after x.2.2 s).core 0
    atB x.1 x.2.1 s = true ∧ (s.core 0).inScratch 0x1FF000 4096 = true ∧ c.tq.map (·.op.toNat) = [x.1] ∧ c.pc = 4 := by decide +kernel

/-- A TMOV ends: the tile is copied and the operation leaves the queue; TSTAT reads a status (R178). -/
theorem test_tile_end :
    let o : TileOp := { id := 0, op := 0x1F, td := 2, ts := 1, tt := 0, fn := 0, a := 0, b := 0, buf := 0, worst := none }
    let s := coreSt 0x1E (fT 0 1 0 3 0 0) fun c => { c with tq := [o], t := c.t.set 1 0x42 }
    let t := coreSt 0x1E (fT 0 1 0 3 0 0) fun c => c.setTst 1 0x14
    s.tileReady 0 0 o = true ∧ ((after (.tileComplete 0) s).core 0).getT 2 = 0x42 ∧ ((after (.tileComplete 0) s).core 0).tq = []
      ∧ atB 0x1E (fT 0 1 0 3 0 0) t = true ∧ (t.core 0).tilePending 1 = false ∧ ((after (.tstat 0 (fT 0 1 0 3 0 0)) t).core 0).getG 3 = 0x14 := by decide +kernel

/-- Cores 0 and 1 carry the numbers 0 and 1 of graph 0, whose plan gives 0 four credits for 1; core 0 runs one word. -/
def pairSt (op : Nat) (w : BitVec 26) (f : Core → Core) : State :=
  let s := coreSt op w fun c => f { c with graph := some 0 }
  let s := setGraph 0 (fun g => { g with state := .running, cores := [0, 1], plan := some { credits := [(1, 0, 8)] } }) s
  let s := { s with grid := { s.grid with role := (s.grid.role.set 0 (.mapped 0)).set 1 (.mapped 1) } }
  setNi 0 (fun x => { x with credits := [(1, 4)] }) s

/-- TGET, TPUT, TUGET and TUPUT issue their requests (R176, R184). -/
theorem test_remote_tiles : ∀ x ∈ ([(0x1A, fT 1 0 0 1 2 0, .tget 0 (fT 1 0 0 1 2 0), 1), (0x1B, fT 0 1 0 1 2 0, .tput 0 (fT 0 1 0 1 2 0), 8),
      (0x1C, fT 1 0 0 1 0 0, .tuget 0 (fT 1 0 0 1 0 0), 1), (0x1D, fT 0 1 0 1 0 0, .tuput 0 (fT 0 1 0 1 0 0), 8)] : List (Nat × BitVec 26 × Instr × Nat)),
    let s := pairSt x.1 x.2.1 (regs 1 0x1FF000 0)
    let t := after x.2.2.1 s
    atB x.1 x.2.1 s = true ∧ s.destOk 0 1 = true ∧ (s.ni (coreNi 0)).redirect 1 = none ∧ (t.ni (coreNi 0)).reqs.length = x.2.2.2
      ∧ (t.core 0).tq.length = 1 ∧ (t.core 0).pc = 4 := by decide +kernel

/-- M format: RD, RS1, RS2, MB, LEN, NB. -/
def fM (rd rs1 rs2 mb len nb : Nat) : BitVec 26 := BitVec.ofNat 26 (rd * 2 ^ 18 + rs1 * 2 ^ 13 + rs2 * 2 ^ 8 + mb * 2 ^ 5 + len * 2 + nb)

/-- SEND, a SEND that finds no credit, SENDM, RECV, AMO and RDCRED (R181..R185). -/
theorem test_messages :
    let sd := pairSt 0x28 (fM 3 1 2 0 0 1) (regs 1 0x1FF000 0)
    let no := setNi 0 (fun x => { x with credits := [(1, 0)] }) sd
    let sm0 := pairSt 0x29 (fM 4 1 2 0 0 0) (regs 0 0x1FF000 0)
    let sm := setNi 0 (fun x => { x with mcast := x.mcast.set 0 (some ([1], 1)) }) sm0
    let rv := pairSt 0x2A (fM 3 0 2 1 0 0) fun c => { regs 0 0x1FF000 0 c with mbox := 2, box := c.box.set 1 [{ src := 1, len := 0, mb := 1, body := 0x99 }] }
    let am := pairSt 0x2C (fM 3 1 2 0 0 0) (regs 1 0x100 0)
    let rc := pairSt 0x2D (fM 3 1 0 0 0 0) (regs 1 0 0)
    (atB 0x28 (fM 3 1 2 0 0 1) sd = true ∧ sd.destOk 0 1 = true ∧ sd.hasCredit (coreNi 0) 1 = true
        ∧ ((after (.send ⟨0, .clean⟩ (fM 3 1 2 0 0 1)) sd).ni (coreNi 0)).reqs.map (fun r => (r.dst, r.pkt.cmd)) = [(1, 0x80)])
    ∧ (no.hasCredit (coreNi 0) 1 = false ∧ ((after (.send ⟨0, .clean⟩ (fM 3 1 2 0 0 1)) no).core 0).getG 3 = 0x13)
    ∧ (atB 0x29 (fM 4 1 2 0 0 0) sm = true ∧ (sm.ni (coreNi 0)).mcast[0]? = some (some ([1], 1))
        ∧ ((after (.sendm ⟨0, .clean⟩ (fM 4 1 2 0 0 0)) sm).core 0).mc = [(4, 0, 1)])
    ∧ (atB 0x2A (fM 3 0 2 1 0 0) rv = true ∧ ((after (.recv 0 (fM 3 0 2 1 0 0)) rv).core 0).getG 3 = 0x4001
        ∧ ((after (.recv 0 (fM 3 0 2 1 0 0)) rv).core 0).home = [(0x1FF000, 0x99)])
    ∧ (atB 0x2C (fM 3 1 2 0 0 0) am = true ∧ ((after (.amo 0 (fM 3 1 2 0 0 0)) am).core 0).pBusy = true)
    ∧ (atB 0x2D (fM 3 1 0 0 0 0) rc = true ∧ ((after (.rdcred 0 (fM 3 1 0 0 0 0)) rc).core 0).getG 3 = 4) := by decide +kernel

/-! ### Supplies, clocks, the calendar -/

/-- Straps as a board may set them. -/
def straps : Straps := { gpio0 := true, gpio1 := false, gpio2 := true, vselA := false, vselB := true, testen := false, vioAHigh := true, vioBHigh := true }

/-- POR_N, rails and the supply (R38..R41, R445): the filter's bounds, the last rail's return, the straps, a bank kept off (R47). -/
theorem test_supplies :
    let low := { dev with gen := { dev.gen with low := [.vcore] } }
    let two := { dev with gen := { dev.gen with low := [.vcore, .vsram] } }
    let t := after (.powerOnReset straps) dev
    t.gen.xtalExt = true ∧ t.gen.pmicAddr = 2 ∧ t.gen.vioAErr = true ∧ t.gen.vioBErr = false ∧ t.clk.tempo = 0 ∧ (t.sap[0]).bankOff = true ∧ t.dbg.seq = 1
      ∧ (after (.porNLowPulse 2300 straps) dev).clk.tempo = 0 ∧ (after (.porNLowPulse 1800 straps) dev).clk.tempo = 1000000000
      ∧ (after (.railUndervoltage .vcore) dev).powered = false ∧ (after (.railRecovered .vcore straps) low).powered = true
      ∧ (after (.railRecovered .vcore straps) two).gen.low = [.vsram] ∧ (after .supplyLoss dev).gen.off = true
      ∧ (after .vrtcFirstApply (after .supplyLoss { dev with hlt := { dev.hlt with optime := 5 } })).hlt.optime = 0 := by decide +kernel

/-- PERST_N takes the link and the rings down and lets the configuration space come back (R42, R301, R329). -/
theorem test_perst :
    let t := after .perstNAssert dev
    dev.powered = true ∧ dev.gen.perstN = true ∧ t.hif.speed = 0 ∧ (t.hif.ring[0]).en = false ∧ t.boot.cfgReady = false ∧ t.boot.fw = .running
      ∧ t.gen.perstN = false ∧ (after .perstNDeassert t).boot.cfgReady = true := by decide +kernel

/-- Without power a command stands (R36). -/
theorem test_unpowered :
    let s := after .supplyLoss dev
    s.powered = false ∧ Instr.alwaysOn .tempoLoss = false ∧ (after .tempoLoss s).clk.tempoLoss = false := by decide +kernel

/-- Clock losses and their ends (R57, R58). -/
theorem test_clocks :
    let l := after .tempoLoss dev
    let r := after (.tempoRelock 7) l
    let late := { r with clk := { r.clk with tempo := 1010000000 } }
    let f := after .safeOscFault dev
    dev.clk.pllLock = true ∧ l.safe = true ∧ l.faultN = true ∧ l.holds.clockSafe = true ∧ l.clk.pllLock = false ∧ r.clk.pllLock = true
      ∧ (r.dbg.newest.map fun e => (e.code, e.arg0, e.arg1)) = some (0x02, 0, 7) ∧ r.clk.relockAt + 10 * ms ≤ late.clk.tempo
      ∧ (after .clockSafeClear late).safe = false ∧ (after .xtal32kLoss { dev with rtc := { dev.rtc with valid := true } }).rtc.valid = false
      ∧ (after .xtal32kResume (after .xtal32kLoss dev)).clk.xtal32kRun = true ∧ f.faultN = true ∧ (after .safeOscRecover f).faultN = false := by decide +kernel

/-- A ZMUTE ball holds its zone until it is released (R52): GPIO_5 carries the function of zone 1. -/
theorem test_zmute :
    let s := { dev with gen := { dev.gen with gpioFunc := 2 * 2 ^ 10 } }
    let h := after (.zmuteHoldPlace 1) s
    s.pinFunc 5 = 2 ∧ h.held 1 = true ∧ (after (.zmuteHoldRelease 1) h).held 1 = false := by decide +kernel

/-- Capture, MISS, a software trigger, and a read of HI that frees the channel (R61). -/
theorem test_capture :
    let s := { dev with clk := { dev.clk with cap := dev.clk.cap.set 2 { src := 16 } } }
    let t := after (.captureEvent 16 false) s
    capSource 16 = true ∧ (t.clk.cap[2]).valid = true ∧ ((after (.captureEvent 16 false) t).clk.cap[2]).miss = 1
      ∧ dev.mayWrite .host = true ∧ ((after (.trig .host 3 0x81) dev).clk.cap[3]).valid = true
      ∧ ((after (.tmpCapHiRead .host 2) t).clk.cap[2]).valid = false := by decide +kernel

/-- A compare target at the present Tempo matches at once, and one ahead waits for it (R62). -/
theorem test_compare :
    let lo_ := after (.tmpCmpLoWrite .host 1 1000000000) dev
    let at_ := after (.compareArm .host 1 3) (after (.tmpCmpHiWrite .host 1 0 none) lo_)
    let ahead := after (.compareArm .host 1 3) (after (.tmpCmpHiWrite .host 1 0 (some 1000000001)) dev)
    let due := { ahead with clk := { ahead.clk with tempo := 1000000001 } }
    (lo_.clk.cmp[1]).staged[Src.ix .host] = some 1000000000 ∧ (at_.clk.cmp[1]).match_ = true ∧ (at_.clk.cmp[1]).late = true ∧ (at_.clk.cmp[1]).arm = false
      ∧ (ahead.clk.cmp[1]).arm = true ∧ (ahead.clk.cmp[1]).match_ = false ∧ ((after (.compareMatch 1) due).clk.cmp[1]).match_ = true
      ∧ ((after (.compareMatch 1) due).clk.cmp[1]).late = false ∧ asserted (after (.compareMatch 1) due) 23 = true := by decide +kernel

/-- The pair of Tempo: LO as bytes, HI latched for the host alone (R307). -/
theorem test_pair :
    let s := { dev with clk := { dev.clk with tempo := 0x300000004 } }
    let t := after (.atomicPairLoRead .host .tmpNow) s
    s.canAccess .host = true ∧ reaches .host 0x40000 = true ∧ readNow .host 0x40000 s = some 4 ∧ readNow .host 0x40004 s = some 3
      ∧ t.hif.rdata = [4, 0, 0, 0] ∧ t.latched .host .tmpNow = some 3 ∧ t.latched .spv .tmpNow = none := by decide +kernel

/-- The end of a common year's February, of a leap year's, and of the range (R64, R65, R68). -/
theorem test_calendar_edges :
    (({ year := 2100, month := 2, day := 28, hour := 23, minute := 59, second := 59, sub := 1023 } : Cal).next = { year := 2100, month := 3, day := 1 })
    ∧ (({ year := 2000, month := 2, day := 28, hour := 23, minute := 59, second := 59, sub := 1023 } : Cal).next = { year := 2000, month := 2, day := 29 })
    ∧ (({ year := 2000 } : Cal).ok = true ∧ ({ year := 2000 } : Cal) ≠ Cal.last)
    ∧ (let s := { dev with rtc := { dev.rtc with now := Cal.last } }
       let t := after .rtcTick s
       t.rtc.now = Cal.last ∧ t.rtc.range = true ∧ t.rtc.rangeEvt = true ∧ asserted t 23 = true ∧ (after .rtcTick t).rtc.now = Cal.last) := by decide +kernel

/-- A value staged by the host, its commit, its tick after the epoch; without XTAL32K; BAD_DATE (R66, R67). -/
theorem test_commit :
    let v : Cal := { year := 2026, month := 7, day := 1, hour := 12 }
    let s := { dev with rtc := { dev.rtc with stageTime := dev.rtc.stageTime.set 0 (calTime v), stageDate := dev.rtc.stageDate.set 0 (calDate v) } }
    let q := after (.commit .host 1) s
    let late := fun (t : State) => { t with clk := { t.clk with tempo := 1000010000 } }
    Src.ix .host = 0 ∧ (calOf (calTime v) (calDate v)) = v ∧ q.rtc.queued.map (·.value) = some v ∧ (after .rtcTick (late q)).rtc.now = v
      ∧ (after .rtcTick (late q)).rtc.valid = true ∧ ((after (.commit .host 1) q).rtc.preempt[Src.ix .host]) = true
      ∧ (after .rtcCommitNoClock (late (after .xtal32kLoss q))).rtc.now = v ∧ (after .rtcCommitNoClock (late (after .xtal32kLoss q))).rtc.valid = false
      ∧ (calOf 0 0).ok = false ∧ (after (.commit .host 1) dev).rtc.badDate = true := by decide +kernel

/-- The supervisor's commit replaces the host's of the same epoch (R67). -/
theorem test_commit_supervisor :
    let v : Cal := { year := 2026, month := 7, day := 1, hour := 12 }
    let s := { dev with rtc := { dev.rtc with
      stageTime := (dev.rtc.stageTime.set (Src.ix .spv) (calTime v)), stageDate := (dev.rtc.stageDate.set (Src.ix .spv) (calDate v))
      queued := some { src := .host, at_ := 1000000000, value := {} } } }
    let t := after (.commit .spv 1) s
    s.mayWrite .spv = true ∧ t.rtc.queued.map (·.src) = some .spv ∧ t.rtc.preempt[Src.ix .host] = true := by decide +kernel

/-- The alarm is checked when it is armed, and fires at the first tick at or past it (R69). -/
theorem test_alarm :
    let a : Cal := { year := 2000, month := 1, day := 1, second := 1 }
    let s := { dev with rtc := { dev.rtc with alarmTime := calTime a, alarmDate := calDate a } }
    let m := after (.alarmArm .host 2) s
    let due := { m with rtc := { m.rtc with now := { year := 2000, second := 0, sub := 1023 } } }
    m.rtc.alarmArm = true ∧ (after .rtcTick m).rtc.alarm = false ∧ (after .rtcTick due).rtc.alarm = true ∧ (after .rtcTick due).rtc.alarmArm = false
      ∧ (after .rtcTick due).rtc.corrSeq = 1 ∧ (after (.alarmArm .host 2) dev).rtc.badDate = true := by decide +kernel

/-- RTC_GET, RTC_SET and RTC_ALARM (R356): 2026-07-01 12:00:00, and words that are no date. -/
theorem test_rtc_commands :
    let v : Cal := { year := 2026, month := 7, day := 1, hour := 12 }
    let ok := devCmd 0x70 [calTime v, calDate v]
    let bad := devCmd 0x70 [0, 0]
    let al := devCmd 0x72 [calTime v, calDate v, 1]
    hostB 0x71 (devCmd 0x71 []) dev = true ∧ (resv (devCmd 0x71 []) []).1 = false ∧ answers .rtcGet (devCmd 0x71 []) dev = (0, [calTime {}, calDate {}, 0, 0])
      ∧ hostB 0x70 ok dev = true ∧ (resv ok [(2, 0x7FFFFFF), (3, 0x1FFFFF)]).1 = false ∧ ((after .rtcSet (queued ok dev)).rtc.queued.map (·.value)) = some v
      ∧ ((after .rtcSet (queued ok dev)).hif.waits.map (·.on)) = [.rtc] ∧ (answers .rtcSet bad dev).1 = 0x1B
      ∧ hostB 0x72 al dev = true ∧ (answers .rtcAlarm al dev).1 = 0 ∧ (after .rtcAlarm (queued al dev)).rtc.alarmArm = true
      ∧ (answers .rtcAlarm (devCmd 0x72 [0, 0, 1]) dev).1 = 0x1B := by decide +kernel

/-! ### Audio -/

/-- A port changed. -/
def withSap (p : Fin 8) (f : Sap → Sap) (s : State) : State := { s with sap := modAt s.sap p f }

/-- The word x in slot k, zeros elsewhere. -/
def slotsOf (x : Word) : Vector Word 16 := Vector.ofFn fun k => if k.1 = 0 then x else 0

/-- A frame joins the block of an input; an output drives its slots; a FAULTED port runs again; a stopping port stops (R78, R79, R93, R98). -/
theorem test_port_frame :
    let inp := withSap 0 (fun x => { x with state := .running, win := firstWin 1000000000 }) dev
    let out := withSap 0 (fun x => { x with state := .running, cfg := 0x14, win := firstWin 1000000000 }) dev
    let t := after (.sapFrame 0 .onTime 7 (slotsOf 0x12340000)) inp
    let e := after (.sapFrame 0 (.early 1) 7 (slotsOf 0)) inp
    let f := withSap 0 (fun x => { x with state := .faulted }) dev
    let z := withSap 0 (fun x => { x with state := .running, stopping := true }) dev
    (t.sap[0]).blk = [[0x12340000]] ∧ (t.sap[0]).phase = 7 ∧ (t.sap[0]).frameErr = 0 ∧ (t.sap[0]).win.edges = 1 ∧ (t.sap[0]).lastEdge = some 1000000000 ∧ (e.sap[0]).frameErr = 1
      ∧ ((after (.sapFrame 0 .onTime 0 (slotsOf 0)) out).sap[0]).driven = [some 0, some 0]
      ∧ ((after (.sapFrame 0 .onTime 0 (slotsOf 0)) f).sap[0]).state = .running
      ∧ (z.sap[0]).stopping = true ∧ z.chansSilent 0 = true ∧ ((after (.sapFrame 0 .onTime 0 (slotsOf 0)) z).sap[0]).state = .stopped := by decide +kernel

/-- A target that loses its clock faults; its ASRC locks and unlocks (R98, R100, R101). -/
theorem test_port_clock :
    let s := withSap 3 (fun x => { x with state := .running, cls := 9, lastEdge := some 999000000 }) dev
    let l := after (.asrcLock 3) s
    let u := after (.asrcUnlock 3 { lost := 5, gained := 2 }) l
    ((after (.clkLoss 3) s).sap[3]).state = .faulted ∧ bit ((after (.clkLoss 3) s).sap[3]).irq 2 = true ∧ (l.sap[3]).locked = true
      ∧ (u.sap[3]).locked = false ∧ (u.sap[3]).slipDrop = 5 ∧ (u.sap[3]).slipIns = 2 ∧ (u.sap[3]).insBefore = 7 ∧ (u.sap[3]).unramp = 32 := by decide +kernel

/-- A block of one frame ends: SEQ goes on, the staged mask is in force, the map epoch steps once (R82, R90). -/
theorem test_block :
    let s := withSap 0 (fun x => { x with state := .running, block := 1, blk := [[0x77]], maskSt := some 3, nextSeq := 4, blkTs := 9 }) dev
    let t := after (.blockBoundary 0) s
    (s.sap[0]).b ≤ (s.sap[0]).blk.length ∧ (t.sap[0]).seq = 4 ∧ (t.sap[0]).nextSeq = 5 ∧ (t.sap[0]).mask = 3 ∧ (t.sap[0]).lastTs = 9 ∧ (t.sap[0]).blk = []
      ∧ (t.sap[0]).epoch = (if s.epochStep 0 then 1 else 0) ∧ (t.sap[0]).fifo = [(4, [0x77])] ∧ ((t.sap[0]).flight.map fun f => f.2.1.getLast?) = [some 0x77] := by decide +kernel

/-- A command that waits for a shadow past its time answers CONFIG_BUSY (R91). -/
theorem test_shadow_timeout :
    let w : Waiting := { cmd := devCmd 0x40 [], on := .shadow, deadline := 1000000000, res := res0 }
    let s := { dev with hif := { dev.hif with waits := [w] } }
    let t := after (.shadowCommitTimeout 0) s
    (answer t).1 = 0x14 ∧ t.hif.waits = [] := by decide +kernel

/-- A cabin frame feeds a synchronous output and takes from a synchronous input; a missed anti-noise sample counts (R86, R143). -/
theorem test_cabin_frame :
    let s := withSap 0 (fun x => { x with state := .running, sync := true, fifo := [(0, [1])] })
      (withSap 1 (fun x => { x with state := .running, sync := true, cfg := 0x14, fifo := [(0, [1])] }) { dev with fe := { dev.fe with rncOn := true } })
    let t := after (.cabinFrame (Vector.replicate 16 0) { rnc := none, spatial := none } true) s
    (t.sap[0]).fifo.length = 0 ∧ (t.sap[0]).cabin = [1] ∧ (t.sap[1]).fifo.length = 2 ∧ t.fe.miss = 1 := by decide +kernel

/-- 3000 intervals in 62.5 ms are 48 kHz, class 9; the second such window adopts it (R95, R96); four windows within 40 ns qualify (R102). -/
theorem test_rate_window :
    let w : RateWin := { start := 937500000, whole := true, edges := 3001, first := 937500000, last := 1000000000, phLo := 0, phHi := 40 }
    let s := withSap 0 (fun x => { x with state := .running, win := w }) dev
    let t := after (.rateWindowEnd 0 3001 62500000 0 40) s
    let u := after (.rateWindowEnd 0 3001 62500000 0 40) (withSap 0 (fun x => { x with win := w }) t)
    windowRate 3001 62500000 = 4800000 ∧ classOf 4800000 = 9 ∧ (t.sap[0]).lastCls = some 9 ∧ (t.sap[0]).cls = 0 ∧ (u.sap[0]).cls = 9
      ∧ (u.sap[0]).ratio = 0x100000000 ∧ bit (u.sap[0]).irq 0 = true ∧ (t.sap[0]).win = { start := 1000000000, whole := true }
      ∧ (let q := withSap 0 (fun x => { x with state := .running, win := w, cls := 9, lastCls := some 9, quals := [(0, 40), (0, 40), (0, 40)] }) dev
         ((after (.rateWindowEnd 0 3001 62500000 0 40) q).sap[0]).syncDue = some true) := by decide +kernel

/-- 6 dB of attenuation is a gain of 0.501187, 20 dB of 0.1, and a ramp's middle frame a half (R85, R113). -/
theorem test_gains : attenFloor 12 1000000 = 501187 ∧ attenFloor 40 1000 = 100 ∧ rampGain false 15 1000 = 500 ∧ rampGain true 31 7 = 7 ∧ rampGain false 31 7 = 0 := by
  decide +kernel

/-- A gate that finds no crossing in time ramps for 32 frames and closes (R113, Table 5.4). -/
theorem test_gate_times :
    let g : GateId := .chan 0 1
    let s := setGate g { st := .waitClose, n := 960, prev := 5 } dev
    let r := setGate g { st := .rampDown, n := 32 } dev
    let o := setGate g { st := .rampUp, n := 32, next := some false } dev
    (s.sap[0]).tacetFrames = 960 ∧ ((after (.tacetTimeout { gate := g, sample := 7 }) s).gate g).st = .rampDown ∧ ((after (.tacetTimeout { gate := g, sample := 7 }) s).sap[0]).tacetTo = 1 ∧ ((after (.tacetTimeout { gate := g, sample := -7 }) s).gate g).st = .waitClose
      ∧ ((after (.rampEnd g) r).gate g).st = .closed ∧ ((after (.rampEnd g) o).gate g).st = .waitClose := by decide +kernel

/-! ### The photonic sections -/

/-- Four sections in service with every ring and row, S2 and S3 on. -/
def lit : State :=
  { dev with pma := { dev.pma with
      lit := 0x1FFFF, s23 := 2
      sect := Vector.replicate 4 { ringsOk := 0x3FFFF, rows := 0x1FFFF, carriers := List.range 16, ready := true, ebCal := 20, gapAt := 950 * ms } } }

/-- A section changed. -/
def withSect (i : Fin 4) (f : Sect → Sect) (s : State) : State := setSect i f s

/-- Intonation of S0 with a dead laser and with 7 rows: the section is ready, or retires (R118, R119). -/
theorem test_intonation :
    let s := { dev with pma := { dev.pma with intoning := true } }
    let r : IntonationResult := { deadLasers := 1, chans := 0x3FFFF, rows := 0x1FFFF, ebCal := 25, bad := [] }
    let t := after (.intonationSectionDone 0 r) s
    let few := after (.intonationSectionDone 0 { r with rows := 0x7F }) s
    s.pma.intoning = true ∧ (s.sect 0).ready = false ∧ (t.sect 0).ready = true ∧ (t.sect 0).ebCal.toNat ≤ 21 ∧ t.pma.dead = 1 ∧ (t.sect 0).retired = false
      ∧ t.lanes 0 = 16 ∧ (t.sect 0).carriers = (List.range 16).map (· + 1) ∧ (few.sect 0).retired = true ∧ t.pma.intoning = true := by decide +kernel

/-- Rotation of S0, then S1 250 ms after it, and gap steps of S2 (R130, R131): a ring of the column or of the four rows is out of lock. -/
theorem test_calibration :
    let ring : PmaRing := { sec := 0, chan := 0, row := some 9 }
    let row : PmaRing := { sec := 2, chan := 5, row := some 3 }
    let r := after (.rotationStep 0) lit
    let b := after (.rotationReturn 0 18 [ring, { ring with chan := 1 }]) r
    let s1 := after (.rotationStep 1) { r with clk := { r.clk with tempo := 1250 * ms } }
    let g := after (.gapStepStart 2) lit
    let e := after (.gapStepEnd 2 18 [row, { row with row := some 4 }]) g
    let j : Job := { desc := Vector.replicate 8 0, cmd := none, core := none, woke := false, delayed := false, loaded := false, start := 0, lanes := 16 }
    let late := withSect 2 (fun x => { x with gapAt := 0, queue := [j] }) lit
    let f := after (.forcedGapStep 2) late
    lit.inService 0 = true ∧ lit.rotChan 0 = 16 ∧ lit.rotLane 0 = 0 ∧ (r.sect 0).rotating = some 0 ∧ r.rotOwn 0 = some 0 ∧ (b.sect 0).rotating = none
      ∧ (b.sect 0).steps = 1 ∧ b.pma.retuning = [ring] ∧ (b.sect 0).rotNext = 1 ∧ (s1.sect 1).rotating = some 0
      ∧ ((after (.rotationStep 1) r).sect 1).rotating = none
      ∧ (b.sect 0).lastCal = 1000000000 ∧ (b.sect 0).ebCal = 18 ∧ lit.s23On = true ∧ (g.sect 2).gap = true ∧ (e.sect 2).gap = false
      ∧ bit e.pma.irq 6 = true ∧ e.pma.retuning = [row] ∧ (f.sect 2).forced = 1 ∧ (f.sect 2).queue.map (·.delayed) = [true]
      ∧ late.canRun 2 = false := by decide +kernel

/-- A ring out of lock relocks or fails; a row fault of an idle S2 brings in the spare row at once (R120, R133). -/
theorem test_rings :
    let r : PmaRing := { sec := 0, chan := 4, row := none }
    let l := after (.ringLockLoss r) lit
    let ok := after (.ringReintoneDone r true) l
    let no := after (.ringReintoneDone r false) l
    let w := after (.rowFault 2 3) lit
    l.pma.retuning = [r] ∧ ok.pma.retuning = [] ∧ ok.hlt.units.length = 1 ∧ bit ok.hlt.irq 0 = true ∧ bit (no.sect 0).ringsOk 4 = false
      ∧ no.hlt.permanent.map (·.1) = [ringUnit r] ∧ bit (w.sect 2).rows 3 = false ∧ ((after (.rowFault 0 3) lit).sect 0).rowDue = some 3 := by decide +kernel

/-- A failed laser hands its lanes to the standby one (R134), the other lanes stay; the next goes to the rotation spare, S0 keeping one
channel for rotation (R117); a regained lock is a strike (R402). -/
theorem test_lasers :
    let f := after (.laserFail 2) lit
    let d := after .laserSwitchDone f
    let f2 := settleSect 0 (after (.laserFail 9) d)
    bit (BitVec.ofNat 18 lit.laserLanes) 2 = true ∧ bit lit.pma.lit 17 = false ∧ bit f.pma.dead 2 = true
      ∧ (f.sect 0).carriers[2]? = some 17 ∧ (f.sect 0).carriers[3]? = some 3 ∧ (lit.sect 0).carriers.eraseDups.length = 16 ∧ lit.rotOwn 0 ≠ some 2
      ∧ f.pma.switching.map List.length = [4] ∧ f.rotChan 0 = 16 ∧ d.pma.switching = [] ∧ bit d.pma.lit 17 = true
      ∧ f2.lanes 0 = 15 ∧ f2.lanes 2 = 16 ∧ (f2.sect 0).carriers[9]? = some 16 ∧ f2.rotChan 0 = 15 ∧ bit f2.pma.irq 1 = true
      ∧ (after (.laserWavelengthLockRegained 5) lit).hlt.units.map (·.unit) = [unit uLaser 5] := by decide +kernel

/-- S2 and S3 go idle and wake (R129). -/
theorem test_s23 :
    let i := after .s23IdleTimeout lit
    let w := after .s23WakeDone { lit with pma := { lit.pma with s23 := 1 } }
    lit.pma.idleAt + 50 * ms ≤ lit.clk.tempo ∧ i.pma.s23 = 3 ∧ i.fab.belays.map (·.off) = [true] ∧ w.pma.s23 = 2 ∧ w.pma.idleAt = 1000000000 := by decide +kernel

/-- A job of PMA_JOB: N = 16, V = 1 on S2 (R127, Table 6.3) is queued, and reads the tiles of its matrix and its inputs as it starts. -/
theorem test_job :
    let c := devCmd 0xB2 [16 * 2 ^ 8, 1, 0x1000, 0, 0x2000, 0, 0x3000, 0]
    let q := after .pmaJob (queued c lit)
    let r := after (.pmaJobRun 2) q
    hostB 0xB2 c lit = true ∧ (resv c ((List.range 8).map fun k => (2 + k, -1))).1 = false ∧ (validateJob lit (cJob c)).toOption = some [2]
      ∧ q.hif.waits.map (·.on) = [.job] ∧ (q.sect 2).queue.length = 1 ∧ q.canRun 2 = true ∧ (r.sect 2).queue = [] ∧ (r.sect 2).running.isSome = true
      ∧ (r.ni (svcNi 0)).reqs.map (fun r => (r.owner, r.pkt.addr.toNat)) = [(.pmaRead 0, 0x1000), (.pmaRead 0, 0x2000)]
      ∧ ((after (.pmaJobComplete 2) r).sect 2).running.map (·.result) = some none := by decide +kernel

/-- A running job of S2 by its descriptor. -/
def jobSt (d : List Word) (res : Option (Nat × Nat × Nat × Bool)) : State :=
  let j : Job := { desc := Vector.ofFn fun i => d.getD i.1 0, cmd := none, core := none, woke := false, delayed := false, loaded := true, start := 0
                   lanes := 16, result := res }
  withSect 2 (fun x => { x with running := some j }) lit

/-- With its tiles read the passes of a job end (R124, R128): the result of one vector is on its way; once it is written the job is over. -/
theorem test_job_ends :
    let d : List Word := [16 * 2 ^ 8, 1, 0x1000, 0, 0x2000, 0, 0x3000, 0]
    let p := jobSt d none
    let e := jobSt d (some (0, 1, 10, false))
    let t := after (.pmaJobComplete 2) e
    p.pma.switching = [] ∧ p.jobOpen 0 = false ∧ p.powered = true ∧ (t.sect 2).running = none ∧ (t.sect 2).jobs = 1 := by decide +kernel

/-- A job message of core 0 to the PMA bridge (R123, R182). -/
theorem test_bridge_job :
    let p : Packet := { blank with cmd := 0x80, src := 0, body := (16 * 2 ^ 8 + 2 ^ 32 + 0x1000 * 2 ^ 64 + 0x2000 * 2 ^ 128 + 0x3000 * 2 ^ 192) }
    let s := { lit with grid := { lit.grid with role := lit.grid.role.set 0 (.mapped 0) } }
    let s := setNi (svcNi 0) (fun x => { x with rx := [p] }) s
    let t := after .pmaBridgeJob s
    s.firstRx (svcNi 0) 0x80 = some p ∧ s.nodeOf 0 = some 0 ∧ (t.sect 2).queue.map (·.core) = [some (0, 0)] := by decide +kernel

/-- PMA_CAL and PMA_STATUS (R362). -/
theorem test_pma_commands :
    let c := devCmd 0xB0 [100 + 2 ^ 18]
    let q := devCmd 0xB1 [2]
    hostB 0xB0 c lit = true ∧ (resv c [(2, 0xF03FF)]).1 = false ∧ (answers .pmaCal c lit).1 = 0 ∧ (after .pmaCal (queued c lit)).pma.idleMs = 100
      ∧ ((after .pmaCal (queued c lit)).sect 2).calDue = true ∧ hostB 0xB1 q lit = true ∧ (resv q [(2, 3)]).1 = false ∧ (answers .pmaStatus q lit).1 = 0 := by decide +kernel

/-! ### Front end, grid, repair -/

/-- RNC moves to FE4 and FE5 when S0 is not in service; a hop gives the seats their decision (R145, R149). -/
theorem test_front_end :
    let s := { dev with fe := { dev.fe with rncOn := true, rncPath := 1, loaded := true, cfgSt := some (5, Vector.replicate 16 1) } }
    let t := after .rncPathMove s
    let o := { s with sess := { s.sess with open_ := true, occupied := 3 }, fe := { s.fe with sepPath := 1, hopFrames := 192 } }
    let h := after (.separationHop 5 0) o
    s.rncPathNow = 2 ∧ t.fe.rncPath = 2 ∧ (t.dbg.newest.map (·.code)) = some 0xFF ∧ o.hubOn = true ∧ h.fe.vad = 1 ∧ h.fe.cfgSt = none ∧ h.fe.kSep = 5 := by decide +kernel

/-- A grid of width 256 with anchor row 7: node 0 carries the number 0, node 1 is a spare, and node 135 carries FE0's number. -/
def grid : State :=
  { dev with grid := { dev.grid with
      width := 256, anchorY := 7
      role := ((((Vector.replicate 288 .retired).set 0 (.mapped 0)).set 135 (.mapped 248)).set 1 .spare).set 136 .spare } }

/-- A compute core's number goes to the nearest spare (R160). -/
theorem test_core_replace :
    let a := { grid with grid := { grid.grid with toReplace := [0] } }
    let t := after (.coreReplace 0) a
    a.logicalOf 0 = some 0 ∧ a.spareFor (nodeY 0) = some 1 ∧ t.logicalOf 1 = some 0 ∧ t.grid.toReplace = [] := by decide +kernel

/-- A front-end core's number goes to a spare of the anchor row (R161). -/
theorem test_fe_replace :
    let b := { grid with grid := { grid.grid with toReplace := [248] } }
    nodeY 135 = 7 ∧ b.logicalOf 135 = some 248 ∧ (after (.coreReplace 135) b).logicalOf 136 = some 248 := by decide +kernel

/-- Where the anchor row has no spare, to its last compute core, whose number goes to a spare (R161). -/
theorem test_fe_replace_twice :
    let c := { grid with grid := { grid.grid with
      toReplace := [248], role := ((grid.grid.role.set 136 (.mapped 247)).set 0 .retired) } }
    let t := after (.coreReplace 135) c
    c.lastCompute = some (136, 247) ∧ c.spareFor (nodeY 136) = some 1 ∧ t.logicalOf 136 = some 248 ∧ t.logicalOf 1 = some 247 := by decide +kernel

/-- FE0..FE7 move to row 8 (R161). -/
theorem test_anchor_move :
    let s := { grid with grid := { grid.grid with anchorDue := some 8 }, fe := { grid.fe with frozen := true } }
    let t := after .anchorRowMove s
    (s.healthyRow 8)[0]? = some 144 ∧ t.grid.anchorY = 8 ∧ t.logicalOf 144 = some 248 ∧ t.fe.frozen = false := by decide +kernel

/-- Where the designated row would displace more numbers than spares remain, the width drops (R162). -/
theorem test_anchor_narrow :
    let s := { grid with grid := { grid.grid with anchorDue := some 8, role := (((grid.grid.role.set 136 .retired).set 1 .retired).set 144 (.mapped 1)).set 145 (.mapped 2) } }
    let t := after .anchorRowMove s
    s.spares = [] ∧ s.isFe 135 = true ∧ ((s.healthyRow 8).take 8).take 2 = [144, 145] ∧ t.grid.width < 256 ∧ t.grid.anchorDue = none := by decide +kernel

/-- Graph 0 on core 0, paused at PITCH with a staged plan. -/
def paused : State :=
  let s := setCore 0 (fun c => { c with run := .paused, atPitch := true, graph := some 0, entry := 3, scratch := 1 }) grid
  setGraph 0 (fun x => { x with state := .running, cores := [0], stagedPlan := some {} }) s

/-- The switch starts epoch 1 at ENTRY (R165, R166). -/
theorem test_switch :
    let t := after (.programSwitch 0) paused
    paused.allPaused 0 = true ∧ (t.grid.graph[0]).epoch = 1 ∧ (t.grid.graph[0]).stagedPlan = none ∧ (t.core 0).run = .running ∧ (t.core 0).pc = 12
      ∧ (t.core 0).getG 2 = 1 := by decide +kernel

/-- PITCH flips the slot of a LISTENING stream of the graph (R282), and pauses the core where a boundary is awaited (R165). -/
theorem test_pitch :
    let w : BitVec 26 := fR 0 1 0 0
    let s0 := pairSt 0x35 w (regs 1 0 0)
    let s := { s0 with stream := s0.stream.set 0 { state := .active, kind := 1, graph := 0, slotWord := 4, inputs := 1 } }
    let t := after (.pitch 0 w []) s
    let d := setGraph 0 (fun x => { x with stagedPlan := some {} }) s
    atB 0x35 w s = true ∧ s.streamsOf 0 = [0] ∧ (t.stream[0]).slotWord = (if s.pitches 0 then 7 else 4) ∧ (t.core 0).pc = 4 ∧ s.boundaryDue 0 = false
      ∧ d.boundaryDue 0 = true ∧ ((after (.pitch 0 w []) d).core 0).run = .paused := by decide +kernel

/-- A permanent laser is retired, its entry written to the next slot that verifies, or to the extension (R405, R411, R412). -/
theorem test_retirement :
    let s := { dev with hlt := { dev.hlt with permanent := [(unit uLaser 5, 0, 1)] } }
    let t := after (.unitRetire []) s
    let w := after (.ledgerWrite 2) t
    let full := after (.ledgerWrite 0) { t with otp := { t.otp with nextSlot := 512 } }
    t.isRetired (unit uLaser 5) = true ∧ t.hlt.count = 1 ∧ bit t.hlt.irq 1 = true ∧ t.hlt.toWrite.length = 1 ∧ w.otp.nextSlot = 3
      ∧ w.otp.ledger.map (·.1) = [2] ∧ w.hlt.toWrite = [] ∧ full.hlt.ext.length = 1 ∧ full.otp.ledger = [] := by decide +kernel

/-- Operating time, a conductor mismatch, a scrub with an uncorrectable error (R401, R408, R248). -/
theorem test_health :
    let s := { dev with boot := { dev.boot with done := 0x7FF }, hlt := { dev.hlt with optime := 86400, units := [{ unit := unit uLaser 1, events := [0] }] } }
    let t := after .operatingSecond s
    let m := after (.lockstepMismatch 1) s
    let d := after (.dramScrub 3 [{ row := 5, frame := 40, uncorrectable := true }]) s
    t.hlt.optime = 86401 ∧ t.hlt.units = [] ∧ m.safe = true ∧ m.faultN = true ∧ m.hlt.permanent.map (·.1) = [unit uCond 1]
      ∧ d.tiers.scrubAt[3] = 86400 ∧ d.tiers.eccUnc[3] = 1 ∧ d.tiers.eccCorr[3] = 0 := by decide +kernel

/-- The run of a retired core that cannot be read is given up (R247). -/
theorem test_core_pool :
    let r : Run := { node := 0, granule := 0, len := 64, tile := 9, closed := false }
    let s := { grid with
      hlt := { grid.hlt with retired := [unit uCore 0] }
      tiers := { grid.tiers with runs := [r], map := [(9, { tier := .home, len := 63 })] } }
    let t := after (.corePoolEmpty 0 [9]) s
    s.healthy 0 = false ∧ s.runsOf 0 = [r] ∧ t.tiers.runs = [] ∧ (t.entry 9).atHome = false := by decide +kernel

/-! ### The fabric -/

/-- A packet of core 1 for core 0. -/
def pkt (cmd : BitVec 8) : Packet := { blank with dest := 0, src := 1, cmd := cmd, tag := 5, addr := 0x1F8000, len := 16 }

/-- Core 0 of pairSt, core 1 in its graph, with a mailbox enabled, has received the packet. -/
def got (p : Packet) : State :=
  let s := setCore 1 (fun c => { c with graph := some 0 }) (pairSt 0 0 fun c => { c with mbox := 1 })
  setNi 0 (fun x => { x with rx := [p] }) { s with clk := { s.clk with tempo := 1000000000 } }

/-- The hypotheses of Arrived as a check. -/
def arrivedB (i : Fin 300) (p : Packet) (s : State) : Bool := s.powered && decide (s.firstRx i p.cmd.toNat = some p) && !p.poison

/-- The check means Arrived. -/
theorem arrived_of_arrivedB (i : Fin 300) (p : Packet) (s : State) (h : arrivedB i p s = true) : Arrived i p.cmd.toNat p s := by
  simp only [arrivedB, Bool.and_eq_true, Bool.not_eq_true', decide_eq_true_eq] at h
  exact ⟨h.1.1, h.1.2, h.2⟩

/-- The commands and statuses of the replies that core 0 is to send. -/
def sends (t : State) : List (Nat × Nat) := (t.ni 0).rsp.map fun r => (r.cmd.toNat, r.status.toNat)

/-- A request of core 0 that waits, or was sent under tag 5 a microsecond ago. -/
def ask (cmd : BitVec 8) (dst : Nat) (o : Owner) (sent : Bool) : Req :=
  { pkt := { pkt cmd with src := 0, dest := dst, cls := 1, gen := 0 }, dst := dst, owner := o, sent := if sent then some 999999000 else none, reissues := 0
    busyUntil := none, got := 0, worst := 0 }

/-- Core 0 has sent a request, and a packet has come. -/
def asked (r : Req) (p : Packet) : State :=
  setNi 0 (fun x => { x with reqs := [r], rate := Vector.replicate 4 0x1FFF }) (got p)

/-- A reply goes first, then a request with its credit (R213). -/
theorem test_inject :
    let s := setNi 0 (fun x => { x with rsp := [pkt 0x41] }) (asked (ask 1 1 (.tile 0) false) (pkt 0))
    let t := after (.packetInject 0) s
    let u := after (.packetInject 0) t
    (t.ni 0).rsp = [] ∧ t.fab.net.length = 1 ∧ (t.candidate 0).isSome = true ∧ (t.ni 0).freeTag = some 0
      ∧ (u.ni 0).reqs.map (·.sent) = [some 1000000000] ∧ u.credit 0 1 = 3 ∧ u.fab.net.length = 2 := by decide +kernel

/-- A packet of one flit whose head waits in the local input of its router. -/
def flying (p : Packet) : Flight :=
  { pkt := { p with len := 0 }, id := 0, taken := [], trail := [(chanOf p.at_ (if p.dportV then 5 else 4) (vnOf p.cmd) false, 1)] }

/-- The device with one packet in its fabric. -/
def inNet (p : Packet) : State := { dev with fab := { dev.fab with net := [flying p] } }

/-- A packet in node 0 for node 1 goes east, and at node 1 it ejects; a service's port ejects to its NI (R199, R205). -/
theorem test_hop :
    let p : Packet := { pkt 1 with dest := 1, at_ := 0, len := 0 }
    let s := inNet p
    let t := after (.packetHop 0 ⟨.none, .none⟩) s
    let u := after (.packetHop 0 ⟨.none, .none⟩) t
    s.headOfLine 0 (flying p) = true ∧ p.nextDir = (some 1, 0) ∧ s.canTake (flying p) 1 = true ∧ s.granted (flying p) 1 = true
      ∧ t.packets.map (·.at_) = [1] ∧ u.fab.net = [] ∧ (u.ni 1).rx.length = 1
      ∧ (inNet { p with at_ := 1 }).canTake (flying { p with at_ := 1 }) 4 = true ∧ (inNet { p with at_ := 1 }).granted (flying { p with at_ := 1 }) 4 = true := by decide +kernel

/-- At a service's node its packet ejects by port V (R205). -/
theorem test_hop_service :
    let q : Packet := { pkt 6 with dest := niNode 292, at_ := niNode 292, dportV := true, len := 0 }
    let t := after (.packetHop 0 ⟨.none, .none⟩) (inNet q)
    portNi q.at_ true = some 292 ∧ q.nextDir = (none, 0) ∧ (inNet q).headOfLine 0 (flying q) = true ∧ (inNet q).canTake (flying q) 5 = true
      ∧ (inNet q).granted (flying q) 5 = true ∧ (t.ni 292).rx.length = 1 := by decide +kernel

/-- A body error goes on as POISON; an unreadable head is discarded, at a router or at an NI (R198). -/
theorem test_flit_errors :
    let p : Packet := { pkt 1 with dest := 1, at_ := 0, len := 0 }
    let c := after (.packetHop 0 ⟨.doubleBody, .none⟩) (inNet p)
    let b := after (.packetHop 0 ⟨.doubleHead, .none⟩) (inNet p)
    let z := after (.packetHop 0 ⟨.cpar, .none⟩) (inNet p)
    let n := after (.packetHop 0 ⟨.none, .doubleHead⟩) (inNet { p with at_ := 1 })
    c.packets.map (fun q => (q.at_, q.poison)) = [(1, true)] ∧ b.fab.headDrop = 1 ∧ b.fab.net = [] ∧ z.fab.headDrop = 1 ∧ n.fab.net = [] ∧ n.fab.headDrop = 1
      ∧ (n.ni 1).rx = [] := by decide +kernel

/-- A dead router discards a packet; a stall of more than 1 ms purges it (R209, R218). -/
theorem test_discard :
    let p : Packet := { pkt 1 with dest := 1, at_ := 0, len := 0 }
    let s := inNet p
    let a := after (.packetHop 0 ⟨.none, .none⟩) { s with fab := { s.fab with deadRouters := [0] } }
    let c := after (.stallPurge 0) s
    let d := after (.stallPurge 0) { s with clk := { s.clk with tempo := 1000000 } }
    a.fab.net = [] ∧ a.fab.headDrop = 1 ∧ c.fab.stallPurge = 1 ∧ c.fab.net = [] ∧ d.fab.net.length = 1 := by decide +kernel

/-- RD_TILE answers in eight DATA packets; WR_512 writes its 512 bytes; outside the scratch DENIED (R179, R184). -/
theorem test_scratch :
    let rd := { pkt 1 with addr := 0x1FF000 }
    let no := { pkt 1 with addr := 0x1FF040 }
    let wr := { pkt 2 with body := 0x77 }
    arrivedB 0 rd (got rd) = true ∧ (got rd).admits 0 rd 4096 = true ∧ sends (after (.rdTile 0 .clean) (got rd)) = List.replicate 8 (0x40, 0)
      ∧ (got no).admits 0 no 4096 = false ∧ sends (after (.rdTile 0 .clean) (got no)) = [(0x40, 0x16)]
      ∧ arrivedB 0 wr (got wr) = true ∧ (got wr).admits 0 wr 512 = true ∧ ((after (.wr512 0) (got wr)).core 0).home = [(0x1F8000, 0x77)]
      ∧ sends (after (.wr512 0) (got { wr with addr := 0x1FFE01 })) = [(0x41, 0x16)] := by decide +kernel

/-- The atomic operations: the reply carries the value before (R181). -/
theorem test_atomics : ∀ x ∈ ([(3, fun e => .amoAdd ⟨0, e⟩, 0x0A), (4, fun e => .amoSwap ⟨0, e⟩, 3), (5, fun e => .amoCas ⟨0, e⟩, 7)] : List (Nat × (Ecc → Instr) × Nat)),
    let p := { pkt (BitVec.ofNat 8 x.1) with opa := 3, opb := 9 }
    let s := setCore 0 (fun c => { c with home := [(0x1F8000, 7)] }) (got p)
    let t := after (x.2.1 .clean) s
    let u := after (x.2.1 .uncorrectable) s
    let d := after (x.2.1 .clean) (got { p with addr := 0x200000 })
    arrivedB 0 p s = true ∧ s.admits 0 p 4 = true ∧ (t.core 0).home = [(0x1F8000, BitVec.ofNat 8 x.2.2)] ∧ (t.ni 0).rsp.map (·.opa) = [7]
      ∧ sends u = [(0x41, 0x3F)] ∧ (u.core 0).home = [(0x1F8000, 7)] ∧ u.hlt.permanent.map (·.1) = [unit uSram 0x7E00] ∧ sends d = [(0x41, 0x16)] := by decide +kernel

/-- A message is stored in its open mailbox, one to a closed mailbox is DENIED (R183). -/
theorem test_message_lands : ∀ x ∈ ([(0x80, .msg 0), (0x81, .msgTree 0)] : List (Nat × Instr)),
    let p := pkt (BitVec.ofNat 8 x.1)
    let q := { p with mb := 7 }
    (got p).firstMsg 0 x.1 = some p ∧ (got p).firstMsg 0 x.1 = (got p).firstRx 0 x.1 ∧ ((after x.2 (got p)).core 0).box[0].length = 1 ∧ sends (after x.2 (got p)) = [(0x41, 0)]
      ∧ sends (after x.2 (got q)) = [(0x41, 0x16)] := by decide +kernel

/-- U space: object 0x100 of two tiles from tile 8, one written to frame 8; tile 9 is at home on core 0, granule 0. -/
def tiered (p : Packet) (i : Fin 300) : State :=
  let o : Obj := { id := 0x100, base := 8, tiles := 2, cls := 1, cached := true, comp := 0, etype := 0, segment := false, policy := .preferHome, aff := (0, 0)
                   slot := none, seat := none, pack := none, tables := [], restored := false }
  { setNi i (fun x => { x with rx := [p] }) (got (pkt 0)) with
    tiers := { dev.tiers with
      objs := [o], dram := [(32768, 0x5A)]
      map := [(8, { tier := .dram, len := 63, dframe := 8 }), (9, { tier := .home, len := 63, node := 0, granule := 0 })]
      runs := [{ node := 0, granule := 0, len := 64, tile := 9, closed := false }] } }

/-- The owner answers, redirects and refuses; the tier store answers or says U_MOVED (R235, R236). -/
theorem test_tier_reads :
    let at8 := { pkt 6 with addr := 0x8000 }
    let at9 := { pkt 6 with addr := 0x9000 }
    let s8 := tiered at8 292
    let s9 := tiered at9 293
    let st := tiered at9 0
    let mv := tiered at8 0
    let out := fun (i : Fin 300) (s : State) => ((after (.uRd i .clean) s).ni i).rsp.map fun r => (r.cmd.toNat, r.status.toNat)
    s8.firstU 292 6 = some at8 ∧ (s8.objOf 8).isSome = true ∧ (s8.entry 8).atHome = false ∧ out 292 s8 = List.replicate 8 (0x40, 0)
      ∧ ((after (.uRd 292 .clean) s8).ni 292).rsp.map (fun r => r.body) = 0x5A :: List.replicate 7 0
      ∧ (s9.entry 9).atHome = true ∧ out 293 s9 = [(0xC0, 0)]
      ∧ out 292 (tiered { at8 with addr := 0xA000 } 292) = [(0x40, 0x16)]
      ∧ out 292 { s8 with tiers := { s8.tiers with map := [(8, { tier := .dram, len := 63, dframe := 8, poison := true })] } } = [(0x40, 0x3F)]
      ∧ (st.namedRun 0 at9).isSome = true ∧ out 0 st = List.replicate 8 (0x40, 0) ∧ mv.namedRun 0 at8 = none ∧ out 0 mv = [(0xC1, 0)] := by decide +kernel

/-- The same for writes; a redirected one marks the tile DIRTY (R242). -/
theorem test_tier_writes :
    let at8 := { pkt 7 with addr := 0x8000, body := 0x66 }
    let at9 := { pkt 7 with addr := 0x9000, body := 0x66 }
    let out := fun (i : Fin 300) (s : State) => ((after (.uWr i .clean) s).ni i).rsp.map fun r => (r.cmd.toNat, r.status.toNat)
    let s8 := tiered at8 292
    s8.firstU 292 7 = some at8 ∧ (s8.tileBytes 8).isSome = true ∧ out 292 s8 = [(0x41, 0)]
      ∧ out 293 (tiered at9 293) = [(0xC0, 0)] ∧ ((after (.uWr 293 .clean) (tiered at9 293)).entry 9).dirty = true
      ∧ out 292 (tiered { at8 with addr := 0xA000 } 292) = [(0x41, 0x16)]
      ∧ out 0 (tiered at9 0) = [(0x41, 0)] ∧ out 0 (tiered at8 0) = [(0xC1, 0)] := by decide +kernel

/-- H_RD, H_WR, H_CLOSE and H_FREE (Table 12.3). -/
theorem test_hauler_commands :
    let rd := { pkt 0xC4 with opa := 0, opb := 9 }
    let wr := { pkt 0xC5 with addr := 0x9000, opa := 0, len := 1, seq := 1, body := 0x12 }
    let cl := { pkt 0xC6 with addr := 0x9000, opa := 0 }
    let fr := { pkt 0xC7 with addr := 0x9000, opa := 0 }
    arrivedB 0 rd (tiered rd 0) = true ∧ ((after (.hRd ⟨0, .clean⟩) (tiered rd 0)).ni 0).rsp.map (·.len.toNat) = [16, 2]
      ∧ sends (after (.hRd ⟨0, .uncorrectable⟩) (tiered rd 0)) = [(0x40, 0x3F)] ∧ sends (after (.hWr 0) (tiered { wr with opa := 64 } 0)) = [(0x41, 0x16)]
      ∧ arrivedB 0 wr (tiered wr 0) = true ∧ ((after (.hWr 0) (tiered wr 0)).core 0).home = [(512, 0x12)]
      ∧ (tiered cl 0).writesAhead 0 cl = false ∧ (after (.hClose 0) (tiered cl 0)).tiers.runs.map (·.closed) = [true]
      ∧ arrivedB 0 fr (tiered fr 0) = true ∧ (after (.hFree 0) (tiered fr 0)).tiers.runs = [] := by decide +kernel

/-- An ACK ends a SEND and an AMO; one that answers nothing is late (R184, R185, R217). -/
theorem test_ack :
    let a := { pkt 0x41 with opa := 0x99 }
    let sd := asked (ask 0x80 1 (.reg 3 false) true) a
    let am := asked (ask 3 1 (.reg 3 true) true) a
    let lt := asked (ask 3 1 (.reg 3 true) true) { a with tag := 6 }
    let t := after (.ack 0) am
    arrivedB 0 a sd = true ∧ ((dropRx 0 a sd).openReq 0 a).isSome = true ∧ ((after (.ack 0) sd).core 0).getG 3 = 0 ∧ (after (.ack 0) sd).credit 0 1 = 4
      ∧ (t.core 0).getG 3 = 0x99 ∧ (t.core 0).getP 7 = true ∧ t.credit 0 1 = 5 ∧ (t.ni 0).reqs = []
      ∧ (lt.openReq 0 { a with tag := 6 }).isNone = true ∧ ((after (.ack 0) lt).ni 0).stats.late = 1 := by decide +kernel

/-- The last DATA packet of a tile ends its request; CREDIT restores one (R184, R185). -/
theorem test_data_credit :
    let d := { pkt 0x40 with seq := 7 }
    let o : TileOp := { id := 0, op := 0x1A, td := 1, ts := 0, tt := 0, fn := 0, a := 0, b := 0, buf := 0, worst := none }
    let s := setCore 0 (fun c => { c with tq := [o] }) (asked { ask 1 1 (.tile 0) true with got := 0x7F } d)
    let c := { pkt 0x42 with src := 1 }
    arrivedB 0 d s = true ∧ ((after (.data 0) s).ni 0).reqs = [] ∧ (after (.data 0) s).credit 0 1 = 5
      ∧ (got c).firstRx 0 0x42 = some c ∧ (after (.credit 0) (got c)).credit 0 1 = 5 := by decide +kernel

/-- A poisoned request is sent again, the third time it ends INTERNAL (R198). -/
theorem test_nack :
    let p := pkt 0x43
    let r := ask 0x80 1 (.reg 3 false) true
    let s := asked r p
    let z := asked { r with reissues := 2 } p
    arrivedB 0 p s = true ∧ ((dropRx 0 p s).openReq 0 p).isSome = true ∧ ((after (.nackPoison 0) s).ni 0).reqs.map (fun q => (q.reissues, q.again)) = [(1, true)]
      ∧ ((after (.nackPoison 0) s).ni 0).genOf 5 = 1
      ∧ ((after (.nackPoison 0) z).core 0).getG 3 = 0x3F ∧ ((after (.nackPoison 0) z).ni 0).reqs = [] := by decide +kernel

/-- U_REDIRECT, U_MOVED, U_BUSY and its retry (R235, R236). -/
theorem test_sent_on :
    let r := { ask 6 0x208 (.tile 0) true with pkt := { (ask 6 0x208 (.tile 0) true).pkt with addr := 0x8000 } }
    let rd := { pkt 0xC0 with opa := 7 + 3 * 512, opb := 63 }
    let mv := pkt 0xC1
    let bz := pkt 0xC2
    let t := after (.uRedirect 0) (asked r rd)
    let b := after (.uBusy 0) (asked r bz)
    let l := { b with clk := { b.clk with tempo := 1000001000 } }
    arrivedB 0 rd (asked r rd) = true ∧ (t.ni 0).reqs.map (·.dst) = [0x407] ∧ (t.ni 0).redirects = [(8, 7, 3, 63, 0)]
      ∧ ((after (.uMoved 0) (asked { r with dst := 0x407 } mv)).ni 0).reqs.map (·.dst) = [0x208]
      ∧ (b.ni 0).reqs.map (·.busyUntil) = [some 1000001000] ∧ ((after (.uBusyRetry 0 5) b).ni 0).reqs.map (·.busyUntil) = [some 1000001000]
      ∧ ((after (.uBusyRetry 0 5) l).ni 0).reqs.map (·.busyUntil) = [none] := by decide +kernel

/-- A late reply ends the quarantine of its tag and brings its credit back (R186, R217). -/
theorem test_late :
    let a := pkt 0x41
    let q : Late := { tag := 5, since := 999900000, dst := 1, msg := false, multi := false, last := 0 }
    let s := setNi 0 (fun x => { x with quarantine := [q] }) (got a)
    let t := after (.ack 0) s
    arrivedB 0 a s = true ∧ ((dropRx 0 a s).openReq 0 a).isNone = true ∧ q.matches a = true ∧ (t.ni 0).quarantine = [] ∧ t.credit 0 1 = 5
      ∧ (t.ni 0).stats.late = 1 := by decide +kernel

/-- A request that has waited its 200 us ends in TIMEOUT, its tag in quarantine for 64 ms (R216, R217). -/
theorem test_timeout :
    let r := { ask 0x80 1 (.reg 3 false) true with sent := some 999800000 }
    let s := asked r (pkt 0)
    let t := after (.requestTimeout 0 5) s
    let q := { t with clk := { t.clk with tempo := 1064000000 } }
    (s.ni 0).limit r = 200000 ∧ (t.ni 0).reqs = [] ∧ (t.core 0).getG 3 = 0x1D ∧ t.credit 0 1 = 4 ∧ (t.ni 0).quarantine.map (·.tag) = [5]
      ∧ ((after (.tagQuarantineEnd 0 5) t).ni 0).quarantine.length = 1 ∧ ((after (.tagQuarantineEnd 0 5) q).ni 0).quarantine = [] := by decide +kernel

/-- A topo entry with ORDERED holds the destination until the earlier request is answered (R208). -/
theorem test_topo :
    let r := ask 0x80 1 (.reg 3 false) true
    let s0 := asked r (pkt 0)
    let s := { s0 with boot := dev.boot, grid := { s0.grid with width := 256 } }
    let e : BitVec 64 := BitVec.ofNat 64 (1 + 2 ^ 12 + 2 ^ 13)
    let t := after (.topoEntryWrite 0 1 e) s
    let h := setNi 0 (fun x => { x with reqs := [] }) t
    s.sterdo = true ∧ t.topo 0 1 = e ∧ (t.ni 0).hold = [1] ∧ ((after (.orderedHoldEnd 0 1) t).ni 0).hold = [1] ∧ ((after (.orderedHoldEnd 0 1) h).ni 0).hold = [] := by decide +kernel

/-! ### The host link, registers, the supervisor port, rings -/

/-- dev without its link. -/
def unlinked : State := { dev with hif := { dev.hif with speed := 0, width := 0, mse := false } }

/-- A write held back by Bus Master Enable goes when it comes back (R298). -/
theorem test_link :
    let u := after (.pcieLinkUp 3 2) unlinked
    let b := after .busMasterDisable dev
    let h := { b with hif := { b.hif with upq := [{ addr := 0x2000, words := [0x77] }] } }
    let d := after .d3hotEntry h
    let x := after .busMasterEnable d
    let y := after .d0Return x
    (u.hif.speed, u.hif.width, u.hif.mse) = (3, 2, true) ∧ (after (.pcieLinkUp 5 2) unlinked).hif.speed = 0 ∧ b.hif.bme = false ∧ d.hif.d3 = true
      ∧ x.hif.bme = true ∧ x.hif.mem = [] ∧ y.hif.d3 = false ∧ y.hif.mem = [(0x2000, 0x77)] ∧ y.hif.upq = [] := by decide +kernel

/-- A failed descriptor read stops its ring; L1; MSI-X (R299, R300, R305). -/
theorem test_link_states :
    let s := { dev with hif := { dev.hif with ring := dev.hif.ring.set 0 { (dev.hif.ring[0]) with sqTail := 1 } } }
    let f := after (.completionError .poisoned) s
    let l := after (.l1Entry true) { dev with hif := { dev.hif with aspm := true } }
    let w := after .l1Exit { dev with hif := { dev.hif with l1 := true, l11 := true } }
    let p := { dev with hif := { dev.hif with pba := setBit 0 5 true } }
    let m := after (.msixUnmask (.vector 5)) p
    s.fetching = true ∧ s.fetchRing = some 0 ∧ (after .completionTimeout s).hif.ring[0].state = .fault ∧ bit f.hif.err 6 = true
      ∧ (l.belayOf .hostLink).isSome = true ∧ w.hif.l1 = false ∧ canSend p.hif 5 = false ∧ m.hif.sent.length = 1 ∧ m.hif.pba = 0 := by decide +kernel

/-- A write of ones clears error bits; ALERT_EN is the supervisor's (R7, R308). -/
theorem test_register_writes :
    let s := { dev with hif := { dev.hif with err := 0x7F } }
    s.mayWrite .host = true ∧ reaches .host 0x11004 = true ∧ (after (.registerWrite .host 0x11004 5) s).hif.err = 0x7A
      ∧ (after (.registerWrite .host 0x11006 5) s).hif.err = 0x7F ∧ (after (.registerWrite .host 0x90000 0x1FF) s).tiers.bar2 = 0xFF
      ∧ (after (.registerWrite .host 0xD0040 0x63) s).dbg.trCairns = true ∧ (after (.registerWrite .host 0x11048 3) s).hif.alertEn = s.hif.alertEn
      ∧ (after (.registerWrite .spv 0x11048 3) s).hif.alertEn = 3 := by decide +kernel

/-- RC reads clear (R8). -/
theorem test_register_reads :
    let s := { dev with hif := { dev.hif with cnt2 := #v[3, 4] }, dbg := { dev.dbg with lost := 9 } }
    (after (.rcRead .host 0xD0008) s).dbg.lost = 0 ∧ (after (.rcRead .host 0xD0008) s).hif.rdata = [9, 0, 0, 0]
      ∧ (after (.rcRead .host 0x11014) s).hif.rdata = [3, 4, 0, 0] ∧ (after (.rcRead .host 0xD0002) s).hif.rdata = [0, 0, 0, 0] := by decide +kernel

/-- A peek latches the newest event (R432). -/
theorem test_peek :
    let e := logEvent 0x04 7 1 2 dev
    let p := after (.dbgEvtPeekRead .host) e
    e.canAccess .host = true ∧ p.hif.rdata = bytesOf (newestWords e)[0] ∧ look p.hif.peek[0] 2 0 = (newestWords e)[2] := by decide +kernel

/-- The mailbox takes words and bytes; other registers take no bytes; a read of 65 B is refused (R306). -/
theorem test_partial_accesses :
    let w := after (.registerWrite .host 0x100004 0x01020304) dev
    let b := after (.bar0PartialWrite .host 0x100005 [9]) w
    let n := after (.bar0PartialWrite .host 0x11004 [9]) dev
    let r := after (.bar0BigRead 0x100000 65) dev
    let i := after (.irqTest 5) { dev with hif := { dev.hif with table := dev.hif.table.set 5 { masked := false, addr := 0xFEE0, data := 7 } } }
    w.boot.mailbox.readN 4 4 = [4, 3, 2, 1] ∧ b.boot.mailbox.readN 4 4 = [4, 9, 2, 1] ∧ bit n.hif.err 0 = true ∧ n.hif.errAddr = 0x11004
      ∧ r.hif.ur = true ∧ bit r.hif.err 2 = true ∧ (after (.irqTest 5) dev).hif.pba = 32 ∧ i.hif.sent = [(5, 0xFEE0, 7)] := by decide +kernel

/-- The host's window on the tiles of `tiered`. -/
def windowed (w : Word) : State := { dev with tiers := (tiered (pkt 0) 0).tiers, guard := { dev.guard with window := w } }

/-- A BAR2 access goes to the tile's owner as a request of the PCIe bridge (R303, R235). -/
theorem test_host_window :
    let s := windowed 0xC
    let r := after (.bar2Read 0x8E00 2 7) s
    let w := after (.bar2Write 0x8010 [1, 2]) s
    s.canAccess .host = true ∧ (s.objOf 8).map (fun o => (s.hostMay o false, s.hostMay o true)) = some (true, true) ∧ (s.ni 290).redirect 8 = none
      ∧ s.bar2Addr 0x8E00 = 0x8E00 ∧ (r.ni 290).reqs.map (fun q => (q.dst, q.pkt.cmd, q.pkt.addr)) = [(0x208, 6, 0x8000)]
      ∧ r.hif.reads.map (fun q => (q.tag, q.left)) = [(7, 1)] ∧ (w.ni 290).reqs.map (fun q => (q.dst, q.pkt.cmd, q.pkt.addr)) = [(0x208, 7, 0x8010)]
      ∧ (w.ni 290).reqs.map (fun q => bodyBytes q.pkt.body q.pkt.writeLen) = [[1, 2]] := by decide +kernel

/-- A BAR2 read of two bytes that waits for the part of its tile which holds them. -/
def reading (sent : Nat) (rx : List Packet) : State :=
  let r := { ask 6 0x208 (.hostRead 3 0 0xE00 2) true with got := 0x7F, sent := some sent }
  let s := { windowed 0xC with hif := { dev.hif with reads := [{ id := 3, tag := 7, off := 0x8E00, bytes := [0, 0], left := 1 }] } }
  setNi 290 (fun x => { x with reqs := [r], rx := rx }) s

/-- A read completes with the tile's bytes, or at its timeout with zeros (R303). -/
theorem test_host_read :
    let p := { pkt 0x40 with seq := 7, body := 0x5A }
    let s := reading 999999000 [p]
    let o := reading 999800000 []
    let t := after (.data 290) s
    let u := after (.requestTimeout 290 5) o
    arrivedB 290 p s = true ∧ ((dropRx 290 p s).openReq 290 p).isSome = true ∧ t.hif.rdata = [0x5A, 0] ∧ t.hif.rtag = 7 ∧ t.hif.reads = []
      ∧ (o.ni 290).reqs.map (fun r => (o.ni 290).limit r) = [200000] ∧ u.hif.rdata = [0, 0] ∧ u.hif.reads = [] ∧ bit u.hif.err 3 = true
      ∧ (u.dbg.newest.map fun e => (e.code, e.src, e.arg0)) = some (0xFF, 1, 0x8E00) := by decide +kernel

/-- Refused accesses: zeros and an event (R232, R249). -/
theorem test_host_refused :
    let s := windowed 0xC
    let n := windowed 0
    let r := after (.bar2Read 0x8000 2 7) n
    r.hif.rdata = [0, 0] ∧ r.hif.rtag = 7 ∧ r.dbg.seq = 1 ∧ (after (.bar2Read 0xA000 1 7) s).dbg.seq = 1
      ∧ (after (.bar2Write 0xA000 [1]) s).dbg.seq = 1 ∧ (after (.bar2Write 0x8000 [1]) n).dbg.seq = 1 := by decide +kernel

/-- The selectors (R454). -/
theorem test_selectors :
    let s := windowed 0xC
    (after (.tierBar2Write .host 0x123) s).tiers.bar2 = 0x23 ∧ (after (.tierMapSelWrite .host 9) s).tiers.mapWin = (s.entry 9).word
      ∧ (after (.fabSelWrite .host 299) s).fab.window.isSome = true ∧ (after (.fabSelWrite .host 300) s).fab.window = none
      ∧ (after (.ledgSelWrite .host 5) s).hlt.sel = 5 := by decide +kernel

/-- A frame of the supervisor's. -/
def frame : SpiFrame := { cycles := 72, early := false, bytes := #v[3, 0, 0, 0, 0, 0, 0, 0, crc8 [3, 0, 0, 0, 0, 0, 0, 0]] }

/-- NOP, READ, WRITE and the bad frames (R309..R313). -/
theorem test_frames :
    let s := { dev with hif := { dev.hif with arg := #v[1, 2, 3, 4] } }
    let at_ := fun (t : State) => (t.hif.resp >>> 64).toNat
    s.canAccess .spv = true ∧ at_ (after .spiNop s) = 0 ∧ reaches .spv 0x11024 = true ∧ reaches .spv 0x90000 = false ∧ at_ (after (.spiRead 0x90000) s) = 5
      ∧ (after (.spiRead 0x11024) s).hif.resp = response 0 0x11024 2 ∧ (after (.spiWrite 0x1102C 9) s).hif.arg[3] = 9
      ∧ at_ (after (.spiWrite 0x1102C 9) { s with hif := { s.hif with busy := true } }) = 6
      ∧ at_ (after (.spiBadFrame { frame with cycles := 71 }) s) = 2 ∧ at_ (after (.spiBadFrame { frame with early := true }) s) = 3
      ∧ at_ (after (.spiBadFrame { frame with bytes := frame.bytes.set 8 0xFF }) s) = 1 ∧ at_ (after (.spiBadFrame frame) s) = 4 := by decide +kernel

/-- dev with EXEC arguments, every hold permitted. -/
def spv (a b c d : Word) : State :=
  { dev with hif := { dev.hif with arg := #v[a, b, c, d] }, guard := { dev.guard with policy := 0x3F0001 } }

/-- EXECs: busy, without Sterdo, holds, unknown ops, their end (R314, R377, R386). -/
theorem test_execs :
    let st := fun (t : State) => t.hif.exec_.2.toNat
    let z := spv 0x601 0 0 0
    let t := after .holdSet z
    let c := after .holdClear { t with hif := { t.hif with busy := false } }
    z.canAccess .spv = true ∧ t.holds.zones = 6 ∧ bit t.holds.kinds 1 = true ∧ c.holds.zones = 0
      ∧ st (after .holdSet { z with guard := { z.guard with policy := 1 } }) = 0x16
      ∧ (after .holdSet t).hif.resp = response 6 0 0 ∧ (after .holdSet { z with boot := {} }).holds.zones = 0
      ∧ (after .health (spv 0 0 0 0)).hif.exec_.1 = (spv 0 0 0 0).summary ∧ st (after (.spvUnknownOp 0x99) z) = 0x10 ∧ st (after .spvGuardConfirm z) = 0x1F
      ∧ st (after .spvGuardVeto z) = 0x1F ∧ (after .execDone t).hif.busy = false ∧ bit (after .execDone t).hif.alert 0 = true
      ∧ (after .ledgerRead (spv 3 0 0 0)).hif.busy = true := by decide +kernel

/-- The supervisor proposes a table from the staged image (R382, R383): index 1, nonce 9, 16 B. -/
theorem test_spv_propose :
    let s := let z := spv 1 9 16 0; { z with guard := { z.guard with stage := z.guard.stage.set 0 5 } }
    let t := after .spvGuardPropose s
    s.sterdo = true ∧ tableSize 1 = some 16 ∧ imageFault 1 ((bytesOfWords s.guard.stage.toList).take 16) = none
      ∧ t.hif.exec_.2 = 0 ∧ (t.guard.spv).map (·.index) = some 1 ∧ t.guard.host = none := by decide +kernel

/-- An EXEC that Sterdo does not serve answers INTERNAL (R314); a hold that names no zone places none (R377). -/
theorem test_exec_edges :
    (after .holdSet (spv 1 0 0 0)).holds.kinds = 0 ∧ (after .health { spv 0 0 0 0 with boot := { dev.boot with fw := .verifying } }).hif.stat = 0x3F := by decide +kernel

/-- A proposal of the host's is confirmed by its id and digest, or vetoed; a table in force is queried (R382..R385). -/
theorem test_exec_guard :
    let p : Proposal := { id := 7, index := 1, nonce := 0, image := List.replicate 16 0, digest := BitVec.ofNat 256 (5 + 9 * 2 ^ 32), window := 0, ends := 2000000000, mismatches := 0 }
    let s := fun (a b : Word) => { spv 7 a b 0 with guard := { (spv 0 0 0 0).guard with host := some p } }
    let d0 := digestWord p.digest 0
    let d1 := digestWord p.digest 1
    let t := after .spvGuardConfirm (s d0 d1)
    (s d0 d1).pendingId 7 1000000000 = some (true, p) ∧ t.hif.exec_.2 = 0 ∧ t.guard.host = none ∧ t.guard.confirmed.length = 1
      ∧ (after .spvGuardVeto (s 0 0)).guard.host = none ∧ (after .spvGuardQuery (spv 5 0 0 0)).hif.exec_.2 = 0 := by decide +kernel

/-! ### Rings and intake -/

/-- Ring 0 changed. -/
def ring0 (f : Ring → Ring) (s : State) : State := { s with hif := { s.hif with ring := modAt s.hif.ring 0 f } }

/-- Enable, doorbells, disable, drain, resume (R317..R319, R326..R329). -/
theorem test_ring_control :
    let s := ring0 (fun _ => { sqTail := 3, seq := 7 }) dev
    let e := after (.ringEnable .host 0 0x865) s
    let d := after (.sqDoorbell .host 0 0x43) e
    let x := after (.ringDisable .host 0 0) d
    let z := after (.ringDrainDone 0) x
    let f := ring0 (fun g => { g with state := .fault }) dev
    (e.hif.ring[0].state, e.hif.ring[0].prio, e.hif.ring[0].sqLog, e.hif.ring[0].rqLog) = (.running, 1, 6, 8) ∧ e.hif.ring[0].sqTail = 0 ∧ e.hif.ring[0].seq = 0
      ∧ d.hif.ring[0].sqTail = 3 ∧ (after (.rqHeadWrite .host 0 0x105) e).hif.ring[0].rqHead = 5 ∧ x.hif.ring[0].state = .draining ∧ z.hif.ring[0].state = .disabled
      ∧ (after (.resume .host 0 3) f).hif.ring[0].state = .running := by decide +kernel

/-- A full return queue stalls its ring after STALL_MS; the return ring of pages (R327, R331). -/
theorem test_ring_stall :
    let s := ring0 (fun g => { g with heldAt := some 0 }) dev
    let n := ring0 (fun g => { g with heldAt := some 999999999 }) dev
    let p := after (.pgRetEnable .host 0xB) dev
    (after (.ringStall 0) s).hif.ring[0].state = .stalled ∧ bit (after (.ringStall 0) s).hif.ring[0].irq 1 = true ∧ (after (.ringStall 0) s).hif.ring[0].stalls = 1
      ∧ (after (.ringStall 0) n).hif.ring[0].state = .running ∧ p.hif.retEn = true ∧ p.hif.retLog = 5 ∧ (after (.pgRetHeadWrite .host 0x23) p).hif.retHead = 3 := by decide +kernel

/-- A descriptor of opcode op with the ring's sequence number n. -/
def descOf (op n : Nat) : Vector Word 16 := Vector.ofFn fun i => if i.1 = 0 then wd op else if i.1 = 1 then wd (0xFF00 + n * 2 ^ 16) else 0

/-- The descriptor is taken in, or answered at once: sequence, opcode, class, flags; or held without room (R318, R322, R319). -/
theorem test_fetch :
    let s := ring0 (fun g => { g with sqTail := 1, seq := 5 }) { dev with guard := { dev.guard with rings := 0xF } }
    let ok := after (.descriptorFetch (descOf 0 5)) s
    let full := ring0 (fun g => { g with rqTail := 15 }) s
    s.fetching = true ∧ s.fetchRing = some 0 ∧ ok.hif.intake.length = 1 ∧ ok.hif.ring[0].sqHead = 1 ∧ ok.hif.ring[0].seq = 6 ∧ ok.hif.nextId = s.hif.nextId + 1
      ∧ answer (after (.descriptorFetch (descOf 0 4)) s) = (0x11, [5, 0, 0, 0]) ∧ (answer (after (.descriptorFetch (descOf 0xEE 5)) s)).1 = 0x10
      ∧ (answer (after (.descriptorFetch (descOf 0 5)) { s with guard := { s.guard with rings := 0 } })).1 = (if (ringNeed 0).isSome then 0x16 else 0)
      ∧ (full.hif.ring[0].room 1) = false ∧ (after (.descriptorFetch (descOf 0 5)) full).hif.intake = [] := by decide +kernel

/-- Two commands of the last epoch, put in order of PRIO (R375). -/
theorem test_epoch :
    let c := { devCmd 0 [] with at_ := 0 }
    let s := { dev with hif := { dev.hif with intake := [c, { c with id := 1, prio := 2 }] } }
    let t := after .intakeEpochEnd s
    s.epochDue = some (epochOf 0) ∧ t.hif.intake = [] ∧ t.hif.ready.map (·.id) = [1, 0] ∧ (after .intakeEpochEnd dev).hif.ready = [] := by decide +kernel

/-- A deferred command past its time; a page with records flushed by its timer (R343, R332). -/
theorem test_waits :
    let w : Waiting := { cmd := cmdOf 0x23 0 2 [], on := .deferred, deadline := 1000000000, res := res0 }
    let s := { dev with hif := { dev.hif with waits := [w] } }
    let pg : Page := { addr := 0x5000, used := 36, first := 0, recs := [] }
    let p := { dev with hif := { dev.hif with retEn := true }, stream := dev.stream.set 2 { page := some pg, held := 1 } }
    answer (after (.deferredTimeout 0) s) = (0x12, [wd (s.stream[2].state.code), 0, 0, 0]) ∧ (after (.deferredTimeout 0) s).hif.waits = []
      ∧ p.hif.pagesOk = true ∧ ((after (.pageFlushTimer 2) p).stream[2]).page = none ∧ ((after (.pageFlushTimer 2) p).stream[2]).pseq = 1 := by decide +kernel

/-! ### Host commands -/

/-- The command is next and its row answers so. -/
def replies (i : Instr) (c : Cmd) (s : State) (st : Nat) (r : List Word) : Bool :=
  hostB c.op c s && decide (answers i c s = (st, r))

/-- The command is next, and after its row it waits, nothing written to the return queue. -/
def waits (i : Instr) (c : Cmd) (s : State) (on : Wait) : Bool :=
  hostB c.op c s && (after i (queued c s)).hif.waits.any fun w => decide (w.cmd = c) && decide (w.on = on)

/-- The words keep to the row's fields. -/
def fits (c : Cmd) (masks : List (Nat × Word)) : Bool := !(resv c masks).1

/-- NOP, PING, QUERY_INFO, HEALTH_QUERY, SAFE_STATE, RESET_UNIT, SET_MODE (R347, R378, R417). -/
theorem test_system_commands :
    let port := withSap 0 (fun x => { x with state := .running }) dev
    let safe := { dev with holds := { dev.holds with hostSafe := true } }
    let busy := { dev with pwr := { dev.pwr with target := some 1 } }
    replies .nop (devCmd 0 []) dev 0 [0, 0, 0, 0] = true ∧ replies .nop (devCmd 0 [1]) dev 0x11 [2, 0, 0, 0] = true
      ∧ replies .ping (devCmd 1 [1, 2, 3, 4]) dev 0 [1, 2, 3, 4] = true ∧ fits (devCmd 1 [1, 2, 3, 4]) [(2, -1), (3, -1), (4, -1), (5, -1)] = true
      ∧ replies .queryInfo (devCmd 2 [2]) dev 0x11 [3, 0, 0, 0] = true ∧ (answers .healthQuery (devCmd 0x80 [1]) dev).1 = 0
      ∧ replies .safeState (devCmd 5 [1]) dev 0 [0, 0, 0, 0] = true ∧ (after .safeState (queued (devCmd 5 [1]) dev)).safe = true
      ∧ replies .safeState (devCmd 5 [0]) safe 0 [0, 0, 0, 0] = true ∧ (after .safeState (queued (devCmd 5 [0]) safe)).safe = false
      ∧ waits .resetUnit (devCmd 4 [1]) port (.reset 1) = true ∧ waits .resetUnit (devCmd 4 [2]) dev (.reset 2) = true
      ∧ replies .setMode (devCmd 3 [3]) dev 0 [3, 0, 0, 0] = true ∧ replies .setMode (devCmd 3 [3]) safe 0x15 [0, 0, 0, 0] = true
      ∧ waits .setMode (devCmd 3 [2]) dev (.mode 2) = true ∧ waits .setMode (devCmd 3 [1]) busy .modeBusy = true := by decide +kernel

/-- A unison change and a mode change end; the RESET hold clears itself; a proposal expires (R291, R419, R386). -/
theorem test_changes_end :
    let u := { dev with grid := { dev.grid with uPending := some true } }
    let m := { dev with pwr := { dev.pwr with target := some 3 } }
    let h := { dev with holds := { dev.holds with kinds := 0x20 } }
    let p : Proposal := { id := 7, index := 1, nonce := 0, image := [], digest := 0, window := 0, ends := 1000000000, mismatches := 0 }
    let g := { dev with guard := { dev.guard with host := some p } }
    (after .unisonApply u).grid.unison = true ∧ (after .unisonApply u).grid.uPending = none ∧ m.modeReached 3 = true ∧ (after .modeChangeDone m).pwr.target = none
      ∧ (after .resetHoldDone h).holds.kinds = 0 ∧ (after (.proposalExpiry false) g).guard.host = none ∧ bit (after (.proposalExpiry false) g).guard.irq 3 = true := by decide +kernel

/-- Each commit that finds no time is undone (R330). -/
theorem test_commit_timeout : ∀ x ∈ ([(devCmd 0x40 [], .hop), (devCmd 0x41 [], .cabin), (devCmd 0xA0 [], .switch 0), (devCmd 0xA2 [], .stop 0),
      (cmdOf 0x24 0 2 [], .pitch 2)] : List (Cmd × Wait)),
    let w : Waiting := { cmd := x.1, on := x.2, deadline := 1000000000, res := res0 }
    let s0 := setGraph 0 (fun g => { g with state := .running, stopping := true, stagedImage := some (1, []) }) dev
    let s := { s0 with
      hif := { s0.hif with waits := [w] }, fe := { s0.fe with cfgSt := some (0, Vector.replicate 16 0), rncSt := some (devCmd 0 []).desc }
      stream := s0.stream.set 2 { state := .listening, pausing := true } }
    let t := after (.commitTimeout 0) s
    (answer t).1 = 0x14 ∧ t.hif.waits = [] ∧ (x.2 = .hop → t.fe.cfgSt = none ∧ t.fe.rncSt.isSome = true) ∧ (x.2 = .cabin → t.fe.rncSt = none)
      ∧ (x.2 = .switch 0 → (t.grid.graph[0]).stagedImage = none) ∧ (x.2 = .stop 0 → (t.grid.graph[0]).stopping = false)
      ∧ (x.2 = .pitch 2 → (t.stream[2]).pausing = false) := by decide +kernel

/-- dev with an open session 1, one object of a class and tiles with data in its first frame. -/
def owning (cls : BitVec 4) (tiles : Nat) (data : List Byte) : State :=
  let o : Obj := { id := 0x100, base := 8, tiles := tiles, cls := cls, cached := false, comp := 0, etype := 0, segment := false, policy := .pinDram, aff := (0, 0)
                   slot := none, seat := none, pack := none, tables := [], restored := false }
  { dev with
    sess := { dev.sess with open_ := true, id := 1 }
    tiers := { dev.tiers with objs := [o], dram := Mem.ofBytes 32768 data, map := [(8, { tier := .dram, len := 63, dframe := 8 })] } }

/-- A resident pack of English, a loaded graph and streams. -/
def voiced : State :=
  let s := owning 8 4 []
  let p : Pack := { id := 3, version := 1, expiry := 0, numerics := 0, obj := 0x100, langs := [0x30065], opers := [] }
  setGraph 0 (fun g => { g with state := .loaded, image := 0x101 }) { s with
    pack := s.pack.set 4 (some p)
    sess := { s.sess with langs := s.sess.langs.set 0 0x65 }
    stream := (s.stream.set 2 { state := .opened }).set 3 { state := .listening, kind := 1, inputs := 1 } }

/-- Sessions (R349). -/
theorem test_sessions :
    let s0 := owning 2 131 []
    let pool := { s0 with sess := {} }
    let c := devCmd 0x20 [0x100 + 1 * 2 ^ 16, 16, 5]
    let m := { c with desc := c.desc.set 3 64 }
    let p := { pool with tiers := { pool.tiers with objs := pool.tiers.objs.map fun o => { o with tiles := 128 + 3 * 66 } } }
    let t := after .sessionOpen (queued m p)
    openLayers m = 1 ∧ openMark m = 64 ∧ poolPages (128 + 3 * 66) = 66 ∧ hostB 0x20 m p = true ∧ fits m [(2, 0x1FFFFF), (3, 0x1FFF), (4, 0xFFFF), (5, -1), (6, -1), (7, -1), (8, -1)] = true
      ∧ t.sess.open_ = true ∧ t.tiers.pool = some 0x100 ∧ t.tiers.pages = 66 ∧ (answers .sessionOpen m pool).1 ≠ 0
      ∧ replies .sessionClose (cmdOf 0x21 1 255 []) voiced 0 [0, 0, 0, 0] = true ∧ ((after .sessionClose (queued (cmdOf 0x21 1 255 []) voiced)).stream[3]).state = .closed := by decide +kernel

/-- Streams open and close (R350). -/
theorem test_stream_open :
    let c := cmdOf 0x22 1 255 [0x650000, 0, 9, 4]
    let t := after .streamOpen (queued c voiced)
    hostB 0x22 c voiced = true ∧ fits c [(2, 0xFFFF001F), (3, -1), (4, -1), (5, 0x71F)] = true ∧ voiced.openTarget c = some 0 ∧ (voiced.namedPack c).isSome = true
      ∧ voiced.objFits (stateTiles 0) 3 = true ∧ (t.stream[0]).state = .opened ∧ (t.stream[0]).seed = 9 ∧ (answer t).1 = 0
      ∧ replies .streamClose (cmdOf 0x27 1 2 []) voiced 0 [0, 0, 0, 0] = true ∧ ((after .streamClose (queued (cmdOf 0x27 1 2 []) voiced)).stream[2]).state = .closed := by decide +kernel

/-- Streams start, pause, resume and drain; a start in the wrong state is deferred (R349, R343). -/
theorem test_stream_states :
    let st := fun (i : Fin 16) (t : State) => (t.stream[i]).state
    let paused := { voiced with stream := voiced.stream.set 2 { state := .paused } }
    let q := { cmdOf 0x23 1 3 [] with desc := (cmdOf 0x23 1 3 []).desc.set 0 (wd (0x23 + 2 ^ 9)) }
    let idle := { voiced with stream := voiced.stream.set 3 { state := .listening } }
    replies .streamStart (cmdOf 0x23 1 2 []) voiced 0 [0, 0, 0, 0] = true ∧ st 2 (after .streamStart (queued (cmdOf 0x23 1 2 []) voiced)) = .listening
      ∧ waits .streamPause (cmdOf 0x24 1 3 []) voiced (.pitch 3) = true ∧ idle.streamIdle 3 = true ∧ st 3 (after .streamPause (queued (cmdOf 0x24 1 3 []) idle)) = .paused
      ∧ replies .streamResume (cmdOf 0x25 1 2 []) paused 0 [0, 0, 0, 0] = true ∧ replies .streamDrain (cmdOf 0x26 1 3 []) voiced 0 [0, 0, 0, 0] = true
      ∧ st 3 (after .streamDrain (queued (cmdOf 0x26 1 3 []) voiced)) = .opened
      ∧ (let a := { voiced with stream := voiced.stream.set 3 { state := .active, kind := 1, inputs := 1 } }
         st 3 (after .streamDrain (queued (cmdOf 0x26 1 3 []) a)) = .draining)
      ∧ q.flag 9 = true ∧ q.op = 0x23 ∧ hostB 0x23 q voiced = true ∧ (after .streamStart (queued q voiced)).hif.waits.map (·.on) = [.deferred] := by decide +kernel

/-- A deferred start runs once its stream is OPEN (R343). -/
theorem test_deferred :
    let w : Waiting := { cmd := { cmdOf 0x23 1 2 [] with second := true }, on := .deferred, deadline := 2000000000, res := res0 }
    let s := { voiced with hif := { voiced.hif with waits := [w] } }
    let t := after (.deferredExecute 0) s
    (t.stream[2]).state = .listening ∧ t.hif.waits = [] ∧ (answer t).1 = 0 := by decide +kernel

/-- A KV pool of 66 pages whose first tile reads as a token page of two tokens. -/
def pooled : State :=
  let s := owning 2 326 [2, 0, 0, 0, 9]
  { s with
    tiers := { s.tiers with pool := some 0x100, pages := 66, layers := 1, mark := 16 }
    stream := s.stream.set 2 { state := .listening, kind := 1 } }

/-- A prefix is defined from a token page (R271). -/
theorem test_prefix_define :
    let d := cmdOf 0x28 1 255 [7, 0x8000]
    let t := after .prefixDefine (queued d pooled)
    hostB 0x28 d pooled = true ∧ (pooled.tokenPage d).isSome = true ∧ t.tiers.prefixes.map (·.words) = [[9, 0]] := by decide +kernel

/-- A context is attached, a prefix released, a text waits (R270, R272, R273, R365). -/
theorem test_contexts :
    let h := { pooled with tiers := { pooled.tiers with prefixes := [{ handle := 7, words := [9, 0], cols := [some [3]], kept := [], used := 0 }], refs := [(3, 1)] } }
    let a := cmdOf 0x29 1 2 [7]
    let x := cmdOf 0x2B 1 2 [5, 0x8000]
    (h.prefixOf 7).isSome = true ∧ replies .prefixAttach a h 0 [0, 0, 0, 0] = true ∧ ((after .prefixAttach (queued a h)).kv 2).length = 2
      ∧ replies .prefixAttach (cmdOf 0x29 1 2 [0]) pooled 0 [0, 0, 0, 0] = true ∧ replies .prefixAttach (cmdOf 0x29 1 2 [9]) pooled 0x17 [0, 0, 0, 0] = true
      ∧ (after .prefixRelease (queued (cmdOf 0x2A 1 255 [7]) h)).tiers.prefixes = []
      ∧ hostB 0x2B x pooled = true ∧ ((after .textSubmit (queued x pooled)).stream[2]).texts.length = 1 := by decide +kernel

/-- Pages (R331, R332). -/
theorem test_pages :
    let g := cmdOf 0x50 1 2 [0x5000, 0, 0x6000]
    let pg : Page := { addr := 0x5000, used := 36, first := 0, recs := [] }
    let p := { voiced with hif := { voiced.hif with retEn := true }, stream := voiced.stream.set 2 { state := .opened, page := some pg, held := 15 } }
    let n := { p with hif := { p.hif with bme := false } }
    replies .pageGrant g voiced 0 [2, 0, 0, 0] = true ∧ ((after .pageGrant (queued g voiced)).stream[2]).held = 2 ∧ replies .pageGrant g p 0x13 [0, 0, 0, 0] = true
      ∧ replies .pageFlush (cmdOf 0x51 1 2 []) voiced 0 [0, 0, 0, 0] = true ∧ replies .pageFlush (cmdOf 0x51 1 2 []) p 0 [4, 0, 0, 0] = true
      ∧ ((after .pageFlush (queued (cmdOf 0x51 1 2 []) p)).stream[2]).page = none ∧ waits .pageFlush (cmdOf 0x51 1 2 []) n .busMaster = true := by decide +kernel

/-- Objects (R230..R232, R239). -/
theorem test_objects :
    let s := owning 1 2 []
    let a := devCmd 0x13 [2, 1]
    let p := devCmd 0x14 [0x100 + 2 * 2 ^ 16, 2 ^ 16]
    let t := after .objAlloc (queued a s)
    let mv := { s with tiers := { s.tiers with map := [(8, { tier := .dram, len := 63, dframe := 8, inflight := true })] } }
    let sess := { s with tiers := { s.tiers with pool := some 0x100 } }
    hostB 0x13 a s = true ∧ s.objFits 2 1 = true ∧ t.tiers.objs.length = 2 ∧ hostB 0x14 p s = true
      ∧ (after .objPlace (queued p s)).tiers.objs.map (·.policy) = [.preferHome] ∧ (after .objFlush (queued (devCmd 0x15 [0x100]) s)).hif.waits = []
      ∧ (s.hostObj 0x100).map s.objUse = some 0 ∧ (after .objFree (queued (devCmd 0x16 [0x100]) s)).tiers.objs = []
      ∧ waits .objFree (devCmd 0x16 [0x100]) mv (.free 0x100) = true ∧ replies .objFree (devCmd 0x16 [0x100]) sess 0x12 [1, 0, 0, 0] = true := by decide +kernel

/-- A 256-bit number as big-endian bytes. -/
def be32 (n : Nat) : List Byte := (bytesN 32 n).reverse

/-- A pack of one section of English, signed under key slot 0 of `packed`: u1 and u2 of the verification are small. -/
def packBytes : List Byte :=
  bytesOfWords ([0x4F4C5041, 1, 0x10003, 0, 1, 320] ++ List.replicate 26 0 ++ [4, 192, 4, 1] ++ List.replicate 12 0 ++ [0x30065] ++ List.replicate 15 0)
    ++ be32 0xc02235e41b79c9231e047775ec3c64c3c93a59ed99c6c0314ed68d35411e3a48
    ++ be32 0xc02235e41b79c9231e047775ec3c64c3c93a59ed99c6c0314ed68d35411e3a48

/-- The pack's bytes in object 0x100, its key in force. -/
def packed : State :=
  let s := owning 8 1 packBytes
  { s with guard := { s.guard with keys := s.guard.keys.set 0 ([1, 0, 0, 0] ++ List.replicate 12 0
      ++ be32 0x2f7ec8b3d2a1ed6876d7033f7a79723eff36f216127845dae7cf2e47f5aa2466
      ++ be32 0xd75a548dbf12dc7e3a277a3a13911c23e1523e81b4e1f2a506679c774b122d9b) } }

/-- The pack is loaded at handle 0, and verified (R371..R374). -/
theorem test_pack_load :
    let c := devCmd 0x10 [0x100]
    let t := after .packLoad (queued c packed)
    hostB 0x10 c packed = true ∧ answer t = (0, [0, 0x10003, 0, 0]) ∧ (t.pack[0]).map (·.langs) = some [0x30065] := by decide +kernel

/-- Once resident it is named, evicted, and conflicts while a stream uses it; a changed byte fails (R372, R373). -/
theorem test_packs :
    let p : Pack := { id := 3, version := 1, expiry := 0, numerics := 0, obj := 0x100, langs := [], opers := [] }
    let s := { packed with pack := packed.pack.set 5 (some p) }
    let u := { s with stream := s.stream.set 2 { state := .opened, pack := 5 } }
    let v := { packed with tiers := { packed.tiers with dram := packed.tiers.dram.drop 1 } }
    replies .packLoad (devCmd 0x10 [0x100]) s 0 [5, 0x10003, 0, 0] = true ∧ replies .packLoad (devCmd 0x10 [0x100]) v 0x19 [0, 0, 0, 0] = true
      ∧ replies .packEvict (devCmd 0x12 [5]) s 0 [0, 0, 0, 0] = true ∧ (after .packEvict (queued (devCmd 0x12 [5]) s)).pack[5] = none
      ∧ replies .packEvict (devCmd 0x12 [5]) u 0x12 [1, 0, 0, 0] = true := by decide +kernel

/-- PACK_VERIFY (R373). -/
theorem test_pack_verify :
    let v := { packed with tiers := { packed.tiers with dram := packed.tiers.dram.drop 1 } }
    replies .packVerify (devCmd 0x11 [0x100]) packed 0 [0, 0, 0, 0] = true ∧ replies .packVerify (devCmd 0x11 [0x100]) v 0x19 [0, 0, 0, 0] = true := by decide +kernel

/-- A core image of one word, NOP's zero word. -/
def imageWords : List Word := [0x47504C4F, 1, 4, 0, 0x11, 0x2144DF1C] ++ List.replicate 11 0

/-- The image stands in object 0x100; nodes 0 and 1 carry the numbers 0 and 1. -/
def imaged : State :=
  let s := owning 7 1 (bytesOfWords imageWords)
  { s with grid := { s.grid with width := 256, role := (s.grid.role.set 0 (.mapped 0)).set 1 (.mapped 1) } }

/-- The image passes Table 8.3 at every ISA level. -/
theorem test_image_ok : imageOk (imageWords.take 16) (bytesOf 0) = true := by
  have h : (0 : Nat) ≤ Config.isaLevel.toNat := Nat.zero_le _
  have h8 : fld (wAt (imageWords.take 16) 1) 8 8 = 0 := by decide
  have hc : crc32 (bytesOf 0) = wAt (imageWords.take 16) 5 := by decide +kernel
  simp only [imageOk, h8, hc, h, decide_true, Bool.and_true]
  decide +kernel

/-- A PROGRAM_LOAD of the image on cores 0 and 1. -/
theorem test_program_load :
    let c := devCmd 0xA0 [0x100 * 2 ^ 16 + 2, 3]
    let r := setGraph 2 (fun x => { x with state := .running, cores := [0] }) imaged
    hostB 0xA0 c imaged = true ∧ cGraph c = 2 ∧ cCores c = [0, 1] ∧ hostB 0xA0 c r = true ∧ fits c ((2, 0xFFFF0007) :: (List.range 8).map fun k => (3 + k, -1)) = true
      ∧ (imaged.hostObj 0x100).map (·.cls) = some 7 ∧ ((imaged.hostObj 0x100).bind imaged.image).map (fun x => (x.1.length, x.2)) = some (16, bytesOf 0)
      ∧ imaged.nodeOf 1 = some 1 ∧ imaged.coreTaken 2 0 = false ∧ imaged.poolHolds 1 1 = true
      ∧ ((after .programLoad (queued c imaged)).grid.graph[2]).state = .loaded := by decide +kernel

/-- A loaded graph is launched, stopped and emptied (Table 8.2). -/
theorem test_graph_states :
    let l := setCore 0 (fun c => { c with graph := some 2, entry := 3 }) (setGraph 2 (fun x => { x with state := .loaded, cores := [0], plan := some {}, epoch := 4 }) imaged)
    let t := after .graphLaunch (queued (devCmd 0xA1 [2]) l)
    let r := { t with hif := dev.hif }
    let b := { r with stream := r.stream.set 3 { state := .listening, graph := 2, inputs := 1 } }
    let f := setGraph 2 (fun x => { x with state := .faulted }) r
    let stop := devCmd 0xA2 [2]
    replies .graphLaunch (devCmd 0xA1 [2]) l 0 [0, 0, 0, 0] = true ∧ (t.core 0).run = .running ∧ (t.core 0).pc = 12 ∧ (t.core 0).getG 2 = 4 ∧ (t.core 0).getG 1 = 2
      ∧ b.atBoundary 2 = false ∧ waits .graphStop stop b (.stop 2) = true ∧ r.atBoundary 2 = true ∧ ((after .graphStop (queued stop r)).grid.graph[2]).state = .loaded
      ∧ replies .graphStop stop f 0 [0, 0, 0, 0] = true ∧ replies .graphStop stop l 0 [0, 0, 0, 0] = true
      ∧ ((after .graphStop (queued stop l)).grid.graph[2]).state = .empty ∧ replies .graphStop stop imaged 0x12 [0, 0, 0, 0] = true := by decide +kernel

/-- A plan of one target is taken by a LOADED graph, staged by a RUNNING one (R169, R361). -/
theorem test_credit_plan :
    let ws : List Word := [0x43504C4E, 0x101, 1, 0, 0, 0, 0, 0, 0, 0, 0, 0, 0, 0, 0, 0, 0x101, 0x300]
    let s := setGraph 2 (fun x => { x with state := .loaded, cores := [0, 1] }) (owning 1 1 (bytesOfWords ws))
    let r := setGraph 2 (fun x => { x with state := .running }) s
    let c := devCmd 0xA3 [0x100 * 2 ^ 16 + 2]
    hostB 0xA3 c s = true ∧ (s.planOf 2 0x100).map (fun p => (p.credits, s.treesFit 2 p)) = some ([(1, 0, 3)], true)
      ∧ ((after .creditPlan (queued c s)).grid.graph[2]).plan.isSome = true ∧ ((after .creditPlan (queued c r)).grid.graph[2]).stagedPlan.isSome = true := by decide +kernel

/-- SAP_CONFIG of a stopped port, a staged mask of a running one; start and stop (R73..R93). -/
theorem test_sap_commands :
    let c := devCmd 0x30 [0x500, 0x14, 48000, 240 * 2 ^ 16]
    let m := devCmd 0x30 [0x200, 0, 0, 3]
    let run := withSap 0 (fun x => { x with state := .running, cfg := 0x14 }) dev
    let flt := withSap 0 (fun x => { x with state := .faulted }) dev
    hostB 0x30 c dev = true ∧ ((sapConfigFields c (dev.sap[0])).all fun k => !k.1) = true ∧ (answers .sapConfig c dev).1 = 0
      ∧ ((after .sapConfig (queued c dev)).sap[0]).cfg = 0x14 ∧ ((sapConfigFields m (run.sap[0])).all fun k => !k.1) = true
      ∧ ((after .sapConfig (queued m run)).sap[0]).maskSt = some 3 ∧ replies .sapStart (devCmd 0x31 [0]) dev 0 [0, 0, 0, 0] = true
      ∧ ((after .sapStart (queued (devCmd 0x31 [0]) dev)).sap[0]).state = .running ∧ waits .sapStop (devCmd 0x32 [0]) run (.sapStop 0) = true
      ∧ ((after .sapStop (queued (devCmd 0x32 [0]) flt)).sap[0]).state = .stopped ∧ replies .sapStop (devCmd 0x32 [0]) dev 0x12 [0, 0, 0, 0] = true := by decide +kernel

/-- Zones: defined, staged where a member's port runs, muted, held, routed (R87..R91, R353). -/
theorem test_zone_commands :
    let out := withSap 1 (fun x => { x with cfg := 0x14 }) dev
    let run := withSap 1 (fun x => { x with state := .running, cfg := 0x14 }) dev
    let c := devCmd 0x33 [2, 0x0003]
    let runz := { run with zone := run.zone.set 2 { (run.zone[2]) with mem := (run.zone[2]).mem.set 0 3 } }
    let held := { dev with holds := { dev.holds with zones := 4, kinds := 2 } }
    let str := { dev with sess := { dev.sess with open_ := true, id := 1 }, stream := dev.stream.set 2 { state := .opened } }
    (out.sap[1]).out = true ∧ replies .zoneDefine c out 0 [0, 0, 0, 0] = true ∧ ((after .zoneDefine (queued c out)).zone[2]).mem[0] = 3
      ∧ hostB 0x33 c runz = true ∧ runz.zoneOn 2 1 = true ∧ ((after .zoneDefine (queued c runz)).zone[2]).memSt.isSome = true
      ∧ (after .zoneMute (queued (devCmd 0x35 [0x104]) dev)).zone[2].hmute = true ∧ replies .zoneMute (devCmd 0x35 [4]) held 0x15 [4, 0, 0, 0] = true
      ∧ replies .zoneRoute (cmdOf 0x34 1 2 [0x70105]) str 0 [0, 0, 0, 0] = true ∧ ((after .zoneRoute (queued (cmdOf 0x34 1 2 [0x70105]) str)).stream[2]).atten = 7 := by decide +kernel

/-- FE_CONFIG, RNC_ENABLE, RNC_DISABLE and SEAT_MAP (R138, R139, R353). -/
theorem test_front_end_commands :
    let s := withSap 0 (fun x => { x with sync := true, state := .running, cfg := 0x71 }) (withSap 1 (fun x => { x with sync := true, state := .running, cfg := 0x14 }) dev)
    let f := devCmd 0x40 [3, 0x1101]
    let w := devCmd 0x41 [0x204, 0x01, 0, 0x03, 0, 0x11, 0]
    let o := { s with sess := { s.sess with open_ := true, id := 1 } }
    let m := cmdOf 0x43 1 255 [1, 0, 9]
    fits f [(2, 0xF), (3, -1), (4, -1), (5, -1), (6, -1)] = true ∧ (validChans (cChans f 3 16)).length = 2 ∧ waits .feConfig f s .hop = true
      ∧ fits w ((2, 0x1F0F) :: (List.range 6).map fun k => (3 + k, -1)) = true ∧ waits .rncEnable w s .cabin = true
      ∧ replies .rncDisable (devCmd 0x42 []) s 0 [0, 0, 0, 0] = true ∧ waits .seatMap m o .hop = true := by decide +kernel

/-! ### Guard, ledger, records -/

/-- A table is proposed with its digest (R382, R383): object 0x100 holds an image of index 1. -/
theorem test_guard_propose :
    let s := owning 7 1 [5]
    let c := devCmd 0x60 [1, 9, 0x100, 16]
    let t := after .guardPropose (queued c s)
    hostB 0x60 c s = true ∧ tableSize 1 = some 16 ∧ ((s.hostObj 0x100).bind fun o => s.objBytes o 0 16) = some (5 :: List.replicate 15 0)
      ∧ imageFault 1 (5 :: List.replicate 15 0) = none ∧ (answer t).1 = 0 ∧ (t.guard.host).map (·.index) = some 1 ∧ bit t.hif.alert 2 = true := by decide +kernel

/-- A ledger import is proposed under index 0x80 (R414). -/
theorem test_ledger_import :
    let s := owning 7 1 [1]
    let c := devCmd 0x83 [0x100, 1]
    let t := after .ledgerImport (queued c s)
    hostB 0x83 c s = true ∧ (entriesOf (1 :: List.replicate 7 0)).all entryOk = true ∧ (t.guard.host).map (·.index) = some 0x80 := by decide +kernel

/-- A proposal of the supervisor's is confirmed or vetoed by the host; its own is not (R384, R385). -/
theorem test_guard_answers :
    let p : Proposal := { id := 7, index := 1, nonce := 0, image := [], digest := BitVec.ofNat 256 (5 + 9 * 2 ^ 32), window := 0, ends := 2000000000, mismatches := 0 }
    let s := { dev with guard := { dev.guard with spv := some p } }
    let h := { dev with guard := { dev.guard with host := some p } }
    let c := devCmd 0x61 [7, digestWord p.digest 0, digestWord p.digest 1]
    let t := after .guardConfirm (queued c s)
    s.pendingId 7 0 = some (false, p) ∧ waits .guardConfirm c s .guard = true ∧ t.guard.spv = none ∧ t.guard.confirmed.length = 1
      ∧ replies .guardConfirm c h 0x16 [0, 0, 0, 0] = true ∧ replies .guardConfirm c dev 0x1F [0, 0, 0, 0] = true
      ∧ replies .guardVeto (devCmd 0x62 [7]) s 0 [0, 0, 0, 0] = true ∧ replies .guardVeto (devCmd 0x62 [7]) dev 0x1F [0, 0, 0, 0] = true := by decide +kernel

/-- GUARD_QUERY with and without an address (R388). -/
theorem test_guard_query :
    let n := { dev with hif := { dev.hif with bme := false } }
    let c := devCmd 0x63 [1, 0x5000]
    let t := after .guardQuery (queued c dev)
    (answers .guardQuery (devCmd 0x63 [1]) dev).1 = 0 ∧ hostB 0x63 c dev = true ∧ busAligned (c.w64 3 4) = true ∧ (answer t).1 = 0
      ∧ wordOf (t.hif.mem.readN 0x5000 4) = dev.guard.window.setWidth 32 ∧ waits .guardQuery c n .busMaster = true := by decide +kernel

/-- BIST_RUN of an idle core: passed, failed (R358, R403). -/
theorem test_bist :
    let c := devCmd 0x81 [0x51]
    let t := after (.bistRun false 9) (queued c dev)
    bistIds 1 5 = true ∧ dev.unitBusy 1 5 = false ∧ replies (.bistRun true 8) c dev 0 [1, 8, 0, 0] = true ∧ (answer t) = (0, [0, 9, 0, 0])
      ∧ t.hlt.permanent.map (·.1) = [unit 1 5] := by decide +kernel

/-- LEDGER_EXPORT writes the entries from 0 on (R413). -/
theorem test_ledger_export :
    let s := { dev with otp := { dev.otp with ledger := [(0, 0x1234)], nextSlot := 1 } }
    let c := devCmd 0x82 [0x5000, 0, 1 * 2 ^ 16]
    let t := after .ledgerExport (queued c s)
    hostB 0x82 c s = true ∧ (s.ledgerAt 0).isSome = true ∧ (answer t) = (0, [1, 0, 0, 0]) ∧ wordOf (t.hif.mem.readN 0x5000 4) = 0x1234 := by decide +kernel

/-- PROBE_SET, STATS_READ, TRACE_DUMP, EVENT_DRAIN (R225, R228, R359, R431). -/
theorem test_records :
    let p := devCmd 0x90 [15, 1 + 287 * 2 ^ 3 + 5 * 2 ^ 12, 7, 0, 9, 0, 1]
    let t := after .probeSet (queued p dev)
    let st := devCmd 0x91 [299 + 2 ^ 9, 0x5000]
    let s := setNi 299 (fun x => { x with stats := { x.stats with pkts := 3 } }) dev
    let u := after .statsRead (queued st s)
    let d := { devCmd 0x92 [0x5000, 0, 2 ^ 16 + 1] with id := 4 }
    let r := { dev with fab := { dev.fab with trace := [Vector.replicate 8 6], dumps := [(4, 1)] } }
    let v := after .traceDump (queued d r)
    let e := { devCmd 0x93 [0x5000, 0, 1] with id := 4 }
    let g0 := logEvent 4 1 7 8 (logEvent 4 1 5 6 dev)
    let g := { g0 with dbg := { g0.dbg with resv := [(4, [0])] } }
    let w := after .eventDrain (queued e g)
    replies .probeSet p dev 0 [0, 0, 0, 0] = true ∧ (t.fab.cairn[15]).match_ = 7 ∧ (t.fab.cairn[15]).mask = 9 ∧ t.fab.wrap = true
      ∧ hostB 0x91 st s = true ∧ (u.ni 299).stats.pkts = 0 ∧ (answer u).1 = 0
      ∧ hostB 0x92 d r = true ∧ (answer v) = (0, [1, 0, 0, 0]) ∧ v.fab.trace = [] ∧ wordOf (v.hif.mem.readN 0x501C 4) = 6
      ∧ hostB 0x93 e g = true ∧ (answer w) = (0, [1, 1, 0, 0]) ∧ w.dbg.log.map (·.arg0) = [7] ∧ wordOf (w.hif.mem.readN 0x5018 4) = 5 := by decide +kernel

/-! ### Belay, moves, KV, start-up, power, debug -/

/-- A state that asks for each domain: STANDBY wanted, every row, S2 and S3 on, the link up with ASPM. -/
def leaving : State :=
  { dev with pwr := { dev.pwr with target := some 1 }, pma := { dev.pma with s23 := 2 }, hif := { dev.hif with aspm := true } }

/-- A request begins a belay; a second domain's stands beside it; a domain in belay takes no second (R220, R223). -/
theorem test_belay_request : ∀ x ∈ ([(.dram, false), (.hostLink, true), (.s23, true), (.row 3, false)] : List (Domain × Bool)),
    let t := after (.belayRequest x.1 x.2) leaving
    let u := after (.belayRequest (if x.1 = .dram then .hostLink else .dram) (decide (x.1 = .dram))) (if x.1 = .dram then { t with hif := { t.hif with aspm := true } } else t)
    leaving.sterdo = true ∧ leaving.mayBelay x.1 x.2 = true ∧ (∀ y, x.1 = .row y → (leaving.rowRuns y.1).length = 0)
      ∧ (t.belayOf x.1).map (fun b => (b.step, b.off)) = some (.request, x.2) ∧ u.fab.belays.length = 2
      ∧ (after (.belayRequest x.1 x.2) t).fab.belays.length = 1 := by decide +kernel

/-- The host link's belay in a step. -/
def belaying (d : Domain) (off : Bool) (k : BelayStep) : State :=
  { leaving with fab := { leaving.fab with belays := [{ dom := d, off := off, step := k, since := 1000000000 }] } }

/-- Drain and fence (Table 11.2). -/
theorem test_belay_fence :
    let s := belaying .hostLink true .request
    let d := after (.belayDrainDone .hostLink) s
    s.drained .hostLink = true ∧ d.belayAt .hostLink .drained = true ∧ (after (.belayFence .hostLink) d).belayAt .hostLink .fenced = true := by decide +kernel

/-- The target states, the link's wake, an abort after 20 ms (Table 11.2). -/
theorem test_belay_ends :
    let ack := fun (d : Domain) => after (.belayAcknowledge d) (belaying d true .fenced)
    let s := belaying .s23 true .drained
    let o := after (.belayAbort .s23) { s with clk := { s.clk with tempo := 1020000001 } }
    (ack .hostLink).hif.l11 = true ∧ (after (.domainWake .hostLink) (ack .hostLink)).hif.l1 = false ∧ (ack .s23).pma.s23 = 0 ∧ (ack .dram).belayAt .dram .switched = true
      ∧ (ack (.row 3)).belayAt (.row 3) .switched = true ∧ o.fab.belays = [] ∧ o.fab.belayAbort = 1 ∧ bit o.fab.irq 0 = true
      ∧ (after (.belayAbort .s23) { s with clk := { s.clk with tempo := 1020000000 } }).fab.belays.length = 1 := by decide +kernel

/-- Demand cancels a belay before its fence; a demanded or unwanted domain wakes (Table 11.2). -/
theorem test_belay_demand :
    let b : Belay := { dom := .hostLink, off := false, step := .request, since := 0 }
    let s := { leaving with fab := { leaving.fab with belays := [b] } }
    let r := { dev with fab := { dev.fab with belays := [{ b with dom := .row 3, step := .switched }] } }
    let w := { dev with fab := { dev.fab with belays := [{ b with dom := .dram, step := .switched }] } }
    s.demanded .hostLink = true ∧ (after (.belayCancel .hostLink) s).fab.belays = [] ∧ r.wakes (.row 3) = true ∧ (after (.domainWake (.row 3)) r).fab.belays = []
      ∧ w.wakes .dram = true ∧ (after (.domainWake .dram) w).fab.belays = [] := by decide +kernel

/-- The device with the tiles of `tiered`: tile 8 in frame 8, tile 9 at home on core 0. -/
def hauled (f : Tiers → Tiers) : State := { dev with tiers := f (tiered (pkt 0) 0).tiers }

/-- A home tile is moved to its frame: its run is closed first, and at the end the move is counted (R241, R244). -/
theorem test_tile_move :
    let m : Move := { kind := .evict, tile := 9, toHome := false, drop := true, widen := false, relocate := false }
    let s := hauled fun x => { x with haul := x.haul.set 1 [m] }
    let t := after (.tileMoveStart ⟨1, .clean⟩) s
    let d := hauled fun x => { x with moving := x.moving.set 1 [{ move := m, phase := 3, source := none, target := none }] }
    s.moveDue m = true ∧ (t.entry 9).inflight = true ∧ t.tiers.haul[1] = [] ∧ (t.ni (dramNi 1)).reqs.map (fun r => (r.dst, r.pkt.cmd)) = [(0x400, 0xC6)]
      ∧ t.tiers.moving[1].map (fun x => (x.phase, x.source)) = [(0, some (0, 0, 64))] ∧ (s.objOf 9).isSome = true
      ∧ (after (.tileMoveDone 1) d).tiers.moves = 1 ∧ (after (.tileMoveDone 1) d).tiers.moving[1] = [] ∧ (after (.tileMoveStart ⟨0, .clean⟩) s).tiers.moving[0] = [] := by decide +kernel

/-- A frame's tile comes home in packets of 512 bytes, and its entry names the new run at the end (R239, R241). -/
theorem test_tile_home :
    let m : Move := { kind := .demand, tile := 8, toHome := true, drop := false, widen := false, relocate := false }
    let grid := { dev.grid with width := 256, role := Vector.ofFn fun j => if j.1 < 248 then .mapped j.1 else .spare }
    let s := { hauled (fun x => { x with haul := x.haul.set 0 [m] }) with grid := grid }
    let t := after (.tileMoveStart ⟨0, .clean⟩) s
    let a : Moving := { move := m, phase := 3, source := none, target := some (0, 64, 64) }
    let d := { hauled (fun x => { x with
      moving := x.moving.set 0 [a], runs := x.runs ++ [{ node := 0, granule := 64, len := 64, tile := 8, closed := false }] }) with grid := grid }
    let u := after (.tileMoveDone 0) d
    s.moveDue m = true ∧ s.moveTarget m = some (0, 64) ∧ (t.entry 8).inflight = true ∧ t.tiers.moving[0].map (fun x => (x.phase, x.target)) = [(2, some (0, 64, 64))]
      ∧ (t.ni (dramNi 0)).reqs.map (·.pkt.cmd) = List.replicate 8 0xC5 ∧ (d.moveBytes a).length = 4096 ∧ (d.entry 8).run = none
      ∧ (d.tiers.runs.any fun r => r.at_ 8 0 64) = true ∧ u.tiers.moving[0] = [] ∧ u.tiers.moves = 1 ∧ (u.entry 8).atHome = true ∧ (u.entry 8).granule = 64 := by decide +kernel

/-- The pool with stream 2's context. -/
def kvSt (v : Kv) (pages : Nat) (refs : List (Nat × Nat)) : State :=
  setKv 2 (fun _ => v) { pooled with tiers := { pooled.tiers with pages := pages, refs := refs } }

/-- A column is dropped below the mark (R275). -/
theorem test_kv_drop :
    let k := kvSt { length := 40, cols := [some [0], some [1]] } 2 [(0, 1), (1, 1)]
    let d := { k with tiers := { k.tiers with mark := 1 } }
    (d.dropCandidate 0).isSome = true ∧ ((after (.kvDrop 0) d).kv 2).cols ≠ (d.kv 2).cols := by decide +kernel

/-- The next column gets pages, or the step waits (R274, R277). -/
theorem test_kv_columns :
    let g := kvSt { length := 32, cols := [some [0]] } 2 [(0, 1)]
    let n := kvSt { length := 32, cols := [some [0]] } 1 [(0, 1)]
    g.colToGive 2 = some 1 ∧ g.freePages 1 = some [1] ∧ ((after (.copyOnWrite 2) g).kv 2).cols = [some [0], some [1]]
      ∧ n.freePages 1 = none ∧ ((after (.copyOnWrite 2) n).kv 2).waitAt = some 1000000000 := by decide +kernel

/-- Absent columns are replayed, or the step waits, 100 ms at most (R276, R277). -/
theorem test_kv_replay :
    let r := kvSt { length := 33, cols := [none, some [0]] } 2 [(0, 1)]
    let z := kvSt { length := 33, cols := [none, some [0]] } 1 [(0, 1)]
    let w := kvSt { waitAt := some 900000000 } 2 []
    (r.kv 2).absent = [0] ∧ r.freePages 1 = some [1] ∧ ((after (.kvReplay 2) r).kv 2).absent = [] ∧ ((after (.kvReplay 2) z).kv 2).waitAt.isSome = true
      ∧ ((after (.pageWaitTimeout 2) w).stream[2]).state = .faulted := by decide +kernel

/-- Idle state is parked and comes home (R283, R284). -/
theorem test_park :
    let s := { pooled with stream := pooled.stream.set 2 { state := .listening, obj := some 0x100, idle100 := 10, idleAt := 0 } }
    let t := after (.parkIdleExpiry 2) s
    let h := { s with stream := s.stream.set 2 { state := .listening, obj := some 0x100, moving := some false, parked := true }, tiers := { s.tiers with map := [] } }
    (s.stateObj 2).isSome = true ∧ s.streamIdle 2 = true ∧ (t.stream[2]).moving = some true ∧ (after (.parkDone 2) t).tiers.parks = 1
      ∧ ((after (.parkDone 2) t).stream[2]).parked = true ∧ (after (.restoreDone 2) h).tiers.restores = 1 ∧ ((after (.restoreDone 2) h).stream[2]).parked = false := by decide +kernel

/-- A device whose boot has ended the steps named. -/
def booted (done : BitVec 11) : State := { State.reset with boot := { State.reset.boot with done := done }, clk := { State.reset.clk with pllLock := decide (done ≠ 0) } }

/-- The PLL, OTP and its ledger (Table 22.1 steps 1, 2). -/
theorem test_boot_otp :
    let ok : OtpFault := { word := false, lockstep := false, ledger := [] }
    let l := { booted 2 with otp := { (booted 2).otp with ledger := [(0, ledgerEntry (unit uLaser 3) 0 1 0)] } }
    (after .bootPllLock State.reset).clk.pllLock = true ∧ (after .bootPllLock State.reset).did 1 = true
      ∧ (booted 2).booting = true ∧ (after (.bootOtpRead { ok with word := true }) (booted 2)).boot.failStep = 2 ∧ (after (.bootOtpRead ok) l).did 2 = true
      ∧ (after (.bootOtpRead ok) l).isRetired (unit uLaser 3) = true ∧ (after (.bootOtpRead { ok with ledger := [0] }) l).hlt.retired = [] := by decide +kernel

/-- BIST, DRAM training, the configuration space, Sterdo (Table 22.1 steps 3, 5, 7, 9). -/
theorem test_boot_steps :
    (after (.bootBistDone [unit uLink 7]) (booted 6)).isRetired (unit uLink 7) = true ∧ (after (.bootBistDone []) (booted 6)).did 3 = true
      ∧ (after (.dramTrainingDone 1) (booted 0xE)).boot.dramFail = true ∧ (after .configSpaceReady { booted 0x3E with gen := { (booted 0x3E).gen with perstN := true } }).boot.cfgReady = true
      ∧ (after (.sterdoStart true) (booted 0x1BE)).did 9 = true ∧ (after (.sterdoStart false) (booted 0x1BE)).boot.failStep = 9 := by decide +kernel

/-- The core map of a whole grid, and of one without cores (R156, R393). -/
theorem test_boot_core_map :
    let s := booted 0xE
    let none_ := { s with fab := { s.fab with deadRouters := List.range 288 } }
    (after .bootCoreMap s).grid.width = 256 ∧ (after .bootCoreMap s).did 4 = true ∧ none_.fitWidth none_.fused = none ∧ (after .bootCoreMap none_).grid.oos = true := by decide +kernel

/-- QUIET at last: the rows but the anchor's are switched off (R395). -/
theorem test_quiet :
    let s := { booted 0x3FE with pma := { (booted 0x3FE).pma with ready := true }, grid := { (booted 0x3FE).grid with anchorY := 7 } }
    let t := after .quietReadiness s
    t.boot.quietReady = true ∧ t.did 10 = true ∧ t.pwr.mode = 2 ∧ t.fab.belays.length = 15 := by decide +kernel

/-- Chunks of firmware (R397, R398). -/
theorem test_firmware_chunks :
    let st := fun (x : FwState) => { dev with boot := { dev.boot with fw := x } }
    let f := after (.fwChunkFirst 0xC0000040) (st .idle)
    let c := after .fwChunkCopyDone { f with boot := { f.boot with mailbox := [(3, 9)] } }
    f.boot.fw = .copying ∧ f.boot.chunk = some (64, true) ∧ c.boot.fw = .verifying ∧ c.boot.image.length = 64 ∧ c.boot.image[3]? = some 9
      ∧ (after (.fwChunkFirst 0x40000041) (st .idle)).boot.fwReason = 2 ∧ (after (.fwChunkNext 64) (st .idle)).boot.fwReason = 6
      ∧ (after (.fwChunkNext 64) (st .receiving)).boot.fw = .copying ∧ (after (.fwAbort 0x20000000) (st .receiving)).boot.fw = .idle
      ∧ (after (.fwAbort 0x20000000) dev).boot.fwIgnored = 1 ∧ (after (.fwChunkNext 64) dev).boot.fwIgnored = 1 := by decide +kernel

/-- A firmware image of 1024 B: header, key, zeros, signature. -/
def firmware : List Byte :=
  bytesOfWords ([0x53544430, 1, 0x10000, 1024] ++ List.replicate 12 0)
    ++ be32 0x60fed4ba255a9d31c961eb74c6356d68c049b8923b61fa6ce669622e60f29fb6 ++ be32 0x7903fe1008b8bc99a41ae9e95628bc64f2f1b20c2d7e9f5177a3c294d4462299
    ++ List.replicate 832 0
    ++ be32 0x88bb9ff22ab291a74c86fc677ba897baadee370cc6129b82d170ba3fc26415c ++ be32 0xac4247881f033b5a9fb9779653615d4e520410fc375345836d3dad68475aa4e8

/-- The image under verification, its key's hash in OTP. -/
def verifying (b : List Byte) : State :=
  { dev with
    otp := { dev.otp with keyHash := 0xd6c23e2744a840cb3a5a14b6554cce7c070057c4e3298cb93577de687eece659 }
    boot := { dev.boot with fw := .verifying, image := b, done := 0xFE } }

/-- A signed image passes R399's checks and runs. -/
theorem test_firmware_runs : fwCheck (verifying firmware).otp firmware = none := by decide +kernel

/-- One without its magic, of another length, or of another key is rejected (R399). -/
theorem test_firmware_rejected :
    (after .fwVerifyDone (verifying (firmware.set 0 0))).boot.fwReason = 1 ∧ (after .fwVerifyDone (verifying (firmware.take 960))).boot.fwReason = 2
      ∧ (after .fwVerifyDone (verifying (firmware.set 64 0))).boot.fwReason = 3 ∧ (after .fwVerifyDone (verifying (firmware.set 64 0))).boot.fw = .rejected := by decide +kernel

/-- VCORE, the regulator's polls, the caps (R421..R425). -/
theorem test_voltage :
    let s := { dev with pwr := { dev.pwr with reqMv := 700 } }
    let p : PmicPoll := { vout := 0xC00, iout := 0, status := 0, nacks := 0 }
    let v := { dev with pwr := { dev.pwr with voutBad := some 990000000 } }
    let h := { dev with pwr := { dev.pwr with iout := 7201 } }
    let l := { dev with pwr := { dev.pwr with iout := 6499, curCap := some 745 } }
    s.did 9 = true ∧ s.goalMv = 750 ∧ (after (.vcoreStep 0) s).pwr.reqMv = 710 ∧ (after (.vcoreStep 4) s).pwr.pmbusFail = true
      ∧ (after (.pmbusPoll p) dev).pwr.measMv = 750 ∧ bit (after (.pmbusPoll { p with status := 1 }) dev).hif.alert 3 = true
      ∧ bit (after (.pmbAlert 1 0) dev).pwr.irq 3 = true ∧ (after (.pmbAlert 0 4) dev).pwr.pmbusFail = true
      ∧ (after .voutToleranceFault v).pwr.voutFault = true ∧ (after .currentCapStep h).pwr.curCap = some 740 ∧ (after .currentCapStep l).pwr.curCap = none := by decide +kernel

/-- Heat: shedding, caps, shutdown at 125 C (R425..R427). -/
theorem test_heat :
    let hot := { dev with pwr := { dev.pwr with tj := 105 } }
    let cool := { dev with pwr := { dev.pwr with tj := 99, thermCap := some 700 } }
    let shed := { dev with pwr := { dev.pwr with shed := true, coolAt := some 0 } }
    let d := after (.thermalSample 125 0 0) dev
    (after (.thermalSample 100 114 1) dev).pwr.tj = 114 ∧ (after (.thermalSample 100 114 1) dev).pwr.shed = false ∧ (after (.thermalSample 115 0 0) dev).pwr.shed = true
      ∧ d.pwr.tsdAt = some 1000000000 ∧ d.pwr.tsdSeen = true ∧ (after .thermalCapStep hot).pwr.thermCap = some 740 ∧ (after .thermalCapStep hot).pwr.throttle = true
      ∧ (after .thermalCapStep cool).pwr.thermCap = some 710 ∧ (after .shedEnd shed).pwr.shed = false
      ∧ (after .shutdownPowerOff { d with clk := { d.clk with tempo := 1001000000 } }).powered = false := by decide +kernel

/-- TAP and DAP (R433..R436). -/
theorem test_debug :
    let lvl := fun (k : Nat) => { dev with guard := { dev.guard with policy := BitVec.ofNat 32 (1 + k * 2 ^ 8) } }
    let o := after .dap (lvl 2)
    let r := after .dap (lvl 1)
    let q := { lvl 1 with dbg := { dev.dbg with trEn := true, trQueue := [(2, [5])] } }
    (after .extest (lvl 2)).dbg.tap = .extest ∧ (after .clamp (lvl 1)).dbg.tap = .bypass ∧ (after .idcode dev).dbg.tap = .idcode
      ∧ (after (.samplePreload [true]) dev).dbg.cells = [true] ∧ (after .dap (lvl 0)).dbg.session = false ∧ o.dbg.session = true
      ∧ (after .tapReset o).dbg.session = false ∧ (after .bypass o).dbg.session = false
      ∧ (after (.dapRegRd 0x11000 false) r).dbg.result = (0, hifLink r.hif) ∧ (after (.dapRegRd 0x40124 false) r).dbg.result = (0, 0)
      ∧ (after (.dapRegWr 0x90000 7 false) o).tiers.bar2 = 7 ∧ (after (.dapRegWr 0x90000 7 false) r).dbg.result = (1, 0)
      ∧ (after (.dapURd 0x8000 false) r).dbg.seq = r.dbg.seq + 1 ∧ (after (.dapUWr 0x8000 7 false) o).dbg.seq = o.dbg.seq + 1
      ∧ (after (.dapNop true) r).dbg.shifted >>> 72 = 2 ∧ (after .tracePortRecord q).dbg.trQueue = [] := by decide +kernel

/-- A U-space access of the DAP goes to the tile's owner; scans meet BUSY until its data are the result (R436). -/
theorem test_dap_tile :
    let z := windowed 0xC
    let o := after .dap { z with guard := { z.guard with policy := 0x201 } }
    let r := after (.dapURd 0x8E01 false) o
    let w := after (.dapUWr 0x8010 0x1234 false) o
    let b := after (.dapNop false) r
    let p := { pkt 0x40 with seq := 7, body := 0x5A }
    let q := { ask 6 0x208 (.dap 3 0xE00 false) true with got := 0x7F }
    let s := setNi 290 (fun x => { x with reqs := [q], rx := [p] }) { o with dbg := { o.dbg with busy := some 3 } }
    let d := after (.data 290) s
    o.dbg.tap = .dap ∧ o.debugLevel = 2 ∧ (o.ni 290).redirect 8 = none ∧ (r.ni 290).reqs.map (fun q => (q.dst, q.pkt.cmd, q.pkt.addr)) = [(0x208, 6, 0x8000)]
      ∧ r.dbg.busy = some 0 ∧ (w.ni 290).reqs.map (fun q => (q.pkt.cmd, q.pkt.addr)) = [(7, 0x8010)]
      ∧ (w.ni 290).reqs.map (fun q => bodyBytes q.pkt.body q.pkt.writeLen) = [bytesOf 0x1234] ∧ b.dbg.shifted >>> 72 = 2
      ∧ arrivedB 290 p s = true ∧ ((dropRx 290 p s).openReq 290 p).isSome = true ∧ d.dbg.busy = none ∧ d.dbg.result = (0, 0x5A) := by decide +kernel

/-- Pages for a step's column come from columns that are dropped (R274, R275). -/
theorem test_kv_room :
    let g := setKv 3 (fun _ => { length := 40, cols := [some [1], some [2]] }) (kvSt { length := 32, cols := [some [0]] } 3 [(0, 1), (1, 1), (2, 1)])
    g.colToGive 2 = some 1 ∧ g.freePages 1 = none ∧ ((makeRoom 4 1 g).freePages 1).isSome = true ∧ ((after (.copyOnWrite 2) g).kv 2).cols.length = 2
      ∧ ((after (.copyOnWrite 2) g).kv 3).cols ≠ (g.kv 3).cols := by decide +kernel

/-! ### The machine as a whole -/

/-- A step takes the front command and leaves the rest; an empty queue passes one cycle; a dead PLL holds Tempo (R59). -/
theorem test_step :
    let s := { dev with pending := [.rtcTick, .l1Exit] }
    let t := match step s with | .next t => t | _ => s
    let i := match step dev with | .next t => t | _ => dev
    let h := match step { dev with clk := { dev.clk with pllLock := false } } with | .next t => t | _ => dev
    t.pending = [.l1Exit] ∧ i.clk.tempo = 1000000001 ∧ i.pending = [] ∧ h.clk.tempo = 1000000000 := by decide +kernel

/-- No word spells a command: the table gives the rows no bits. -/
theorem test_no_words : decodeTableWord 32 0 = none ∧ (State.reset.withFetchWord 32 0).pending = [] := by decide +kernel

/-- Registers after power-on reset (Table 27.2). -/
theorem test_reset :
    readNow .host 0x44 State.reset = some 0x80000000 ∧ readNow .host 0x80 State.reset = some 1 ∧ readNow .host 0xB0008 State.reset = some 0x025802EE
      ∧ State.reset.pending = [] ∧ State.reset.hif.mem = [] ∧ State.reset.tiers.dram = [] ∧ State.reset.boot.mailbox = [] := by decide +kernel

/-- A reply's fields, and its tail at the wrap (R321). -/
theorem test_reply :
    let c := { cmdOf 0xAB 1 2 [] with desc := (cmdOf 0xAB 1 2 []).desc.set 0 0x123401AB }
    let s := { dev with hif := { dev.hif with ring := dev.hif.ring.set 0 { (dev.hif.ring[0]) with rqTail := 15 } } }
    let t := reply c 0x13 (1, 2, 3, 4) s
    s.hif.upstream = true ∧ s.hif.ring[0].floor ≤ c.id ∧ wordOf (t.hif.mem.readN 0x11E0 4) = 0xAB131234 ∧ wordOf (t.hif.mem.readN 0x11FC 4) = 4
      ∧ wordOf (t.hif.mem.readN 0x11E8 4) = 1000000000 ∧ t.hif.ring[0].rqTail = 0 ∧ t.hif.ring[0].phase = false ∧ bit t.hif.ring[0].irq 0 = true := by decide +kernel

/-- A cause that rises while enabled sends its message, or pends under its mask (R305). -/
theorem test_interrupts :
    let s := ring0 (fun g => { g with irqEn := 7 }) dev
    let s' := ring0 (fun g => { g with irq := 1 }) s
    let o := { s' with hif := { s'.hif with table := s'.hif.table.set 0 { masked := false, addr := 0xFEE0, data := 9 } } }
    rises s s' 0 = true ∧ canSend s'.hif 0 = false ∧ bit (irqScan s s').hif.pba 0 = true ∧ rises s s' 1 = false
      ∧ canSend o.hif 0 = true ∧ (irqScan s o).hif.sent = [(0, 0xFEE0, 9)] ∧ (irqScan s o).hif.pba = 0 := by decide +kernel

/-- An event takes the next SEQ; only reserved records stand against a new one (R429, R431). -/
theorem test_event_log :
    let t := logEvent 4 1 7 8 dev
    t.dbg.seq = 1 ∧ (t.dbg.newest.map fun e => (e.code, e.src, e.arg0, e.tempo)) = some (4, 1, 7, 1000000000)
      ∧ ({ t.dbg with resv := [(3, [0])] } : Dbg).oldestFree = none ∧ t.dbg.oldestFree = some 0 := by decide +kernel

/-- A state whose byte memories are canonical, and a step from it (log entry 3). -/
theorem test_canonical : MemoryCanonical dev ∧ ∃ t, step dev = .next t := by
  refine ⟨?_, _, rfl⟩
  show (∀ n : Fin 288, (dev.core n).home.wf = true ∧ (dev.core n).imem.wf = true) ∧ _
  exact ⟨by decide +kernel, by decide +kernel⟩

/-! ### Ill-formed commands -/

/-- A word with a set bit. -/
def setWord (k : Nat) : Word := setBit 0 k true

/-- Each row limit refuses an operand outside it: registers, clocks, PMA, cores. -/
theorem test_ill_formed : ∀ i ∈ ([.sapFrame 0 (.early 0) 0 (slotsOf 0), .captureEvent 0x32 false, .trig .host 0 0x7F, .compareArm .host 0 0xFE, .commit .host 2, .alarmArm .host 1,
      .intonationSectionDone 0 { deadLasers := 0, chans := 0, rows := 0, ebCal := 22, bad := [] }, .rotationStep 2, .rotationReturn 1 22 [],
      .rotationReturn 2 0 [], .gapStepStart 1, .gapStepEnd 1 0 [], .gapStepEnd 2 22 [], .forcedGapStep 0, .pmaJobRun 1, .halt 0 1, .setx 0 0, .xret 0 1, .rdx 0 2] : List Instr),
    i.wf = false := by decide +kernel

/-- The same for outputs, the host link and its registers. -/
theorem test_ill_formed_link : ∀ i ∈ ([.bar2Read 0 0 1, .bar2Read 0 4097 1, .bar2Read (2 ^ 32 - 1) 2 1, .bar2Write 0 [], .bar2Write (2 ^ 32) [0], .pcieLinkUp 0 1,
      .pcieLinkUp 5 1, .pcieLinkUp 1 3, .registerWrite .host 0x11005 0, .rcRead .host 2, .spiRead 0x11001, .spiWrite 0x11003 0, .bar0PartialWrite .host 0 [],
      .bar0PartialWrite .host 2 [0, 0, 0], .bar0PartialWrite .host 0 [0, 0, 0, 0], .bar0BigRead 0 64, .spvUnknownOp 0x20, .ringEnable .host 0 2, .ringDisable .host 0 1,
      .resume .host 0 1, .pgRetEnable .host 0, .fwChunkFirst 0, .fwChunkFirst 0x60000000, .fwChunkNext 0x40000000, .fwAbort 0] : List Instr), i.wf = false := by decide +kernel

/-- More than 16 stream outputs, and a text whose words leave it, are no PITCH. -/
theorem test_ill_formed_outputs (o : StreamOut) :
    (Instr.pitch 0 0 (List.replicate 17 o)).wf = false
      ∧ (TextRec.wf { translation := false, final := true, more := false, part := 0, seg := 0, text := [], tempo := 0, words := [{ off := 0, len := 1, start := 0, dur := 0 }] } : Bool) = false := by
  exact ⟨rfl, by decide⟩

/-- Operands at the limits are well formed. -/
theorem test_well_formed : ∀ i ∈ ([.sapFrame 0 (.early 1) 0 (slotsOf 0), .captureEvent 0x31 false, .trig .host 0 0x80, .rotationReturn 1 21 [],
      .gapStepEnd 2 21 [], .halt 0 0, .rdx 0 3, .bar2Read (2 ^ 32 - 4096) 4096 1, .pcieLinkUp 4 4, .bar0PartialWrite .host 1 [0, 0, 0], .bar0BigRead 0 65, .spvUnknownOp 0x21,
      .resume .host 0 3, .fwChunkFirst 0x40000040, .fwAbort 0x60000000] : List Instr), i.wf = true := by decide +kernel


end Sys2Proof.Tests
end

section
/-! PROOFS. Register access by the host, the supervisor and the debug access port (O41). First what the shared terms of the
statements say of every command (frames, completion, events), then one lemma per register operation, then the obligation. -/

namespace Sys2Proof.Machine

/-! ### Frames -/

/-- A command may leave the state as it is. -/
theorem Only.refl (ps : List Part) (s : State) : Only ps s s := by
  refine ⟨rfl, fun p _ => ?_⟩
  cases p with
  | hostMem => exact ⟨rfl, rfl⟩
  | _ => rfl

/-- A part that stands over two changes stands over both. -/
theorem Part.Stands.trans {p : Part} {s u t : State} (h : p.Stands s u) (h' : p.Stands u t) : p.Stands s t := by
  cases p with
  | hif => exact Eq.trans h' (congrArg (fun x : Hif => { x with sent := t.hif.sent, pba := t.hif.pba, mem := t.hif.mem, upq := t.hif.upq }) h)
  | hostMem => exact ⟨h'.1.trans h.1, h'.2.trans h.2⟩
  | _ => exact Eq.trans h' h

/-- Changes that keep to the same parts keep to them one after the other. -/
theorem Only.trans {ps : List Part} {s u t : State} (h : Only ps s u) (h' : Only ps u t) : Only ps s t :=
  ⟨h'.1.trans h.1, fun p hp => (h.2 p hp).trans (h'.2 p hp)⟩

/-- A change of the host interface that leaves host memory and the held writes. -/
theorem only_setHif {ps : List Part} (f : Hif → Hif) (s : State) (h : .hif ∈ ps) (hm : (f s.hif).mem = s.hif.mem) (hu : (f s.hif).upq = s.hif.upq) :
    Only ps s (setHif f s) := by
  refine ⟨rfl, fun p hp => ?_⟩
  cases p with
  | hif => exact absurd h hp
  | hostMem => exact ⟨hm, hu⟩
  | _ => rfl

/-- A change of the observation registers. -/
theorem only_dbg {ps : List Part} (d : Dbg) (s : State) (h : .dbg ∈ ps) : Only ps s { s with dbg := d } := by
  refine ⟨rfl, fun p hp => ?_⟩
  cases p with
  | dbg => exact absurd h hp
  | hostMem => exact ⟨rfl, rfl⟩
  | _ => rfl

/-- A change of the tiers. -/
theorem only_setTiers {ps : List Part} (f : Tiers → Tiers) (s : State) (h : .tiers ∈ ps) : Only ps s (setTiers f s) := by
  refine ⟨rfl, fun p hp => ?_⟩
  cases p with
  | tiers => exact absurd h hp
  | hostMem => exact ⟨rfl, rfl⟩
  | _ => rfl

/-- A change of the boot unit. -/
theorem only_setBoot {ps : List Part} (f : Boot → Boot) (s : State) (h : .boot ∈ ps) : Only ps s (setBoot f s) := by
  refine ⟨rfl, fun p hp => ?_⟩
  cases p with
  | boot => exact absurd h hp
  | hostMem => exact ⟨rfl, rfl⟩
  | _ => rfl

/-- Interrupt messages are in every frame (R305). -/
theorem Only.messages {ps : List Part} {s u : State} (h : Only ps s u) (sent : List (Nat × BitVec 64 × Word)) (pba : BitVec 64) :
    Only ps s { u with hif := { u.hif with sent := sent, pba := pba }, pending := s.pending } := by
  refine ⟨rfl, fun p hp => (h.2 p hp).trans ?_⟩
  cases p with
  | hostMem => exact ⟨rfl, rfl⟩
  | _ => rfl

/-! ### Completion -/

/-- A command whose event takes place has its effect, whatever interrupt messages follow. -/
theorem does_of_act {c : Instr} {ps : List Part} {s u : State} {ok : Bool} {P : State → Prop} (hc : exec c s = act s ok u)
    (hp : s.powered = true) (ho : ok = true) (hf : Only ps s u)
    (hP : ∀ sent pba, P { u with hif := { u.hif with sent := sent, pba := pba }, pending := s.pending }) : Does c ps s P := by
  obtain ⟨sent, pba, e⟩ := act_next s ok u hp ho
  exact ⟨_, hc.trans e, hf.messages sent pba, hP sent pba⟩

/-- A command whose effect leaves every cause and enable has that effect and sends no message. -/
theorem does_of_act_quiet {c : Instr} {ps : List Part} {s u : State} {ok : Bool} {P : State → Prop} (hc : exec c s = act s ok u)
    (hp : s.powered = true) (ho : ok = true) (hq : ∀ v, causes u v = causes s v) (hf : Only ps s u) (hP : P u) : Does c ps s P := by
  have hs : irqScan s u = u := irqScan_quiet s u fun v _ => rises_same s u v (hq v)
  exact ⟨u, by simp [hc, act, hp, ho, hs, ← hf.1], hf, hP⟩

/-- A completion with a property completes with a weaker one. -/
theorem Does.imp {c : Instr} {ps : List Part} {s : State} {P Q : State → Prop} (h : Does c ps s P) (hi : ∀ t, P t → Q t) : Does c ps s Q := by
  obtain ⟨t, he, hf, hp⟩ := h
  exact ⟨t, he, hf, hi t hp⟩

/-- A source whose accesses are served finds the device powered. -/
theorem powered_of_canAccess {src : Src} {s : State} (h : s.canAccess src = true) : s.powered = true := by
  cases src <;> simp only [State.canAccess, Bool.and_eq_true] at h <;> tauto

/-- A source that may write is served. -/
theorem canAccess_of_mayWrite {src : Src} {s : State} (h : s.mayWrite src = true) : s.canAccess src = true :=
  (Bool.and_eq_true_iff.1 h).1

/-! ### Events -/

/-- An event logged is the newest, with its code, source and arguments (R429). -/
theorem logEvent_logged (code src : BitVec 8) (a0 a1 : Word) (s : State) : Logged code src a0 a1 s (logEvent code src a0 a1 s) := by
  unfold logEvent
  obtain ⟨q, d, e⟩ := traceOffer_eq 2 _ { s with dbg := _ }
  rw [e]
  exact ⟨rfl, _, rfl, rfl, rfl, rfl, rfl, rfl, rfl⟩

/-- Logging an event changes the observation registers only. -/
theorem only_logEvent {ps : List Part} (code src : BitVec 8) (a0 a1 : Word) (s : State) (h : .dbg ∈ ps) :
    Only ps s (logEvent code src a0 a1 s) := by
  obtain ⟨d, e⟩ := logEvent_eq code src a0 a1 s
  exact e ▸ only_dbg d s h

/-- Logging an event leaves the host interface. -/
@[simp] theorem logEvent_hif (code src : BitVec 8) (a0 a1 : Word) (s : State) : (logEvent code src a0 a1 s).hif = s.hif := by
  obtain ⟨d, e⟩ := logEvent_eq code src a0 a1 s
  rw [e]

/-! ### What a register write does (R7, R306, R308) -/

/-- An offset that is not aligned names no register. -/
theorem fullWrite_unaligned (src : Src) (o : Nat) (v : Word) (s : State) (h : o % 4 ≠ 0) : fullWrite src o v s = s := if_pos h

/-- A word written in the mailbox. -/
theorem fullWrite_mailbox (src : Src) (o : Nat) (v : Word) (s : State) (h : o % 4 = 0) (hm : inMailbox o = true) :
    fullWrite src o v s = setBoot (fun b => { b with mailbox := b.mailbox.writeN (o - 0x100000) (bytesOf v) }) s := by
  simp [fullWrite, h, hm]

/-- HIF_ERR: a 1 written clears. -/
theorem fullWrite_hifErr (src : Src) (v : Word) (s : State) :
    fullWrite src 0x11004 v s = setHif (fun h => { h with err := h.err &&& ~~~(v.setWidth 7) }) s := rfl

/-- HIF_SPV_ALERT_EN takes the supervisor's writes. -/
theorem fullWrite_alertEn (src : Src) (v : Word) (s : State) :
    fullWrite src 0x11048 v s = setHif (fun h => { h with alertEn := if src = .spv then v.setWidth 5 else h.alertEn }) s := by
  show (if src = .spv then _ else s) = _
  split
  · rfl
  · rfl

/-- TIER_BAR2. -/
theorem fullWrite_tierBar2 (src : Src) (v : Word) (s : State) :
    fullWrite src 0x90000 v s = setTiers (fun x => { x with bar2 := v.setWidth 8 }) s := rfl

/-- DBG_TRACE_CFG. -/
theorem fullWrite_traceCfg (src : Src) (v : Word) (s : State) :
    fullWrite src 0xD0040 v s =
      { s with dbg := { s.dbg with trEn := bit v 0, trDiv := BitVec.ofNat 4 (fld v 1 4), trEvents := bit v 5, trCairns := bit v 6 } } := rfl

/-- A register write of a source that may write and reaches the offset is the full write, with the interrupt messages it causes. -/
theorem does_registerWrite {src : Src} {off : BitVec 24} {o : Nat} {v : Word} {ps : List Part} {s u : State} {P : State → Prop}
    (hw : s.mayWrite src = true) (hr : reaches src off.toNat = true) (ho : off.toNat = o) (hu : fullWrite src o v s = u) (hf : Only ps s u)
    (hP : ∀ sent pba, P { u with hif := { u.hif with sent := sent, pba := pba }, pending := s.pending }) :
    Does (.registerWrite src off v) ps s P := by
  subst ho hu
  exact does_of_act (ok := s.mayWrite src && reaches src off.toNat) rfl (powered_of_canAccess (canAccess_of_mayWrite hw)) (by simp [hw, hr]) hf hP

/-! ### What a register read does (R8, R306, R432) -/

/-- The source has been handed the word: the host in the read's completion, the debug access port as its result. -/
def Handed (src : Src) (w : Word) (t : State) : Prop :=
  (src = .host → t.hif.rdata = bytesOf w ∧ t.hif.ur = false) ∧ (src = .dap → t.dbg.result = (0, w))

/-- The word that is returned is handed to its source. -/
theorem handed_returned (src : Src) (w : Word) (u : State) : Handed src w (returned src w u) := by
  cases src <;> simp [Handed, returned]

/-- Returning a word changes what the source is handed and nothing else. -/
theorem returned_eq (src : Src) (w : Word) (u : State) :
    ∃ d b r, returned src w u = { u with hif := { u.hif with rdata := d, ur := b }, dbg := { u.dbg with result := r } } := by
  cases src with
  | host => exact ⟨_, _, u.dbg.result, rfl⟩
  | spv => exact ⟨u.hif.rdata, u.hif.ur, u.dbg.result, rfl⟩
  | dap => exact ⟨u.hif.rdata, u.hif.ur, _, rfl⟩

/-- Returning a word keeps to the host interface and the observation registers. -/
theorem only_returned {ps : List Part} (src : Src) (w : Word) (u : State) (hh : .hif ∈ ps) (hd : .dbg ∈ ps) : Only ps u (returned src w u) := by
  cases src with
  | host => exact only_setHif (fun h => { h with rdata := bytesOf w, ur := false }) u hh rfl rfl
  | spv => exact Only.refl ps u
  | dap => exact only_dbg _ u hd

/-- A full read of a register outside the atomic pairs: the value before the read clears it. -/
theorem fullRead_single {src : Src} {o : Nat} {w : Word} {s : State} (hw : readNow src o s = some w) (hp : pairAt o = none) :
    fullRead src o s = (w, readEffect src o s) := by
  simp [fullRead, hw, hp]

/-- A full read where no register stands: zero, and no effect. -/
theorem fullRead_none {src : Src} {o : Nat} {s : State} (h : readNow src o s = none) : fullRead src o s = (0, s) := by
  simp [fullRead, h]

/-- DBG_EVT_LOST clears on reading. -/
theorem fullRead_evtLost (src : Src) (s : State) : fullRead src 0xD0008 s = (s.dbg.lost, { s with dbg := { s.dbg with lost := 0 } }) :=
  fullRead_single (o := 0xD0008) rfl (by decide)

/-- HIF_SPV_CNT_2 clears on reading. -/
theorem fullRead_spvCnt2 (src : Src) (s : State) : fullRead src 0x11014 s =
    (wd (s.hif.cnt2[0].toNat + s.hif.cnt2[1].toNat * 2 ^ 8), setHif (fun h => { h with cnt2 := Vector.replicate 2 0 }) s) :=
  fullRead_single (o := 0x11014) rfl (by decide)

/-- Words 1 to 7 of the newest event, as the peek of its word 0 latches them. -/
def peekWords (s : State) : List (Nat × Word) := (List.range 7).map fun k => (k + 1, (newestWords s).toList.getD (k + 1) 0)

/-- The latch of a peek holds words 1 to 7. -/
theorem look_peekWords (s : State) (k : Nat) (h1 : 1 ≤ k) (h8 : k < 8) : look (peekWords s) k 0 = (newestWords s).toList.getD k 0 := by
  interval_cases k <;> rfl

/-- The peek of word 0 latches the others for the source. -/
theorem fullRead_peek (src : Src) (s : State) : fullRead src 0xD0020 s =
    ((newestWords s)[0], setHif (fun h => { h with peek := modAt h.peek (Src.ix src) fun _ => peekWords s }) s) :=
  fullRead_single (o := 0xD0020) rfl (by decide)

/-- A command that reads a register for a source hands it the word, after the read's own effect u. -/
theorem does_read {c : Instr} {src : Src} {o : Nat} {w : Word} {ok : Bool} {s u : State} {P : State → Prop}
    (hc : exec c s = act s ok (returned src (fullRead src o s).1 (fullRead src o s).2)) (ha : s.canAccess src = true) (hk : ok = true)
    (hr : fullRead src o s = (w, u)) (hf : Only [.hif, .dbg] s u)
    (hP : ∀ d b r sent pba, P { u with
      hif := { u.hif with rdata := d, ur := b, sent := sent, pba := pba }, dbg := { u.dbg with result := r }, pending := s.pending }) :
    Does c [.hif, .dbg] s fun t => Handed src w t ∧ P t := by
  rw [hr] at hc
  refine does_of_act hc (powered_of_canAccess ha) hk (hf.trans (only_returned src w u (by simp) (by simp))) fun sent pba =>
    ⟨handed_returned src w u, ?_⟩
  obtain ⟨d, b, r, e⟩ := returned_eq src w u
  rw [e]
  exact hP d b r sent pba

/-- RC_READ of a source that is served and reaches the offset. -/
theorem does_rcRead {src : Src} {off : BitVec 24} {o : Nat} {w : Word} {s u : State} {P : State → Prop} (ha : s.canAccess src = true)
    (hr : reaches src off.toNat = true) (ho : off.toNat = o) (hu : fullRead src o s = (w, u)) (hf : Only [.hif, .dbg] s u)
    (hP : ∀ d b r sent pba, P { u with
      hif := { u.hif with rdata := d, ur := b, sent := sent, pba := pba }, dbg := { u.dbg with result := r }, pending := s.pending }) :
    Does (.rcRead src off) [.hif, .dbg] s fun t => Handed src w t ∧ P t := by
  subst ho
  exact does_read (ok := s.canAccess src && reaches src off.toNat) rfl ha (by simp [ha, hr]) hu hf hP

/-! ### Partial writes, long reads and IRQ_TEST (R305, R306) -/

/-- A partial write by the host noted: its offset, PARTIAL_WR. -/
def partialNoted (off : BitVec 24) (s : State) : State := hifErr 0 (noteAddr off.toNat .host false s)

section
variable {off : BitVec 24} {bytes : List Byte} {s : State} (ha : s.canAccess .host = true) (h0 : 0 < bytes.length) (h4 : bytes.length < 4)
  (hb : off.toNat % 4 + bytes.length ≤ 4)
include ha h0 h4 hb

/-- One to three bytes within one register that the host writes to the mailbox. -/
theorem exec_bar0PartialWrite_mailbox (hm : inMailbox off.toNat = true) : exec (.bar0PartialWrite .host off bytes) s
    = act s true (setBoot (fun b => { b with mailbox := b.mailbox.writeN (off.toNat - 0x100000) bytes }) s) := by
  show execBar0PartialWrite .host off bytes s = _
  simp [execBar0PartialWrite, ha, h0, h4, hb, hm]

/-- One to three bytes within one register that the host writes elsewhere are discarded, noted and logged. -/
theorem exec_bar0PartialWrite_register (hm : inMailbox off.toNat = false) (hx : inMsix off.toNat = false)
    (hr : (readNow .host (off.toNat / 4 * 4) s).isSome = true) :
    exec (.bar0PartialWrite .host off bytes) s = act s true (logEvent 0x05 1 (wd off.toNat) 0 (partialNoted off s)) := by
  have hn : (readNow .host (off.toNat / 4 * 4) s).isNone = false := by simpa using hr
  show execBar0PartialWrite .host off bytes s = _
  simp [execBar0PartialWrite, ha, h0, h4, hb, hm, hx, hn, Src.code, partialNoted]

end

/-- Noting a partial write keeps to the host interface. -/
theorem only_partialNoted {ps : List Part} (off : BitVec 24) (s : State) (h : .hif ∈ ps) : Only ps s (partialNoted off s) :=
  only_setHif (fun _ => (partialNoted off s).hif) s h rfl rfl

/-- PARTIAL_WR stands after a partial write. -/
theorem partialNoted_err (off : BitVec 24) (s : State) : bit (partialNoted off s).hif.err 0 = true := by
  simp [partialNoted, hifErr, setBit, bit]

/-- HIF_ERR_ADDR holds the offset of the host's partial write, its source and kind 0. -/
theorem partialNoted_errAddr (off : BitVec 24) (s : State) : (partialNoted off s).hif.errAddr = BitVec.ofNat 27 off.toNat := by
  have h : off.toNat % 2 ^ 24 + Src.code .host * 2 ^ 24 + b2n false * 2 ^ 26 = off.toNat := Nat.mod_eq_of_lt off.isLt
  exact congrArg (BitVec.ofNat 27) h

/-- A read of more than 64 B ends in UR and sets BIG_RD. -/
theorem exec_bar0BigRead {off : BitVec 24} {len : Nat} {s : State} (ha : s.canAccess .host = true) (hl : 64 < len)
    (hx : inMsix off.toNat = false) :
    exec (.bar0BigRead off len) s = act s true (setHif (fun h => { h with ur := true, rdata := [], err := setBit h.err 2 true }) s) := by
  show execBar0BigRead off len s = _
  simp [execBar0BigRead, ha, hl, hx, hifErr, setHif]

/-- IRQ_TEST touches the messages sent and the pending bits only. -/
theorem irqTest_eq (v : Word) (s : State) : ∃ sent pba, irqTest v s = setHif (fun h => { h with sent := sent, pba := pba }) s := by
  unfold irqTest
  split
  · obtain ⟨sent, pba, e⟩ := sendVec_eq s.sterdo (fld v 0 6) s.hif
    exact ⟨sent, pba, by rw [setHif, e]; rfl⟩
  · exact ⟨s.hif.sent, s.hif.pba, rfl⟩

/-- IRQ_TEST of a vector whose message may be sent sends it. -/
theorem irqTest_sends {v : Word} {s : State} (hs : s.sterdo = true) (hk : fld v 0 6 < 24) (hc : canSend s.hif (fld v 0 6) = true) :
    irqTest v s = setHif (fun h => { h with sent := message h (fld v 0 6) :: h.sent }) s := by
  simp [irqTest, hk, sendVec, hs, hc, setHif]

/-- IRQ_TEST of a vector whose message may not be sent leaves it pending. -/
theorem irqTest_pends {v : Word} {s : State} (hs : s.sterdo = true) (hk : fld v 0 6 < 24) (hc : canSend s.hif (fld v 0 6) = false) :
    irqTest v s = setHif (fun h => { h with pba := setBit h.pba (fld v 0 6) true }) s := by
  simp [irqTest, hk, sendVec, hs, hc, setHif]

/-- IRQ_TEST names vectors 0 to 23. -/
theorem irqTest_unnamed {v : Word} {s : State} (hk : 24 ≤ fld v 0 6) : irqTest v s = s := if_neg (Nat.not_lt.2 hk)

/-- IRQ_TEST's effect is its own message or pending bit, for no cause rises. -/
theorem does_irqTest {v : Word} {s : State} {P : State → Prop} (ha : s.canAccess .host = true) (hP : P (irqTest v s)) :
    Does (.irqTest v) [.hif] s P := by
  obtain ⟨sent, pba, e⟩ := irqTest_eq v s
  refine does_of_act_quiet (ok := s.canAccess .host) rfl (powered_of_canAccess ha) ha (fun k => ?_) ?_ hP
  · rw [e]; rfl
  · exact e ▸ only_setHif _ s (by simp) rfl rfl

/-! ### The obligation -/

/-- Settles O41: each clause is the completion of its command (`does_registerWrite`, `does_read`, `does_irqTest`, `does_of_act`) with the
equation of the register it names. -/
theorem registerAccess : Obligations.RegisterAccess := by
  unfold Obligations.RegisterAccess
  intro src off v bytes len s o hif got
  refine ⟨?writes, ?reads, ?peek, ?partialWrites, ?bigRead, ?irqTest⟩
  case writes =>
    intro hw hr
    refine ⟨fun ho => ?_, fun ho => ?_, fun ho => ?_, fun ho => ?_, fun ho => ?_, fun ho hm => ?_⟩
    · exact does_registerWrite hw hr rfl (fullWrite_unaligned src o v s ho) (Only.refl _ s) fun _ _ => trivial
    · exact does_registerWrite hw hr ho (fullWrite_hifErr src v s) (only_setHif _ s (by simp) rfl rfl) fun _ _ => rfl
    · exact does_registerWrite hw hr ho (fullWrite_alertEn src v s) (only_setHif _ s (by simp) rfl rfl) fun _ _ => rfl
    · exact does_registerWrite hw hr ho (fullWrite_tierBar2 src v s) (only_setTiers _ s (by simp)) fun _ _ => rfl
    · exact does_registerWrite hw hr ho (fullWrite_traceCfg src v s) (only_dbg _ s (by simp)) fun _ _ => rfl
    · exact does_registerWrite hw hr rfl (fullWrite_mailbox src o v s ho hm) (only_setBoot _ s (by simp)) fun _ _ => rfl
  case reads =>
    intro ha hr
    refine ⟨fun ho => ?_, fun ho => ?_, fun hn => ?_⟩
    · refine (does_rcRead (P := fun t => t.dbg.lost = 0 ∧ t.dbg.log = s.dbg.log) ha hr ho (fullRead_evtLost src s)
        (only_dbg _ s (by simp)) fun _ _ _ _ _ => ⟨rfl, rfl⟩).imp ?_
      rintro t ⟨hg, hl, hlog⟩
      exact ⟨hl, hlog, hg⟩
    · refine (does_rcRead (P := fun t => t.hif.cnt2 = Vector.replicate 2 0 ∧ t.hif.cnt = s.hif.cnt) ha hr ho (fullRead_spvCnt2 src s)
        (only_setHif _ s (by simp) rfl rfl) fun _ _ _ _ _ => ⟨rfl, rfl⟩).imp ?_
      rintro t ⟨hg, h2, h1⟩
      exact ⟨h2, h1, hg⟩
    · exact (does_rcRead (P := fun _ => True) ha hr rfl (fullRead_none hn) (Only.refl _ s) fun _ _ _ _ _ => trivial).imp fun _ h => h.1
  case peek =>
    intro ha
    refine does_read (c := .dbgEvtPeekRead src) (ok := s.canAccess src) rfl ha ha (fullRead_peek src s)
      (only_setHif _ s (by simp) rfl rfl) fun _ _ _ _ _ => ⟨rfl, fun k h1 h8 => ?_⟩
    have hp : (modAt s.hif.peek (Src.ix src) fun _ => peekWords s)[Src.ix src] = peekWords s := modAt_same _ _ _
    exact (congrArg (look · k 0) hp).trans (look_peekWords s k h1 h8)
  case partialWrites =>
    intro ha h0 h4 hb
    refine ⟨fun hm => ?_, fun hm hx hn => ?_⟩
    · exact does_of_act (exec_bar0PartialWrite_mailbox ha h0 h4 hb hm) (powered_of_canAccess ha) rfl (only_setBoot _ s (by simp)) fun _ _ => rfl
    · refine does_of_act (exec_bar0PartialWrite_register ha h0 h4 hb hm hx hn) (powered_of_canAccess ha) rfl
        ((only_partialNoted off s (by simp)).trans (only_logEvent _ _ _ _ _ (by simp))) fun _ _ => ⟨?_, ?_, ?_⟩
      · exact (congrArg (bit ·.err 0) (logEvent_hif ..)).trans (partialNoted_err off s)
      · exact (congrArg Hif.errAddr (logEvent_hif ..)).trans (partialNoted_errAddr off s)
      · exact logEvent_logged 0x05 1 (wd off.toNat) 0 (partialNoted off s)
  case bigRead =>
    intro ha hl hx
    exact does_of_act (exec_bar0BigRead ha hl hx) (powered_of_canAccess ha) rfl (only_setHif _ s (by simp) rfl rfl) fun _ _ => rfl
  case irqTest =>
    intro ha hs
    refine does_irqTest ha ⟨fun hk hc => ?_, fun hk hc => ?_, fun hk => ?_⟩
    · rw [irqTest_sends hs hk hc]
      exact ⟨List.mem_cons_self, rfl, rfl⟩
    · rw [irqTest_pends hs hk hc]
      exact ⟨rfl, rfl⟩
    · rw [irqTest_unnamed hk]

end Sys2Proof.Machine
end

section
/-! PROOFS. The device without power (O17). Every command but those of the supplies, the resets and the RTC's own domain answers a guarded
effect (`act`), whose guard asks for power; one lemma for each kind of row says so, and `exec_isAct` gathers them. -/

namespace Sys2Proof.Machine

/-! ### Guarded effects (log entry 1) -/

/-- The outcome is the one that `act` gives for some guard and some effect on the state. -/
def IsAct (s : State) (o : Out) : Prop := ∃ ok u, o = act s ok u

/-- A guarded effect needs power (02_package.md R36). -/
theorem IsAct.unpowered {s : State} {o : Out} (h : IsAct s o) (hp : s.powered = false) : o = .next s := by
  obtain ⟨ok, u, rfl⟩ := h
  exact act_not s ok u (.inl hp)

/-- A guarded effect is one. -/
theorem isAct_act (s : State) (ok : Bool) (u : State) : IsAct s (act s ok u) := ⟨ok, u, rfl⟩

/-- An event that the state does not let happen is an effect whose guard fails. -/
theorem isAct_stands (s : State) : IsAct s (.next s) := ⟨false, s, (act_not s false s (.inr rfl)).symm⟩

/-! ### The kinds of rows -/

/-- The row of a host opcode. -/
theorem isAct_hostRow (op : Nat) (f : Cmd → State → State) (s : State) : IsAct s (hostRow op f s) := by
  unfold hostRow
  split
  · exact isAct_stands s
  · exact isAct_act ..

/-- A request served. -/
theorem isAct_serve (i : Fin 300) (cmd : Nat) (s : State) (f : Packet → State → State) : IsAct s (serve i cmd s f) := by
  unfold serve
  split
  · exact isAct_stands s
  · exact isAct_act ..

/-- A message served. -/
theorem isAct_serveMsg (i : Fin 300) (cmd : Nat) (s : State) (f : Packet → State → State) : IsAct s (serveMsg i cmd s f) := by
  unfold serveMsg
  split
  · exact isAct_stands s
  · exact isAct_act ..

/-- A U-space access served. -/
theorem isAct_serveU (i : Fin 300) (cmd : Nat) (s : State) (none_ : State → State) (f : Packet → State → State) :
    IsAct s (serveU i cmd s none_ f) := by
  unfold serveU
  split
  · exact isAct_act ..
  · exact isAct_act ..

/-- A reply taken. -/
theorem isAct_reply1 (i : Fin 300) (cmd : Nat) (s : State) (f : Packet → Nat → Req → State → State) (late : Packet → State → State) :
    IsAct s (reply1 i cmd s f late) := by
  unfold reply1
  split
  · exact isAct_stands s
  · exact isAct_act ..

/-! ### Rows with cases of their own -/

/-- A reply, else a request, else nothing is injected. -/
theorem isAct_packetInject (i : Fin 300) (s : State) : IsAct s (execPacketInject i s) := by
  unfold execPacketInject
  split
  · exact isAct_act ..
  · exact isAct_act ..
  · exact isAct_stands s

/-- The job at the head of the queue may be one section's or a pair's. -/
theorem isAct_pmaJobRun (sec : Fin 4) (s : State) : IsAct s (execPmaJobRun sec s) := by
  unfold execPmaJobRun
  split
  · exact isAct_stands s
  · split
    · exact isAct_act ..
    · exact isAct_act ..

/-- A queued job that is gone, a running one whose passes end, or one whose results are written. -/
theorem isAct_pmaJobComplete (sec : Fin 4) (s : State) : IsAct s (execPmaJobComplete sec s) := by
  unfold execPmaJobComplete
  split
  case h_1 =>
    split
    · exact isAct_stands s
    · exact isAct_act ..
  case h_2 =>
    dsimp only
    split
    · exact isAct_act ..
    · exact isAct_act ..

/-- A compute core needs a spare of its row; an FE core one of the anchor row, or the last compute core and a spare for that. -/
theorem isAct_coreReplace (n : Fin 288) (s : State) : IsAct s (execCoreReplace n s) := by
  unfold execCoreReplace
  split
  · exact isAct_stands s
  · dsimp only
    split
    case isTrue =>
      split
      · exact isAct_stands s
      · exact isAct_act ..
    case isFalse =>
      split
      · exact isAct_act ..
      · split
        · exact isAct_stands s
        · exact isAct_act ..
      · exact isAct_stands s

/-- The cap falls while hot, and else rises where there is one. -/
theorem isAct_thermalCapStep (s : State) : IsAct s (execThermalCapStep s) := by
  unfold execThermalCapStep
  dsimp only
  split
  · exact isAct_act ..
  · split
    · exact isAct_stands s
    · exact isAct_act ..

/-- H_CLOSE waits for the writes ahead of it. -/
theorem isAct_hClose (n : Fin 288) (s : State) : IsAct s (execHClose n s) := by
  unfold execHClose
  dsimp only
  split
  · exact isAct_stands s
  · exact isAct_serve ..

/-- An op that has a row of its own does not come through this one. -/
theorem isAct_spvUnknownOp (op : BitVec 8) (s : State) : IsAct s (execSpvUnknownOp op s) := by
  unfold execSpvUnknownOp
  split
  · exact isAct_stands s
  · exact isAct_act ..

/-! ### The obligation -/

/-- A command that is not always on answers a guarded effect. -/
theorem exec_isAct (c : Instr) (s : State) (h : Instr.alwaysOn c = false) : IsAct s (exec c s) := by
  cases c
  case powerOnReset | porNLowPulse | railUndervoltage | railRecovered | supplyLoss | vrtcFirstApply | perstNAssert | perstNDeassert
      | xtal32kLoss | xtal32kResume | rtcTick => cases h
  case nop | ping | queryInfo | setMode | resetUnit | safeState | packLoad | packVerify | packEvict | objAlloc | objPlace | objFlush
      | objFree | sessionOpen | sessionClose | streamOpen | streamStart | streamPause | streamResume | streamDrain | streamClose
      | prefixDefine | prefixAttach | prefixRelease | textSubmit | sapConfig | sapStart | sapStop | zoneDefine | zoneRoute | zoneMute
      | feConfig | rncEnable | rncDisable | seatMap | pageGrant | pageFlush | guardPropose | guardConfirm | guardVeto | guardQuery
      | rtcSet | rtcGet | rtcAlarm | healthQuery | bistRun | ledgerExport | ledgerImport | probeSet | statsRead | traceDump | eventDrain
      | programLoad | graphLaunch | graphStop | creditPlan | pmaCal | pmaStatus | pmaJob => exact isAct_hostRow ..
  case rdTile | wr512 | amoAdd | amoSwap | amoCas | hRd | hWr | hFree | pmaBridgeJob => exact isAct_serve ..
  case msg | msgTree => exact isAct_serveMsg ..
  case uRd | uWr =>
    simp only [exec, execURd, execUWr]
    exact isAct_serveU ..
  case data | ack | nackPoison | uRedirect | uMoved | uBusy =>
    simp only [exec, execData, execAck, execNackPoison, execURedirect, execUMoved, execUBusy]
    exact isAct_reply1 ..
  case packetInject => exact isAct_packetInject ..
  case pmaJobRun => exact isAct_pmaJobRun ..
  case pmaJobComplete => exact isAct_pmaJobComplete ..
  case coreReplace => exact isAct_coreReplace ..
  case thermalCapStep => exact isAct_thermalCapStep ..
  case hClose => exact isAct_hClose ..
  case spvUnknownOp => exact isAct_spvUnknownOp ..
  -- Rows that first look up what they act on, and stand where it is not there.
  case rtcCommitNoClock | laserSwitchDone | rotationReturn | shadowCommitTimeout | packetHop | stallPurge | tileMoveDone | credit
      | belayAcknowledge | belayAbort | domainWake | fwChunkCopyDone | copyOnWrite | pageWaitTimeout | parkDone | restoreDone
      | modeChangeDone | unisonApply | anchorRowMove | unitRetire | ledgerWrite | descriptorFetch | intakeEpochEnd | deferredExecute
      | deferredTimeout | tracePortRecord | commitTimeout | tileComplete | waitmTimeout =>
    simp only [exec, execRtcCommitNoClock, execLaserSwitchDone, execRotationReturn, execShadowCommitTimeout, execPacketHop, execStallPurge,
      execTileMoveDone, execCredit, execBelayAcknowledge, execBelayAbort, execDomainWake, execFwChunkCopyDone, execCopyOnWrite,
      execPageWaitTimeout, execParkDone, execRestoreDone, execModeChangeDone, execUnisonApply, execAnchorRowMove, execUnitRetire,
      execLedgerWrite, execDescriptorFetch, execIntakeEpochEnd, execDeferredExecute, execDeferredTimeout, execTracePortRecord,
      execCommitTimeout, execTileComplete, execWaitmTimeout]
    split
    · exact isAct_stands s
    · exact isAct_act ..
  -- Every other row is a guarded effect by its definition: `coreRow`, `spvExec` and `dapScan` are, too.
  all_goals exact isAct_act ..

/-- Settles O17: without power the guard of every such command fails. -/
theorem unpoweredStands : Obligations.UnpoweredStands := by
  unfold Obligations.UnpoweredStands
  intro c s hp hc
  exact (exec_isAct c s hc).unpowered hp

end Sys2Proof.Machine
end

section
/-! PROOFS. Supplies and resets (O16). First what a reset and the sampling of the straps leave and write, then PERST_N's part by part, then
one lemma per command, then the obligation. -/

namespace Sys2Proof.Machine

/-! ### Elements and frames -/

/-- An element of a vector changed element by element. -/
theorem getElem_mapV {α β : Type} {n : Nat} (v : Vector α n) (f : Fin n → α → β) (i : Fin n) : (mapV v f)[i] = f i v[i] := by
  simp [mapV]

/-- A change of the pins and the supplies. -/
theorem only_gen {ps : List Part} (g : Gen) (s : State) (h : .gen ∈ ps) : Only ps s { s with gen := g } := by
  refine ⟨rfl, fun p hp => ?_⟩
  cases p with
  | gen => exact absurd h hp
  | hostMem => exact ⟨rfl, rfl⟩
  | _ => rfl

/-! ### Power-on resets (R38, R39) -/

/-- A reset takes the volatile state to its reset values, whatever the pins and supplies are. -/
theorem volatileReset_inReset (g : Gen) (s : State) : VolatileReset s (inReset { s with gen := g }) where
  blocks := ⟨rfl, rfl, rfl, rfl, rfl, rfl, rfl, rfl, rfl, rfl, rfl, rfl, rfl, rfl⟩
  clk := rfl
  rtc := rfl
  otp := rfl
  hlt := rfl
  hif := rfl
  pwr := rfl
  pending := rfl

/-- A device whose supply is off or one of whose rails is low has no power. -/
theorem unpowered_of_gen {s : State} (h : s.gen.off = true ∨ s.gen.low ≠ []) : s.powered = false := by
  rcases h with h | h <;> simp [State.powered, h]

/-- A bank's supply that disagrees with its strap is logged (R47). -/
theorem logEvent_if (b : Bool) (w : Word) (s : State) :
    ∃ d : Dbg, d.seq = s.dbg.seq + wd (b2n b) ∧ (if b then logEvent 0x03 0 w 0 s else s) = { s with dbg := d } := by
  cases b with
  | false => exact ⟨s.dbg, (BitVec.add_zero _).symm, rfl⟩
  | true =>
    obtain ⟨d, e⟩ := logEvent_eq 0x03 0 w 0 s
    have hd := (logEvent_logged 0x03 0 w 0 s).1
    rw [e] at hd
    exact ⟨d, hd, e⟩

/-- The straps sampled: the pins, the banks kept off, and one event more for each such bank (R46, R47). -/
theorem sampleStraps_eq (t : Straps) (s : State) :
    let badA := t.vioAHigh != t.vselA
    let badB := t.vioBHigh != t.vselB
    ∃ d : Dbg, d.seq = s.dbg.seq + wd (b2n badA + b2n badB) ∧ sampleStraps t s = { s with
      gen := { s.gen with
        xtalExt := t.gpio0, pmicAddr := BitVec.ofNat 2 (b2n t.gpio1 + 2 * b2n t.gpio2), vselA := t.vselA, vselB := t.vselB
        vioAErr := badA, vioBErr := badB, testen := t.testen
        gpioIn := setBit (setBit (setBit s.gen.gpioIn 0 t.gpio0) 1 t.gpio1) 2 t.gpio2 }
      sap := mapV s.sap (fun p x => { x with bankOff := if p.1 < 4 then badA else badB })
      dbg := d } := by
  intro badA badB
  simp only [sampleStraps]
  obtain ⟨d, hd, e⟩ := logEvent_if badA _ _
  rw [e]
  obtain ⟨d', hd', e'⟩ := logEvent_if badB _ _
  rw [e']
  refine ⟨d', ?_, rfl⟩
  calc d'.seq
    _ = d.seq + wd (b2n badB) := hd'
    _ = s.dbg.seq + wd (b2n badA) + wd (b2n badB) := congrArg (· + wd (b2n badB)) hd
    _ = s.dbg.seq + wd (b2n badA + b2n badB) := by simp only [wd, BitVec.ofNat_add, BitVec.add_assoc]

/-- A power-on reset with no rail low (R38, R46, R47). -/
theorem powerOn_porReset (t : Straps) (l : List MonRail) (s : State) (hl : l = []) :
    PowerOn t s (porReset t { s with gen := { s.gen with low := l } }) := by
  subst hl
  obtain ⟨d, hd, e⟩ := sampleStraps_eq t (inReset { s with gen := { s.gen with low := [], off := false } })
  have hr := volatileReset_inReset { s.gen with low := [], off := false } s
  have hu : porReset t { s with gen := { s.gen with low := [] } } = _ := e
  rw [hu]
  refine ⟨⟨hr.blocks, hr.clk, hr.rtc, hr.otp, hr.hlt, hr.hif, hr.pwr, hr.pending⟩, rfl, fun p => ?_, ?_⟩
  · dsimp only
    rw [getElem_mapV]
    simp [inReset]
  · exact hd.trans (BitVec.zero_add _)

/-! ### PERST_N (R42, R301, R329, R333) -/

/-- Nothing has changed but the streams and the page interrupts: what losing records touches. -/
def RecordsLost (s t : State) : Prop := ∃ st q, t = { s with stream := st, hif := { s.hif with pgIrq := q } }

/-- No record lost. -/
theorem RecordsLost.refl (s : State) : RecordsLost s s := ⟨s.stream, s.hif.pgIrq, rfl⟩

/-- Records lost, then others. -/
theorem RecordsLost.trans {s t u : State} (h : RecordsLost s t) (h' : RecordsLost t u) : RecordsLost s u := by
  obtain ⟨_, _, rfl⟩ := h
  obtain ⟨st, q, rfl⟩ := h'
  exact ⟨st, q, rfl⟩

/-- A change of one stream. -/
theorem recordsLost_setStream (i : Fin 16) (f : Stream → Stream) (s : State) : RecordsLost s (setStream i f s) := ⟨_, s.hif.pgIrq, rfl⟩

/-- The records go into the stream's GAP (R337). -/
theorem recordsLost_loseRecords (i : Fin 16) (rs : List Rec) (s : State) : RecordsLost s (loseRecords i rs s) := by
  unfold loseRecords
  split
  · dsimp only
    split
    · exact ⟨_, _, rfl⟩
    · exact recordsLost_setStream ..
  · exact .refl s

/-- A page in use goes with its records. -/
theorem recordsLost_losePage (i : Fin 16) (s : State) : RecordsLost s (losePage i s) := by
  unfold losePage
  refine RecordsLost.trans ?_ (recordsLost_setStream ..)
  split
  · exact recordsLost_loseRecords ..
  · exact .refl s

/-- The pages filled, then those in use (R333). -/
theorem recordsLost_loseReturns (s : State) : RecordsLost s (loseReturns s) := by
  unfold loseReturns
  refine List.foldlRecOn (motive := RecordsLost s) _ _ (List.foldlRecOn (motive := RecordsLost s) _ _ (.refl s) ?_) ?_
  · exact fun _ h _ _ => h.trans (recordsLost_loseRecords ..)
  · exact fun _ h _ _ => h.trans (recordsLost_losePage ..)

/-- The rings are disabled, their indices at zero. -/
theorem resetRings_ring (s : State) (r : Fin 16) : (resetRings s).hif.ring[r] = { s.hif.ring[r] with
    en := false, state := .disabled, sqTail := 0, sqHead := 0, rqHead := 0, rqTail := 0, heldAt := none, owed := 0, floor := s.hif.nextId } := by
  dsimp only [resetRings]
  rw [getElem_mapV]

/-- A firmware load in progress is abandoned; firmware that runs goes on (R400). -/
theorem dropLoad_eq (s : State) : ∃ b : Boot, (s.boot.fw = .running → b = s.boot) ∧ (s.boot.fw ≠ .running → b.fw = .idle)
    ∧ dropLoad s = { s with boot := b } := by
  unfold dropLoad
  split
  case isTrue h => exact ⟨s.boot, fun _ => rfl, fun h' => absurd h h', rfl⟩
  case isFalse h => exact ⟨_, fun h' => absurd h' h, fun _ => rfl, rfl⟩

/-- What PERST_N resets: the function, the rings with the returns, and a firmware load that does not run yet. -/
def perstReset (s : State) : State := dropLoad (resetRings (resetFunction (loseReturns s)))

/-- PERST_N's reset is that of the function and the rings, but for the streams and page interrupts of the records lost and a load dropped. -/
theorem perstReset_eq (s : State) : ∃ (st : Vector Stream 16) (q : BitVec 3) (b : Boot),
    (s.boot.fw = .running → b = s.boot) ∧ (s.boot.fw ≠ .running → b.fw = .idle)
      ∧ perstReset s = { resetRings (resetFunction { s with stream := st, hif := { s.hif with pgIrq := q } }) with boot := b } := by
  obtain ⟨st, q, e⟩ := recordsLost_loseReturns s
  rw [perstReset, e]
  obtain ⟨b, hrun, hidle, e'⟩ := dropLoad_eq (resetRings (resetFunction { s with stream := st, hif := { s.hif with pgIrq := q } }))
  exact ⟨st, q, b, hrun, hidle, e'⟩

/-! ### The commands -/

/-- POR_N rises with every rail in tolerance (R38). -/
theorem powerOnReset_completes {t : Straps} {s : State} (hl : s.gen.low = []) : Completes (.powerOnReset t) s (PowerOn t s) := by
  refine ⟨porReset t s, ?_, powerOn_porReset t s.gen.low s hl⟩
  show execPowerOnReset t s = _
  simp [execPowerOnReset, hl]

/-- POR_N rises while a rail is low: the device stays in reset (R39). -/
theorem powerOnReset_held {t : Straps} {s : State} (hl : s.gen.low ≠ []) :
    exec (.powerOnReset t) s = .next (inReset { s with gen := { s.gen with off := false } }) := by
  show execPowerOnReset t s = _
  simp [execPowerOnReset, hl]

/-- A pulse at POR_N that the filter passes (R445). -/
theorem porNLowPulse_completes {ns : Nat} {t : Straps} {s : State} (hl : s.gen.low = []) (ho : s.gen.off = false) (hn : 2300 ≤ ns) :
    Completes (.porNLowPulse ns t) s (PowerOn t s) := by
  refine ⟨porReset t s, ?_, powerOn_porReset t s.gen.low s hl⟩
  show execPorNLowPulse ns t s = _
  simp [execPorNLowPulse, hl, ho, hn]

/-- A pulse at POR_N that the filter stops (R445). -/
theorem porNLowPulse_filtered {ns : Nat} {t : Straps} {s : State} (hn : ns ≤ 1800) : exec (.porNLowPulse ns t) s = .next s := by
  have h : ¬ 2300 ≤ ns := by omega
  show execPorNLowPulse ns t s = _
  simp [execPorNLowPulse, h, hn]

/-- A rail leaves its tolerance (R39). -/
theorem railUndervoltage_next {r : MonRail} {s : State} (hr : r ∉ s.gen.low) :
    exec (.railUndervoltage r) s = .next (inReset { s with gen := { s.gen with low := r :: s.gen.low } }) := by
  show execRailUndervoltage r s = _
  simp [execRailUndervoltage, hr]

/-- The last low rail comes back (R39). -/
theorem railRecovered_last {r : MonRail} {t : Straps} {s : State} (hl : s.gen.low = [r]) (ho : s.gen.off = false) :
    Completes (.railRecovered r t) s (PowerOn t s) := by
  refine ⟨porReset t { s with gen := { s.gen with low := [] } }, ?_, powerOn_porReset t [] s rfl⟩
  show execRailRecovered r t s = _
  simp [execRailRecovered, hl, ho]

/-- A rail comes back while another is low (R39). -/
theorem railRecovered_next {r q : MonRail} {t : Straps} {s : State} (hr : r ∈ s.gen.low) (hq : q ∈ s.gen.low) (hn : q ≠ r) :
    exec (.railRecovered r t) s = .next { s with gen := { s.gen with low := s.gen.low.filter fun x => !decide (x = r) } } := by
  have hm : q ∈ s.gen.low.filter fun x => !decide (x = r) := by simp [hq, hn]
  have he : (s.gen.low.filter fun x => !decide (x = r)).isEmpty = false := List.isEmpty_eq_false_iff.2 (List.ne_nil_of_mem hm)
  show execRailRecovered r t s = _
  simp [execRailRecovered, hr, he]

/-- VRTC comes for the first time, before any other supply (03_timing.md R64). -/
theorem vrtcFirstApply_next {s : State} (ho : s.gen.off = true) : exec .vrtcFirstApply s = .next { s with
    rtc := {}, hlt := { s.hlt with optime := 0, units := [], rows := [] }, pwr := { s.pwr with tsdSeen := false } } :=
  congrArg Host.Outcome.next (if_pos ho)

/-- PERST_N falls on a powered device. -/
theorem exec_perstNAssert {s : State} (hp : s.powered = true) : exec .perstNAssert s = act s s.gen.perstN
    { perstReset s with gen := { (perstReset s).gen with perstN := false }, boot := { (perstReset s).boot with cfgReady := false } } := by
  show execPerstNAssert s = _
  simp [execPerstNAssert, perstReset, hp]

/-- PERST_N rises on a powered device. -/
theorem exec_perstNDeassert {s : State} (hp : s.powered = true) : exec .perstNDeassert s = act s (!s.gen.perstN)
    { s with gen := { s.gen with perstN := true }, boot := { s.boot with cfgReady := bit s.boot.done 7 } } := by
  show execPerstNDeassert s = _
  simp [execPerstNDeassert, hp]

/-! ### The obligation -/

/-- Settles O16: the power-on resets by `powerOn_porReset` and `volatileReset_inReset`, PERST_N by `perstReset_eq`. -/
theorem resetsAndSupplies : Obligations.ResetsAndSupplies := by
  unfold Obligations.ResetsAndSupplies
  refine ⟨fun t r ns s => ⟨powerOnReset_completes, ?held, porNLowPulse_completes, fun _ _ => porNLowPulse_filtered, ?undervoltage,
    railRecovered_last, ?recovered, ?supply, ?vrtc⟩, fun s hp => ⟨?assert, ?deassert⟩⟩
  case held => exact fun hl => ⟨_, powerOnReset_held hl, volatileReset_inReset _ s, rfl, rfl, unpowered_of_gen (.inr hl)⟩
  case undervoltage =>
    exact fun hr => ⟨_, railUndervoltage_next hr, volatileReset_inReset _ s, rfl, unpowered_of_gen (.inr (List.cons_ne_nil r s.gen.low))⟩
  case recovered =>
    rintro hr ⟨q, hq, hn⟩
    have hm : q ∈ s.gen.low.filter fun x => !decide (x = r) := by simp [hq, hn]
    exact ⟨_, railRecovered_next hr hq hn, by simp, unpowered_of_gen (.inr (List.ne_nil_of_mem hm)), only_gen _ s (by simp)⟩
  case supply => exact ⟨_, rfl, volatileReset_inReset _ s, rfl, unpowered_of_gen (.inl rfl)⟩
  case vrtc =>
    refine fun ho => ⟨_, vrtcFirstApply_next ho, ⟨rfl, fun p hp => ?_⟩, rfl, rfl, rfl, rfl, rfl⟩
    cases p with
    | rtc | hlt | pwr => simp at hp
    | hostMem => exact ⟨rfl, rfl⟩
    | _ => rfl
  case assert =>
    intro hn
    obtain ⟨st, q, b, hrun, hidle, e⟩ := perstReset_eq s
    have he := exec_perstNAssert hp
    rw [e] at he
    refine does_of_act he hp hn ⟨rfl, fun p h => ?_⟩ fun sent pba => ?_
    · cases p with
      | gen | boot | fab | tiers | stream | hif | hostMem => simp at h
      | _ => rfl
    · refine ⟨rfl, rfl, hidle, fun h => congrArg (fun b : Boot => { b with cfgReady := false }) (hrun h), rfl, rfl, rfl, rfl, rfl, rfl, rfl, rfl,
        rfl, fun r => ?_⟩
      dsimp only
      rw [resetRings_ring]
      exact ⟨rfl, rfl, rfl, rfl, rfl, rfl⟩
  case deassert =>
    refine fun hn => does_of_act (exec_perstNDeassert hp) hp (by simp [hn]) ?_ fun _ _ => ⟨rfl, rfl⟩
    exact Only.trans (only_gen { s.gen with perstN := true } s (by simp)) (only_setBoot (fun b => { b with cfgReady := bit b.done 7 }) _ (by simp))

end Sys2Proof.Machine
end

section
/-! PROOFS. Steps (O1), and Tempo's capture and compare channels (O19): what an event or a write makes of its channel, then one lemma per
command, then the obligation. -/

namespace Sys2Proof.Machine

/-! ### Steps (R59) -/

/-- Settles O1: both halves are the two cases of `step`, on a queue with a command and on an empty one. -/
theorem stepTakesTheFrontCommand : Obligations.StepTakesTheFrontCommand := by
  unfold Obligations.StepTakesTheFrontCommand
  refine ⟨fun c s => rfl, fun s he => ?_⟩
  have hidle : step s = .next (idle s) := by simp [step, he]
  refine ⟨fun hp hl => ?_, fun hoff => ?_⟩
  · rw [hidle, idle, if_pos (by simp [hp, hl])]
  · rw [hidle, idle, if_neg (by rcases hoff with h | h <;> simp [h])]

/-! ### Bits, elements and frames -/

/-- The bits of a word of which one has been set. -/
theorem bit_setBit {w : Nat} (a : BitVec w) {i : Nat} (hi : i < w) (b : Bool) (k : Nat) : bit (setBit a i b) k = if k = i then b else bit a k := by
  have hone : (BitVec.ofNat w (2 ^ i)).getLsbD k = decide (k = i) := by
    rw [BitVec.getLsbD_ofNat, Nat.testBit_two_pow]
    by_cases hk : k = i
    · simp [hk, hi]
    · simp [hk, Ne.symm hk]
  cases b with
  | true =>
    rw [setBit, if_pos rfl, bit, BitVec.getLsbD_or, hone]
    by_cases hk : k = i <;> simp [hk, bit]
  | false =>
    have hlt : a.getLsbD k = true → k < w := BitVec.lt_of_getLsbD
    rw [setBit, if_neg Bool.false_ne_true, bit, BitVec.getLsbD_and, BitVec.getLsbD_not, hone]
    by_cases hk : k = i
    · simp [hk]
    · cases h : a.getLsbD k <;> simp_all [bit]

/-- The element that upd replaces. -/
theorem upd_same {α : Type} {n : Nat} (v : Vector α n) (i : Fin n) (x : α) : (upd v i x)[i] = x := modAt_same v i fun _ => x

/-- The elements that upd leaves. -/
theorem upd_other {α : Type} {n : Nat} (v : Vector α n) {i j : Fin n} (x : α) (h : j ≠ i) : (upd v i x)[j] = v[j] :=
  modAt_other v i j (fun _ => x) h.symm

/-- A later element replaces an earlier one at its place. -/
theorem upd_upd {α : Type} {n : Nat} (v : Vector α n) (i : Fin n) (x y : α) : upd (upd v i x) i y = upd v i y := by simp [upd]

/-- A change of the clocks. -/
theorem only_clk {ps : List Part} (c : Clk) (s : State) (h : .clk ∈ ps) : Only ps s { s with clk := c } := by
  refine ⟨rfl, fun p hp => ?_⟩
  cases p with
  | clk => exact absurd h hp
  | hostMem => exact ⟨rfl, rfl⟩
  | _ => rfl

/-- A free choice taken. -/
theorem only_freeCtr {ps : List Part} (k : Nat) (s : State) (h : .freeCtr ∈ ps) : Only ps s { s with freeCtr := k } := by
  refine ⟨rfl, fun p hp => ?_⟩
  cases p with
  | freeCtr => exact absurd h hp
  | hostMem => exact ⟨rfl, rfl⟩
  | _ => rfl

/-! ### Capture (R61) -/

/-- What an event makes of a channel: one that holds a value counts it in MISS, a free one records it 0 to 3 ns late. -/
def Recorded (now : Nat) (c c' : Cap) : Prop :=
  (c.valid = true → c' = { c with miss := satAdd c.miss 1 })
    ∧ (c.valid = false → ∃ d, d < 4 ∧ c' = { c with valid := true, value := BitVec.ofNat 64 (now + d) })

/-- A free channel takes the value and keeps its settings. -/
theorem Recorded.taken {now : Nat} {c c' : Cap} (h : Recorded now c c') (hv : c.valid = false) : c'.valid = true ∧ c'.src = c.src
    ∧ c'.fall = c.fall ∧ ∃ d, d < 4 ∧ c'.value = BitVec.ofNat 64 (now + d) := by
  obtain ⟨d, hd, rfl⟩ := h.2 hv
  exact ⟨rfl, rfl, rfl, d, hd, rfl⟩

/-- A captured event is recorded in its channel and may take a free choice. -/
theorem capture_eq (n : Fin 4) (s : State) : ∃ ctr c', Recorded s.clk.tempo s.clk.cap[n] c'
    ∧ capture n s = { s with freeCtr := ctr, clk := { s.clk with cap := upd s.clk.cap n c' } } := by
  unfold capture
  split
  case isTrue h => exact ⟨s.freeCtr, _, ⟨fun _ => rfl, fun h' => absurd (h'.symm.trans h) Bool.false_ne_true⟩, rfl⟩
  case isFalse h => exact ⟨s.freeCtr + 1, _, ⟨fun h' => absurd h' h, fun _ => ⟨_, Nat.mod_lt _ (by decide), rfl⟩⟩, rfl⟩

/-- The channel waits for this edge of this source. -/
def Cap.Selects (sel : BitVec 6) (fall : Bool) (c : Cap) : Prop := c.src = sel ∧ c.fall = fall

/-- An edge at one channel. -/
def captureIf (sel : BitVec 6) (fall : Bool) (s : State) (n : Fin 4) : State :=
  if (s.clk.cap[n]).src = sel && (s.clk.cap[n]).fall = fall then capture n s else s

/-- At a channel that waits for the edge it is an event. -/
theorem captureIf_selects {sel : BitVec 6} {fall : Bool} {s : State} {n : Fin 4} (h : (s.clk.cap[n]).Selects sel fall) :
    captureIf sel fall s n = capture n s := if_pos (by simpa [Cap.Selects] using h)

/-- At any other it is none. -/
theorem captureIf_ignores {sel : BitVec 6} {fall : Bool} {s : State} {n : Fin 4} (h : ¬ (s.clk.cap[n]).Selects sel fall) :
    captureIf sel fall s n = s := if_neg (by simpa [Cap.Selects] using h)

/-- An edge at several channels is recorded in those of them that wait for it. -/
theorem foldl_captureIf (sel : BitVec 6) (fall : Bool) (ns : List (Fin 4)) (hns : ns.Nodup) (s : State) : ∃ ctr caps,
    ns.foldl (captureIf sel fall) s = { s with freeCtr := ctr, clk := { s.clk with cap := caps } }
      ∧ (∀ m ∈ ns, (s.clk.cap[m]).Selects sel fall → Recorded s.clk.tempo s.clk.cap[m] caps[m])
      ∧ ∀ m, m ∉ ns ∨ ¬ (s.clk.cap[m]).Selects sel fall → caps[m] = s.clk.cap[m] := by
  induction ns generalizing s with
  | nil => exact ⟨s.freeCtr, s.clk.cap, rfl, fun m hm => absurd hm List.not_mem_nil, fun _ _ => rfl⟩
  | cons n ns ih =>
    obtain ⟨hn, hns⟩ := List.nodup_cons.1 hns
    rw [List.foldl_cons]
    by_cases hsel : (s.clk.cap[n]).Selects sel fall
    · obtain ⟨_, c', hc, e⟩ := capture_eq n s
      rw [captureIf_selects hsel, e]
      obtain ⟨ctr, caps, e', htake, hleave⟩ := ih hns { s with freeCtr := _, clk := { s.clk with cap := upd s.clk.cap n c' } }
      have hat : caps[n] = c' := (hleave n (.inl hn)).trans (upd_same ..)
      refine ⟨ctr, caps, e', fun m hm hs => ?_, fun m hm => ?_⟩
      · by_cases hmn : m = n
        · exact hmn ▸ hat ▸ hc
        · have hstand := upd_other s.clk.cap c' hmn
          have := htake m ((List.mem_cons.1 hm).resolve_left hmn)
          rw [hstand] at this
          exact this hs
      · have hmn : m ≠ n := by
          rintro rfl
          exact hm.elim (fun h => h List.mem_cons_self) fun h => h hsel
        have hstand := upd_other s.clk.cap c' hmn
        refine (hleave m ?_).trans hstand
        rw [hstand]
        exact hm.imp_left fun h h' => h (List.mem_cons_of_mem n h')
    · rw [captureIf_ignores hsel]
      obtain ⟨ctr, caps, e', htake, hleave⟩ := ih hns s
      refine ⟨ctr, caps, e', fun m hm hs => htake m ?_ hs, fun m hm => hleave m ?_⟩
      · exact (List.mem_cons.1 hm).resolve_left fun h => hsel (h ▸ hs)
      · exact hm.imp_left fun h h' => h (List.mem_cons_of_mem n h')

/-- An edge at a GPIO ball leaves its level there and at no other. -/
theorem edgeSeen_eq (k : Nat) (fall : Bool) (s : State) : ∃ g, edgeSeen k fall s = { s with gen := { s.gen with gpioIn := g } }
    ∧ (∀ i, i < 15 → k = 0x10 + i → bit g i = !fall) ∧ ∀ i, k ≠ 0x10 + i → bit g i = bit s.gen.gpioIn i := by
  unfold edgeSeen
  by_cases hk : span k 0x10 0x1E = true
  · have hb : 0x10 ≤ k ∧ k ≤ 0x1E := by simpa [span] using hk
    have hset := bit_setBit s.gen.gpioIn (i := k - 0x10) (by omega) (!fall)
    rw [if_pos hk]
    refine ⟨_, rfl, fun i _ hi => ?_, fun i hi => ?_⟩
    · rw [hset, if_pos (by omega)]
    · rw [hset, if_neg (by omega)]
  · rw [if_neg hk]
    refine ⟨_, rfl, fun i h15 hi => absurd ?_ hk, fun _ _ => rfl⟩
    simp only [span, Bool.and_eq_true, decide_eq_true_eq]
    omega

/-- CAPTURE_EVENT: the edge is recorded in every channel that waits for it, and its level at its ball. -/
theorem does_captureEvent {sel : BitVec 6} {fall : Bool} {s : State} (hp : s.powered = true) (hs : capSource sel.toNat = true)
    (hl : s.inputLive sel.toNat = true) : Does (.captureEvent sel fall) [.freeCtr, .gen, .clk] s fun t =>
      (∀ m : Fin 4, (s.clk.cap[m]).Selects sel fall → Recorded s.clk.tempo s.clk.cap[m] t.clk.cap[m])
        ∧ (∀ m : Fin 4, ¬ (s.clk.cap[m]).Selects sel fall → t.clk.cap[m] = s.clk.cap[m])
        ∧ t.clk.tempo = s.clk.tempo ∧ t.clk.cmp = s.clk.cmp
        ∧ (∀ k, k < 15 → sel.toNat = 0x10 + k → bit t.gen.gpioIn k = !fall)
        ∧ ∀ k, sel.toNat ≠ 0x10 + k → bit t.gen.gpioIn k = bit s.gen.gpioIn k := by
  have hc : exec (.captureEvent sel fall) s = act s (capSource sel.toNat && s.inputLive sel.toNat)
      ((List.finRange 4).foldl (captureIf sel fall) (edgeSeen sel.toNat fall s)) := rfl
  obtain ⟨g, eg, hball, hballs⟩ := edgeSeen_eq sel.toNat fall s
  rw [eg] at hc
  obtain ⟨ctr, caps, e, htake, hleave⟩ := foldl_captureIf sel fall (List.finRange 4) (List.nodup_finRange 4)
    { s with gen := { s.gen with gpioIn := g } }
  rw [e] at hc
  refine does_of_act hc hp (by simp [hs, hl]) ?_ fun _ _ =>
    ⟨fun m => htake m (List.mem_finRange m), fun m hm => hleave m (.inr hm), rfl, rfl, hball, hballs⟩
  refine ⟨rfl, fun p h => ?_⟩
  cases p with
  | freeCtr | gen | clk => simp at h
  | hostMem => exact ⟨rfl, rfl⟩
  | _ => rfl

/-- The input of a source is live but for that of a port on a dark bank (02_package.md R47). -/
theorem inputLive_of_ports {k : Nat} {s : State} (h : ∀ p : Fin 8, k = 0x20 + p.1 → (s.sap[p]).bankOff = false) : s.inputLive k = true := by
  unfold State.inputLive
  split
  next p r hslot =>
    simp only [slot, Nat.div_one, Nat.mod_one] at hslot
    split_ifs at hslot with hlo hhi
    obtain ⟨rfl, -⟩ := Prod.mk.inj (Option.some.inj hslot)
    rw [Bool.not_eq_true']
    exact h ⟨k - 0x20, hhi⟩ (Nat.add_sub_cancel' hlo).symm
  next => rfl

/-- TRIG on a channel whose source it sets to software is an event of that channel. -/
theorem does_trig {src : Src} {n : Fin 4} {v : Word} {s : State} (hw : s.mayWrite src = true) (hsrc : src ≠ .spv) (ht : bit v 7 = true)
    (hv : v.setWidth 6 = (1 : BitVec 6)) : Does (.trig src n v) [.freeCtr, .clk] s fun t =>
      Recorded s.clk.tempo { s.clk.cap[n] with src := 1, fall := bit v 6 } t.clk.cap[n] ∧ ∀ m, m ≠ n → t.clk.cap[m] = s.clk.cap[m] := by
  have hset : setCap n (fun c => { c with src := v.setWidth 6, fall := bit v 6 }) s
      = { s with clk := { s.clk with cap := upd s.clk.cap n { s.clk.cap[n] with src := 1, fall := bit v 6 } } } := by rw [hv]; rfl
  have hc : exec (.trig src n v) s = act s (s.mayWrite src && bit v 7 && decide (src ≠ .spv)) (writeCapCfg n v s) := rfl
  rw [writeCapCfg, hset, if_pos (by simp [ht, upd])] at hc
  obtain ⟨ctr, c', hrec, e⟩ := capture_eq n
    { s with clk := { s.clk with cap := upd s.clk.cap n { s.clk.cap[n] with src := 1, fall := bit v 6 } } }
  rw [e] at hc
  refine does_of_act hc (powered_of_canAccess (canAccess_of_mayWrite hw)) (by simp [hw, ht, hsrc])
    ((only_freeCtr ctr s (by simp)).trans (only_clk _ _ (by simp))) fun _ _ => ⟨?_, fun m hm => ?_⟩
  · dsimp only at hrec ⊢
    rw [upd_same] at hrec
    rwa [upd_same]
  · exact (upd_other _ _ hm).trans (upd_other _ _ hm)

/-- TMP_CAP_HI_READ frees the channel and hands its HI word to the reader. -/
theorem does_tmpCapHiRead {src : Src} {n : Fin 4} {s : State} (ha : s.canAccess src = true) (hsrc : src ≠ .spv) :
    Does (.tmpCapHiRead src n) [.clk, .hif, .dbg] s fun t => t.clk.cap[n] = { s.clk.cap[n] with valid := false }
      ∧ (∀ m, m ≠ n → t.clk.cap[m] = s.clk.cap[m]) ∧ t.hif.mem = s.hif.mem ∧ Handed src (hi (s.clk.cap[n]).value) t := by
  have hh := handed_returned src (hi (s.clk.cap[n]).value) s
  have hc : exec (.tmpCapHiRead src n) s = act s (s.canAccess src && decide (src ≠ .spv))
      (readCapHi n (returned src (hi (s.clk.cap[n]).value) s)) := rfl
  have hf := only_returned (ps := [.clk, .hif, .dbg]) src (hi (s.clk.cap[n]).value) s (by simp) (by simp)
  obtain ⟨d, b, r, e⟩ := returned_eq src (hi (s.clk.cap[n]).value) s
  rw [e] at hc hh hf
  refine does_of_act hc (powered_of_canAccess ha) (by simp [ha, hsrc]) (hf.trans (only_clk _ _ (by simp))) fun _ _ =>
    ⟨?_, fun m hm => ?_, rfl, hh⟩
  · exact modAt_same ..
  · exact modAt_other _ _ _ _ hm.symm

/-! ### Compare (R62, R307) -/

/-- A channel at this Tempo: an armed target that is reached is a match. -/
def Cmp.matchedAt (now : Nat) (c : Cmp) : Cmp :=
  { c with arm := c.arm && decide (now < c.target.toNat), match_ := c.match_ || (c.arm && decide (c.target.toNat ≤ now)) }

/-- A target written or armed at this Tempo: one that has passed is a match too late. -/
def Cmp.passedAt (now : Nat) (c : Cmp) : Cmp :=
  if c.target.toNat ≤ now then { c with arm := false, match_ := true, late := true } else c

/-- A channel changed twice. -/
theorem setCmp_setCmp (n : Fin 4) (f g : Cmp → Cmp) (s : State) : setCmp n f (setCmp n g s) = setCmp n (fun c => f (g c)) s := by
  simp [setCmp, modAt, upd]

/-- Two changes that agree on the channel. -/
theorem setCmp_congr {n : Fin 4} {f g : Cmp → Cmp} {s : State} (h : f s.clk.cmp[n] = g s.clk.cmp[n]) : setCmp n f s = setCmp n g s :=
  congrArg (fun c => { s with clk := { s.clk with cmp := upd s.clk.cmp n c } }) h

/-- A channel changed to what it is. -/
theorem setCmp_id {n : Fin 4} {f : Cmp → Cmp} {s : State} (h : f s.clk.cmp[n] = s.clk.cmp[n]) : setCmp n f s = s := by
  rw [setCmp, modAt_id _ _ _ h]

/-- An armed target that is reached matches. -/
theorem Cmp.matchedAt_reached {now : Nat} {c : Cmp} (h : (c.arm && decide (c.target.toNat ≤ now)) = true) :
    c.matchedAt now = { c with arm := false, match_ := true } := by
  have hlt : ¬ now < c.target.toNat := Nat.not_lt.2 (of_decide_eq_true (Bool.and_eq_true_iff.1 h).2)
  simp only [Cmp.matchedAt, h, hlt, decide_false, Bool.and_false, Bool.or_true]

/-- A channel that is not armed, or whose target is ahead, stands. -/
theorem Cmp.matchedAt_ahead {now : Nat} {c : Cmp} (h : (c.arm && decide (c.target.toNat ≤ now)) = false) : c.matchedAt now = c := by
  have ha : (c.arm && decide (now < c.target.toNat)) = c.arm := by
    cases harm : c.arm
    · rfl
    · simpa [harm] using h
  simp only [Cmp.matchedAt, h, ha, Bool.or_false]

/-- The comparison changes its channel alone. -/
theorem matched_eq (n : Fin 4) (s : State) : matched n false s = setCmp n (Cmp.matchedAt s.clk.tempo) s := by
  unfold matched
  split
  case isTrue h => exact setCmp_congr (by simp only [Cmp.matchedAt_reached h, Bool.or_false])
  case isFalse h => exact (setCmp_id (Cmp.matchedAt_ahead (Bool.not_eq_true _ ▸ h))).symm

/-- The check of a target written changes its channel alone. -/
theorem passed_eq (n : Fin 4) (s : State) : passed n s = setCmp n (Cmp.passedAt s.clk.tempo) s := by
  unfold passed
  split
  case isTrue h => exact setCmp_congr (if_pos h).symm
  case isFalse h => exact (setCmp_id (if_neg h)).symm

/-- A channel at this Tempo that takes a target from a source: a match of the target before comes first. -/
def Cmp.retarget (now : Nat) (src : Src) (target : BitVec 64) (c : Cmp) : Cmp :=
  Cmp.passedAt now { c.matchedAt now with target := target, staged := upd c.staged (Src.ix src) none }

/-- A HI word applies with the LO word that its source has staged. -/
theorem writeCmpHi_staged {src : Src} {n : Fin 4} {l : Word} {s : State} (h : Word) (hl : (s.clk.cmp[n]).staged[Src.ix src] = some l) :
    writeCmpHi src n h s = setCmp n (Cmp.retarget s.clk.tempo src (h ++ l)) s := by
  simp only [writeCmpHi, matched_eq, passed_eq, setCmp_setCmp, setCmp_clk]
  refine setCmp_congr ?_
  simp only [Cmp.retarget, Cmp.matchedAt, hl, Option.getD_some]

/-- An 8-byte write applies its own LO word. -/
theorem writeCmpHi_pair (src : Src) (n : Fin 4) (h l : Word) (s : State) :
    writeCmpHi src n h (writeCmpLo src n l s) = setCmp n (Cmp.retarget s.clk.tempo src (h ++ l)) s := by
  have hl : ((writeCmpLo src n l s).clk.cmp[n]).staged[Src.ix src] = some l := by
    have hc : (writeCmpLo src n l s).clk.cmp[n] = _ := modAt_same ..
    rw [hc]
    exact upd_same ..
  rw [writeCmpHi_staged h hl, writeCmpLo, setCmp_setCmp]
  refine setCmp_congr ?_
  simp only [Cmp.retarget, Cmp.matchedAt, upd_upd, setCmp_clk]
  rfl

/-- ARM written to a channel that is not armed, or whose target is ahead: late where the target has passed. -/
theorem writeCmpCfg_arms {n : Fin 4} {v : Word} {s : State} (hv : bit v 0 = true)
    (h : (s.clk.cmp[n]).arm = false ∨ s.clk.tempo < (s.clk.cmp[n]).target.toNat) : writeCmpCfg n v s = setCmp n (fun c =>
      Cmp.passedAt s.clk.tempo { c with arm := true, irqEn := bit v 1, match_ := c.match_ && !bit v 2, late := c.late && !bit v 3 }) s := by
  have hno : ((s.clk.cmp[n]).arm && decide ((s.clk.cmp[n]).target.toNat = s.clk.tempo)) = false := by
    rcases h with h | h
    · simp only [h, Bool.false_and]
    · simp only [h.ne', decide_false, Bool.and_false]
  have hahead : ((s.clk.cmp[n]).arm && decide ((s.clk.cmp[n]).target.toNat ≤ s.clk.tempo)) = false := by
    rcases h with h | h
    · simp only [h, Bool.false_and]
    · simp only [Nat.not_le.2 h, decide_false, Bool.and_false]
  have hstand : matched n false s = s := (matched_eq n s).trans (setCmp_id (Cmp.matchedAt_ahead hahead))
  simp only [writeCmpCfg, hno, hstand, hv, Bool.not_false, Bool.true_and, Bool.and_true, Bool.or_false]
  split
  case isTrue harm => rw [passed_eq, setCmp_setCmp]; rfl
  case isFalse harm =>
    have hlt : s.clk.tempo < (s.clk.cmp[n]).target.toNat := h.resolve_left fun h => harm (congrArg not h)
    have hle := Nat.not_le.2 hlt
    rw [matched_eq, setCmp_setCmp]
    refine setCmp_congr ((Cmp.matchedAt_ahead ?_).trans (if_neg hle).symm)
    simp only [setCmp_clk, hle, decide_false, Bool.and_false]

/-- ARM written at the moment of a match: the match stays, whatever the write clears. -/
theorem writeCmpCfg_atMatch {n : Fin 4} {v : Word} {s : State} (hv : bit v 0 = true) (ha : (s.clk.cmp[n]).arm = true)
    (ht : (s.clk.cmp[n]).target.toNat = s.clk.tempo) : writeCmpCfg n v s = setCmp n (fun c =>
      { c with arm := false, irqEn := bit v 1, match_ := true, late := c.late && !bit v 3 }) s := by
  have hnow : ((s.clk.cmp[n]).arm && decide ((s.clk.cmp[n]).target.toNat = s.clk.tempo)) = true := by simp only [ha, ht, decide_true, Bool.and_self]
  have hreached := Cmp.matchedAt_reached (now := s.clk.tempo) (c := s.clk.cmp[n]) (by simp only [ha, ht, le_refl, decide_true, Bool.and_self])
  simp only [writeCmpCfg, hnow, Bool.not_true, Bool.and_false, Bool.false_eq_true, if_false, Bool.or_true, Bool.and_true, hv]
  rw [matched_eq, matched_eq, setCmp_setCmp, setCmp_setCmp]
  refine setCmp_congr ?_
  dsimp only [setCmp_clk]
  rw [hreached]
  exact Cmp.matchedAt_reached (by simp only [ht, le_refl, decide_true, Bool.and_self])

/-- What a change of one compare channel leaves. -/
def OtherCmps (n : Fin 4) (s t : State) : Prop := t.clk.cap = s.clk.cap ∧ t.clk.tempo = s.clk.tempo
  ∧ ∀ m, m ≠ n → t.clk.cmp[m] = s.clk.cmp[m]

/-- A command that changes a compare channel by f. -/
theorem does_setCmp {c : Instr} {n : Fin 4} {f : Cmp → Cmp} {ok : Bool} {s : State} (hc : exec c s = act s ok (setCmp n f s))
    (hp : s.powered = true) (ho : ok = true) : Does c [.clk] s fun t => t.clk.cmp[n] = f s.clk.cmp[n] ∧ OtherCmps n s t :=
  does_of_act hc hp ho (only_clk _ s (by simp)) fun _ _ => ⟨modAt_same .., rfl, rfl, fun _ hm => modAt_other _ _ _ _ hm.symm⟩

section
variable {src : Src} {n : Fin 4} {v l : Word} {s : State} (hw : s.mayWrite src = true) (hsrc : src ≠ .spv)
include hw hsrc

/-- TMP_CMP_LO_WRITE stages the word. -/
theorem does_tmpCmpLoWrite : Does (.tmpCmpLoWrite src n v) [.clk] s fun t =>
    t.clk.cmp[n] = { s.clk.cmp[n] with staged := upd (s.clk.cmp[n]).staged (Src.ix src) (some v) } ∧ OtherCmps n s t :=
  does_setCmp (f := fun c => { c with staged := upd c.staged (Src.ix src) (some v) }) (ok := s.mayWrite src && decide (src ≠ .spv)) rfl
    (powered_of_canAccess (canAccess_of_mayWrite hw)) (by simp [hw, hsrc])

/-- TMP_CMP_HI_WRITE applies the HI word with the LO word of the same write or, without one, with the one staged. -/
theorem does_tmpCmpHiWrite {w : Option Word} (hl : w = some l ∨ w = none ∧ (s.clk.cmp[n]).staged[Src.ix src] = some l) :
    Does (.tmpCmpHiWrite src n v w) [.clk] s fun t =>
      t.clk.cmp[n] = Cmp.retarget s.clk.tempo src (v ++ l) s.clk.cmp[n] ∧ OtherCmps n s t := by
  have hc : exec (.tmpCmpHiWrite src n v w) s
      = act s (s.mayWrite src && decide (src ≠ .spv)) (setCmp n (Cmp.retarget s.clk.tempo src (v ++ l)) s) := by
    rcases hl with rfl | ⟨rfl, hl⟩
    · exact congrArg (act s _) (writeCmpHi_pair src n v l s)
    · exact congrArg (act s _) (writeCmpHi_staged v hl)
  exact does_setCmp hc (powered_of_canAccess (canAccess_of_mayWrite hw)) (by simp [hw, hsrc])

/-- COMPARE_ARM has the effect of its write on the channel. -/
theorem does_compareArm {f : Cmp → Cmp} (hv : bit v 0 = true) (hf : writeCmpCfg n v s = setCmp n f s) :
    Does (.compareArm src n v) [.clk] s fun t => t.clk.cmp[n] = f s.clk.cmp[n] ∧ OtherCmps n s t :=
  does_setCmp (ok := s.mayWrite src && bit v 0 && decide (src ≠ .spv)) (congrArg (act s _) hf)
    (powered_of_canAccess (canAccess_of_mayWrite hw)) (by simp [hw, hsrc, hv])

end

/-- COMPARE_MATCH: the armed target that is reached. -/
theorem does_compareMatch {n : Fin 4} {s : State} (hp : s.powered = true) (ha : (s.clk.cmp[n]).arm = true)
    (ht : (s.clk.cmp[n]).target.toNat ≤ s.clk.tempo) : Does (.compareMatch n) [.clk] s fun t =>
      t.clk.cmp[n] = { s.clk.cmp[n] with arm := false, match_ := true } ∧ OtherCmps n s t := by
  have hr : ((s.clk.cmp[n]).arm && decide ((s.clk.cmp[n]).target.toNat ≤ s.clk.tempo)) = true := by simp only [ha, ht, decide_true, Bool.and_self]
  rw [← Cmp.matchedAt_reached hr]
  exact does_setCmp (congrArg (act s _) (matched_eq n s)) hp hr

/-! ### The obligation -/

/-- Settles O19: capture by `does_captureEvent`, `does_trig` and `does_tmpCapHiRead`; compare by the effect of each write on its channel. -/
theorem tempoCaptureAndCompare : Obligations.TempoCaptureAndCompare := by
  unfold Obligations.TempoCaptureAndCompare
  refine ⟨fun n sel fall v src s hsrc => ⟨?capture, ?trig, ?read⟩, fun n v l src s hsrc => ⟨?lo, ?hi, ?arm, ?armAtMatch, ?reached⟩⟩
  case capture =>
    intro hp hs hports hsel hfall
    refine (does_captureEvent hp hs (inputLive_of_ports hports)).imp ?_
    rintro t ⟨htake, hleave, htempo, hcmp, hball, hballs⟩
    refine ⟨(htake n ⟨hsel, hfall⟩).taken, (htake n ⟨hsel, hfall⟩).1, htempo, hcmp, hball, hballs, fun m hm => hleave m ?_⟩
    rintro ⟨h1, h2⟩
    exact hm.elim (· h1) (· h2)
  case trig =>
    exact fun hw ht hv => (does_trig hw hsrc ht hv).imp fun t ⟨hrec, hstand⟩ => ⟨hrec.taken, hrec.1, hstand⟩
  case read =>
    refine fun ha => (does_tmpCapHiRead ha hsrc).imp ?_
    rintro t ⟨hc, hstand, hmem, hhost, hdap⟩
    exact ⟨hc, hstand, hmem, fun h => (hhost h).1, hdap⟩
  case lo => exact fun hw => does_tmpCmpLoWrite hw hsrc
  case hi => exact fun w hw hl => does_tmpCmpHiWrite hw hsrc hl
  case arm => exact fun hw hv h => does_compareArm hw hsrc hv (writeCmpCfg_arms hv h)
  case armAtMatch =>
    intro hw hv ha ht
    refine (does_compareArm hw hsrc hv (writeCmpCfg_atMatch hv ha ht)).imp ?_
    rintro t ⟨hc, ho⟩
    rw [hc]
    exact ⟨rfl, rfl, rfl, ho⟩
  case reached => exact does_compareMatch

end Sys2Proof.Machine
end

section
/-! PROOFS. The calendar (O21 to O24): the values and their order, then what a tick does, then what a commit and an alarm do, each with its
obligation. -/

namespace Sys2Proof.Machine

/-! ### Calendar values (R64, R65) -/

/-- The Gregorian rule of R65. -/
theorem leap_iff (y : Nat) : leap y = true ↔ 4 ∣ y ∧ (100 ∣ y → 400 ∣ y) := by
  simp only [leap, Bool.and_eq_true, Bool.or_eq_true, beq_iff_eq, bne_iff_ne, Nat.dvd_iff_mod_eq_zero]
  tauto

/-- Settles O21: by `leap_iff`; the four years are computed. -/
theorem leapYears : Obligations.LeapYears :=
  ⟨leap_iff, by decide, by decide, by decide, by decide⟩

/-- A month has 28 to 31 days. -/
theorem monthDays_bounds (y m : Nat) : 28 ≤ monthDays y m ∧ monthDays y m ≤ 31 := by
  unfold monthDays
  split
  · split <;> omega
  · split <;> omega

/-- A valid value keeps to the bounds of its fields (R66 step 3). -/
theorem Cal.ok_iff (c : Cal) : c.ok = true ↔ 2000 ≤ c.year ∧ c.year ≤ 2399 ∧ 1 ≤ c.month ∧ c.month ≤ 12 ∧ 1 ≤ c.day
    ∧ c.day ≤ monthDays c.year c.month ∧ c.hour ≤ 23 ∧ c.minute ≤ 59 ∧ c.second ≤ 59 ∧ c.sub ≤ 1023 := by
  simp only [Cal.ok, Cal.dateOk, Bool.and_eq_true, decide_eq_true_eq, and_assoc]

/-- The sub-second counts to 1023 and starts again. -/
theorem Cal.next_sub (c : Cal) : c.next.sub = if c.sub < 1023 then c.sub + 1 else 0 := by
  unfold Cal.next
  split
  · rfl
  · split_ifs <;> rfl

/-- At the last tick of the last second of the last day of the last year stands the end of the range (R64). -/
theorem Cal.eq_last {c : Cal} (h : c.ok = true) (hs : ¬ c.sub < 1023) (hsec : ¬ c.second < 59) (hmin : ¬ c.minute < 59)
    (hh : ¬ c.hour < 23) (hd : ¬ c.day < monthDays c.year c.month) (hm : ¬ c.month < 12) (hy : ¬ c.year < 2399) : c = Cal.last := by
  have hb := c.ok_iff.1 h
  have hmonth : c.month = 12 := by omega
  have hdec : monthDays c.year c.month = 31 := by rw [hmonth]; rfl
  obtain ⟨year, month, day, hour, minute, second, sub⟩ := c
  dsimp only at *
  rw [Cal.last, Cal.mk.injEq]
  omega

/-- A tick below the end of the range gives a valid value 1/1024 s later. -/
theorem Cal.next_ok_lt {c : Cal} (h : c.ok = true) (hl : c ≠ Cal.last) :
    c.next.ok = true ∧ c.secs * 1024 + c.sub < c.next.secs * 1024 + c.next.sub := by
  have hb := c.ok_iff.1 h
  have hday := monthDays_bounds c.year c.month
  have hmonth := monthDays_bounds c.year (c.month + 1)
  have hyear := monthDays_bounds (c.year + 1) 1
  unfold Cal.next
  split_ifs with hs hsec hmin hh hd hm
  case neg =>
    have hy : c.year < 2399 := by
      by_contra hy
      exact hl (Cal.eq_last h hs hsec hmin hh hd hm hy)
    exact ⟨(Cal.ok_iff _).2 (by dsimp only; omega), by simp only [Cal.secs]; omega⟩
  all_goals exact ⟨(Cal.ok_iff _).2 (by dsimp only; omega), by simp only [Cal.secs]; omega⟩

/-- A change of the calendar. -/
theorem only_rtc {ps : List Part} (r : Rtc) (s : State) (h : .rtc ∈ ps) : Only ps s { s with rtc := r } := by
  refine ⟨rfl, fun p hp => ?_⟩
  cases p with
  | rtc => exact absurd h hp
  | hostMem => exact ⟨rfl, rfl⟩
  | _ => rfl

/-! ### Ticks (R64, R66, R68..R70) -/

/-- A tick with no commit queued, below the end of the range, counts on. -/
theorem tickBare_counts {s : State} (hq : s.rtc.queued = none) (hr : s.rtc.range = false) (hn : s.rtc.now ≠ Cal.last) :
    tickBare s = { s with rtc := { s.rtc with now := s.rtc.now.next } } := by
  simp [tickBare, hq, hr, hn]

/-- At the end of the range it stops (R68). -/
theorem tickBare_ends {s : State} (hq : s.rtc.queued = none) (hr : s.rtc.range = false) (hn : s.rtc.now = Cal.last) :
    tickBare s = { s with rtc := { s.rtc with range := true } } := by
  simp [tickBare, hq, hr, hn]

/-- Stopped, it stays so until a commit. -/
theorem tickBare_stopped {s : State} (hq : s.rtc.queued = none) (hr : s.rtc.range = true) : tickBare s = s := by
  simp [tickBare, hq, hr]

/-- A commit whose epoch has ended applies (R66 step 4). -/
theorem tickBare_commits {s : State} {q : Commit} (hq : s.rtc.queued = some q) (hd : epochOf q.at_ < epochOf s.clk.tempo) :
    tickBare s = { s with rtc := { s.rtc with now := q.value, valid := true, range := false, queued := none } } := by
  have hdue : commitDue s = true := by simp [commitDue, hq, hd]
  simp [tickBare, hq, hdue]

/-- A tick touches the calendar only, of it the value, its flags and the queued commit. -/
theorem tickBare_eq (s : State) : ∃ c v r q, tickBare s = { s with rtc := { s.rtc with now := c, valid := v, range := r, queued := q } } := by
  unfold tickBare
  split
  · exact ⟨_, _, _, _, rfl⟩
  · split_ifs
    · exact ⟨_, _, _, _, rfl⟩
    · exact ⟨_, s.rtc.valid, true, s.rtc.queued, rfl⟩
    · exact ⟨_, s.rtc.valid, s.rtc.range, s.rtc.queued, rfl⟩

/-- A tick of the RTC alone touches nothing else. -/
theorem tickBare_rtc (s : State) : tickBare s = { s with rtc := (tickBare s).rtc } := by
  obtain ⟨c, v, r, q, e⟩ := tickBare_eq s
  rw [e]

/-- The sub-second rolls to 0 at this tick. -/
def rolls (s : State) : Bool :=
  decide ((tickBare s).rtc.now.sub = 0) && (decide ((tickBare s).rtc.now ≠ s.rtc.now) || (tickBare s).rtc.queued.isNone && s.rtc.queued.isSome)

/-- A tick with the end of the range noted: RANGE_EVT and its event. -/
def rangeNoted (s : State) : State :=
  if (tickBare s).rtc.range && !s.rtc.range then
    logEvent 0x06 3 (calTime (tickBare s).rtc.now) (calDate (tickBare s).rtc.now)
      { tickBare s with rtc := { (tickBare s).rtc with rangeEvt := true } }
  else tickBare s

/-- A tick before the alarm's comparison. -/
def tickNoted (s : State) : State := if rolls s then correlate (rangeNoted s) else rangeNoted s

/-- A tick seen by the powered device ends with the alarm and the waits of an applied commit. -/
theorem tickFull_eq (s : State) : tickFull s =
    if s.rtc.queued.isSome && (alarmFire (tickNoted s)).rtc.queued.isNone then finishRtc (alarmFire (tickNoted s)) else alarmFire (tickNoted s) :=
  rfl

/-- Before the alarm's comparison the calendar's registers are the tick's but for RANGE_EVT and the correlation pair. -/
def Ticked (s : State) (r : Rtc) : Prop := r = { (tickBare s).rtc with
  rangeEvt := r.rangeEvt, corrSeq := r.corrSeq, corrValid := r.corrValid, corrTempo := r.corrTempo, corrTime := r.corrTime, corrDate := r.corrDate }

section
variable {s : State} {r : Rtc} (h : Ticked s r)
include h

/-- The queued commit is the one that the tick leaves. -/
theorem Ticked.queued : r.queued = (tickBare s).rtc.queued := by
  unfold Ticked at h
  rw [h]

/-- The alarm's registers stand. -/
theorem Ticked.alarm : r.alarm = s.rtc.alarm ∧ r.alarmArm = s.rtc.alarmArm ∧ r.alarmTime = s.rtc.alarmTime ∧ r.alarmDate = s.rtc.alarmDate := by
  obtain ⟨_, _, _, _, e⟩ := tickBare_eq s
  unfold Ticked at h
  rw [h, e]
  exact ⟨rfl, rfl, rfl, rfl⟩

end

/-- The end of the range noted touches the calendar and the event log. -/
theorem rangeNoted_eq (s : State) : ∃ r d, rangeNoted s = { s with rtc := r, dbg := d } ∧ Ticked s r := by
  have hb := tickBare_rtc s
  unfold rangeNoted
  split
  · obtain ⟨d, e⟩ := logEvent_eq 0x06 3 (calTime (tickBare s).rtc.now) (calDate (tickBare s).rtc.now)
      { tickBare s with rtc := { (tickBare s).rtc with rangeEvt := true } }
    refine ⟨{ (tickBare s).rtc with rangeEvt := true }, d, ?_, rfl⟩
    rw [e, hb]
  · exact ⟨(tickBare s).rtc, s.dbg, hb, rfl⟩

/-- With its correlation pair a tick may take a free choice, too. -/
theorem tickNoted_eq (s : State) : ∃ k r d, tickNoted s = { s with freeCtr := k, rtc := r, dbg := d } ∧ Ticked s r := by
  obtain ⟨r, d, e, h⟩ := rangeNoted_eq s
  unfold tickNoted
  rw [e]
  split
  · refine ⟨s.freeCtr + 1, _, d, rfl, ?_⟩
    rw [h]
    rfl
  · exact ⟨s.freeCtr, r, d, rfl, h⟩

/-- The alarm's registers stand until its comparison. -/
theorem tickNoted_alarm (s : State) : (tickNoted s).rtc.alarm = s.rtc.alarm ∧ (tickNoted s).rtc.alarmArm = s.rtc.alarmArm
    ∧ (tickNoted s).rtc.alarmTime = s.rtc.alarmTime ∧ (tickNoted s).rtc.alarmDate = s.rtc.alarmDate := by
  obtain ⟨k, r, d, e, hr⟩ := tickNoted_eq s
  rw [e]
  exact hr.alarm

/-- The alarm's comparison touches ALARM and ALARM_ARM. -/
theorem alarmFire_eq (s : State) : ∃ a b, alarmFire s = { s with rtc := { s.rtc with alarm := a, alarmArm := b } } := by
  unfold alarmFire
  split
  · exact ⟨true, false, rfl⟩
  · exact ⟨s.rtc.alarm, s.rtc.alarmArm, rfl⟩

/-- No alarm that is not armed fires, nor one that the RTC is not at. -/
theorem alarmFire_early {s : State} (h : s.rtc.now.secs < (calOf s.rtc.alarmTime s.rtc.alarmDate).secs) : alarmFire s = s :=
  if_neg (by simp [Nat.not_le.2 h])

/-- An armed alarm that the RTC is at or past fires. -/
theorem alarmFire_due {s : State} (ha : s.rtc.alarmArm = true) (h : (calOf s.rtc.alarmTime s.rtc.alarmDate).secs ≤ s.rtc.now.secs) :
    alarmFire s = { s with rtc := { s.rtc with alarm := true, alarmArm := false } } := if_pos (by simp [ha, h])

/-- The commit that a tick applies answers every wait of RTC_SET. -/
theorem tickFull_hif (s : State) : ∃ h : Hif, tickFull s = { alarmFire (tickNoted s) with hif := h }
    ∧ (s.rtc.queued.isSome = true → (tickBare s).rtc.queued = none → ∀ w ∈ h.waits, w.on ≠ .rtc) := by
  obtain ⟨k, r, d, e, hr⟩ := tickNoted_eq s
  obtain ⟨a, b, e'⟩ := alarmFire_eq (tickNoted s)
  have hq : (alarmFire (tickNoted s)).rtc.queued = (tickBare s).rtc.queued := by
    rw [e', e]
    exact hr.queued
  rw [tickFull_eq, hq]
  split
  case isTrue =>
    obtain ⟨g, m, q, ew⟩ := finishWaits_eq (fun w => decide (w.on = .rtc)) (fun w => (0x00, w.res)) (alarmFire (tickNoted s))
    refine ⟨_, ew, fun _ _ w hw => ?_⟩
    simpa using (List.mem_filter.1 hw).2
  case isFalse h => exact ⟨_, rfl, fun h1 h2 => absurd (by simp [h1, h2]) h⟩

/-- An RTC that runs without the rest of the device ticks alone. -/
theorem exec_rtcTick_unpowered {s : State} (hp : s.powered = false) (hx : s.clk.xtal32kRun = true) : exec .rtcTick s = .next (tickBare s) := by
  have hc : exec .rtcTick s = rtcAct s s.clk.xtal32kRun (tickBare s) (tickFull s) := rfl
  rw [hc, rtcAct, hx, hp, tickBare_rtc]
  rfl

/-- A tick of the powered device: the calendar's effects, with messages, alerts and the waits of an applied commit answered. -/
theorem exec_rtcTick {s : State} (hp : s.powered = true) (hx : s.clk.xtal32kRun = true) : ∃ h : Hif,
    exec .rtcTick s = .next { alarmFire (tickNoted s) with hif := h, pending := s.pending }
      ∧ (s.rtc.queued.isSome = true → (tickBare s).rtc.queued = none → ∀ w ∈ h.waits, w.on ≠ .rtc) := by
  obtain ⟨h, e, hw⟩ := tickFull_hif s
  have hc : exec .rtcTick s = rtcAct s s.clk.xtal32kRun (tickBare s) (tickFull s) := rfl
  have hal : ∃ al, rtcAlert s (tickFull s) = { tickFull s with hif := { h with alert := al } } := by
    unfold rtcAlert
    split
    · exact ⟨_, by rw [e]; rfl⟩
    · exact ⟨h.alert, by rw [e]⟩
  obtain ⟨al, ea⟩ := hal
  obtain ⟨sent, pba, es⟩ := irqScan_eq s (rtcAlert s (tickFull s))
  refine ⟨{ h with alert := al, sent := sent, pba := pba }, ?_, hw⟩
  rw [hc, rtcAct, hx, hp, if_pos rfl, es, ea, e]
  rfl

/-- What a tick keeps to. -/
theorem only_tick (s : State) (h : Hif) :
    Only [.freeCtr, .rtc, .hif, .hostMem, .dbg] s { alarmFire (tickNoted s) with hif := h, pending := s.pending } := by
  obtain ⟨k, r, d, e, -⟩ := tickNoted_eq s
  obtain ⟨a, b, e'⟩ := alarmFire_eq (tickNoted s)
  rw [e', e]
  refine ⟨rfl, fun p hp => ?_⟩
  cases p with
  | freeCtr | rtc | hif | hostMem | dbg => simp at hp
  | _ => rfl

/-- A tick of the powered device, by what is noted at it. -/
theorem does_rtcTick {s : State} {P : State → Prop} (hp : s.powered = true) (hx : s.clk.xtal32kRun = true)
    (hP : ∀ h : Hif, (s.rtc.queued.isSome = true → (tickBare s).rtc.queued = none → ∀ w ∈ h.waits, w.on ≠ .rtc) →
      P { alarmFire (tickNoted s) with hif := h, pending := s.pending }) : Does .rtcTick [.freeCtr, .rtc, .hif, .hostMem, .dbg] s P := by
  obtain ⟨h, e, hw⟩ := exec_rtcTick hp hx
  exact ⟨_, e, only_tick s h, hP h hw⟩

/-- What is done completes. -/
theorem Does.completes {c : Instr} {ps : List Part} {s : State} {P : State → Prop} (h : Does c ps s P) : Completes c s P := by
  obtain ⟨t, he, -, hp⟩ := h
  exact ⟨t, he, hp⟩

/-- Nothing is noted of the range where the tick does not end it. -/
theorem rangeNoted_within {s : State} (h : ((tickBare s).rtc.range && !s.rtc.range) = false) : rangeNoted s = tickBare s :=
  if_neg (Bool.eq_false_iff.1 h)

section
variable {s : State} (hq : s.rtc.queued = none)
include hq

/-- Counting within the second notes nothing. -/
theorem tickNoted_counts (hr : s.rtc.range = false) (hn : s.rtc.now ≠ Cal.last) (hs : s.rtc.now.sub < 1023) :
    tickNoted s = { s with rtc := { s.rtc with now := s.rtc.now.next } } := by
  have hb := tickBare_counts hq hr hn
  have hrolls : rolls s = false := by simp [rolls, hb, Cal.next_sub, hs]
  have hrange : ((tickBare s).rtc.range && !s.rtc.range) = false := by simp [hb, hr]
  rw [tickNoted, hrolls, rangeNoted_within hrange, hb]
  rfl

/-- Where the sub-second rolls to 0 the correlation pair is recorded (R70). -/
theorem tickNoted_rolls (hr : s.rtc.range = false) (hn : s.rtc.now ≠ Cal.last) (hs : ¬ s.rtc.now.sub < 1023) :
    tickNoted s = correlate { s with rtc := { s.rtc with now := s.rtc.now.next } } := by
  have hb := tickBare_counts hq hr hn
  have hsub : s.rtc.now.next.sub = 0 := by simp [Cal.next_sub, hs]
  have hnew : s.rtc.now.next ≠ s.rtc.now := fun h => hs (by rw [← h, hsub]; decide)
  have hrolls : rolls s = true := by simp [rolls, hb, hsub, hnew]
  have hrange : ((tickBare s).rtc.range && !s.rtc.range) = false := by simp [hb, hr]
  rw [tickNoted, hrolls, rangeNoted_within hrange, hb, if_pos rfl]

/-- At the end of the range RANGE_EVT is set and the event logged (R68). -/
theorem tickNoted_ends (hr : s.rtc.range = false) (hn : s.rtc.now = Cal.last) : tickNoted s =
    logEvent 0x06 3 (calTime Cal.last) (calDate Cal.last) { s with rtc := { s.rtc with range := true, rangeEvt := true } } := by
  have hb := tickBare_ends hq hr hn
  have hrolls : rolls s = false := by simp [rolls, hb, hn, Cal.last]
  have hrange : ((tickBare s).rtc.range && !s.rtc.range) = true := by simp [hb, hr]
  rw [tickNoted, hrolls, rangeNoted, if_pos hrange, hb, hn]
  rfl

/-- A stopped RTC's tick notes nothing. -/
theorem tickNoted_stopped (hr : s.rtc.range = true) : tickNoted s = s := by
  have hb := tickBare_stopped hq hr
  have hrolls : rolls s = false := by simp [rolls, hb, hq]
  have hrange : ((tickBare s).rtc.range && !s.rtc.range) = false := by simp [hr]
  rw [tickNoted, hrolls, rangeNoted_within hrange, hb]
  rfl

end

/-- A commit applied at a tick (R66 step 4): the value, VALID, and the range left. -/
theorem tickNoted_commits {s : State} {q : Commit} (hq : s.rtc.queued = some q) (hd : epochOf q.at_ < epochOf s.clk.tempo) :
    (tickNoted s).rtc.now = q.value ∧ (tickNoted s).rtc.valid = true ∧ (tickNoted s).rtc.range = false ∧ (tickNoted s).rtc.queued = none := by
  obtain ⟨k, r, d, e, h⟩ := tickNoted_eq s
  unfold Ticked at h
  rw [e, h, tickBare_commits hq hd]
  exact ⟨rfl, rfl, rfl, rfl⟩

/-! ### Vector 23 (Table 17.3) -/

/-- Flags put below a number leave its bits above them. -/
theorem testBit_foldr_flags {α : Type} (f : α → Bool) (l : List α) (a k : Nat) :
    (l.foldr (fun c acc => acc * 2 + b2n (f c)) a).testBit (k + l.length) = a.testBit k := by
  induction l with
  | nil => rfl
  | cons c l ih =>
    have hlow : ∀ x, (x * 2 + b2n (f c)) / 2 = x := fun x => by unfold b2n; split <;> omega
    rw [List.foldr_cons, List.length_cons, ← Nat.add_assoc, Nat.testBit_succ, hlow, ih]

/-- RANGE_EVT, enabled, asserts vector 23. -/
theorem asserted_rangeEvt {t : State} (hr : t.rtc.rangeEvt = true) (he : bit t.rtc.irqEn 1 = true) : asserted t 23 = true := by
  have hlen : t.clk.cmp.toList.length = 4 := t.clk.cmp.length_toList
  have hc := testBit_foldr_flags Cmp.match_ t.clk.cmp.toList (b2n t.rtc.alarm + 2 * b2n t.rtc.rangeEvt + 4 * b2n t.clk.xtal32kLoss) 1
  have hen := testBit_foldr_flags Cmp.irqEn t.clk.cmp.toList t.rtc.irqEn.toNat 1
  have hevt : (b2n t.rtc.alarm + 2 * b2n t.rtc.rangeEvt + 4 * b2n t.clk.xtal32kLoss).testBit 1 = true := by
    rw [hr]
    cases t.rtc.alarm <;> cases t.clk.xtal32kLoss <;> rfl
  rw [hlen, hevt] at hc
  rw [hlen, show t.rtc.irqEn.toNat.testBit 1 = true from he] at hen
  refine decide_eq_true fun h0 => ?_
  have hbit : ((causes t 23).1 &&& (causes t 23).2).testBit 5 = true := by
    rw [Nat.testBit_and]
    exact Bool.and_eq_true_iff.2 ⟨hc, hen⟩
  rw [h0, Nat.zero_testBit] at hbit
  exact Bool.false_ne_true hbit

/-! ### The obligations on ticks -/

/-- Settles O22: the tick at the end of the range is `tickNoted_ends`, the stopped one `tickNoted_stopped`, that of a commit `tickNoted_commits`. -/
theorem calendarStopsAtRange : Obligations.CalendarStopsAtRange := by
  unfold Obligations.CalendarStopsAtRange
  intro s hp hx
  obtain ⟨a, b, ea⟩ := alarmFire_eq (tickNoted s)
  refine ⟨fun hn hq hr => ?ends, fun hr hq => ?stopped, fun q hr hq hd => ?commits⟩
  case ends =>
    refine (does_rtcTick hp hx fun h _ => ?_).completes
    rw [ea, tickNoted_ends hq hr hn]
    have hlog := logEvent_logged 0x06 3 (calTime Cal.last) (calDate Cal.last) { s with rtc := { s.rtc with range := true, rangeEvt := true } }
    obtain ⟨d, ed⟩ := logEvent_eq 0x06 3 (calTime Cal.last) (calDate Cal.last) { s with rtc := { s.rtc with range := true, rangeEvt := true } }
    rw [ed] at hlog ⊢
    exact ⟨hn, rfl, rfl, hlog, fun he => asserted_rangeEvt rfl he⟩
  case stopped =>
    refine (does_rtcTick hp hx fun h _ => ?_).completes
    rw [ea, tickNoted_stopped hq hr]
    exact ⟨rfl, hr⟩
  case commits =>
    obtain ⟨hnow, -, hrange, -⟩ := tickNoted_commits hq hd
    refine (does_rtcTick hp hx fun h _ => ?_).completes
    rw [ea]
    exact ⟨hnow, hrange⟩

/-- Settles O23: the values by `Cal.next_ok_lt`, the ticks by `tickNoted_counts`, `tickNoted_rolls` and `tickNoted_commits`, the alarm by
`alarmFire_due` and `alarmFire_early`. -/
theorem calendarTicks : Obligations.CalendarTicks := by
  unfold Obligations.CalendarTicks
  refine ⟨fun c hc hl => Cal.next_ok_lt hc hl, fun q s hx => ⟨fun hq hr hn => ?counts, fun hp hq hd => ?commits⟩, fun s hp hx ha => ?alarm⟩
  case counts =>
    cases hp : s.powered with
    | false =>
      have hb := tickBare_counts hq hr hn
      refine ⟨_, (exec_rtcTick_unpowered hp hx).trans (congrArg _ hb), only_rtc _ s (by simp), rfl, rfl, hr, ?_, fun _ => rfl⟩
      exact fun h => absurd h Bool.false_ne_true
    | true =>
      obtain ⟨a, b, ea⟩ := alarmFire_eq (tickNoted s)
      refine does_rtcTick hp hx fun h _ => ?_
      rw [ea]
      by_cases hs : s.rtc.now.sub < 1023
      · rw [tickNoted_counts hq hr hn hs]
        exact ⟨rfl, rfl, hr, fun _ h => absurd h hs.ne, fun _ => rfl⟩
      · rw [tickNoted_rolls hq hr hn hs]
        exact ⟨rfl, rfl, hr, fun _ _ => ⟨rfl, rfl, rfl, _, Nat.mod_lt _ (by decide), rfl⟩, fun h => absurd (h.resolve_left nofun) hs⟩
  case commits =>
    obtain ⟨a, b, ea⟩ := alarmFire_eq (tickNoted s)
    obtain ⟨hnow, hvalid, hrange, hqueued⟩ := tickNoted_commits hq hd
    refine does_rtcTick hp hx fun h hw => ?_
    rw [ea]
    exact ⟨hnow, hvalid, hrange, hqueued, hw (by rw [hq]; rfl) (by rw [tickBare_commits hq hd])⟩
  case alarm =>
    obtain ⟨halarm, harm, htime, hdate⟩ := tickNoted_alarm s
    refine (does_rtcTick hp hx fun h _ => ?_).completes
    rw [← htime, ← hdate]
    rcases Nat.lt_or_ge (tickNoted s).rtc.now.secs (calOf (tickNoted s).rtc.alarmTime (tickNoted s).rtc.alarmDate).secs with hlt | hge
    · rw [alarmFire_early hlt]
      exact ⟨fun hle => absurd hlt (Nat.not_lt.2 hle), fun _ => ⟨halarm, harm.trans ha⟩⟩
    · rw [alarmFire_due (harm.trans ha) hge]
      exact ⟨fun _ => ⟨rfl, rfl⟩, fun hlt => absurd hlt (Nat.not_lt.2 hge)⟩

/-! ### Commits (R66, R67) -/

/-- Logging an event leaves the calendar. -/
@[simp] theorem logEvent_rtc (code src : BitVec 8) (a0 a1 : Word) (s : State) : (logEvent code src a0 a1 s).rtc = s.rtc := by
  obtain ⟨d, e⟩ := logEvent_eq code src a0 a1 s
  rw [e]

/-- What a write of RTC_CTRL makes of the alarm (R69): armed where its value is a date, else disarmed. -/
def alarmCtrl (v : Word) (r : Rtc) : Rtc :=
  if bit v 1 then
    (if { calOf r.alarmTime r.alarmDate with sub := 0 }.ok then { r with alarmArm := true } else { r with badDate := true, alarmArm := false })
  else { r with alarmArm := false }

/-- It touches ALARM_ARM and BAD_DATE only. -/
theorem alarmCtrl_eq (v : Word) (r : Rtc) : ∃ a b, alarmCtrl v r = { r with alarmArm := a, badDate := b } := by
  unfold alarmCtrl
  split_ifs
  · exact ⟨true, r.badDate, rfl⟩
  · exact ⟨false, true, rfl⟩
  · exact ⟨false, r.badDate, rfl⟩

/-- The state with the alarm settled. -/
def alarmSettled (v : Word) (s : State) : State := { s with rtc := alarmCtrl v s.rtc }

@[simp] theorem alarmSettled_queued (v : Word) (s : State) : (alarmSettled v s).rtc.queued = s.rtc.queued := by
  obtain ⟨_, _, e⟩ := alarmCtrl_eq v s.rtc
  rw [alarmSettled, e]

@[simp] theorem alarmSettled_stageTime (v : Word) (s : State) : (alarmSettled v s).rtc.stageTime = s.rtc.stageTime := by
  obtain ⟨_, _, e⟩ := alarmCtrl_eq v s.rtc
  rw [alarmSettled, e]

@[simp] theorem alarmSettled_stageDate (v : Word) (s : State) : (alarmSettled v s).rtc.stageDate = s.rtc.stageDate := by
  obtain ⟨_, _, e⟩ := alarmCtrl_eq v s.rtc
  rw [alarmSettled, e]

@[simp] theorem alarmSettled_preempt (v : Word) (s : State) : (alarmSettled v s).rtc.preempt = s.rtc.preempt := by
  obtain ⟨_, _, e⟩ := alarmCtrl_eq v s.rtc
  rw [alarmSettled, e]

/-- The alarm is the calendar's own. -/
theorem only_alarmSettled {ps : List Part} (v : Word) (s : State) (h : .rtc ∈ ps) : Only ps s (alarmSettled v s) := only_rtc _ s h

/-- A write of RTC_CTRL settles the alarm, then commits where COMMIT is 1. -/
theorem writeRtcCtrl_eq (src : Src) (v : Word) (s : State) :
    writeRtcCtrl src v s = if bit v 0 then commitOf src (alarmSettled v s) else alarmSettled v s := by
  have ha : (if bit v 1 then armAlarm s else { s with rtc := { s.rtc with alarmArm := false } }) = alarmSettled v s := by
    unfold alarmSettled alarmCtrl armAlarm
    dsimp only
    split_ifs <;> rfl
  rw [writeRtcCtrl, ha]

/-- COMMIT_BUSY is clear with no commit queued. -/
theorem commitBusy_free {s : State} (src : Src) (now : Nat) (hq : s.rtc.queued = none) : s.commitBusy src now = false := by
  simp [State.commitBusy, hq]

/-- A commit finds COMMIT_BUSY set unless it is the supervisor's on another source's of the same epoch (R67). -/
theorem commitBusy_queued {s : State} {src : Src} {now : Nat} {q : Commit} (hq : s.rtc.queued = some q)
    (h : src ≠ .spv ∨ q.src = .spv ∨ epochOf q.at_ ≠ epochOf now) : s.commitBusy src now = true := by
  simp only [State.commitBusy, hq]
  rcases h with h | h | h <;> simp [h]

/-- The supervisor's does not. -/
theorem commitBusy_overruled {s : State} {now : Nat} {q : Commit} (hq : s.rtc.queued = some q) (hs : q.src ≠ .spv)
    (he : epochOf q.at_ = epochOf now) : s.commitBusy .spv now = false := by
  simp [State.commitBusy, hq, hs, he]

/-- A valid value with none before it is queued. -/
theorem queueCommit_free {src : Src} {now : Nat} {v : Cal} {s : State} (hq : s.rtc.queued = none)
    (ha : src = .spv ∨ s.hif.spvActs.any (fun a => decide (a = (epochOf now, 0))) = false) :
    queueCommit src now v s = { s with rtc := { s.rtc with queued := some { src := src, at_ := now, value := v } } } := by
  have hfree : (decide (src ≠ .spv) && s.hif.spvActs.any fun a => decide (a = (epochOf now, 0))) = false := by
    rcases ha with h | h
    · simp only [h, ne_eq, not_true_eq_false, decide_false, Bool.false_and]
    · rw [h, Bool.and_false]
  simp only [queueCommit, hq, hfree, Bool.false_eq_true, if_false]

/-- The supervisor's value takes the place of another source's, which is preempted. -/
theorem queueCommit_overrules {now : Nat} {v : Cal} {s : State} {q : Commit} (hq : s.rtc.queued = some q)
    (hb : s.commitBusy .spv now = false) : queueCommit .spv now v s =
      preempt q.src { s with rtc := { s.rtc with queued := some { src := .spv, at_ := now, value := v } } } := by
  simp only [queueCommit, hq, hb, Bool.false_eq_true, if_false]

/-- A commit that finds COMMIT_BUSY set is ignored, whatever its value, and sets PREEMPT. -/
theorem commitOf_busy {src : Src} {s : State} (h : s.commitBusy src s.clk.tempo = true) : commitOf src s = preempt src s := if_pos h

section
variable {src : Src} {s : State} {t d : Word} (ht : s.rtc.stageTime[Src.ix src] = t) (hd : s.rtc.stageDate[Src.ix src] = d)
  (hb : s.commitBusy src s.clk.tempo = false)
include ht hd hb

/-- A staged value that is no date is logged. -/
theorem commitOf_bad (hv : (calOf t d).ok = false) : commitOf src s = badDate t d s := by
  simp only [commitOf, ht, hd, hb, hv, Bool.false_eq_true, if_false, Bool.not_false, if_true]

/-- A valid staged value is queued; the supervisor's act is remembered for the epoch. -/
theorem commitOf_takes (hv : (calOf t d).ok = true) : ∃ acts,
    commitOf src s = setHif (fun h => { h with spvActs := acts }) (queueCommit src s.clk.tempo (calOf t d) s) := by
  simp only [commitOf, ht, hd, hb, hv, Bool.false_eq_true, if_false, Bool.not_true]
  split
  · exact ⟨_, rfl⟩
  · exact ⟨_, rfl⟩

end

/-- COMMIT by a source that may write: the alarm settled, then the commit. -/
theorem does_commit {src : Src} {v : Word} {s u : State} {ps : List Part} {P : State → Prop} (hw : s.mayWrite src = true)
    (hv : bit v 0 = true) (hu : commitOf src (alarmSettled v s) = u) (hf : Only ps s u)
    (hP : ∀ sent pba, P { u with hif := { u.hif with sent := sent, pba := pba }, pending := s.pending }) : Does (.commit src v) ps s P := by
  have hc : exec (.commit src v) s = act s (s.mayWrite src && bit v 0) (writeRtcCtrl src v s) := rfl
  rw [writeRtcCtrl_eq, if_pos hv, hu] at hc
  exact does_of_act hc (powered_of_canAccess (canAccess_of_mayWrite hw)) (by simp [hw, hv]) hf hP

/-! ### Host commands of device scope (19_commands.md R340, R341) -/

/-- A wait is in the host interface. -/
theorem only_waitOn {ps : List Part} (c : Cmd) (on : Wait) (ns : Nat) (r : Res) (s : State) (h : .hif ∈ ps) : Only ps s (waitOn c on ns r s) :=
  only_setHif (fun h => { h with waits := h.waits ++ [{ cmd := c, on := on, deadline := s.clk.tempo + ns, res := r }] }) s h rfl rfl

/-- A command that keeps to device scope and to its fields, with no further check, runs. -/
theorem runCmd_device {c : Cmd} {masks : List (Nat × Word)} {go : State → State} {s : State} (hd : DeviceScope c) (hw : WordsFit c masks)
    (hk : c.preempt = false) : runCmd c [scopeD c, resv c masks] pass pass [] go s = go s := by
  obtain ⟨hsess, hstream⟩ := hd
  have hscope : (scopeD c).1 = false := by simp [scopeD, bad, hsess, hstream]
  have hresv : (resv c masks).1 = false := hw
  exact runCmd_go c _ pass pass [] go s (by simp [hscope, hresv]) hk rfl rfl rfl

/-- The row of the next host command has the effect of its body, with interrupt messages. -/
theorem exec_hostRow {op : Nat} {i : Instr} {f : Cmd → State → State} {c : Cmd} {s u : State} (hi : exec i s = hostRow op f s)
    (h : HostNext op c s u) : exec i s = act s true (f c u) := by
  rw [hi]
  simp [hostRow, h.next, h.free, h.sterdo, h.op]

/-- A host command whose body ends in its reply answers with it. -/
theorem answers_of_act {i : Instr} {c : Cmd} {st : BitVec 8} {r : Res} {s u : State} {P : State → Prop}
    (hi : exec i s = act s true (reply c st r u)) (hp : s.powered = true) (hP : P u) : Answers i c st r s P := by
  obtain ⟨sent, pba, e⟩ := act_next s true (reply c st r u) hp rfl
  exact ⟨_, hi.trans e, u, hP, rfl⟩

section
variable {op : Nat} {c : Cmd} {s u : State} (h : HostNext op c s u)
include h

/-- Taking the next command touches the commands held. -/
theorem HostNext.only {ps : List Part} (hp : .hif ∈ ps) : Only ps s u := by
  obtain ⟨w, r, rfl⟩ := nextCmd_eq s u c h.next
  exact only_setHif (fun h => { h with waits := w, ready := r }) s hp rfl rfl

/-- It leaves the calendar, the supervisor's acts and host memory. -/
theorem HostNext.keeps : u.rtc = s.rtc ∧ u.hif.spvActs = s.hif.spvActs ∧ u.hif.mem = s.hif.mem := by
  obtain ⟨w, r, rfl⟩ := nextCmd_eq s u c h.next
  exact ⟨rfl, rfl, rfl⟩

end

/-- RTC_GET of a command that passes its checks. -/
theorem exec_rtcGet {c : Cmd} {s u : State} (h : HostNext 0x71 c s u) (hd : DeviceScope c) (hw : WordsFit c []) :
    exec .rtcGet s = act s true (reply c 0x00 (calTime u.rtc.now, calDate u.rtc.now, rtcStatus .host u, 0) u) :=
  (exec_hostRow rfl h).trans (congrArg (act s true) (runCmd_device hd hw h.kept))

/-- What RTC_SET does with its value (R66, R67). -/
def rtcSetBody (c : Cmd) (s : State) : State :=
  if s.commitBusy .host c.at_ then reply c 0x15 res0 (preempt .host s)
  else if !(calOf (c.w 2) (c.w 3)).ok then reply c 0x1B res0 (badDate (c.w 2) (c.w 3) s)
  else waitOn c .rtc 0 res0 (queueCommit .host c.at_ (calOf (c.w 2) (c.w 3)) s)

/-- One that finds COMMIT_BUSY set is preempted. -/
theorem rtcSetBody_busy {c : Cmd} {s : State} {q : Commit} (hq : s.rtc.queued = some q) :
    rtcSetBody c s = reply c 0x15 res0 (preempt .host s) :=
  if_pos (commitBusy_queued hq (.inl (by decide)))

/-- A valid value is queued and the command waits. -/
theorem rtcSetBody_takes {c : Cmd} {s : State} (hq : s.rtc.queued = none)
    (ha : s.hif.spvActs.any (fun a => decide (a = (epochOf c.at_, 0))) = false) (hv : (calOf (c.w 2) (c.w 3)).ok = true) :
    rtcSetBody c s = waitOn c .rtc 0 res0
      { s with rtc := { s.rtc with queued := some { src := .host, at_ := c.at_, value := calOf (c.w 2) (c.w 3) } } } := by
  simp only [rtcSetBody, commitBusy_free .host c.at_ hq, hv, queueCommit_free hq (.inr ha), Bool.not_true, Bool.false_eq_true, if_false]

/-- A value that is no date is refused and logged. -/
theorem rtcSetBody_bad {c : Cmd} {s : State} (hq : s.rtc.queued = none) (hv : (calOf (c.w 2) (c.w 3)).ok = false) :
    rtcSetBody c s = reply c 0x1B res0 (badDate (c.w 2) (c.w 3) s) := by
  simp only [rtcSetBody, commitBusy_free .host c.at_ hq, hv, Bool.not_false, Bool.false_eq_true, if_false, if_true]

/-- RTC_SET of a command that passes its checks. -/
theorem exec_rtcSet {c : Cmd} {s u : State} (h : HostNext 0x70 c s u) (hd : DeviceScope c)
    (hw : WordsFit c [(2, 0x7FFFFFF), (3, 0x1FFFFF)]) : exec .rtcSet s = act s true (rtcSetBody c u) := by
  refine (exec_hostRow rfl h).trans (congrArg (act s true) ?_)
  dsimp only
  rw [h.kept, Bool.false_and, if_neg Bool.false_ne_true]
  exact runCmd_device hd hw h.kept

/-- What RTC_ALARM does with its words (R69). -/
def rtcAlarmBody (c : Cmd) (s : State) : State :=
  if bit (c.w 4) 0 && !{ calOf (c.w 2) (c.w 3) with sub := 0 }.ok then reply c 0x1B res0 { s with rtc := { s.rtc with badDate := true } }
  else reply c 0x00 res0 { s with rtc := { s.rtc with alarmTime := c.w 2, alarmDate := c.w 3, alarmArm := bit (c.w 4) 0 } }

/-- The words are stored, and the alarm armed where it is told and they hold a date. -/
theorem rtcAlarmBody_stores {c : Cmd} {s : State} (ha : bit (c.w 4) 0 = true → { calOf (c.w 2) (c.w 3) with sub := 0 }.ok = true) :
    rtcAlarmBody c s =
      reply c 0x00 res0 { s with rtc := { s.rtc with alarmTime := c.w 2, alarmDate := c.w 3, alarmArm := bit (c.w 4) 0 } } := by
  refine if_neg fun h => ?_
  obtain ⟨harm, hbad⟩ := Bool.and_eq_true_iff.1 h
  rw [ha harm] at hbad
  exact Bool.false_ne_true hbad

/-- An alarm to be armed that is no date is refused. -/
theorem rtcAlarmBody_bad {c : Cmd} {s : State} (ha : bit (c.w 4) 0 = true) (hv : { calOf (c.w 2) (c.w 3) with sub := 0 }.ok = false) :
    rtcAlarmBody c s = reply c 0x1B res0 { s with rtc := { s.rtc with badDate := true } } :=
  if_pos (by rw [ha, hv]; rfl)

/-- RTC_ALARM of a command that passes its checks. -/
theorem exec_rtcAlarm {c : Cmd} {s u : State} (h : HostNext 0x72 c s u) (hd : DeviceScope c)
    (hw : WordsFit c [(2, 0x7FFFFFF), (3, 0x1FFFFF), (4, 1)]) : exec .rtcAlarm s = act s true (rtcAlarmBody c u) :=
  (exec_hostRow rfl h).trans (congrArg (act s true) (runCmd_device hd hw h.kept))

/-! ### The obligation on commits -/

/-- Settles O24: a write of RTC_CTRL settles the alarm (`alarmSettled`) and then commits (`commitOf_takes`, `commitOf_bad`, `commitOf_busy`); the
host commands answer as their bodies do (`rtcSetBody`, `rtcAlarmBody`). -/
theorem calendarCommits : Obligations.CalendarCommits := by
  unfold Obligations.CalendarCommits
  refine ⟨fun src v q s => ?registers, fun c s u => ?commands⟩
  case registers =>
    have ht : (alarmSettled v s).rtc.stageTime[Src.ix src] = s.rtc.stageTime[Src.ix src] := by rw [alarmSettled_stageTime]
    have hd : (alarmSettled v s).rtc.stageDate[Src.ix src] = s.rtc.stageDate[Src.ix src] := by rw [alarmSettled_stageDate]
    have hqueued := alarmSettled_queued v s
    have hpreempt := alarmSettled_preempt v s
    refine ⟨?takes, ?bad, ?busy, ?overrules, ?alarm, ?noClock⟩
    case takes =>
      intro hw hv hx hq ha
      rw [← hqueued] at hq
      obtain ⟨acts, e⟩ := commitOf_takes ht hd (commitBusy_free src _ hq) hx
      rw [queueCommit_free (now := (alarmSettled v s).clk.tempo) hq ha] at e
      refine does_commit hw hv e ?_ fun _ _ => ⟨rfl, rfl⟩
      exact (only_alarmSettled v s (by simp)).trans ((only_rtc _ _ (by simp)).trans (only_setHif _ _ (by simp) rfl rfl))
    case bad =>
      intro hw hv hx hq
      rw [← hqueued] at hq
      refine does_commit hw hv (commitOf_bad ht hd (commitBusy_free src _ hq) hx) ?_ fun _ _ => ⟨?_, logEvent_logged ..⟩
      · exact (only_alarmSettled v s (by simp)).trans ((only_rtc _ _ (by simp)).trans (only_logEvent _ _ _ _ _ (by simp)))
      · rw [badDate, logEvent_rtc]
        rfl
    case busy =>
      intro hw hv hq hs
      rw [← hqueued] at hq
      refine does_commit hw hv (commitOf_busy (commitBusy_queued hq hs)) ?_ fun _ _ => ?_
      · exact (only_alarmSettled v s (by simp)).trans (only_rtc _ _ (by simp))
      · rw [preempt, hpreempt]
        rfl
    case overrules =>
      rintro hw rfl hv hx hq hs he
      rw [← hqueued] at hq
      have hb := commitBusy_overruled (now := (alarmSettled v s).clk.tempo) hq hs he
      obtain ⟨acts, e⟩ := commitOf_takes ht hd hb hx
      rw [queueCommit_overrules hq hb] at e
      refine does_commit hw hv e ?_ fun _ _ => ⟨?_, rfl⟩
      · exact (only_alarmSettled v s (by simp)).trans ((only_rtc _ _ (by simp)).trans (only_setHif _ _ (by simp) rfl rfl))
      · rw [preempt]
        dsimp only
        rw [hpreempt]
        rfl
    case alarm =>
      intro hw hv ha
      have hc : exec (.alarmArm src v) s = act s (s.mayWrite src && bit v 1) (writeRtcCtrl src v s) := rfl
      rw [writeRtcCtrl_eq, hv] at hc
      exact does_of_act hc (powered_of_canAccess (canAccess_of_mayWrite hw)) (by simp [hw, ha]) (only_alarmSettled v s (by simp)) fun _ _ => rfl
    case noClock =>
      intro hp hx hq hd
      obtain ⟨g, m, w, e⟩ := finishWaits_eq (fun w => decide (w.on = .rtc)) (fun w => (0x00, w.res))
        { s with rtc := { s.rtc with now := q.value, range := false, queued := none } }
      have hc : exec .rtcCommitNoClock s = act s (!s.clk.xtal32kRun && commitDue s)
          (finishRtc { s with rtc := { s.rtc with now := q.value, range := false, queued := none } }) := by
        show execRtcCommitNoClock s = _
        simp [execRtcCommitNoClock, hq]
      rw [finishRtc, finishOk, e] at hc
      refine does_of_act hc hp (by simp [hx, commitDue, hq, hd]) ?_ fun _ _ => ⟨rfl, fun w hw => ?_⟩
      · refine ⟨rfl, fun p h => ?_⟩
        cases p with
        | rtc | hif | hostMem => simp at h
        | _ => rfl
      · simpa using (List.mem_filter.1 hw).2
  case commands =>
    refine ⟨fun h hd hw => ?get, fun h hd hw => ?set, fun h hd hw => ?rtcAlarm⟩
    case get =>
      obtain ⟨hrtc, -, -⟩ := h.keeps
      have hc := exec_rtcGet h hd hw
      rw [rtcStatus, hrtc] at hc
      exact answers_of_act hc h.power rfl
    case set =>
      obtain ⟨hrtc, hacts, hmem⟩ := h.keeps
      have hc := exec_rtcSet h hd hw
      rw [← hrtc, ← hacts, ← hmem]
      refine ⟨fun hq => ?_, fun hv hq ha => ?_, fun hv hq => ?_⟩
      · obtain ⟨o, ho⟩ := Option.isSome_iff_exists.1 hq
        rw [rtcSetBody_busy ho] at hc
        exact answers_of_act hc h.power rfl
      · rw [rtcSetBody_takes hq ha hv] at hc
        refine does_of_act hc h.power rfl ?_ fun _ _ => ⟨rfl, ⟨_, List.mem_append_right _ (List.mem_singleton.2 rfl), rfl, rfl⟩, rfl⟩
        exact (h.only (by simp)).trans ((only_rtc _ u (by simp)).trans (only_waitOn _ _ _ _ _ (by simp)))
      · rw [rtcSetBody_bad hq hv] at hc
        refine answers_of_act hc h.power ⟨(only_rtc _ u (by simp)).trans (only_logEvent _ _ _ _ _ (by simp)), ?_⟩
        rw [badDate, logEvent_rtc]
    case rtcAlarm =>
      obtain ⟨hrtc, -, -⟩ := h.keeps
      have hc := exec_rtcAlarm h hd hw
      rw [← hrtc]
      refine ⟨fun ha => ?_, fun ha hv => ?_⟩
      · rw [rtcAlarmBody_stores ha] at hc
        exact answers_of_act hc h.power rfl
      · rw [rtcAlarmBody_bad ha hv] at hc
        exact answers_of_act hc h.power rfl

end Sys2Proof.Machine
end

section
/-! PROOFS. What the audio operations leave and change: frames, records and replies, one port at a time, gates, the commit of what is
staged and the end of a block. The proofs of O25, O26 and O27 rest on these. -/

namespace Sys2Proof.Machine

/-! ### Frames -/

/-- A frame of some parts is one of more. -/
theorem Only.mono {ps qs : List Part} {s t : State} (h : Only ps s t) (hsub : ps ⊆ qs) : Only qs s t :=
  ⟨h.1, fun p hp => h.2 p fun h' => hp (hsub h')⟩

/-- Frames of two changes, each of its own parts. -/
theorem Only.comp {ps qs rs : List Part} {s u t : State} (h : Only ps s u) (h' : Only qs u t) (hp : ps ⊆ rs) (hq : qs ⊆ rs) : Only rs s t :=
  (h.mono hp).trans (h'.mono hq)

/-- A change of the ports. -/
theorem only_sap (v : Vector Sap 8) (s : State) : Only [.sap] s { s with sap := v } := by
  refine ⟨rfl, fun p hp => ?_⟩
  cases p with
  | sap => simp at hp
  | hostMem => exact ⟨rfl, rfl⟩
  | _ => rfl

/-- A change of the zones. -/
theorem only_zone (v : Vector Zone 8) (s : State) : Only [.zone] s { s with zone := v } := by
  refine ⟨rfl, fun p hp => ?_⟩
  cases p with
  | zone => simp at hp
  | hostMem => exact ⟨rfl, rfl⟩
  | _ => rfl

/-- A change of the gates. -/
theorem only_gates (g : List (GateId × Gate)) (s : State) : Only [.gates] s { s with gates := g } := by
  refine ⟨rfl, fun p hp => ?_⟩
  cases p with
  | gates => simp at hp
  | hostMem => exact ⟨rfl, rfl⟩
  | _ => rfl

/-- A change of the front end. -/
theorem only_fe (f : Fe) (s : State) : Only [.fe] s { s with fe := f } := by
  refine ⟨rfl, fun p hp => ?_⟩
  cases p with
  | fe => simp at hp
  | hostMem => exact ⟨rfl, rfl⟩
  | _ => rfl

/-- A change of the PMA. -/
theorem only_pma (x : Pma) (s : State) : Only [.pma] s { s with pma := x } := by
  refine ⟨rfl, fun p hp => ?_⟩
  cases p with
  | pma => simp at hp
  | hostMem => exact ⟨rfl, rfl⟩
  | _ => rfl

/-- A change of the health records. -/
theorem only_hlt (x : Hlt) (s : State) : Only [.hlt] s { s with hlt := x } := by
  refine ⟨rfl, fun p hp => ?_⟩
  cases p with
  | hlt => simp at hp
  | hostMem => exact ⟨rfl, rfl⟩
  | _ => rfl

/-- A change of the streams. -/
theorem only_stream (v : Vector Stream 16) (s : State) : Only [.stream] s { s with stream := v } := by
  refine ⟨rfl, fun p hp => ?_⟩
  cases p with
  | stream => simp at hp
  | hostMem => exact ⟨rfl, rfl⟩
  | _ => rfl


/-! ### Records and waits (18_rings.md R331..R338) -/

/-- Nothing has changed but the streams, and the pages and returns of the host interface: what generating a record touches. -/
def RecordsMoved (s t : State) : Prop := ∃ st m u r k q, t = { s with
  stream := st, hif := { s.hif with mem := m, upq := u, returns := r, retTail := k, pgIrq := q } }

/-- No record generated. -/
theorem RecordsMoved.refl (s : State) : RecordsMoved s s := ⟨_, _, _, _, _, _, rfl⟩

/-- Records, then more. -/
theorem RecordsMoved.trans {s t u : State} (h : RecordsMoved s t) (h' : RecordsMoved t u) : RecordsMoved s u := by
  obtain ⟨_, _, _, _, _, _, rfl⟩ := h
  obtain ⟨_, _, _, _, _, _, rfl⟩ := h'
  exact ⟨_, _, _, _, _, _, rfl⟩

/-- The parts that records touch. -/
theorem RecordsMoved.only {s t : State} (h : RecordsMoved s t) : Only [.stream, .hif, .hostMem] s t := by
  obtain ⟨_, _, _, _, _, _, rfl⟩ := h
  refine ⟨rfl, fun p hp => ?_⟩
  cases p with
  | stream | hif | hostMem => simp at hp
  | _ => rfl

/-- Records leave the commands that wait. -/
theorem RecordsMoved.waits {s t : State} (h : RecordsMoved s t) : t.hif.waits = s.hif.waits := by
  obtain ⟨_, _, _, _, _, _, rfl⟩ := h
  rfl

/-- Records leave the ports. -/
theorem RecordsMoved.sap {s t : State} (h : RecordsMoved s t) : t.sap = s.sap := h.only.2 .sap (by simp)

/-- Records lost are records moved. -/
theorem RecordsLost.moved {s t : State} (h : RecordsLost s t) : RecordsMoved s t := by
  obtain ⟨_, _, rfl⟩ := h
  exact ⟨_, _, _, _, _, _, rfl⟩

/-- Records, then a change of one stream. -/
theorem RecordsMoved.setStream {s u : State} (h : RecordsMoved s u) {i : Fin 16} {f : Stream → Stream} :
    RecordsMoved s (setStream i f u) := h.trans ⟨_, _, _, _, _, _, rfl⟩

/-- Records, then a change of the returns. -/
theorem RecordsMoved.served {s u : State} (h : RecordsMoved s u) {r : List Return} {k : BitVec 12} {q : BitVec 3} :
    RecordsMoved s { u with hif := { u.hif with returns := r, retTail := k, pgIrq := q } } := h.trans ⟨_, _, _, _, _, _, rfl⟩

/-- A change of one stream. -/
theorem recordsMoved_setStream (i : Fin 16) (f : Stream → Stream) (s : State) : RecordsMoved s (Machine.setStream i f s) :=
  (RecordsMoved.refl s).setStream

/-- A write to host memory. -/
theorem recordsMoved_upWrite (a : BitVec 64) (ws : List Word) (s : State) : RecordsMoved s (upWrite a ws s) := by
  obtain ⟨m, q, e⟩ := upWrite_eq a ws s
  rw [e]
  exact ⟨_, _, _, _, _, _, rfl⟩

/-- Filled pages go into the return ring (R333). -/
theorem recordsMoved_serveReturns (k : Nat) (s : State) : RecordsMoved s (serveReturns k s) := by
  induction k generalizing s with
  | zero => exact .refl s
  | succ k ih =>
    unfold serveReturns
    split
    · exact .refl s
    · dsimp only
      split_ifs
      · exact .refl s
      · exact ⟨_, _, _, _, _, _, rfl⟩
      · exact ((recordsMoved_upWrite _ _ s).served.setStream.trans (ih _))

/-- Every return served that the ring has room for. -/
theorem recordsMoved_drainReturns (s : State) : RecordsMoved s (drainReturns s) := recordsMoved_serveReturns ..

/-- A page returned (R332). -/
theorem recordsMoved_returnPage (i : Fin 16) (reason : BitVec 3) (addr : BitVec 64) (used : Nat) (rs : List Rec) (s : State) :
    RecordsMoved s (returnPage i reason addr used rs s) :=
  (recordsMoved_upWrite _ _ s).setStream.served.trans (recordsMoved_drainReturns _)

/-- A current page returned, if there is one that holds a record. -/
theorem recordsMoved_closePage (i : Fin 16) (reason : BitVec 3) (s : State) : RecordsMoved s (closePage i reason s) := by
  unfold closePage
  split
  · exact .refl s
  · split
    · exact .refl s
    · exact (recordsMoved_setStream i _ s).trans (recordsMoved_returnPage ..)

/-- Words written to a page. -/
theorem recordsMoved_fillPage (i : Fin 16) (p : Page) (ws : List Word) (rs : List Rec) (s : State) :
    RecordsMoved s (fillPage i p ws rs s) := (recordsMoved_upWrite _ _ s).setStream

/-- A backlog moved into pages (R337). -/
theorem recordsMoved_drainBacklog (k : Nat) (i : Fin 16) (s : State) : RecordsMoved s (drainBacklog k i s) := by
  induction k generalizing s with
  | zero => exact .refl s
  | succ k ih =>
    unfold drainBacklog
    dsimp only
    split
    · exact .refl s
    · split
      · split
        · exact .refl s
        · split
          · exact .refl s
          · exact (recordsMoved_setStream i _ s).trans (ih _)
      · split
        · split
          · exact (recordsMoved_fillPage ..).setStream.trans (ih _)
          · exact (recordsMoved_closePage ..).trans (ih _)
        · split
          · exact (recordsMoved_fillPage ..).setStream.trans (ih _)
          · exact (recordsMoved_closePage ..).trans (ih _)
        · exact .refl s

/-- A record generated (R334, R337). -/
theorem recordsMoved_emit (i : Fin 16) (tempo ty : Nat) (body : List Word) (s : State) : RecordsMoved s (emit i tempo ty body s) :=
  (recordsLost_loseRecords i _ s).moved.setStream.trans (recordsMoved_drainBacklog ..)

/-- An EVENT record (R336). -/
theorem recordsMoved_emitEvent (i : Fin 16) (tempo code : Nat) (status : BitVec 8) (prev : StreamState) (value : BitVec 64) (s : State) :
    RecordsMoved s (emitEvent i tempo code status prev value s) := recordsMoved_emit ..

/-- The streams report a change of their zones (04_audio_ports.md R87). -/
theorem recordsMoved_reportZones (s : State) : RecordsMoved s (reportZones s) := by
  unfold reportZones
  refine List.foldlRecOn (motive := RecordsMoved s) _ _ (.refl s) fun u h i _ => h.trans ?_
  dsimp only
  split_ifs
  · exact .refl u
  · exact (recordsMoved_setStream i _ u).trans (recordsMoved_emitEvent ..)
  · exact recordsMoved_setStream i _ u

/-- The streams report the time to their first sample (18_rings.md R336). -/
theorem recordsMoved_sayLatency (m : Word) (s : State) : RecordsMoved s (sayLatency m s) := by
  unfold sayLatency
  refine List.foldlRecOn (motive := RecordsMoved s) _ _ (.refl s) fun u h i _ => h.trans ?_
  split
  · split
    · exact (recordsMoved_setStream i _ u).trans (recordsMoved_emitEvent ..)
    · exact .refl u
  · exact .refl u

/-- Commands answered touch the host interface and host memory. -/
theorem only_finishWaits (p : Waiting → Bool) (f : Waiting → BitVec 8 × Res) (s : State) :
    Only [.hif, .hostMem] s (finishWaits p f s) := by
  obtain ⟨_, _, _, e⟩ := finishWaits_eq p f s
  rw [e]
  refine ⟨rfl, fun p hp => ?_⟩
  cases p with
  | hif | hostMem => simp at hp
  | _ => rfl

/-- The commands that wait on are those not answered. -/
theorem finishWaits_waits (p : Waiting → Bool) (f : Waiting → BitVec 8 × Res) (s : State) :
    (finishWaits p f s).hif.waits = s.hif.waits.filter fun w => !p w := by
  obtain ⟨_, _, _, e⟩ := finishWaits_eq p f s
  rw [e]

/-! ### Changes of one port -/

/-- What setSap makes of its port. -/
theorem setSap_at (p : Fin 8) (f : Sap → Sap) (s : State) : (setSap p f s).sap[p] = f s.sap[p] := modAt_same ..

/-- What setSap leaves of the others. -/
theorem setSap_off {p q : Fin 8} (h : q ≠ p) (f : Sap → Sap) (s : State) : (setSap p f s).sap[q] = s.sap[q] := modAt_other _ _ _ _ h.symm

/-- A port changed twice. -/
theorem setSap_setSap (p : Fin 8) (f g : Sap → Sap) (s : State) : setSap p f (setSap p g s) = setSap p (fun x => f (g x)) s := by
  simp [setSap, modAt, upd]

/-- Port p has changed by R, and nothing but the listed parts has changed. -/
structure PortAt (ps : List Part) (p : Fin 8) (R : Sap → Sap → Prop) (s t : State) : Prop where
  /-- the parts touched -/
  frame : Only ps s t
  /-- the port -/
  port : R s.sap[p] t.sap[p]

/-- Port p has changed by R within a frame, and the other ports stand. -/
structure PortStep (ps : List Part) (p : Fin 8) (R : Sap → Sap → Prop) (s t : State) : Prop extends PortAt ps p R s t where
  /-- the other ports -/
  others : ∀ q : Fin 8, q ≠ p → t.sap[q] = s.sap[q]

section
variable {ps qs rs : List Part} {p : Fin 8} {R R' R'' : Sap → Sap → Prop} {s t u : State}

/-- Two changes, of relations that compose. -/
theorem PortAt.comp (h : PortAt ps p R s t) (h' : PortAt qs p R' t u) (hR : ∀ {x y z}, R x y → R' y z → R'' x z)
    (hp : ps ⊆ rs := by simp) (hq : qs ⊆ rs := by simp) : PortAt rs p R'' s u := ⟨h.frame.comp h'.frame hp hq, hR h.port h'.port⟩

/-- Two changes within the same frame. -/
theorem PortAt.trans (h : PortAt ps p R s t) (h' : PortAt ps p R' t u) (hR : ∀ {x y z}, R x y → R' y z → R'' x z) : PortAt ps p R'' s u :=
  ⟨h.frame.trans h'.frame, hR h.port h'.port⟩

/-- A weaker property, a wider frame. -/
theorem PortAt.imp (h : PortAt ps p R s t) (hR : ∀ {x y}, R x y → R' x y) (hp : ps ⊆ rs := by simp) : PortAt rs p R' s t :=
  ⟨h.frame.mono hp, hR h.port⟩

/-- A change that leaves the ports. -/
theorem Only.portAt (h : Only ps s t) (hR : ∀ x, R x x) (hs : .sap ∉ ps := by simp) : PortAt ps p R s t where
  frame := h
  port := by
    have hsap : t.sap = s.sap := h.2 .sap hs
    rw [hsap]
    exact hR _

/-- A change that leaves the ports, as one of a single port. -/
theorem Only.portStep (h : Only ps s t) (hR : ∀ x, R x x) (hs : .sap ∉ ps := by simp) : PortStep ps p R s t where
  toPortAt := h.portAt hR hs
  others q _ := by
    have hsap : t.sap = s.sap := h.2 .sap hs
    rw [hsap]

/-- Two changes of one port, of relations that compose. -/
theorem PortStep.comp (h : PortStep ps p R s t) (h' : PortStep qs p R' t u) (hR : ∀ {x y z}, R x y → R' y z → R'' x z)
    (hp : ps ⊆ rs := by simp) (hq : qs ⊆ rs := by simp) : PortStep rs p R'' s u where
  toPortAt := h.toPortAt.comp h'.toPortAt hR hp hq
  others q hn := (h'.others q hn).trans (h.others q hn)

/-- Two changes of one port within the same frame. -/
theorem PortStep.trans (h : PortStep ps p R s t) (h' : PortStep ps p R' t u) (hR : ∀ {x y z}, R x y → R' y z → R'' x z) :
    PortStep ps p R'' s u where
  toPortAt := h.toPortAt.trans h'.toPortAt hR
  others q hn := (h'.others q hn).trans (h.others q hn)

/-- A weaker property, a wider frame. -/
theorem PortStep.imp (h : PortStep ps p R s t) (hR : ∀ {x y}, R x y → R' x y) (hp : ps ⊆ rs := by simp) : PortStep rs p R' s t where
  toPortAt := h.toPortAt.imp hR hp
  others := h.others

end

/-- A change of the port alone. -/
theorem portStep_setSap {p : Fin 8} {R : Sap → Sap → Prop} {f : Sap → Sap} {s : State} (h : R s.sap[p] (f s.sap[p])) :
    PortStep [.sap] p R s (setSap p f s) where
  frame := only_sap _ s
  others _ hq := setSap_off hq f s
  port := (setSap_at p f s).symm ▸ h

/-! ### FIFO and slips (05_audio_sync.md R107..R109) -/

/-- Nothing of a port has changed but its FIFO, the blocks in it, the slips booked and the trim of its ASRC. -/
def FifoMoves (x y : Sap) : Prop := ∃ fifo flight last frame ins drop slips before left trim, y = { x with
  fifo := fifo, flight := flight, lastBlock := last, lastFrame := frame, slipIns := ins, slipDrop := drop, blkSlips := slips,
  insBefore := before, insertLeft := left, trim := trim }

/-- A change of these fields. -/
theorem FifoMoves.of {x : Sap} {fifo flight last frame ins drop slips before left trim} : FifoMoves x { x with
    fifo := fifo, flight := flight, lastBlock := last, lastFrame := frame, slipIns := ins, slipDrop := drop, blkSlips := slips,
    insBefore := before, insertLeft := left, trim := trim } := ⟨_, _, _, _, _, _, _, _, _, _, rfl⟩

/-- Movements one after the other. -/
theorem FifoMoves.trans {x y z : Sap} (h : FifoMoves x y) (h' : FifoMoves y z) : FifoMoves x z := by
  obtain ⟨_, _, _, _, _, _, _, _, _, _, rfl⟩ := h
  obtain ⟨_, _, _, _, _, _, _, _, _, _, rfl⟩ := h'
  exact .of

/-- Nothing of a port has changed but the slips booked and those still to come. -/
def SlipMoves (x y : Sap) : Prop := ∃ flight ins drop slips before left, y = { x with
  flight := flight, slipIns := ins, slipDrop := drop, blkSlips := slips, insBefore := before, insertLeft := left }

/-- A change of these fields. -/
theorem SlipMoves.of {x : Sap} {flight ins drop slips before left} : SlipMoves x { x with
    flight := flight, slipIns := ins, slipDrop := drop, blkSlips := slips, insBefore := before, insertLeft := left } :=
  ⟨_, _, _, _, _, _, rfl⟩

/-- Slips one after the other. -/
theorem SlipMoves.trans {x y z : Sap} (h : SlipMoves x y) (h' : SlipMoves y z) : SlipMoves x z := by
  obtain ⟨_, _, _, _, _, _, rfl⟩ := h
  obtain ⟨_, _, _, _, _, _, rfl⟩ := h'
  exact .of

/-- Slips are of the FIFO side. -/
theorem SlipMoves.fifo {x y : Sap} (h : SlipMoves x y) : FifoMoves x y := by
  obtain ⟨_, _, _, _, _, _, rfl⟩ := h
  exact .of

/-- The blocks that leave the FIFO are released into the last block, and the FIFO stands. -/
theorem release_eq (k : Nat) (x : Sap) : ∃ flight last, release k x = { x with flight := flight, lastBlock := last } := by
  induction k generalizing x with
  | zero => exact ⟨_, _, rfl⟩
  | succ k ih =>
    unfold release
    split
    · split
      · exact ⟨_, _, rfl⟩
      · obtain ⟨flight, last, e⟩ := ih _
        exact ⟨flight, last, by rw [e]⟩
    · exact ⟨_, _, rfl⟩

/-- Releasing blocks moves the FIFO side only. -/
theorem FifoMoves.release {x y : Sap} (h : FifoMoves x y) {k : Nat} : FifoMoves x (release k y) := by
  obtain ⟨_, _, e⟩ := release_eq k y
  rw [e]
  exact h.trans .of

/-- Slips counted in blocks move the FIFO side only. -/
theorem FifoMoves.slipsOf {x y : Sap} (h : FifoMoves x y) (l : List (Word × List Word)) : FifoMoves x (l.foldl (fun y f => slipOf f.1 y) y) :=
  List.foldlRecOn (motive := FifoMoves x) _ _ h fun _ h _ _ => h.trans .of

section
variable (p : Fin 8) (s : State)

/-- Frames inserted, counted. -/
theorem portStep_slipIns (n : Nat) : PortStep [.sap] p SlipMoves s (slipIns p n s) := portStep_setSap .of

/-- Frames dropped, counted. -/
theorem portStep_slipDrop (n : Nat) : PortStep [.sap] p SlipMoves s (slipDrop p n s) := portStep_setSap .of

/-- Slips booked to a block. -/
theorem portStep_bookSlips (n : Nat) : PortStep [.sap] p SlipMoves s (bookSlips p n s) := by
  refine portStep_setSap ?_
  split
  · exact .of
  · split
    · exact .of
    · exact .of

/-- The oldest frames dropped. -/
theorem portStep_dropOldest (n : Nat) : PortStep [.sap] p FifoMoves s (dropOldest p n s) := by
  refine PortStep.trans (portStep_setSap (R := FifoMoves) ?_) (portStep_slipDrop p _ n) fun h h' => h.trans h'.fifo
  split
  · exact .of
  · exact (FifoMoves.slipsOf .of _).release

/-- A frame put into a FIFO that has room. -/
theorem push_room {p : Fin 8} {s : State} (f : Word × List Word) (h : (s.sap[p]).fifo.length < 4 * (s.sap[p]).b) :
    push p f s = setSap p (fun x => { x with fifo := x.fifo ++ [f] }) s := by
  simp only [push, if_neg (Nat.not_le.2 h)]

/-- A frame put into the FIFO. -/
theorem portStep_push (f : Word × List Word) : PortStep [.sap] p FifoMoves s (push p f s) := by
  unfold push
  dsimp only
  split
  · exact (portStep_dropOldest p s _).trans (portStep_setSap (R := FifoMoves) .of) FifoMoves.trans
  · exact portStep_setSap .of

/-- A frame taken from the FIFO, or inserted where it is empty. -/
theorem portStep_pop (w : Nat) : PortStep [.sap] p FifoMoves s (pop p w s).2 := by
  unfold pop
  dsimp only
  split
  · exact portStep_setSap (FifoMoves.release .of)
  · refine PortStep.trans (portStep_setSap (R := FifoMoves) ?_) (portStep_slipIns p _ 1) fun h h' => h.trans h'.fifo
    split
    · exact .of
    · exact .of

/-- The FIFO filled up to 2 blocks, or drained to them. -/
theorem portStep_refill : PortStep [.sap] p FifoMoves s (refill p s) := by
  unfold refill
  dsimp only
  split
  · refine PortStep.trans (portStep_setSap (R := FifoMoves) ?_) (portStep_slipIns p _ _) fun h h' => h.trans h'.fifo
    split
    · exact .of
    · exact .of
  · exact portStep_dropOldest p s _

/-- The slips of a switch between bypass and ASRC. -/
theorem portStep_switchSlips (gain : Bool) : PortStep [.sap] p SlipMoves s (switchSlips p gain s) := by
  unfold switchSlips
  refine PortStep.trans (R := SlipMoves) ?_ (portStep_bookSlips p _ 43) SlipMoves.trans
  split
  · exact portStep_slipDrop p s 43
  · exact (portStep_setSap (R := SlipMoves) .of).trans (portStep_slipIns p _ 43) SlipMoves.trans

end

/-! ### Gates (05_audio_sync.md R110, R114) -/

/-- A change within the frame, then others in a row. -/
theorem Only.foldl {α : Type} {ps : List Part} {f : State → α → State} {l : List α} {s u : State} (h : Only ps s u)
    (hf : ∀ v a, Only ps v (f v a)) : Only ps s (l.foldl f u) := List.foldlRecOn (motive := Only ps s) l f h fun v hv a _ => hv.trans (hf v a)

/-- A change within the frame, then another that may take place. -/
theorem Only.cond {ps : List Part} {s t u : State} {c : Prop} [Decidable c] (h : Only ps s u) (h' : Only ps u t) :
    Only ps s (if c then t else u) := by
  split
  · exact h.trans h'
  · exact h

/-- A gate told where to head. -/
theorem only_gateWant (opens : Bool) (g : GateId) (s : State) : Only [.gates] s (gateWant opens g s) := by
  unfold gateWant
  split
  · exact .refl _ s
  · exact only_gates _ s

/-- Every change that has committed at a port reaches its gates and nothing else (R110). -/
theorem only_syncGates (p : Fin 8) (s : State) : Only [.gates] s (syncGates p s) := by
  unfold syncGates
  refine Only.foldl (Only.cond (Only.foldl (Only.foldl (.refl _ s) fun u z => only_gateWant ..) fun u z =>
    Only.foldl (.refl _ u) fun v i => ?contribs) (Only.foldl (.refl _ _) fun u k => ?chans)) fun u b => only_gateWant ..
  case contribs => exact (Only.refl _ v).cond (only_gateWant ..)
  case chans => exact (Only.refl _ u).cond (only_gateWant ..)

/-! ### Causes, and RNC suspended or resumed (05_audio_sync.md R102, R105) -/

/-- Nothing of a port has changed but RNC_SUSP, the status that it awaits, and causes that are now set. -/
def Noted (x y : Sap) : Prop := ∃ susp irq due, (∀ k, bit x.irq k = true → bit irq k = true)
  ∧ y = { x with rncSusp := susp, irq := irq, syncDue := due }

/-- Nothing noted. -/
theorem Noted.refl (x : Sap) : Noted x x := ⟨_, _, _, fun _ h => h, rfl⟩

/-- Notes one after the other. -/
theorem Noted.trans {x y z : Sap} (h : Noted x y) (h' : Noted y z) : Noted x z := by
  obtain ⟨_, _, _, hb, rfl⟩ := h
  obtain ⟨_, _, _, hb', rfl⟩ := h'
  exact ⟨_, _, _, fun k hk => hb' k (hb k hk), rfl⟩

/-- A cause set leaves the others. -/
theorem bit_setBit_of {w : Nat} {a : BitVec w} {i k : Nat} (hi : i < w) (h : bit a k = true) : bit (setBit a i true) k = true := by
  rw [bit_setBit a hi]
  split
  · rfl
  · exact h

/-- A change of some port that notes. -/
theorem noted_setSap {f : Sap → Sap} (h : ∀ x, Noted x (f x)) (p q : Fin 8) (s : State) : PortAt [.sap] p Noted s (setSap q f s) where
  frame := only_sap _ s
  port := by
    by_cases hq : p = q
    · subst hq
      rw [setSap_at]
      exact h _
    · rw [setSap_off hq]
      exact .refl _

/-- A cause set. -/
theorem noted_sapCause {k : Nat} (hk : k < 9) (p q : Fin 8) (s : State) : PortAt [.sap] p Noted s (sapCause q k s) :=
  noted_setSap (fun _ => ⟨_, _, _, fun _ h => bit_setBit_of hk h, rfl⟩) p q s

/-- Notes within a frame, in a row. -/
theorem noted_foldl {α : Type} {ps : List Part} {p : Fin 8} (f : State → α → State) (l : List α) (s : State)
    (h : ∀ u a, PortAt ps p Noted u (f u a)) : PortAt ps p Noted s (l.foldl f s) :=
  List.foldlRecOn (motive := PortAt ps p Noted s) l f ⟨.refl ps s, .refl _⟩ fun u hu a _ => hu.trans (h u a) Noted.trans

/-- A port event logged. -/
theorem only_logPort (p : Fin 8) (s : State) : Only [.dbg] s (logPort p s) := only_logEvent _ _ _ _ s (by simp)

/-- RNC suspended because of port q (R105). -/
theorem noted_rncSuspend (p q : Fin 8) (s : State) : PortAt [.sap, .gates, .fe, .dbg] p Noted s (rncSuspend q s) := by
  unfold rncSuspend
  split
  · have hgates : Only [.gates, .fe] s (gatesMap GateId.isAnti Gate.force { s with fe := { s.fe with suspended := true, rncPath := 3 } }) :=
      (only_fe _ s).comp (only_gates _ _) (by simp) (by simp)
    refine ((hgates.portAt Noted.refl).comp (noted_foldl (ps := [.sap]) _ _ _ fun u r => ?_) Noted.trans (rs := [.sap, .gates, .fe])).comp
      ((only_logPort q _).portAt Noted.refl) Noted.trans
    exact (noted_setSap (fun _ => ⟨_, _, _, fun _ h => h, rfl⟩) p r u).trans (noted_sapCause (by decide) p r _) Noted.trans
  · exact ⟨.refl _ s, .refl _⟩

/-- RNC resumed (R105). -/
theorem noted_rncResume (p : Fin 8) (s : State) : PortAt [.sap, .gates, .fe] p Noted s (rncResume s) := by
  unfold rncResume
  split
  · refine (((only_fe _ s).portAt Noted.refl).comp (noted_foldl (ps := [.sap]) _ _ _ fun u r => ?_) Noted.trans (rs := [.sap, .fe])).comp
      ((Only.foldl (.refl _ _) fun u b => only_gateWant ..).portAt Noted.refl) Noted.trans
    exact noted_setSap (fun _ => ⟨_, _, _, fun _ h => h, rfl⟩) p r u
  · exact ⟨.refl _ s, .refl _⟩

/-- A port stops being synchronous (R102). -/
theorem noted_syncLose (p q : Fin 8) (s : State) : PortAt [.sap, .gates, .fe, .dbg] p Noted s (syncLose q s) := by
  unfold syncLose
  split
  · exact (noted_setSap (fun _ => ⟨_, _, _, fun _ h => h, rfl⟩) p q s).comp (noted_rncSuspend p q _) Noted.trans
  · exact (noted_setSap (fun _ => ⟨_, _, _, fun _ h => h, rfl⟩) p q s).imp id

/-! ### Commits at a boundary (04_audio_ports.md R89..R91) -/

/-- MIC_LOST is the front end's. -/
theorem only_micCheck (p : Fin 8) (s : State) : Only [.fe] s (micCheck p s) := only_fe _ s

/-- Commands that go on or are answered are the host interface's. -/
theorem only_wakeShadow (s : State) : Only [.hif] s (wakeShadow s) := only_setHif (fun _ => (wakeShadow s).hif) s (by simp) rfl rfl

/-- A change of the commands that wait. -/
theorem only_waits (w : List Waiting) (s : State) : Only [.hif, .hostMem] s { s with hif := { s.hif with waits := w } } :=
  only_setHif (fun h => { h with waits := w }) s (by simp) rfl rfl

/-- Commands whose last port it was are answered (19_commands.md R345). -/
theorem only_portsDone (p : Fin 8) (s : State) : Only [.hif, .hostMem] s (portsDone p s) :=
  (only_waits _ s).trans (only_finishWaits ..)

/-- Everything staged in force: what a commit makes of its port's own fields, with an epoch step or without. -/
def Sap.committed (steps : Bool) (x : Sap) : Sap := { x with
  mask := x.maskSt.getD x.mask, maskSt := none, block := x.blockSt.getD x.block, blockSt := none
  syncCfg := x.syncCfgSt.getD x.syncCfg, syncCfgSt := none, epoch := if steps then x.epoch + 1 else x.epoch, epochDue := false }

/-- SYNC_MODE 1, once in force on a port that runs, ends synchronous status (R102). -/
def forceAsrc (p : Fin 8) (s : State) : State := if (s.sap[p]).forced && (s.sap[p]).state = .running then syncLose p s else s

/-- What a commit does beside the port: zones, routes, gates, and the commands that awaited it. -/
def commitRest (p : Fin 8) (boundary : Bool) (s : State) : State :=
  let s := { s with zone := mapV s.zone (fun _ z => commitZone p z), stream := mapV s.stream (fun _ t => commitRoute p t) }
  wakeShadow (portsDone p (if boundary then s else syncGates p s))

/-- A commit is that of the port, the end of its synchronous status where that is configured, and the rest. -/
theorem commitPort_eq (p : Fin 8) (boundary : Bool) (s : State) : commitPort p boundary s = commitRest p boundary (forceAsrc p
    (setSap p (Sap.committed (boundary && s.epochStep p)) (if boundary then s else dropPartial p s))) := rfl

/-- The rest of a commit leaves the ports. -/
theorem only_commitRest (p : Fin 8) (boundary : Bool) (s : State) :
    Only [.zone, .gates, .stream, .hif, .hostMem] s (commitRest p boundary s) := by
  unfold commitRest
  have hshadows : Only [.zone, .stream] s { s with
      zone := mapV s.zone (fun _ z => commitZone p z), stream := mapV s.stream (fun _ t => commitRoute p t) } :=
    (only_zone (mapV s.zone fun _ z => commitZone p z) s).comp (only_stream _ _) (by simp) (by simp)
  refine (Only.comp (rs := [.zone, .gates, .stream, .hif, .hostMem]) ?_ (only_portsDone p _) (List.Subset.refl _) (by simp)).trans
    ((only_wakeShadow _).mono (by simp))
  cases boundary with
  | true => exact hshadows.mono (by simp)
  | false => exact hshadows.comp (only_syncGates p _) (by simp) (by simp)

/-- The end of synchronous status by configuration may be noted, on a port that is configured so. -/
def Forced (x y : Sap) : Prop := Noted x y ∧ (x.forced = false → y = x)

/-- The end of synchronous status by configuration. -/
theorem forced_forceAsrc (p : Fin 8) (s : State) : PortAt [.sap, .gates, .fe, .dbg] p Forced s (forceAsrc p s) := by
  unfold forceAsrc
  split
  case isTrue h =>
    have hn := noted_syncLose p p s
    exact ⟨hn.frame, hn.port, fun hf => absurd (Bool.and_eq_true_iff.1 h).1 (hf ▸ Bool.false_ne_true)⟩
  case isFalse => exact ⟨.refl _ s, .refl _, fun _ => rfl⟩

/-- The commit at a block boundary (R89): what was staged is in force, and the end of synchronous status may be noted. -/
theorem commitPort_boundary (p : Fin 8) (s : State) : PortAt [.sap, .zone, .gates, .fe, .stream, .hif, .hostMem, .dbg] p
    (fun x y => Forced (x.committed (s.epochStep p)) y) s (commitPort p true s) := by
  rw [commitPort_eq, if_pos rfl, Bool.true_and]
  refine PortAt.comp (PortAt.comp (portStep_setSap (R := fun x y => y = x.committed (s.epochStep p)) rfl).toPortAt (forced_forceAsrc p _)
    (R'' := fun x y => Forced (x.committed (s.epochStep p)) y) (rs := [.sap, .gates, .fe, .dbg]) ?_)
    ((only_commitRest p true _).portAt (R := fun x y => y = x) fun _ => rfl) ?_
  · rintro x y z rfl h
    exact h
  · rintro x y z h rfl
    exact h

/-! ### What a port keeps -/

/-- State, synchronous status and lock stand, and no cause is cleared. -/
structure Stays (x y : Sap) : Prop where
  /-- STATE -/
  state : y.state = x.state
  /-- SYNC -/
  sync : y.sync = x.sync
  /-- LOCKED -/
  locked : y.locked = x.locked
  /-- SAPn_SYNC_IRQ -/
  irq : ∀ k, bit x.irq k = true → bit y.irq k = true

/-- A port that stands. -/
theorem Stays.refl (x : Sap) : Stays x x := ⟨rfl, rfl, rfl, fun _ h => h⟩

/-- One after the other. -/
theorem Stays.trans {x y z : Sap} (h : Stays x y) (h' : Stays y z) : Stays x z :=
  ⟨h'.state.trans h.state, h'.sync.trans h.sync, h'.locked.trans h.locked, fun k hk => h'.irq k (h.irq k hk)⟩

/-- Notes clear no cause. -/
theorem Noted.stays {x y : Sap} (h : Noted x y) : Stays x y := by
  obtain ⟨_, _, _, hb, rfl⟩ := h
  exact ⟨rfl, rfl, rfl, hb⟩

/-- The FIFO side is none of these. -/
theorem FifoMoves.stays {x y : Sap} (h : FifoMoves x y) : Stays x y := by
  obtain ⟨_, _, _, _, _, _, _, _, _, _, rfl⟩ := h
  exact ⟨rfl, rfl, rfl, fun _ h => h⟩

/-- A partial block that a change of mask or length discards. -/
theorem stays_dropPartial (p : Fin 8) (s : State) : PortAt [.sap] p Stays s (dropPartial p s) := by
  unfold dropPartial
  dsimp only
  split
  · refine PortAt.trans (R := SlipMoves) ?_ (portStep_setSap (R := Stays) ⟨rfl, rfl, rfl, fun _ h => h⟩).toPortAt
      fun h => h.fifo.stays.trans
    split
    · exact ⟨.refl _ s, .of⟩
    · exact ((portStep_slipDrop p s _).trans (portStep_bookSlips p _ _) SlipMoves.trans).toPortAt
  · exact ⟨.refl _ s, .refl _⟩

/-- The commit on a port that does not run (R90). -/
theorem stays_commitPort (p : Fin 8) (s : State) :
    PortAt [.sap, .zone, .gates, .fe, .stream, .hif, .hostMem, .dbg] p Stays s (commitPort p false s) := by
  rw [commitPort_eq]
  refine PortAt.comp (((stays_dropPartial p s).trans (portStep_setSap (R := Stays) ?_).toPortAt Stays.trans).comp (forced_forceAsrc p _)
    (fun h h' => h.trans h'.1.stays) (rs := [.sap, .gates, .fe, .dbg])) ((only_commitRest p false _).portAt Stays.refl) Stays.trans
  exact ⟨rfl, rfl, rfl, fun _ h => h⟩

/-! ### Blocks (R82..R84) and the switch of R103 -/

/-- The hub's output side is none of a port's. -/
theorem setSap_hubOn (p : Fin 8) (f : Sap → Sap) (s : State) : (setSap p f s).hubOn = s.hubOn := rfl

/-- Frames put into a FIFO that has room for all of them. -/
theorem foldl_push_room {p : Fin 8} {q : Word} (l : List (List Word)) {s : State} (h : (s.sap[p]).fifo.length + l.length ≤ 4 * (s.sap[p]).b) :
    l.foldl (fun s f => push p (q, f) s) s = setSap p (fun x => { x with fifo := x.fifo ++ l.map fun f => (q, f) }) s := by
  induction l generalizing s with
  | nil =>
    refine (congrArg (fun v => { s with sap := v }) (modAt_id s.sap p _ ?_)).symm
    simp
  | cons f l ih =>
    rw [List.length_cons] at h
    rw [List.foldl_cons, push_room (q, f) (by omega), ih, setSap_setSap]
    · simp
    · rw [setSap_at]
      simp only [List.length_append, List.length_singleton]
      exact (by omega : (s.sap[p]).fifo.length + 1 + l.length ≤ 4 * (s.sap[p]).b)

/-- Frames put into the FIFO. -/
theorem portStep_foldl_push (p : Fin 8) (q : Word) (l : List (List Word)) (s : State) :
    PortStep [.sap] p FifoMoves s (l.foldl (fun s f => push p (q, f) s) s) :=
  List.foldlRecOn (motive := PortStep [.sap] p FifoMoves s) l _ ⟨⟨.refl _ s, .of⟩, fun _ _ => rfl⟩
    fun u hu f _ => hu.trans (portStep_push p u (q, f)) FifoMoves.trans

/-- The port's counters at the end of a block. -/
def Sap.counted (x : Sap) : Sap := { x with seq := x.nextSeq, nextSeq := x.nextSeq + 1, lastTs := x.blkTs, blk := [] }

/-- The end of a block counts it and moves the FIFO side (R82, R83). -/
theorem portStep_endBlock (p : Fin 8) (s : State) : PortStep [.sap] p (fun x y => FifoMoves x.counted y) s (endBlock p s) := by
  unfold endBlock
  dsimp only
  split
  case isTrue hout =>
    rw [setSap_setSap]
    exact portStep_setSap .of
  case isFalse hin =>
    split
    · exact portStep_setSap .of
    · refine ((PortStep.trans (R := fun x y => FifoMoves x.counted y) ?_ (portStep_foldl_push p _ _ _) FifoMoves.trans)).trans
        (portStep_setSap (R := FifoMoves) .of) FifoMoves.trans
      rw [setSap_setSap]
      exact portStep_setSap .of

/-- A block of an output is the last block. -/
theorem endBlock_output {p : Fin 8} {s : State} (ho : (s.sap[p]).out = true) :
    ((endBlock p s).sap[p]).lastBlock = withSlips (blockHeader p s.sap[p] ++ (s.sap[p]).blk.flatten) (s.sap[p]).blkSlips := by
  unfold endBlock
  dsimp only
  rw [if_pos ho, setSap_setSap, setSap_at]

/-- A block of an input goes into the FIFO, where that has room for every frame. -/
theorem endBlock_input {p : Fin 8} {s : State} (ho : (s.sap[p]).out = false) (hh : s.hubOn = true)
    (hr : (s.sap[p]).fifo.length + (s.sap[p]).blk.length ≤ 4 * (s.sap[p]).b) :
    ((endBlock p s).sap[p]).fifo = (s.sap[p]).fifo ++ (s.sap[p]).blk.map (fun f => ((s.sap[p]).nextSeq, f))
      ∧ ((endBlock p s).sap[p]).flight
        = (s.sap[p]).flight ++ [((s.sap[p]).nextSeq, blockHeader p s.sap[p] ++ (s.sap[p]).blk.flatten, (s.sap[p]).insBefore)] := by
  unfold endBlock
  dsimp only
  rw [ho, if_neg Bool.false_ne_true, setSap_hubOn, hh, Bool.not_true, if_neg Bool.false_ne_true, setSap_setSap, foldl_push_room, setSap_setSap,
    setSap_setSap, setSap_at]
  · exact ⟨rfl, rfl⟩
  · rw [setSap_at]
    exact hr

/-- Nothing of a port has changed but its synchronous status with lock and qualification, and causes. -/
def Resynced (x y : Sap) : Prop := ∃ sync due locked quals unramp acc trim irq, y = { x with
  sync := sync, syncDue := due, locked := locked, quals := quals, unramp := unramp, acc := acc, trim := trim, irq := irq }

/-- A port after its boundary's switch: what changed its status has booked its slips, and one that awaited no switch stands. -/
def Switched (x y : Sap) : Prop := (∃ z, Resynced x z ∧ SlipMoves z y) ∧ (x.syncDue = none → y = x)

/-- The switch at a block boundary (R103). -/
theorem portStep_syncSwitch (p : Fin 8) (s : State) : PortStep [.sap] p Switched s (syncSwitch p s) := by
  unfold syncSwitch
  split
  case h_1 => exact ⟨⟨.refl _ s, ⟨_, ⟨_, _, _, _, _, _, _, _, rfl⟩, .of⟩, fun _ => rfl⟩, fun _ _ => rfl⟩
  case h_2 g hg =>
    unfold sapCause
    dsimp only
    rw [setSap_setSap]
    refine PortStep.trans (R := fun x z => x.syncDue ≠ none ∧ Resynced x z) (portStep_setSap ⟨?_, ⟨_, _, _, _, _, _, _, _, rfl⟩⟩)
      (portStep_switchSlips p _ g) fun h h' => ⟨⟨_, h.2, h'⟩, fun hn => absurd hn h.1⟩
    rw [hg]
    exact Option.some_ne_none g

end Sys2Proof.Machine
end

section
/-! PROOFS. Block boundaries, and commands that waited for a shadow (O26). -/

namespace Sys2Proof.Machine

/-! ### Block boundaries (R82, R89, R91) -/

/-- Whether a boundary steps the epoch is not of the block that ended. -/
theorem epochStep_endBlock (p : Fin 8) (s : State) : (endBlock p s).epochStep p = s.epochStep p := by
  have hend := portStep_endBlock p s
  have hz : (endBlock p s).zone = s.zone := hend.frame.2 .zone (by simp)
  have hst : (endBlock p s).stream = s.stream := hend.frame.2 .stream (by simp)
  obtain ⟨_, _, _, _, _, _, _, _, _, _, e⟩ := hend.port
  simp only [State.epochStep, hz, hst, e]
  rfl

/-- What a block boundary does (R82, R89, R103, R110): the block ends, what is staged commits, the switch happens, RNC resumes, gates follow
and the streams report. -/
def boundary (p : Fin 8) (s : State) : State :=
  reportZones (syncGates p (rncResume (micCheck p (syncSwitch p (commitPort p true (endBlock p s))))))

/-- A port after its block has ended, at the boundary: staged values committed, the switch, notes. -/
def Crossed (steps : Bool) (x y : Sap) : Prop := ∃ a b, Forced (x.committed steps) a ∧ Switched a b ∧ Noted b y

/-- The boundary leaves the counters of the block that ended and puts in force what was staged. -/
theorem Crossed.fields {steps : Bool} {x y : Sap} (h : Crossed steps x y) :
    y.seq = x.seq ∧ y.nextSeq = x.nextSeq ∧ y.lastTs = x.lastTs ∧ y.blk = x.blk
      ∧ y.mask = x.maskSt.getD x.mask ∧ y.block = x.blockSt.getD x.block ∧ y.syncCfg = x.syncCfgSt.getD x.syncCfg
      ∧ y.maskSt = none ∧ y.blockSt = none ∧ y.syncCfgSt = none ∧ y.epoch = (if steps then x.epoch + 1 else x.epoch)
      ∧ y.lastBlock = x.lastBlock := by
  obtain ⟨a, b, ⟨⟨_, _, _, -, rfl⟩, -⟩, ⟨⟨_, ⟨_, _, _, _, _, _, _, _, rfl⟩, _, _, _, _, _, _, rfl⟩, -⟩, _, _, _, -, rfl⟩ := h
  exact ⟨rfl, rfl, rfl, rfl, rfl, rfl, rfl, rfl, rfl, rfl, rfl, rfl⟩

/-- With no switch due and SYNC_MODE 0 the boundary leaves the FIFO. -/
theorem Crossed.fifo {steps : Bool} {x y : Sap} (h : Crossed steps x y) (hdue : x.syncDue = none)
    (hauto : bit (x.syncCfgSt.getD x.syncCfg) 0 = false) : y.fifo = x.fifo ∧ y.flight = x.flight := by
  obtain ⟨a, b, ⟨-, hforced⟩, ⟨-, hswitch⟩, _, _, _, -, rfl⟩ := h
  obtain rfl := hforced hauto
  obtain rfl := hswitch hdue
  exact ⟨rfl, rfl⟩

/-- A block boundary: the end of the block, then what it commits. -/
theorem portAt_boundary (p : Fin 8) (s : State) : PortAt [.sap, .zone, .gates, .fe, .stream, .hif, .hostMem, .dbg] p
    (fun x y => ∃ z, z = ((endBlock p s).sap[p]) ∧ FifoMoves x.counted z ∧ Crossed (s.epochStep p) z y) s (boundary p s) := by
  have hend := (portStep_endBlock p s).toPortAt
  have hcommit := commitPort_boundary p (endBlock p s)
  rw [epochStep_endBlock] at hcommit
  have hswitch := (portStep_syncSwitch p (commitPort p true (endBlock p s))).toPortAt
  have hresume : PortAt [.sap, .gates, .fe] p Noted (syncSwitch p (commitPort p true (endBlock p s))) _ :=
    ((only_micCheck p _).portAt Noted.refl).comp (noted_rncResume p _) Noted.trans
  have hgates : PortAt [.gates, .stream, .hif, .hostMem] p Noted _ (boundary p s) :=
    ((only_syncGates p _).comp (recordsMoved_reportZones _).only (by simp) (by simp)).portAt Noted.refl
  refine ⟨?_, _, rfl, hend.port, _, _, hcommit.port, hswitch.port, hresume.port.trans hgates.port⟩
  refine ((hend.frame.mono ?_).trans (hcommit.frame.trans (hswitch.frame.mono ?_))).trans ((hresume.frame.mono ?_).trans (hgates.frame.mono ?_)) <;>
    simp

/-- Settles O26: the block by `portStep_endBlock`, the boundary by `commitPort_boundary` and `portStep_syncSwitch`, the time-out by its reply. -/
theorem blocksAndShadows : Obligations.BlocksAndShadows := by
  unfold Obligations.BlocksAndShadows
  refine ⟨fun p s hp => ?blocks, fun k w s hp hk hw hd => ?shadows⟩
  case blocks =>
    intro x hrun hb
    have hc : exec (.blockBoundary p) s = act s (decide (x.state = .running) && decide (x.b ≤ x.blk.length)) (boundary p s) := rfl
    obtain ⟨hframe, z, hz, hend, hcross⟩ := portAt_boundary p s
    generalize boundary p s = u at hc hframe hcross
    refine does_of_act hc hp (by simp [hrun, hb]) hframe fun _ _ => ?_
    obtain ⟨hseq, hnext, hts, hblk, hmask, hblock, hcfg, hm, hbl, hsy, hepoch, hlast⟩ := hcross.fields
    obtain ⟨_, _, _, _, _, _, _, _, _, _, e⟩ := hend
    have hmask' := congrArg (fun v : Sap => v.maskSt.getD v.mask) e
    have hblock' := congrArg (fun v : Sap => v.blockSt.getD v.block) e
    have hcfg' := congrArg (fun v : Sap => v.syncCfgSt.getD v.syncCfg) e
    have hepoch' := congrArg (fun v : Sap => if s.epochStep p then v.epoch + 1 else v.epoch) e
    refine ⟨hseq.trans (congrArg Sap.seq e), hnext.trans (congrArg Sap.nextSeq e), hts.trans (congrArg Sap.lastTs e),
      hblk.trans (congrArg Sap.blk e), hmask.trans hmask', hblock.trans hblock', hcfg.trans hcfg', hm, hbl, hsy, hepoch.trans hepoch',
      fun ho => ?output, fun ho hh hdue hauto hroom => ?input⟩
    case output => exact hlast.trans (hz ▸ endBlock_output ho)
    case input =>
      obtain ⟨hfifo, hflight⟩ := hcross.fifo ((congrArg Sap.syncDue e).trans hdue) (hcfg ▸ hauto)
      obtain ⟨hfifo', hflight'⟩ := endBlock_input ho hh hroom
      exact ⟨hfifo.trans (hz ▸ hfifo'), hflight.trans (hz ▸ hflight')⟩
  case shadows =>
    have hc : exec (.shadowCommitTimeout k) s = act s (decide (w.on = .shadow) && decide (w.deadline ≤ s.clk.tempo))
        (reply w.cmd 0x14 res0 { s with hif := { s.hif with waits := s.hif.waits.eraseIdx k } }) := by
      show execShadowCommitTimeout k s = _
      simp only [execShadowCommitTimeout, hk]
    rw [hw, decide_eq_true hd, decide_eq_true rfl] at hc
    exact answers_of_act hc hp rfl

end Sys2Proof.Machine
end

section
/-! PROOFS. The frames of a port, and its clock's loss and lock (O25). -/

namespace Sys2Proof.Machine

/-! ### The edge of a frame (R77, R78, R95, R102) -/

/-- An FS active edge noted in its port: where it lies in time and phase, one edge more in the rate window, and FRAME_ERR where it is misplaced. -/
def Sap.edge (now : Nat) (err : Bool) (ph : Int) (x : Sap) : Sap := { x with
  frameErr := if err then satAdd x.frameErr 1 else x.frameErr, lastEdge := some now, phase := BitVec.ofInt 32 ph
  win := if x.win.edges = 0 then { x.win with edges := 1, first := now, last := now, phLo := ph, phHi := ph }
    else { x.win with edges := x.win.edges + 1, last := now, phLo := min x.win.phLo ph, phHi := max x.win.phHi ph } }

/-- An edge is counted. -/
theorem Sap.edge_edges (now : Nat) (err : Bool) (ph : Int) (x : Sap) : (x.edge now err ph).win.edges = x.win.edges + 1 := by
  unfold Sap.edge
  dsimp only
  split
  case isTrue h => rw [h]
  case isFalse => rfl

/-- The edge taken in by the port. -/
def edgeTaken (p : Fin 8) (err : Bool) (ph : Int) (s : State) : State :=
  noteEdge p ph (setSap p (fun x => { x with frameErr := if err then satAdd x.frameErr 1 else x.frameErr }) s)

/-- The edge changes its port alone. -/
theorem edgeTaken_eq (p : Fin 8) (err : Bool) (ph : Int) (s : State) : edgeTaken p err ph s = setSap p (Sap.edge s.clk.tempo err ph) s :=
  setSap_setSap p _ _ s

/-- A synchronous target whose phase has left its place ends its status (R102). -/
def phaseChecked (p : Fin 8) (controller : Bool) (ph : Int) (s : State) : State :=
  if ((s.sap[p]).sync || decide ((s.sap[p]).syncDue = some true)) && !controller && decide (100 < (ph - (s.sap[p]).qualPh).natAbs) then
    syncLose p s
  else s

/-- A phase within 100 ns is kept, and a port that is not synchronous has none to keep. -/
theorem phaseChecked_kept {p : Fin 8} {ph : Int} {s : State} (c : Bool)
    (h : ((s.sap[p]).sync = false ∧ (s.sap[p]).syncDue ≠ some true) ∨ (ph - (s.sap[p]).qualPh).natAbs ≤ 100) : phaseChecked p c ph s = s := by
  unfold phaseChecked
  rw [if_neg]
  generalize s.sap[p] = x at h ⊢
  rcases h with ⟨hs, hd⟩ | h
  · simp [hs, hd]
  · simp [Nat.not_lt.2 h]

/-- The phase check may end synchronous status. -/
theorem noted_phaseChecked (p : Fin 8) (c : Bool) (ph : Int) (s : State) : PortAt [.sap, .gates, .fe, .dbg] p Noted s (phaseChecked p c ph s) := by
  unfold phaseChecked
  split
  · exact noted_syncLose p p s
  · exact ⟨.refl _ s, .refl _⟩

/-- A window that is not over stands. -/
theorem closeWindows_open {p : Fin 8} {s : State} (h : s.clk.tempo < (s.sap[p]).win.start + windowNs) : closeWindows p s = s := by
  have hpast : decide ((s.sap[p]).win.start + windowNs ≤ s.clk.tempo) = false := decide_eq_false (Nat.not_le.2 h)
  simp only [closeWindows, List.range_succ, List.range_zero, List.nil_append, List.cons_append, List.foldl_cons, List.foldl_nil, hpast,
    Bool.false_eq_true, if_false]

/-! ### Frames of inputs and outputs (R78, R79, R81) -/

/-- A frame has joined the block in progress, which it stamps within 3 ns where it is the first (Table 4.3). -/
def FrameAdded (now : Nat) (f : List Word) (x y : Sap) : Prop :=
  ∃ ts, (x.blk = [] → ∃ d, d < 4 ∧ ts = BitVec.ofNat 64 (now + d)) ∧ y = { x with blk := x.blk ++ [f], blkTs := ts }

/-- The first frame of a block. -/
theorem frameAdded_first {now d : Nat} {f : List Word} {x : Sap} (hb : x.blk = []) (hd : d < 4) :
    FrameAdded now f x { x with blk := [f], blkTs := BitVec.ofNat 64 (now + d) } :=
  ⟨_, fun _ => ⟨d, hd, rfl⟩, by rw [hb]; rfl⟩

/-- A frame after others. -/
theorem frameAdded_next {now : Nat} {f : List Word} {x : Sap} (hb : x.blk ≠ []) : FrameAdded now f x { x with blk := x.blk ++ [f] } :=
  ⟨x.blkTs, fun h => absurd h hb, rfl⟩

/-- A frame added to the block. -/
theorem portStep_addFrame (p : Fin 8) (f : List Word) (s : State) :
    PortStep [.freeCtr, .sap] p (FrameAdded s.clk.tempo f) s (addFrame p f s) := by
  unfold addFrame
  split
  case isTrue h =>
    have hpick : PortStep [.freeCtr] p (fun x y => y = x) s (s.pick 4).2 := (only_freeCtr _ s (by simp)).portStep fun _ => rfl
    have hadd : PortStep [.sap] p (FrameAdded s.clk.tempo f) (s.pick 4).2
        (setSap p (fun x => { x with blk := [f], blkTs := BitVec.ofNat 64 (s.clk.tempo + (s.pick 4).1) }) (s.pick 4).2) :=
      portStep_setSap (frameAdded_first (List.isEmpty_iff.1 h) (Nat.mod_lt _ (by decide)))
    exact hpick.comp hadd fun {x y z} hxy hyz => hxy ▸ hyz
  case isFalse h =>
    exact (portStep_setSap (R := FrameAdded s.clk.tempo f) (frameAdded_next fun e => h (List.isEmpty_iff.2 e))).imp id

/-- A change of the front end that takes free choices. -/
theorem only_fe_freeCtr (k : Nat) (f : Fe) (s : State) : Only [.freeCtr, .fe] s { s with freeCtr := k, fe := f } :=
  ((only_freeCtr k s (by simp)).trans ((only_fe f _).mono (by simp)))

/-- A tap of the RNC references is the front end's (05_audio_sync.md R106). -/
theorem only_rncTap (p : Fin 8) (v : Vector Word 16) (s : State) : Only [.freeCtr, .fe] s (rncTap p v s) := by
  unfold rncTap
  split
  · have htap : Only [.freeCtr, .fe] s (tapFrame p v s) := (only_fe _ s).mono (by simp)
    refine htap.trans ?_
    generalize tapFrame p v s = u
    dsimp only
    split
    · exact .refl _ u
    · split
      · exact only_fe_freeCtr _ _ u
      · exact (only_fe _ u).mono (by simp)
  · exact .refl _ s

/-- The taps of a synchronous input. -/
theorem only_taps (p : Fin 8) (v : Vector Word 16) (s : State) : Only [.freeCtr, .fe] s (rncTap p v (micTap p v s)) :=
  ((only_fe _ s).mono (by simp)).trans (only_rncTap p v _)

/-- A frame of an input: its enabled slots join the block. -/
theorem portStep_inFrame (p : Fin 8) (missing : Nat) (slots : Vector Word 16) (s : State) : PortStep [.freeCtr, .sap, .fe] p
    (FrameAdded s.clk.tempo ((s.sap[p]).enabled.map fun k => inSample s.sap[p] missing k slots[k])) s (inFrame p missing slots s) := by
  have htaps (v : Vector Word 16) (u : State) :
      PortStep [.freeCtr, .fe] p (fun x y => y = x) u (if (s.sap[p]).inSync then rncTap p v (micTap p v u) else u) := by
    split
    · exact (only_taps p v u).portStep fun _ => rfl
    · exact (Only.refl _ u).portStep fun _ => rfl
  exact (portStep_addFrame p _ s).comp (htaps _ _) fun {x y z} hxy hyz => hyz ▸ hxy

/-- The slots of a frame: as many as the port has, and those outside the mask silent or not driven (R79). -/
theorem drives_slots (x : Sap) (ws : List Word) : (drives x ws).length = x.slots
    ∧ ∀ k, k < x.slots → bit x.mask k = false → (drives x ws)[k]? = some (if bit x.cfg 16 then none else some 0) := by
  unfold drives
  refine ⟨by simp, fun k hk hm => ?_⟩
  simp [hk, hm]

/-- The loop time is the front end's. -/
theorem only_rncLatency (s : State) : Only [.fe] s (rncLatency s) := by
  unfold rncLatency
  split
  · exact .refl _ s
  · exact only_fe _ s

/-- Who has the balls is no matter of ports and front end. -/
theorem ballsTaken_of_only {ps : List Part} {s t : State} (h : Only ps s t) (hd : .dbg ∉ ps := by simp) (hg : .gen ∉ ps := by simp)
    (hu : .guard ∉ ps := by simp) : t.ballsTaken = s.ballsTaken := by
  have hdbg : t.dbg = s.dbg := h.2 .dbg hd
  have hgen : t.gen = s.gen := h.2 .gen hg
  have hguard : t.guard = s.guard := h.2 .guard hu
  unfold State.ballsTaken State.scanFree State.debugLevel
  rw [hdbg, hgen, hguard]

/-- An output has taken a frame from the FIFO and, while the balls are its own, driven it. -/
def FrameDriven (balls : Bool) (x y : Sap) : Prop := ∃ z d, FifoMoves x z ∧ y = { z with driven := d } ∧ (balls = false → ∃ ws, d = drives z ws)

/-- An output has sent a frame: one from the FIFO, which joined the block; while the balls are its own it has driven them. -/
def FrameSent (now : Nat) (balls : Bool) (x y : Sap) : Prop := ∃ z f, FrameDriven balls x z ∧ FrameAdded now f z y

/-- A frame of an output. -/
theorem portStep_outFrame (p : Fin 8) (s : State) :
    PortStep [.freeCtr, .sap, .fe, .stream, .hif, .hostMem] p (FrameSent s.clk.tempo s.ballsTaken) s (outFrame p s) := by
  unfold outFrame
  generalize ((s.sap[p]).fifo.head?.map (·.1)).getD 0 = m
  have hpop := portStep_pop p s 16
  generalize pop p 16 s = r at hpop ⊢
  obtain ⟨ws, u⟩ := r
  dsimp only at hpop ⊢
  generalize ((List.finRange 16).map fun k => outSample u.sap[p] (sat32 ((ws[k.1]?.getD 0).toInt + antiSample p k u))) = sums
  generalize ((u.sap[p]).enabled.map fun k => sums[k.1]?.getD 0) = f
  have hlat : PortStep [.fe] p (fun x y => y = x) u (if (u.sap[p]).inSync && u.carriesRnc p && u.rncWorks then rncLatency u else u) := by
    split
    · exact (only_rncLatency u).portStep fun _ => rfl
    · exact (Only.refl _ u).portStep fun _ => rfl
  generalize (if (u.sap[p]).inSync && u.carriesRnc p && u.rncWorks then rncLatency u else u) = v at hlat ⊢
  have hv : PortStep [.sap, .fe] p FifoMoves s v := hpop.comp hlat fun {x y z} hxy hyz => hyz ▸ hxy
  have htempo : v.clk.tempo = s.clk.tempo := congrArg Clk.tempo (hv.frame.2 .clk (by simp))
  have hballs : v.ballsTaken = s.ballsTaken := ballsTaken_of_only hv.frame
  have hdriven : PortStep [.sap, .fe] p (FrameDriven s.ballsTaken) s
      (setSap p (fun x => { x with driven := if v.ballsTaken then [] else drives x sums }) v) := by
    refine hv.comp (portStep_setSap (R := fun x y => y = { x with driven := if s.ballsTaken then [] else drives x sums }) (by rw [hballs])) ?_
    rintro x y z hxy rfl
    exact ⟨y, _, hxy, rfl, fun h => ⟨sums, by rw [h, if_neg Bool.false_ne_true]⟩⟩
  have hadd := portStep_addFrame p f (setSap p (fun x => { x with driven := if v.ballsTaken then [] else drives x sums }) v)
  rw [setSap_clk, htempo] at hadd
  have hsent : PortStep [.freeCtr, .sap, .fe] p (FrameSent s.clk.tempo s.ballsTaken) s _ :=
    hdriven.comp hadd fun {x y z} hxy hyz => ⟨y, f, hxy, hyz⟩
  exact hsent.comp ((recordsMoved_sayLatency m _).only.portStep (R := fun x y => y = x) fun _ => rfl) fun {x y z} hxy hyz => hyz ▸ hxy

/-! ### SAP_FRAME (R78, R93, R98) -/

/-- The bits that an early edge cuts off the frame of a target (R78). -/
def cutOff (edge : FsEdge) (x : Sap) : Nat := match edge with | .early n => if x.controller then 0 else n | _ => 0

/-- The edge is misplaced, on a target (R78). -/
def misplaced (edge : FsEdge) (x : Sap) : Bool := decide (edge ≠ .onTime) && !x.controller

/-- That is: not on time, and not of the port's own making. -/
theorem misplaced_iff (edge : FsEdge) (x : Sap) : misplaced edge x = true ↔ edge ≠ .onTime ∧ x.controller = false := by
  simp [misplaced]

/-- The frame itself: an output's or an input's. -/
def frameMoved (p : Fin 8) (out : Bool) (missing : Nat) (slots : Vector Word 16) (s : State) : State :=
  if out then outFrame p s else inFrame p missing slots s

/-- A frame of port x from its edge on. -/
def frameTaken (p : Fin 8) (edge : FsEdge) (ph : Int) (slots : Vector Word 16) (x : Sap) (s : State) : State :=
  frameMoved p x.out (cutOff edge x) slots
    (phaseChecked p x.controller (x.phaseOf ph) (edgeTaken p (misplaced edge x) (x.phaseOf ph) s))

/-- A frame of a port that does not stop: a FAULTED one runs again from it (R98). -/
def frameRun (p : Fin 8) (edge : FsEdge) (ph : Int) (slots : Vector Word 16) (back : Bool) (s : State) : State :=
  let t := frameTaken p edge ph slots s.sap[p] (if back then clkBack p s else closeWindows p s)
  if back then reportZones (rncResume t) else t

/-- SAP_FRAME: the port stops, or takes the frame. -/
theorem exec_sapFrame (p : Fin 8) (edge : FsEdge) (ph : Int) (slots : Vector Word 16) (s : State) :
    exec (.sapFrame p edge ph slots) s = act s (decide ((s.sap[p]).state ≠ .stopped) && decide ((s.sap[p]).blk.length < (s.sap[p]).b))
      (if (s.sap[p]).stopping && s.chansSilent p then stopPort p s
       else frameRun p edge ph slots (decide ((s.sap[p]).state = .faulted)) s) := rfl

/-- A frame has passed through the port: an input's has joined the block, an output's has been sent. -/
def FramePassed (now : Nat) (balls out : Bool) (missing : Nat) (slots : Vector Word 16) (x y : Sap) : Prop :=
  (out = false → FrameAdded now (x.enabled.map fun k => inSample x missing k slots[k]) x y) ∧ (out = true → FrameSent now balls x y)

/-- An output's or an input's frame. -/
theorem portStep_frameMoved (p : Fin 8) (out : Bool) (missing : Nat) (slots : Vector Word 16) (s : State) :
    PortStep [.freeCtr, .sap, .fe, .stream, .hif, .hostMem] p (FramePassed s.clk.tempo s.ballsTaken out missing slots) s
      (frameMoved p out missing slots s) := by
  cases out with
  | false =>
    have hin := portStep_inFrame p missing slots s
    exact ⟨⟨hin.frame.mono (by simp), fun _ => hin.port, fun h => absurd h Bool.false_ne_true⟩, hin.others⟩
  | true =>
    have hout := portStep_outFrame p s
    exact ⟨⟨hout.frame, fun h => absurd h.symm Bool.false_ne_true, fun _ => hout.port⟩, hout.others⟩

/-- What every frame does to its port: it joins the block in progress, which it stamps where it is the first, and the rest of what the edge
wrote stands. -/
structure Framed (now : Nat) (x y : Sap) : Prop where
  /-- STATE -/
  state : y.state = x.state
  /-- SAPn_SYNC_IRQ -/
  irq : y.irq = x.irq
  /-- OFFSET -/
  phase : y.phase = x.phase
  /-- the edge's Tempo -/
  lastEdge : y.lastEdge = x.lastEdge
  /-- the rate window -/
  win : y.win = x.win
  /-- FRAME_ERR -/
  frameErr : y.frameErr = x.frameErr
  /-- the block is one frame longer -/
  length : y.blk.length = x.blk.length + 1
  /-- its first frame is stamped -/
  stamp : x.blk = [] → ∃ d, d < 4 ∧ y.blkTs = BitVec.ofNat 64 (now + d)

/-- A frame added. -/
theorem FrameAdded.framed {now : Nat} {f : List Word} {x y : Sap} (h : FrameAdded now f x y) : Framed now x y := by
  obtain ⟨ts, hts, rfl⟩ := h
  exact ⟨rfl, rfl, rfl, rfl, rfl, rfl, List.length_append, hts⟩

/-- A frame sent. -/
theorem FrameSent.framed {now : Nat} {balls : Bool} {x y : Sap} (h : FrameSent now balls x y) : Framed now x y := by
  obtain ⟨_, f, ⟨_, _, ⟨_, _, _, _, _, _, _, _, _, _, rfl⟩, rfl, -⟩, hadd⟩ := h
  obtain ⟨hst, hirq, hph, hedge, hwin, herr, hlen, hts⟩ := hadd.framed
  exact ⟨hst, hirq, hph, hedge, hwin, herr, hlen, hts⟩

/-- Either way it is a frame of the port. -/
theorem FramePassed.framed {now : Nat} {balls out : Bool} {missing : Nat} {slots : Vector Word 16} {x y : Sap}
    (h : FramePassed now balls out missing slots x y) : Framed now x y := by
  cases out with
  | false => exact (h.1 rfl).framed
  | true => exact (h.2 rfl).framed

/-- What a frame sent has driven. -/
theorem FrameSent.driven {now : Nat} {x y : Sap} (h : FrameSent now false x y) : y.driven.length = x.slots
    ∧ ∀ k, k < x.slots → bit x.mask k = false → y.driven[k]? = some (if bit x.cfg 16 then none else some 0) := by
  obtain ⟨_, f, ⟨z, d, ⟨_, _, _, _, _, _, _, _, _, _, rfl⟩, rfl, hd⟩, ts, -, rfl⟩ := h
  obtain ⟨ws, rfl⟩ := hd rfl
  exact drives_slots _ ws

/-- A frame taken without a phase error: the edge, then the frame. -/
theorem frameTaken_kept {p : Fin 8} {edge : FsEdge} {ph : Int} {slots : Vector Word 16} {s : State}
    (h : ((s.sap[p]).sync = false ∧ (s.sap[p]).syncDue ≠ some true) ∨ ((s.sap[p]).phaseOf ph - (s.sap[p]).qualPh).natAbs ≤ 100) :
    frameTaken p edge ph slots s.sap[p] s = frameMoved p (s.sap[p]).out (cutOff edge s.sap[p]) slots
      (setSap p (Sap.edge s.clk.tempo (misplaced edge s.sap[p]) ((s.sap[p]).phaseOf ph)) s) := by
  rw [frameTaken, edgeTaken_eq, phaseChecked_kept]
  rw [setSap_at]
  exact h

/-- SAP_FRAME of a port that runs on (R78, R79, R81). -/
theorem does_sapFrame_running {p : Fin 8} {edge : FsEdge} {ph : Int} {slots : Vector Word 16} {s : State} (hp : s.powered = true)
    (hb : (s.sap[p]).blk.length < (s.sap[p]).b) (hs : (s.sap[p]).state = .running) (he : ((s.sap[p]).stopping && s.chansSilent p) = false)
    (hw : s.clk.tempo < (s.sap[p]).win.start + windowNs)
    (hph : ((s.sap[p]).sync = false ∧ (s.sap[p]).syncDue ≠ some true) ∨ ((s.sap[p]).phaseOf ph - (s.sap[p]).qualPh).natAbs ≤ 100) :
    Does (.sapFrame p edge ph slots) [.freeCtr, .sap, .fe, .stream, .hif, .hostMem] s fun t =>
      (∀ q, q ≠ p → t.sap[q] = s.sap[q]) ∧ FramePassed s.clk.tempo s.ballsTaken (s.sap[p]).out (cutOff edge s.sap[p]) slots
        ((s.sap[p]).edge s.clk.tempo (misplaced edge s.sap[p]) ((s.sap[p]).phaseOf ph)) t.sap[p] := by
  have hc := exec_sapFrame p edge ph slots s
  rw [he, if_neg Bool.false_ne_true, hs, frameRun, closeWindows_open hw] at hc
  simp only [reduceCtorEq, decide_false, Bool.false_eq_true, if_false, frameTaken_kept hph] at hc
  have hset : PortStep [.sap] p (fun _ _ => True) s (setSap p (Sap.edge s.clk.tempo (misplaced edge s.sap[p]) ((s.sap[p]).phaseOf ph)) s) :=
    portStep_setSap trivial
  have hmove := portStep_frameMoved p (s.sap[p]).out (cutOff edge s.sap[p]) slots
    (setSap p (Sap.edge s.clk.tempo (misplaced edge s.sap[p]) ((s.sap[p]).phaseOf ph)) s)
  have hport := hmove.port
  rw [setSap_at] at hport
  exact does_of_act hc hp (by rw [decide_eq_true hb]; rfl) (hset.frame.comp hmove.frame (by simp) (by simp)) fun _ _ =>
    ⟨fun q hq => (hmove.others q hq).trans (hset.others q hq), hport⟩

/-- A command whose effect changes a port so. -/
theorem does_of_portAt {c : Instr} {ps : List Part} {p : Fin 8} {R : Sap → Sap → Prop} {s u : State} {ok : Bool} (hc : exec c s = act s ok u)
    (hp : s.powered = true) (ho : ok = true) (h : PortAt ps p R s u) : Does c ps s fun t => R s.sap[p] t.sap[p] :=
  does_of_act hc hp ho h.frame fun _ _ => h.port

/-- A FAULTED port that runs again: measurement starts afresh, CLK_BACK. -/
def Sap.back (now : Nat) (x : Sap) : Sap := { x with state := .running, win := firstWin now, lastCls := none, irq := setBit x.irq 3 true }

/-- The return of the clock (R98, R108). -/
theorem portStep_clkBack (p : Fin 8) (s : State) : PortStep [.sap] p (fun x y => FifoMoves (x.back s.clk.tempo) y) s (clkBack p s) := by
  unfold clkBack sapCause
  rw [setSap_setSap]
  exact (portStep_setSap (R := fun x y => y = x.back s.clk.tempo) rfl).trans (portStep_refill p _) fun {x y z} hxy hyz => hxy ▸ hyz

/-- A port runs, with CLK_BACK set, and its block is one frame longer than before. -/
def RunsAgain (x y : Sap) : Prop := y.state = .running ∧ bit y.irq 3 = true ∧ y.blk.length = x.blk.length + 1

/-- A port that is FAULTED no more runs, through the edge, the phase check and the frame. -/
theorem runsAgain {now : Nat} {err : Bool} {ph : Int} {x e y z : Sap} (hback : FifoMoves (x.back now) e) (hcheck : Noted (e.edge now err ph) y)
    (hframe : Framed now y z) : RunsAgain x z := by
  obtain ⟨_, _, _, _, _, _, _, _, _, _, rfl⟩ := hback
  obtain ⟨_, irq, _, hbits, rfl⟩ := hcheck
  refine ⟨hframe.state, ?_, hframe.length⟩
  rw [hframe.irq]
  refine hbits 3 ?_
  show bit (setBit x.irq 3 true) 3 = true
  rw [bit_setBit _ (by decide), if_pos rfl]

/-- The edge and the frame of a port that runs again. -/
theorem portAt_frameTaken_back (p : Fin 8) (edge : FsEdge) (ph : Int) (slots : Vector Word 16) (x : Sap) (s : State) :
    PortAt [.freeCtr, .sap, .gates, .fe, .stream, .hif, .hostMem, .dbg] p RunsAgain s (frameTaken p edge ph slots x (clkBack p s)) := by
  have hback := portStep_clkBack p s
  have htempo : (clkBack p s).clk.tempo = s.clk.tempo := congrArg Clk.tempo (hback.frame.2 .clk (by simp))
  rw [frameTaken, edgeTaken_eq, htempo]
  have hset := only_sap (modAt (clkBack p s).sap p (Sap.edge s.clk.tempo (misplaced edge x) (x.phaseOf ph))) (clkBack p s)
  have hcheck := noted_phaseChecked p x.controller (x.phaseOf ph) (setSap p (Sap.edge s.clk.tempo (misplaced edge x) (x.phaseOf ph)) (clkBack p s))
  have htempo' := congrArg Clk.tempo (hcheck.frame.2 .clk (by simp))
  have hmove := portStep_frameMoved p x.out (cutOff edge x) slots (phaseChecked p x.controller (x.phaseOf ph)
    (setSap p (Sap.edge s.clk.tempo (misplaced edge x) (x.phaseOf ph)) (clkBack p s)))
  have hport := hcheck.port
  rw [setSap_at] at hport
  have hframe := hmove.port.framed
  rw [htempo', setSap_clk, htempo] at hframe
  exact ⟨((hback.frame.trans hset).comp hcheck.frame (rs := [.sap, .gates, .fe, .dbg]) (by simp) (by simp)).comp hmove.frame (by simp) (by simp),
    runsAgain hback.port hport hframe⟩

/-- SAP_FRAME of a FAULTED port (R98). -/
theorem does_sapFrame_faulted {p : Fin 8} {edge : FsEdge} {ph : Int} {slots : Vector Word 16} {s : State} (hp : s.powered = true)
    (hb : (s.sap[p]).blk.length < (s.sap[p]).b) (hs : (s.sap[p]).state = .faulted) (he : ((s.sap[p]).stopping && s.chansSilent p) = false) :
    Does (.sapFrame p edge ph slots) [.freeCtr, .sap, .zone, .gates, .fe, .stream, .hif, .hostMem, .dbg] s fun t =>
      RunsAgain s.sap[p] t.sap[p] := by
  have hc := exec_sapFrame p edge ph slots s
  rw [he, if_neg Bool.false_ne_true, hs, frameRun] at hc
  simp only [decide_true, if_true] at hc
  have htaken := portAt_frameTaken_back p edge ph slots s.sap[p] s
  generalize frameTaken p edge ph slots s.sap[p] (clkBack p s) = u at hc htaken
  have hreport := (recordsMoved_reportZones (rncResume u)).only.portAt (p := p) Noted.refl
  refine does_of_portAt hc hp (by rw [decide_eq_true hb]; rfl)
    (htaken.comp ((noted_rncResume p u).comp hreport Noted.trans (rs := [.sap, .gates, .fe, .stream, .hif, .hostMem])) ?_)
  rintro x y z ⟨hrun, hirq, hlen⟩ ⟨_, _, _, hbits, rfl⟩
  exact ⟨hrun, hbits 3 hirq, hlen⟩

/-! ### Ports that stop, and clocks lost (R93, R94, R98) -/

/-- A port that stands still stands still. -/
def StaysStopped (x y : Sap) : Prop := x.state = .stopped → y.state = .stopped

/-- What a reset of the audio hub leaves once every port stands still (R94). -/
def hubRestored (s : State) : State := { s with
  sap := mapV s.sap (fun _ x => { ({} : Sap) with bankOff := x.bankOff, epoch := x.epoch }), zone := Vector.replicate 8 {}
  gates := s.gates.map fun g => (g.1, { ({} : Gate) with prev := g.2.prev })
  fe := { s.fe with rncOn := false, suspended := false, rncPath := 0, rncSt := none, antiQ := [], miss := 0 }, hubReset := false }

/-- The ports restored stand still. -/
theorem portAt_hubRestored (p : Fin 8) (s : State) : PortAt [.sap, .zone, .gates, .fe, .hubReset] p StaysStopped s (hubRestored s) where
  frame := by
    refine ⟨rfl, fun q hq => ?_⟩
    cases q with
    | sap | zone | gates | fe | hubReset => simp at hq
    | hostMem => exact ⟨rfl, rfl⟩
    | _ => rfl
  port _ := by
    unfold hubRestored
    dsimp only
    rw [getElem_mapV]

/-- The hub restored, the commands that awaited it answered, and the zones reported. -/
def hubReported (s : State) : State :=
  reportZones (finishOk (fun w => decide (w.on = .reset 1) || decide (w.on = .cabin)) (hubRestored s))

/-- The end of a reset of the audio hub, where it is due (R94). -/
theorem endHubReset_eq (s : State) :
    endHubReset s = if s.hubReset && s.sap.toList.all (fun x => decide (x.state = .stopped)) then hubReported s else s := rfl

/-- A port stands still through the end of a reset of the hub. -/
theorem portAt_endHubReset (p : Fin 8) (s : State) :
    PortAt [.sap, .zone, .gates, .fe, .hubReset, .stream, .hif, .hostMem] p StaysStopped s (endHubReset s) := by
  rw [endHubReset_eq]
  split
  · have hdone : Only [.stream, .hif, .hostMem] (hubRestored s) (hubReported s) :=
      (only_finishWaits ..).comp (recordsMoved_reportZones _).only (by simp) (by simp)
    exact (portAt_hubRestored p s).comp (hdone.portAt (R := StaysStopped) fun _ => id) fun h h' hs => h' (h hs)
  · exact ⟨.refl _ s, id⟩

/-- It lets no command wait that did not. -/
theorem endHubReset_waits {s : State} {w : Waiting} (h : w ∈ (endHubReset s).hif.waits) : w ∈ s.hif.waits := by
  rw [endHubReset_eq] at h
  split at h
  · rw [hubReported, (recordsMoved_reportZones _).waits, finishOk, finishWaits_waits] at h
    exact List.mem_of_mem_filter h
  · exact h

/-- What a port gives up as it stops (R93): the frames of a partial input block, and synchronous status. -/
def portLeft (p : Fin 8) (s : State) : State :=
  let x := s.sap[p]
  let s := if !x.out then slipDrop p x.blk.length s else s
  if x.sync then rncSuspend p (sapCause p 7 s) else s

/-- A port that has stopped. -/
def Sap.halted (x : Sap) : Sap := { x with
  state := .stopped, stopping := false, blk := [], sync := false, syncDue := none, locked := false, quals := [], qualifying := false
  unramp := 0, insertLeft := 0, cabin := [], lastCls := none, lastEdge := none, driven := [], flight := []
  lastBlock := (x.flight.getLast?.map fun f => withSlips f.2.1 f.2.2).getD x.lastBlock }

/-- The commands that waited for the port to stop are answered, and the zones reported. -/
def stopAnswered (p : Fin 8) (s : State) : State := reportZones (finishOk (fun w => decide (w.on = .sapStop p)) s)

/-- A port stops: it gives up what is partial, takes what is staged, and the commands that waited for it are answered. -/
theorem stopPort_eq (p : Fin 8) (s : State) : stopPort p s =
    endHubReset (stopAnswered p (commitPort p false (micCheck p (setSap p Sap.halted (portLeft p s))))) := rfl

/-- What it gives up. -/
theorem only_portLeft (p : Fin 8) (s : State) : Only [.sap, .gates, .fe, .dbg] s (portLeft p s) :=
  Only.cond (Only.cond (.refl _ s) ((portStep_slipDrop p s _).frame.mono (by simp)))
    (((noted_sapCause (by decide) p p _).comp (noted_rncSuspend p p _) Noted.trans).frame)

/-- Answers and reports leave the ports. -/
theorem only_stopAnswered (p : Fin 8) (s : State) : Only [.stream, .hif, .hostMem] s (stopAnswered p s) :=
  (only_finishWaits ..).comp (recordsMoved_reportZones _).only (by simp) (by simp)

/-- No command waits any longer for the port to stop. -/
theorem stopAnswered_waits {p : Fin 8} {s : State} {w : Waiting} (h : w ∈ (stopAnswered p s).hif.waits) : w.on ≠ .sapStop p := by
  rw [stopAnswered, (recordsMoved_reportZones _).waits, finishOk, finishWaits_waits] at h
  simpa using (List.mem_filter.1 h).2

/-- A port that stops stands still. -/
theorem portAt_stopPort (p : Fin 8) (s : State) : PortAt [.freeCtr, .sap, .zone, .gates, .fe, .hubReset, .stream, .hif, .hostMem, .dbg] p
    (fun _ y => y.state = .stopped) s (stopPort p s) := by
  rw [stopPort_eq]
  have hhalt : PortAt [.sap, .gates, .fe, .dbg] p (fun _ y => y.state = .stopped) s (setSap p Sap.halted (portLeft p s)) :=
    ⟨(only_portLeft p s).trans ((only_sap _ _).mono (by simp)), by rw [setSap_at]; rfl⟩
  have hmic : PortAt [.sap, .gates, .fe, .dbg] p (fun _ y => y.state = .stopped) s (micCheck p (setSap p Sap.halted (portLeft p s))) :=
    hhalt.comp ((only_micCheck p _).portAt Stays.refl) fun h h' => h'.state.trans h
  generalize micCheck p (setSap p Sap.halted (portLeft p s)) = u at hmic
  have hcommit := hmic.comp ((stays_commitPort p u).comp ((only_stopAnswered p _).portAt Stays.refl) Stays.trans
    (rs := [.sap, .zone, .gates, .fe, .stream, .hif, .hostMem, .dbg])) (R'' := fun _ y => y.state = .stopped)
    (rs := [.sap, .zone, .gates, .fe, .stream, .hif, .hostMem, .dbg]) fun h h' => h'.state.trans h
  exact hcommit.comp (portAt_endHubReset p _) fun h h' => h' h

/-- A port whose clock is lost (R98), before the cause. -/
def Sap.unclocked (x : Sap) : Sap := { x with
  state := .faulted, sync := false, syncDue := none, locked := false, quals := [], qualifying := false, unramp := 0, acc := 0, trim := 0
  lastCls := none }

/-- The block that a lost clock finds complete, RNC suspended, and the port FAULTED with its cause. -/
def portUnclocked (p : Fin 8) (s : State) : State :=
  let x := s.sap[p]
  let s := micCheck p (rncSuspend p (if x.b ≤ x.blk.length then endBlock p s else s))
  sapCause p 2 (setSap p Sap.unclocked s)

/-- The slips of synchronous status lost. -/
def syncUnclocked (p : Fin 8) (sync : Bool) (s : State) : State := if sync then switchSlips p false (sapCause p 7 s) else s

/-- CLK_LOSS: the port is FAULTED, and what is staged for it takes effect. -/
theorem exec_clkLoss (p : Fin 8) (s : State) : exec (.clkLoss p) s =
    let t := commitPort p false (logPort p (micCheck p (syncUnclocked p (s.sap[p]).sync (portUnclocked p s))))
    act s (decide ((s.sap[p]).state = .running) && !(s.sap[p]).controller && (s.sap[p]).lastEdge.any fun t => decide (t + ms ≤ s.clk.tempo))
      (if (s.sap[p]).stopping then stopPort p t else reportZones t) := rfl

/-- The port is FAULTED for want of a clock. -/
def Unclocked (y : Sap) : Prop := y.state = .faulted ∧ y.sync = false ∧ y.locked = false ∧ bit y.irq 2 = true

/-- What leaves these leaves the port so. -/
theorem Unclocked.stays {y z : Sap} (h : Unclocked y) (h' : Stays y z) : Unclocked z := by
  obtain ⟨hst, hsy, hlo, hirq⟩ := h
  exact ⟨h'.state.trans hst, h'.sync.trans hsy, h'.locked.trans hlo, h'.irq 2 hirq⟩

/-- The port as the loss leaves it. -/
theorem portAt_portUnclocked (p : Fin 8) (s : State) : PortAt [.sap, .gates, .fe, .dbg] p (fun _ y => Unclocked y) s (portUnclocked p s) := by
  have hblock : Only [.sap, .gates, .fe, .dbg] s (if (s.sap[p]).b ≤ (s.sap[p]).blk.length then endBlock p s else s) :=
    (Only.refl _ s).cond ((portStep_endBlock p s).frame.mono (by simp))
  have hmic := (hblock.trans (noted_rncSuspend p p _).frame).trans ((only_micCheck p _).mono (by simp))
  unfold portUnclocked sapCause
  dsimp only
  rw [setSap_setSap]
  refine ⟨hmic.trans ((only_sap _ _).mono (by simp)), ?_⟩
  rw [setSap_at]
  refine ⟨rfl, rfl, rfl, ?_⟩
  dsimp only
  rw [bit_setBit _ (by decide), if_pos rfl]

/-- Slips and their cause leave what a port keeps. -/
theorem stays_syncUnclocked (p : Fin 8) (sync : Bool) (s : State) : PortAt [.sap] p Stays s (syncUnclocked p sync s) := by
  cases sync with
  | false => exact ⟨.refl _ s, .refl _⟩
  | true =>
    exact (noted_sapCause (by decide) p p s).trans (portStep_switchSlips p _ false).toPortAt fun h h' => h.stays.trans h'.fifo.stays

/-- CLK_LOSS of a target that is not stopping (R98). -/
theorem does_clkLoss {p : Fin 8} {s : State} {at_ : Nat} (hp : s.powered = true) (hs : (s.sap[p]).state = .running)
    (hc : (s.sap[p]).controller = false) (hstop : (s.sap[p]).stopping = false) (he : (s.sap[p]).lastEdge = some at_)
    (ht : at_ + 1000000 ≤ s.clk.tempo) : Does (.clkLoss p) [.sap, .zone, .gates, .fe, .stream, .hif, .hostMem, .dbg] s fun t =>
      Unclocked t.sap[p] := by
  have hexec := exec_clkLoss p s
  dsimp only at hexec
  rw [hstop, if_neg Bool.false_ne_true] at hexec
  have hlost := (portAt_portUnclocked p s).comp (stays_syncUnclocked p (s.sap[p]).sync _) Unclocked.stays (rs := [.sap, .gates, .fe, .dbg])
  generalize syncUnclocked p (s.sap[p]).sync (portUnclocked p s) = u at hexec hlost
  have hlog : Only [.fe, .dbg] u (logPort p (micCheck p u)) := (only_micCheck p u).comp (only_logPort p _) (by simp) (by simp)
  have hcommit := (hlog.portAt Stays.refl).comp (stays_commitPort p _) Stays.trans
    (rs := [.sap, .zone, .gates, .fe, .stream, .hif, .hostMem, .dbg])
  generalize commitPort p false (logPort p (micCheck p u)) = v at hexec hcommit
  have hreport := hcommit.comp ((recordsMoved_reportZones v).only.portAt Stays.refl) Stays.trans
    (rs := [.sap, .zone, .gates, .fe, .stream, .hif, .hostMem, .dbg])
  refine does_of_portAt hexec hp ?_ (hlost.comp hreport (R'' := fun _ y => Unclocked y) Unclocked.stays)
  rw [hs, hc, he]
  exact decide_eq_true ht

/-- SAP_FRAME of a port that stops (R93). -/
theorem does_sapFrame_stops {p : Fin 8} {edge : FsEdge} {ph : Int} {slots : Vector Word 16} {s : State} (hp : s.powered = true)
    (hb : (s.sap[p]).blk.length < (s.sap[p]).b) (hs : (s.sap[p]).state = .running) (he : ((s.sap[p]).stopping && s.chansSilent p) = true) :
    Does (.sapFrame p edge ph slots) [.freeCtr, .sap, .zone, .gates, .fe, .hubReset, .stream, .hif, .hostMem, .dbg] s fun t =>
      (t.sap[p]).state = .stopped ∧ ∀ w ∈ t.hif.waits, w.on ≠ .sapStop p := by
  have hc := exec_sapFrame p edge ph slots s
  rw [he, if_pos rfl, hs, decide_eq_true hb] at hc
  have hstop := portAt_stopPort p s
  have hwaits : ∀ w ∈ (stopPort p s).hif.waits, w.on ≠ .sapStop p := by
    rw [stopPort_eq]
    exact fun w hw => stopAnswered_waits (endHubReset_waits hw)
  generalize stopPort p s = u at hc hstop hwaits
  exact does_of_act hc hp rfl hstop.frame fun _ _ => ⟨hstop.port, hwaits⟩

/-- ASRC_LOCK (R100). -/
theorem does_asrcLock {p : Fin 8} {s : State} (hp : s.powered = true) (hs : (s.sap[p]).state = .running) (hy : (s.sap[p]).sync = false)
    (hl : (s.sap[p]).locked = false) (hc : (s.sap[p]).controller = true ∨ (s.sap[p]).cls ≠ 0) : Does (.asrcLock p) [.sap] s fun t =>
      t.sap[p] = { s.sap[p] with locked := true, unramp := 0, irq := setBit (s.sap[p]).irq 4 true } ∧ ∀ q, q ≠ p → t.sap[q] = s.sap[q] := by
  have hexec : exec (.asrcLock p) s = act s (decide ((s.sap[p]).state = .running) && !(s.sap[p]).sync && !(s.sap[p]).locked
      && ((s.sap[p]).controller || decide ((s.sap[p]).cls ≠ 0))) (sapCause p 4 (setSap p (fun x => { x with locked := true, unramp := 0 }) s)) := rfl
  rw [sapCause, setSap_setSap] at hexec
  have hok : ((s.sap[p]).controller || decide ((s.sap[p]).cls ≠ 0)) = true := by
    rcases hc with h | h
    · rw [h, Bool.true_or]
    · rw [decide_eq_true h, Bool.or_true]
  exact does_of_act hexec hp (by rw [hs, hy, hl, hok]; rfl) (only_sap _ s) fun _ _ => ⟨setSap_at .., fun q hq => setSap_off hq _ s⟩

/-- Slips are booked to a block of the port: an output's in progress, or for an input with none in the FIFO its next one (R109). -/
def Booked (n : Nat) (x y : Sap) : Prop :=
  (∃ flight slips before, y = { x with flight := flight, blkSlips := slips, insBefore := before })
    ∧ (x.out = true → y.blkSlips = x.blkSlips + n) ∧ (x.out = false → x.flight = [] → y.insBefore = x.insBefore + n)

/-- Slips booked, and where. -/
theorem booked_bookSlips (p : Fin 8) (n : Nat) (s : State) : PortStep [.sap] p (Booked n) s (bookSlips p n s) := by
  refine portStep_setSap ?_
  generalize s.sap[p] = x
  split
  case isTrue ho => exact ⟨⟨_, _, _, rfl⟩, fun _ => rfl, fun h => absurd (ho.symm.trans h) (by decide)⟩
  case isFalse ho =>
    split
    case h_1 hf => exact ⟨⟨_, _, _, rfl⟩, fun h => absurd h ho, fun _ h => by rw [hf] at h; cases h⟩
    case h_2 => exact ⟨⟨_, _, _, rfl⟩, fun h => absurd h ho, fun _ _ => rfl⟩

/-- A port whose ASRC has lost its lock, with the frames lost and gained across it counted. -/
def Sap.unlocked (n m : Nat) (x : Sap) : Sap := { x with
  locked := false, unramp := 32, trim := 0, irq := setBit x.irq 5 true, slipDrop := satAdd x.slipDrop n, slipIns := satAdd x.slipIns m }

/-- ASRC_UNLOCK (R101, R109). -/
theorem does_asrcUnlock {p : Fin 8} {n m : Nat} {s : State} (hp : s.powered = true) (hs : (s.sap[p]).state = .running)
    (hl : (s.sap[p]).locked = true) (hc : (s.sap[p]).controller = false) : Does (.asrcUnlock p { lost := n, gained := m }) [.sap] s fun t =>
      Booked (n + m) ((s.sap[p]).unlocked n m) t.sap[p] ∧ ∀ q, q ≠ p → t.sap[q] = s.sap[q] := by
  have hexec : exec (.asrcUnlock p { lost := n, gained := m }) s = act s (decide ((s.sap[p]).state = .running) && (s.sap[p]).locked
      && !(s.sap[p]).controller) (bookSlips p (n + m) (slipIns p m (slipDrop p n
        (sapCause p 5 (setSap p (fun x => { x with locked := false, unramp := 32, trim := 0 }) s))))) := rfl
  rw [slipIns, slipDrop, sapCause, setSap_setSap, setSap_setSap, setSap_setSap] at hexec
  have hstep := (portStep_setSap (s := s) (p := p) (R := fun x y => y = x.unlocked n m) rfl).trans (booked_bookSlips p (n + m) _)
    (R'' := fun x y => Booked (n + m) (x.unlocked n m) y) fun {x y z} hxy hyz => hxy ▸ hyz
  exact does_of_act hexec hp (by rw [hs, hl, hc]; rfl) hstep.frame fun _ _ => ⟨hstep.port, hstep.others⟩

/-! ### The obligation on ports -/

/-- Settles O25: a port's frame by `does_sapFrame_running`, `does_sapFrame_faulted` and `does_sapFrame_stops`, its clock by `does_clkLoss`, its
ASRC by `does_asrcLock` and `does_asrcUnlock`. -/
theorem portsRun : Obligations.PortsRun := by
  unfold Obligations.PortsRun
  refine ⟨fun p edge ph slots s hp => ?frames, fun p n m at_ s hp => ?clock⟩
  case frames =>
    intro x ends cut hb
    refine ⟨fun hs he hw hph => ?runs, fun hs he hy => ?back, fun hs he => does_sapFrame_stops hp hb hs he⟩
    case runs =>
      refine (does_sapFrame_running hp hb hs he hw hph).imp ?_
      rintro t ⟨hothers, hpass⟩
      obtain ⟨hst, -, hphase, hedge, hwin, herr, hlen, hstamp⟩ := hpass.framed
      refine ⟨hst.trans hs, hphase, hedge, (congrArg RateWin.edges hwin).trans (Sap.edge_edges ..), hothers, herr.trans ?_, fun ho => ?_,
        fun ho => ⟨hlen, fun hballs => ?_⟩, hstamp⟩
      · exact if_congr (misplaced_iff edge x) rfl rfl
      · obtain ⟨_, -, e⟩ := hpass.1 ho
        exact congrArg Sap.blk e
      · have hsent := hpass.2 ho
        rw [hballs] at hsent
        exact hsent.driven
    case back => exact (does_sapFrame_faulted hp hb hs he).imp fun t h => h
  case clock =>
    intro x hs
    refine ⟨fun hc hstop he ht => does_clkLoss hp hs hc hstop he ht, fun hy hl hc => does_asrcLock hp hs hy hl hc, fun hl hc => ?unlock⟩
    refine (does_asrcUnlock hp hs hl hc).imp ?_
    rintro t ⟨⟨⟨_, _, _, e⟩, hout, hin⟩, hothers⟩
    have hfifo := congrArg Sap.fifo e
    have hstate := congrArg Sap.state e
    exact ⟨congrArg Sap.locked e, congrArg Sap.unramp e, congrArg Sap.irq e, congrArg Sap.slipDrop e, congrArg Sap.slipIns e, hout, hin,
      hfifo, hstate, hothers⟩

end Sys2Proof.Machine
end

section
/-! PROOFS. Cabin frames, rate windows and the times of the gates (O27). -/

namespace Sys2Proof.Machine

/-! ### Gates in time (R111..R113) -/

section
variable {α β : Type} [DecidableEq α]

/-- An entry replaced leaves the others. -/
theorem lookup_replaced_ne {a c : α} (h : c ≠ a) (b : β) (l : List (α × β)) :
    (l.map fun x => if x.1 = a then (a, b) else x).lookup c = l.lookup c := by
  induction l with
  | nil => rfl
  | cons x l ih =>
    obtain ⟨k, v⟩ := x
    rw [List.map_cons]
    dsimp only
    by_cases hk : k = a
    · subst hk
      rw [if_pos rfl, List.lookup_cons, List.lookup_cons, beq_false_of_ne h, ih]
    · rw [if_neg hk, List.lookup_cons, List.lookup_cons, ih]

/-- An entry replaced is the new one. -/
theorem lookup_replaced {a : α} (b : β) {l : List (α × β)} (h : l.any (fun x => decide (x.1 = a)) = true) :
    (l.map fun x => if x.1 = a then (a, b) else x).lookup a = some b := by
  induction l with
  | nil => simp at h
  | cons x l ih =>
    obtain ⟨k, v⟩ := x
    rw [List.map_cons]
    dsimp only
    by_cases hk : k = a
    · subst hk
      rw [if_pos rfl, List.lookup_cons_self]
    · rw [List.any_cons, decide_eq_false hk, Bool.false_or] at h
      rw [if_neg hk, List.lookup_cons, beq_false_of_ne (Ne.symm hk), ih h]

/-- An entry put is found. -/
theorem look_put_same (l : List (α × β)) (a : α) (b d : β) : look (put l a b) a d = b := by
  unfold look put
  split
  case isTrue h => rw [lookup_replaced b h, Option.getD_some]
  case isFalse h =>
    have hnone : l.lookup a = none := List.lookup_eq_none_iff.2 fun x hx => ?_
    · simp [List.lookup_append, hnone]
    · have hne : x.1 ≠ a := fun e => h (List.any_eq_true.2 ⟨x, hx, decide_eq_true e⟩)
      exact bne_iff_ne.2 hne.symm

/-- An entry put leaves the others. -/
theorem look_put_ne (l : List (α × β)) {a c : α} (h : c ≠ a) (b d : β) : look (put l a b) c d = look l c d := by
  unfold look put
  split
  · rw [lookup_replaced_ne h]
  · simp [List.lookup_append, List.lookup_cons, beq_false_of_ne h]

end

/-- A gate set. -/
theorem setGate_same (g : GateId) (x : Gate) (s : State) : (setGate g x s).gate g = x := look_put_same ..

/-- The other gates stand. -/
theorem setGate_other {g h : GateId} (hn : h ≠ g) (x : Gate) (s : State) : (setGate g x s).gate h = s.gate h := look_put_ne _ hn ..

/-- A gate set is a change of the gates. -/
theorem only_setGate (g : GateId) (x : Gate) (s : State) : Only [.gates] s (setGate g x s) := only_gates _ s

/-- States with the same gates have the same gate of an id. -/
theorem gate_congr {s t : State} (h : t.gates = s.gates) (g : GateId) : t.gate g = s.gate g := congrArg (fun l => look l g ({} : Gate)) h

/-- A gate whose wait has expired: it ramps from the next frame on. -/
def Gate.ramped (x : Gate) : Gate := { x with st := if x.st = .waitClose then .rampDown else .rampUp, n := 0, next := none }

/-- TACET_TIMEOUT (R113): the gate ramps, and its port counts it. -/
theorem does_tacetTimeout {g : GateId} {v : Int} {s : State} (hp : s.powered = true)
    (hst : (s.gate g).st = .waitClose ∨ (s.gate g).st = .waitOpen) (hn : (s.sap[gatePort g]).tacetFrames ≤ (s.gate g).n)
    (hc : crossing (s.gate g).prev v = false) : Does (.tacetTimeout { gate := g, sample := v }) [.gates, .sap] s fun t =>
      t.gate g = (s.gate g).ramped ∧ (t.sap[gatePort g]).tacetTo = satAdd (s.sap[gatePort g]).tacetTo 1
        ∧ (∀ h, h ≠ g → t.gate h = s.gate h) ∧ ∀ q, q ≠ gatePort g → t.sap[q] = s.sap[q] := by
  have hexec : exec (.tacetTimeout { gate := g, sample := v }) s = act s ((decide ((s.gate g).st = .waitClose) || decide ((s.gate g).st = .waitOpen))
      && decide ((s.sap[gatePort g]).tacetFrames ≤ (s.gate g).n) && !crossing (s.gate g).prev v)
      (setSap (gatePort g) (fun y => { y with tacetTo := satAdd y.tacetTo 1 }) (setGate g (s.gate g).ramped s)) := rfl
  have hset : PortStep [.sap] (gatePort g) (fun x y => y.tacetTo = satAdd x.tacetTo 1) (setGate g (s.gate g).ramped s) _ :=
    portStep_setSap (f := fun y => { y with tacetTo := satAdd y.tacetTo 1 }) rfl
  refine does_of_act hexec hp ?_ ((only_setGate g _ s).comp hset.frame (by simp) (by simp)) fun _ _ => ⟨setGate_same .., hset.port, fun h hne =>
    setGate_other hne .., hset.others⟩
  rw [decide_eq_true hn, hc]
  rcases hst with h | h <;> rw [h] <;> rfl

/-- A gate at the end of its ramp, CLOSED or OPEN. -/
def Gate.ended (x : Gate) : Gate := { x with st := if x.st = .rampDown then .closed else .opened, n := 0, next := none }

/-- A gate once its ramp has ended: a change that met the ramp enters from there. -/
def Gate.rested (x : Gate) : Gate := match x.next with | some b => x.ended.commit b | none => x.ended

/-- RAMP_END (R112). -/
theorem does_rampEnd {g : GateId} {s : State} (hp : s.powered = true) (hst : (s.gate g).st = .rampDown ∨ (s.gate g).st = .rampUp)
    (hn : 32 ≤ (s.gate g).n) : Does (.rampEnd g) [.gates, .stream, .hif, .hostMem] s fun t =>
      t.gate g = (s.gate g).rested ∧ ∀ h, h ≠ g → t.gate h = s.gate h := by
  have hexec : exec (.rampEnd g) s = act s ((decide ((s.gate g).st = .rampDown) || decide ((s.gate g).st = .rampUp)) && decide (32 ≤ (s.gate g).n))
      (reportZones (setGate g (s.gate g).rested s)) := rfl
  have hreport := (recordsMoved_reportZones (setGate g (s.gate g).rested s)).only
  generalize reportZones (setGate g (s.gate g).rested s) = u at hexec hreport
  have hgates : u.gates = _ := hreport.2 .gates (by simp)
  refine does_of_act hexec hp ?_ ((only_setGate g _ s).comp hreport (by simp) (by simp)) fun _ _ => ⟨(gate_congr hgates g).trans (setGate_same ..),
    fun h hne => (gate_congr hgates h).trans (setGate_other hne ..)⟩
  rw [decide_eq_true hn]
  rcases hst with h | h <;> rw [h] <;> rfl

/-- Where a ramp leaves its gate (Table 5.4). -/
theorem Gate.rested_st (x : Gate) (h : x.st = .rampDown ∨ x.st = .rampUp) : x.rested.st = (match x.next with
    | none => if x.st = .rampDown then .closed else .opened
    | some true => if x.st = .rampDown then .waitOpen else .opened
    | some false => if x.st = .rampDown then .closed else .waitClose) := by
  unfold Gate.rested
  rcases hx : x.next with _ | _ | _ <;> rcases h with h | h <;> simp [Gate.ended, Gate.commit, h]

/-! ### Rate windows (R95..R97, R100, R102) -/

/-- A measured rate noted with its class, which is adopted when the window before had it too: a new class is the new reference and sets
CLASS_CHG. -/
def Adopted (rate : Nat) (x y : Sap) : Prop := ∃ ref irq susp due,
  y = { x with
    rateMeas := BitVec.ofNat 25 rate, lastCls := some (classOf rate)
    cls := if some (classOf rate) = x.lastCls then classOf rate else x.cls
    rateRef := ref, irq := irq, rncSusp := susp, syncDue := due }
  ∧ (some (classOf rate) = x.lastCls → classOf rate ≠ x.cls → ref = BitVec.ofNat 25 rate ∧ bit irq 0 = true)

/-- A port whose rate has a new class. -/
def Sap.reclassed (rate : Nat) (x : Sap) : Sap := { x with
  rateMeas := BitVec.ofNat 25 rate, lastCls := some (classOf rate), cls := classOf rate, rateRef := BitVec.ofNat 25 rate
  irq := setBit x.irq 0 true }

/-- A class that was seen in two windows and is new. -/
theorem adopted_new {rate : Nat} {x y : Sap} (hl : some (classOf rate) = x.lastCls) (h : Noted (x.reclassed rate) y) : Adopted rate x y := by
  obtain ⟨susp, irq, due, hbits, rfl⟩ := h
  refine ⟨_, irq, susp, due, by rw [if_pos hl, Sap.reclassed], fun _ _ => ⟨rfl, hbits 0 ?_⟩⟩
  show bit (setBit x.irq 0 true) 0 = true
  rw [bit_setBit _ (by decide), if_pos rfl]

/-- A class that is not new. -/
theorem adopted_same {rate : Nat} {x : Sap} (hc : ¬(some (classOf rate) = x.lastCls ∧ classOf rate ≠ x.cls)) (ref : BitVec 25) (irq : BitVec 9) :
    Adopted rate x { x with rateMeas := BitVec.ofNat 25 rate, lastCls := some (classOf rate), rateRef := ref, irq := irq } := by
  refine ⟨ref, irq, x.rncSusp, x.syncDue, ?_, fun hl hn => absurd ⟨hl, hn⟩ hc⟩
  have hcls : (if some (classOf rate) = x.lastCls then classOf rate else x.cls) = x.cls := by
    split
    case isTrue hl => exact Classical.not_not.1 fun hn => hc ⟨hl, hn⟩
    case isFalse => rfl
  rw [hcls]

/-- Class adoption and drift (R96, R97). -/
theorem portAt_adopt (p : Fin 8) (rate : Nat) (s : State) : PortAt [.sap, .gates, .fe, .dbg] p (Adopted rate) s (adopt p rate s) := by
  unfold adopt
  dsimp only
  split
  case isTrue h =>
    obtain ⟨hl, -⟩ := Bool.and_eq_true_iff.1 h
    unfold sapCause
    rw [setSap_setSap, setSap_setSap]
    refine PortAt.comp (R' := Noted) (portStep_setSap (R := fun x y => some (classOf rate) = x.lastCls ∧ y = x.reclassed rate)
      ⟨of_decide_eq_true hl, rfl⟩).toPortAt (qs := [.sap, .gates, .fe, .dbg]) ?_ fun {x y z} hxy hyz => adopted_new hxy.1 (hxy.2 ▸ hyz)
    split
    · exact noted_syncLose p p _
    · exact ⟨.refl _ _, .refl _⟩
  case isFalse h =>
    have hc : ¬(some (classOf rate) = (s.sap[p]).lastCls ∧ classOf rate ≠ (s.sap[p]).cls) := fun hc =>
      h (Bool.and_eq_true_iff.2 ⟨decide_eq_true hc.1, decide_eq_true hc.2⟩)
    split
    · exact (portStep_setSap (R := Adopted rate) (adopted_same hc _ _)).toPortAt.imp id
    · split
      · unfold sapCause
        rw [setSap_setSap, setSap_setSap]
        exact (portStep_setSap (R := Adopted rate) (adopted_same hc _ _)).toPortAt.imp id
      · exact (portStep_setSap (R := Adopted rate) (adopted_same hc _ _)).toPortAt.imp id

/-- The phases of a window and of the three whole ones before it stay within 40 ns, on a 48 kHz target that may become synchronous (R102). -/
def Steady (w : RateWin) (x : Sap) : Prop := x.controller = false ∧ x.forced = false ∧ x.sync = false ∧ x.cls = 9 ∧ x.quals.length = 3
  ∧ w.edges ≠ 0 ∧ ∀ a ∈ x.quals ++ [(w.phLo, w.phHi)], ∀ b ∈ x.quals ++ [(w.phLo, w.phHi)], a.2 - b.1 ≤ 40

/-- Nothing of a port has changed but its qualification, and one that was steady awaits synchronous status. -/
def Qualified (w : RateWin) (x y : Sap) : Prop :=
  (∃ quals q due ph, y = { x with quals := quals, qualifying := q, syncDue := due, qualPh := ph }) ∧ (Steady w x → y.syncDue = some true)

/-- The least of some phases is one of them. -/
theorem least_mem {l : List (Int × Int)} {e : Int × Int} (he : e ∈ l) : ∃ a ∈ l, l.foldl (fun m a => min m a.1) e.1 = a.1 :=
  List.foldlRecOn (motive := fun m => ∃ a ∈ l, m = a.1) l _ ⟨e, he, rfl⟩ fun m ⟨a, ha, hm⟩ b hb => by
    rcases le_total m b.1 with h | h
    · exact ⟨a, ha, (min_eq_left h).trans hm⟩
    · exact ⟨b, hb, min_eq_right h⟩

/-- The greatest of some phases is one of them. -/
theorem most_mem {l : List (Int × Int)} {e : Int × Int} (he : e ∈ l) : ∃ a ∈ l, l.foldl (fun m a => max m a.2) e.2 = a.2 :=
  List.foldlRecOn (motive := fun m => ∃ a ∈ l, m = a.2) l _ ⟨e, he, rfl⟩ fun m ⟨a, ha, hm⟩ b hb => by
    rcases le_total b.2 m with h | h
    · exact ⟨a, ha, (max_eq_left h).trans hm⟩
    · exact ⟨b, hb, max_eq_right h⟩

/-- The phase test (R102). -/
theorem portStep_qualify (p : Fin 8) (w : RateWin) (s : State) : PortStep [.sap] p (Qualified w) s (qualify p w s) := by
  unfold qualify
  dsimp only
  generalize hx : s.sap[p] = x
  split
  case isTrue h =>
    refine portStep_setSap ⟨⟨_, _, _, _, rfl⟩, fun hs => ?_⟩
    rw [hx] at hs
    obtain ⟨hc, hf, hy, hcls, -, he, -⟩ := hs
    simp [hc, hf, hy, hcls, he] at h
  case isFalse =>
    split
    case isTrue => exact portStep_setSap ⟨⟨_, _, _, _, rfl⟩, fun _ => rfl⟩
    case isFalse h =>
      refine portStep_setSap ⟨⟨_, _, _, _, rfl⟩, fun hs => absurd ?_ h⟩
      rw [hx] at hs
      obtain ⟨-, -, -, -, hlen, -, hbound⟩ := hs
      have hmem : (w.phLo, w.phHi) ∈ x.quals ++ [(w.phLo, w.phHi)] := by simp
      obtain ⟨a, ha, hleast⟩ := least_mem hmem
      obtain ⟨b, hb, hmost⟩ := most_mem hmem
      rw [hlen, Nat.sub_self, List.drop_zero, hleast, hmost, decide_eq_true (hbound b hb a ha)]
      simp [hlen]

/-- The ratio of a tracking ASRC follows a rate that was measured (R100). -/
def Sap.tracked (rate : Nat) (x : Sap) : Sap :=
  if x.controller || rate = 0 then x else { x with ratio := BitVec.ofNat 35 ((rate * 2 ^ 33 + 4800000) / 9600000) }

/-- The tracking changes the ratio alone. -/
theorem Sap.tracked_eq (rate : Nat) (x : Sap) : ∃ r, x.tracked rate = { x with ratio := r }
    ∧ (x.controller = false → rate ≠ 0 → r = BitVec.ofNat 35 ((rate * 2 ^ 33 + 4800000) / 9600000)) := by
  unfold tracked
  split
  case isTrue h => exact ⟨_, rfl, fun hc hr => by simp [hc, hr] at h⟩
  case isFalse => exact ⟨_, rfl, fun _ _ => rfl⟩

/-- The window after w begins where w ended. -/
def Sap.nextWin (w : RateWin) (x : Sap) : Sap := { x with win := { start := w.start + windowNs, whole := true } }

/-- A window of a port has ended: rate and class, ratio, phase test, and the next window begins where it ended. -/
def WindowEnded (w : RateWin) (rate : Nat) (x y : Sap) : Prop := ∃ a b, Adopted rate x a
  ∧ (if w.whole then Qualified w (a.tracked rate) b else b = a.tracked rate) ∧ y = b.nextWin w

/-- The rate taken in by the port: class, reference and ratio. -/
def rateTaken (p : Fin 8) (rate : Nat) (s : State) : State := setSap p (Sap.tracked rate) (adopt p rate s)

/-- The phase test of a window that was not cut short. -/
def phaseTested (p : Fin 8) (w : RateWin) (s : State) : State := if w.whole then qualify p w s else s

/-- The end of a window: the rate, the phase test, the next window. -/
theorem windowEnd_eq (p : Fin 8) (s : State) : windowEnd p s = setSap p (Sap.nextWin (s.sap[p]).win) (phaseTested p (s.sap[p]).win
    (rateTaken p (windowRate (s.sap[p]).win.edges ((s.sap[p]).win.last - (s.sap[p]).win.first)) s)) := rfl

/-- The end of a window. -/
theorem portAt_windowEnd {p : Fin 8} {s : State} {w : RateWin} (hw : (s.sap[p]).win = w) :
    PortAt [.sap, .gates, .fe, .dbg] p (WindowEnded w (windowRate w.edges (w.last - w.first))) s (windowEnd p s) := by
  rw [windowEnd_eq, hw]
  generalize windowRate w.edges (w.last - w.first) = rate
  have htracked : PortAt [.sap, .gates, .fe, .dbg] p (fun x y => ∃ a, Adopted rate x a ∧ y = a.tracked rate) s (rateTaken p rate s) :=
    (portAt_adopt p rate s).comp (portStep_setSap (R := fun x y => y = x.tracked rate) rfl).toPortAt fun hxy hyz => ⟨_, hxy, hyz⟩
  generalize rateTaken p rate s = u at htracked
  have hqualify : PortStep [.sap] p (fun x y => if w.whole then Qualified w x y else y = x) u (phaseTested p w u) := by
    unfold phaseTested
    split
    · exact portStep_qualify p w u
    · exact ⟨⟨.refl _ u, rfl⟩, fun _ _ => rfl⟩
  have htested : PortAt [.sap, .gates, .fe, .dbg] p (fun x y => ∃ a, Adopted rate x a
      ∧ if w.whole then Qualified w (a.tracked rate) y else y = a.tracked rate) s (phaseTested p w u) :=
    htracked.comp hqualify.toPortAt fun {x y z} ⟨a, ha, hy⟩ hz => ⟨a, ha, hy ▸ hz⟩
  exact htested.comp (portStep_setSap (R := fun x y => y = x.nextWin w) rfl).toPortAt fun {x y z} ⟨a, ha, hy⟩ hz => ⟨a, y, ha, hy, hz⟩

/-- A window that is over ends, and the next, while it is not over, stands. -/
theorem closeWindows_once {p : Fin 8} {s : State} (h : (s.sap[p]).win.start + windowNs ≤ s.clk.tempo)
    (h' : s.clk.tempo < (s.sap[p]).win.start + 2 * windowNs) : closeWindows p s = windowEnd p s := by
  have hended := portAt_windowEnd (p := p) (s := s) rfl
  have hpast : decide ((s.sap[p]).win.start + windowNs ≤ s.clk.tempo) = true := decide_eq_true h
  have hopen : decide (((windowEnd p s).sap[p]).win.start + windowNs ≤ (windowEnd p s).clk.tempo) = false := by
    have htempo : (windowEnd p s).clk = s.clk := hended.frame.2 .clk (by simp)
    obtain ⟨_, _, -, -, e⟩ := hended.port
    have hstart : ((windowEnd p s).sap[p]).win.start = (s.sap[p]).win.start + windowNs := by rw [e]; rfl
    rw [hstart, htempo]
    exact decide_eq_false (by omega)
  simp only [closeWindows, List.range_succ, List.range_zero, List.nil_append, List.cons_append, List.foldl_cons, List.foldl_nil, hpast,
    hopen, Bool.false_eq_true, if_false, if_true]

/-- What the end of a window shows. -/
theorem WindowEnded.shows {w : RateWin} {rate : Nat} {x y : Sap} (h : WindowEnded w rate x y) :
    y.rateMeas = BitVec.ofNat 25 rate ∧ y.lastCls = some (classOf rate) ∧ y.win = { start := w.start + windowNs, whole := true }
      ∧ y.cls = (if some (classOf rate) = x.lastCls then classOf rate else x.cls)
      ∧ (some (classOf rate) = x.lastCls → classOf rate ≠ x.cls → y.rateRef = BitVec.ofNat 25 rate ∧ bit y.irq 0 = true)
      ∧ (x.controller = false → rate ≠ 0 → y.ratio = BitVec.ofNat 35 ((rate * 2 ^ 33 + 4800000) / 9600000)) := by
  obtain ⟨a, b, ⟨ref, irq, susp, due, rfl, hnew⟩, hq, rfl⟩ := h
  obtain ⟨r, htracked, hratio⟩ := Sap.tracked_eq rate { x with
    rateMeas := BitVec.ofNat 25 rate, lastCls := some (classOf rate)
    cls := if some (classOf rate) = x.lastCls then classOf rate else x.cls
    rateRef := ref, irq := irq, rncSusp := susp, syncDue := due }
  rw [htracked] at hq
  split at hq
  · obtain ⟨⟨_, _, _, _, rfl⟩, -⟩ := hq
    exact ⟨rfl, rfl, rfl, rfl, hnew, hratio⟩
  · subst hq
    exact ⟨rfl, rfl, rfl, rfl, hnew, hratio⟩

/-- A 48 kHz target that was steady awaits its synchronous status. -/
theorem WindowEnded.gains {w : RateWin} {rate : Nat} {x y : Sap} (h : WindowEnded w rate x y) (hw : w.whole = true) (hc : classOf rate = 9)
    (hs : Steady w x) : y.syncDue = some true := by
  obtain ⟨a, b, ⟨ref, irq, susp, due, rfl, -⟩, hq, rfl⟩ := h
  obtain ⟨r, htracked, -⟩ := Sap.tracked_eq rate { x with
    rateMeas := BitVec.ofNat 25 rate, lastCls := some (classOf rate)
    cls := if some (classOf rate) = x.lastCls then classOf rate else x.cls
    rateRef := ref, irq := irq, rncSusp := susp, syncDue := due }
  rw [htracked, if_pos hw] at hq
  obtain ⟨hctl, hforced, hsync, hcls, hlen, hedges, hbound⟩ := hs
  refine hq.2 ⟨hctl, hforced, hsync, ?_, hlen, hedges, hbound⟩
  dsimp only
  rw [hc, hcls, ite_self]

/-- RATE_WINDOW_END (R95). -/
theorem does_rateWindowEnd {p : Fin 8} {s : State} (hp : s.powered = true) (hs : (s.sap[p]).state = .running)
    (h : (s.sap[p]).win.start + windowNs ≤ s.clk.tempo) (h' : s.clk.tempo < (s.sap[p]).win.start + 2 * windowNs) :
    Does (.rateWindowEnd p (s.sap[p]).win.edges ((s.sap[p]).win.last - (s.sap[p]).win.first) (s.sap[p]).win.phLo (s.sap[p]).win.phHi)
      [.sap, .gates, .fe, .hif, .dbg] s fun t => WindowEnded (s.sap[p]).win
        (windowRate (s.sap[p]).win.edges ((s.sap[p]).win.last - (s.sap[p]).win.first)) s.sap[p] t.sap[p] ∧ t.hif.mem = s.hif.mem := by
  have hexec : exec (.rateWindowEnd p (s.sap[p]).win.edges ((s.sap[p]).win.last - (s.sap[p]).win.first) (s.sap[p]).win.phLo (s.sap[p]).win.phHi) s
    = execRateWindowEnd p (s.sap[p]).win.edges ((s.sap[p]).win.last - (s.sap[p]).win.first) (s.sap[p]).win.phLo (s.sap[p]).win.phHi s := rfl
  unfold execRateWindowEnd at hexec
  dsimp only at hexec
  rw [closeWindows_once h h', hs, decide_eq_true rfl, decide_eq_true h, decide_eq_true rfl] at hexec
  have hended := portAt_windowEnd (p := p) (s := s) rfl
  have hmem : (windowEnd p s).hif.mem = s.hif.mem := (hended.frame.2 .hostMem (by simp)).1
  exact does_of_act hexec hp rfl (hended.frame.mono (by simp)) fun _ _ => ⟨hended.port, hmem⟩

/-! ### A port's part of the cabin frame (R86, R100, R107; 01_cabin.md R15) -/

/-- A gate acts on a sample. -/
theorem only_gateStep (g : GateId) (x : Int) (s : State) : Only [.gates] s (gateStep g x s).2 := by
  unfold gateStep
  split
  · exact only_setGate ..
  · exact .refl _ s

/-- Changes within a frame in a row, each with a result beside it. -/
theorem only_foldl_snd {α β : Type} {ps : List Part} {f : β × State → α → β × State} (hf : ∀ a i, Only ps a.2 (f a i).2) (l : List α) (b : β)
    (s : State) : Only ps s (l.foldl f (b, s)).2 :=
  List.foldlRecOn (motive := fun a => Only ps s a.2) l f (.refl ps s) fun a ha i _ => ha.trans (hf a i)

/-- A result with a state, taken apart. -/
theorem only_of_eq {β : Type} {ps : List Part} {s u : State} {r : β × State} {y : β} (e : r = (y, u)) (h : Only ps s r.2) : Only ps s u := by
  rw [e] at h
  exact h

/-- The signal of a zone passes its gates. -/
theorem only_zoneSignal (z p : Fin 8) (speech : Vector Word 16) (s : State) : Only [.gates] s (zoneSignal z p speech s).2 := by
  unfold zoneSignal
  split
  case h_1 e =>
    refine (only_of_eq e (only_foldl_snd (fun a i => ?_) _ _ s)).trans (only_gateStep ..)
    split
    case h_1 e => exact only_of_eq e (only_gateStep ..)

/-- The words of an output pass their gates. -/
theorem only_portFrame (p : Fin 8) (speech : Vector Word 16) (s : State) : Only [.gates] s (portFrame p speech s).2 := by
  unfold portFrame
  split
  case h_1 e =>
    refine (only_of_eq e (only_foldl_snd (fun a z => ?zone) _ _ s)).trans (only_foldl_snd (fun a k => ?chan) _ _ _)
    case zone =>
      split
      · split
        case h_1 e => exact only_of_eq e (only_zoneSignal ..)
      · exact .refl _ a.2
    case chan => exact only_gateStep ..

/-- A port changed in some way, and the others stand. -/
def Touched (_ _ : Sap) : Prop := True

section
variable {ps qs rs : List Part} {p : Fin 8} {R R' : Sap → Sap → Prop} {s t u : State}

/-- Whatever a change of a port is, it touches the port. -/
theorem PortStep.touched (h : PortStep ps p R s t) (hp : ps ⊆ rs := by simp) : PortStep rs p Touched s t := h.imp (fun _ => trivial) hp

/-- A port touched, then again. -/
theorem PortStep.andThen (h : PortStep ps p Touched s u) (h' : PortStep ps p R u t) : PortStep ps p Touched s t := h.trans h' fun _ _ => trivial

/-- What is known of a port that was touched. -/
theorem PortStep.withPort (h : PortStep ps p R s t) (hR : R' s.sap[p] t.sap[p]) : PortStep ps p R' s t := ⟨⟨h.frame, hR⟩, h.others⟩

/-- A port whose state is not changed at all. -/
theorem touched_refl (ps : List Part) (p : Fin 8) (s : State) : PortStep ps p Touched s s := ⟨⟨.refl ps s, trivial⟩, fun _ _ => rfl⟩

/-- A change of the port alone touches it. -/
theorem touched_setSap (f : Sap → Sap) : PortStep [.sap] p Touched s (setSap p f s) := portStep_setSap trivial

end

section
variable (p : Fin 8) (s : State)

/-- Frames taken from the FIFO. -/
theorem touched_popN (w n : Nat) (f : List Word) : PortStep [.sap] p Touched s (popN p w n f s).2 := by
  induction n generalizing f s with
  | zero => exact touched_refl _ p s
  | succ n ih => exact (portStep_pop p s w).touched.andThen (ih _ _)

/-- Words whose values no rule states. -/
theorem touched_asrcWords (n : Nat) (live : BitVec 16) : PortStep [.freeCtr] p Touched s (asrcWords p n live s).2 :=
  (only_freeCtr _ s (by simp)).portStep fun _ => trivial

/-- Frames given to the FIFO. -/
theorem touched_pushN {words : State → List Word × State} (hw : ∀ u, PortStep [.freeCtr, .sap] p Touched u (words u).2) (n : Nat) (m : Word) :
    PortStep [.freeCtr, .sap] p Touched s (pushN p m words n s) := by
  induction n generalizing m s with
  | zero => exact touched_refl _ p s
  | succ n ih => exact ((hw s).andThen ((portStep_push p _ _).touched)).andThen (ih _ _)

/-- The FIFO side of an ASRC that has not locked. -/
theorem touched_idleAsrc : PortStep [.sap] p Touched s (idleAsrc p s) := touched_setSap _

/-- An input's part of the cabin frame. -/
theorem touched_cabinIn : PortStep [.freeCtr, .sap] p Touched s (cabinIn p s) := by
  have hset (f : Sap → Sap) (u : State) : PortStep [.freeCtr, .sap] p Touched u (setSap p f u) := (touched_setSap f).touched
  have hidle : PortStep [.freeCtr, .sap] p Touched s (idleAsrc p s) := (touched_idleAsrc p s).touched
  unfold cabinIn
  dsimp only
  split_ifs
  · exact hset _ s
  · exact (hidle.andThen (hset _ _)).andThen (hset _ _)
  · exact (hset _ s).andThen (hset _ _)
  · exact ((touched_popN p s _ _ _).touched.andThen (hset _ _)).andThen (hset _ _)
  · exact (((touched_popN p s _ _ _).touched.andThen (touched_asrcWords p _ _ _).touched).andThen (hset _ _)).andThen (hset _ _)
  · exact hidle.andThen (hset _ _)

/-- The line inside the ASRC moves on, and the FIFO stands. -/
theorem portStep_lineStep (m : Word) (ws : List Word) : PortStep [.sap] p (fun x y => ∃ l, y = { x with line := l }) s (lineStep p m ws s).2.2 := by
  unfold lineStep
  dsimp only
  split
  · exact portStep_setSap ⟨_, rfl⟩
  · exact portStep_setSap ⟨_, rfl⟩

/-- An output's part of the cabin frame. -/
theorem touched_cabinOut (m : Word) (ws : List Word) : PortStep [.freeCtr, .sap] p Touched s (cabinOut p m ws s) := by
  have hline : PortStep [.freeCtr, .sap] p Touched s (lineStep p m ws s).2.2 := (portStep_lineStep p s m ws).touched
  have hset (f : Sap → Sap) (u : State) : PortStep [.freeCtr, .sap] p Touched u (setSap p f u) := (touched_setSap f).touched
  have hzeros (u : State) : PortStep [.freeCtr, .sap] p Touched u ((List.replicate 16 (0 : Word), u) : List Word × State).2 := touched_refl _ p u
  have hwords (live : BitVec 16) (u : State) : PortStep [.freeCtr, .sap] p Touched u (asrcWords p 16 live u).2 := (touched_asrcWords p u _ _).touched
  unfold cabinOut
  dsimp only
  generalize lineStep p m ws s = r at hline
  split
  · exact hline.andThen (portStep_push p _ _).touched
  split
  · exact (hline.andThen (hset _ _)).andThen (portStep_push p _ _).touched
  split
  · exact (hline.andThen (hset _ _)).andThen (touched_pushN p _ hzeros _ _)
  split
  · exact (hline.andThen (touched_pushN p _ (hwords _) _ _)).andThen (hset _ _)
  · exact hline.andThen (touched_idleAsrc p _).touched

end

/-- A synchronous output whose FIFO has room gets one frame. -/
theorem cabinOut_sync {p : Fin 8} {m : Word} {ws : List Word} {s : State} (hy : (s.sap[p]).sync = true)
    (hr : (s.sap[p]).fifo.length < 4 * (s.sap[p]).b) : ((cabinOut p m ws s).sap[p]).fifo.length = (s.sap[p]).fifo.length + 1 := by
  have hpush : cabinOut p m ws s = push p (m, ws) (lineStep p m ws s).2.2 := by
    unfold cabinOut
    dsimp only
    rw [if_pos hy]
  obtain ⟨l, e⟩ := (portStep_lineStep p s m ws).port
  have hfifo := congrArg Sap.fifo e
  have hb := congrArg Sap.b e
  rw [hpush, push_room _ (by rw [hfifo, hb]; exact hr), setSap_at, List.length_append, hfifo]
  rfl

/-- A frame taken from the FIFO leaves the others in it. -/
theorem pop_fifo (p : Fin 8) (w : Nat) (s : State) : ((pop p w s).2.sap[p]).fifo = (s.sap[p]).fifo.tail := by
  unfold pop
  dsimp only
  split
  case h_1 f more h =>
    rw [setSap_at, h, List.tail_cons]
    obtain ⟨_, _, e⟩ := release_eq (s.sap[p]).flight.length { s.sap[p] with fifo := more, lastFrame := f.2 }
    rw [e]
  case h_2 h =>
    rw [slipIns, setSap_setSap, setSap_at, h, List.tail_nil]
    dsimp only
    split
    · rfl
    · rfl

/-- The frame taken is the oldest. -/
theorem pop_frame {p : Fin 8} {w : Nat} {s : State} {f : Word × List Word} (h : (s.sap[p]).fifo.head? = some f) : (pop p w s).1 = f.2 := by
  unfold pop
  dsimp only
  split
  case h_1 g more hg =>
    rw [hg, List.head?_cons] at h
    rw [Option.some.inj h]
  case h_2 hn =>
    rw [hn] at h
    cases h

/-- What an input is whose frame the hub reads: it runs, and no inserted frames of a switch are still to come. -/
def Sap.reads (hub : Bool) (x : Sap) : Prop := x.state = .running ∧ x.out = false ∧ hub = true ∧ x.insertLeft = 0

/-- A synchronous input gives one frame, which reaches the cabin unchanged. -/
theorem cabinIn_sync {p : Fin 8} {s : State} (h : (s.sap[p]).reads s.hubOn) (hy : (s.sap[p]).sync = true) :
    ((cabinIn p s).sap[p]).fifo = (s.sap[p]).fifo.tail ∧ ∀ f, (s.sap[p]).fifo.head? = some f → ((cabinIn p s).sap[p]).cabin = f.2 := by
  obtain ⟨-, -, hh, hi⟩ := h
  have hin : cabinIn p s = setSap p (fun y => { y with acc := (s.sap[p]).acc, cabin := (pop p (s.sap[p]).width s).1 })
      (pop p (s.sap[p]).width s).2 := by
    unfold cabinIn Sap.asrcFrames
    dsimp only
    rw [hh, hi, hy, if_neg (by decide), if_neg (by decide), if_pos rfl, Bool.true_or, if_pos rfl]
    exact setSap_setSap ..
  rw [hin, setSap_at]
  exact ⟨pop_fifo .., fun f hf => pop_frame hf⟩

/-- An input whose ASRC has not locked, and ramps no more, brings zeros. -/
theorem cabinIn_idle {p : Fin 8} {s : State} (h : (s.sap[p]).reads s.hubOn) (hy : (s.sap[p]).sync = false) (hl : (s.sap[p]).locked = false)
    (hu : (s.sap[p]).unramp = 0) : ((cabinIn p s).sap[p]).cabin = List.replicate (s.sap[p]).width 0 := by
  obtain ⟨hs, -, hh, hi⟩ := h
  have hin : cabinIn p s = setSap p (fun y => { y with cabin := List.replicate (s.sap[p]).width 0 }) (idleAsrc p s) := by
    unfold cabinIn Sap.asrcWorks
    dsimp only
    rw [hh, hi, hy, hs, hl, hu, if_neg (by decide), if_neg (by decide), if_neg (by decide), if_neg (by decide)]
  rw [hin, setSap_at]

/-- What a cabin frame makes of a port. -/
structure CabinServed (hub : Bool) (x y : Sap) : Prop where
  /-- a port that does not play or record -/
  stopped : x.state = .stopped → y.fifo = x.fifo
  /-- a synchronous output gets a frame -/
  output : x.state = .running → x.sync = true → x.out = true → x.fifo.length < 4 * x.b → y.fifo.length = x.fifo.length + 1
  /-- a synchronous input gives one -/
  input : x.reads hub → x.sync = true → y.fifo = x.fifo.tail ∧ ∀ f, x.fifo.head? = some f → y.cabin = f.2
  /-- an input without lock brings zeros -/
  idle : x.reads hub → x.sync = false → x.locked = false → x.unramp = 0 → y.cabin = List.replicate x.width 0

/-- A port's part of the cabin frame. -/
theorem portStep_cabinPort (speech : Vector Word 16) (late : BitVec 16) (p : Fin 8) (s : State) :
    PortStep [.freeCtr, .sap, .gates] p (CabinServed s.hubOn) s (cabinPort speech late p s) := by
  unfold cabinPort
  dsimp only
  split
  case isTrue hs =>
    refine (touched_refl _ p s).withPort ⟨fun _ => rfl, fun h => ?_, fun h => ?_, fun h => ?_⟩
    · exact absurd (hs.symm.trans h) (by decide)
    · exact absurd (hs.symm.trans h.1) (by decide)
    · exact absurd (hs.symm.trans h.1) (by decide)
  case isFalse hs =>
    split
    case isTrue ho =>
      have hframe := only_portFrame p speech s
      generalize portFrame p speech s = r at hframe ⊢
      have hsap : r.2.sap = s.sap := hframe.2 .sap (by simp)
      have hgates : PortStep [.freeCtr, .sap, .gates] p Touched s r.2 := (hframe.portStep (R := Touched) fun _ => trivial).touched
      refine (hgates.andThen (touched_cabinOut p r.2 _ r.1).touched).withPort ⟨fun h => absurd h hs, fun _ hy _ hr => ?_, fun h => ?_, fun h => ?_⟩
      · rw [← hsap] at hy hr ⊢
        exact cabinOut_sync hy hr
      · exact absurd (ho.symm.trans h.2.1) (by decide)
      · exact absurd (ho.symm.trans h.2.1) (by decide)
    case isFalse ho =>
      exact (touched_cabinIn p s).touched.withPort ⟨fun h => absurd h hs, fun _ _ h => absurd h ho, cabinIn_sync, cabinIn_idle⟩

/-- Changes of ports in a row, each port's once. -/
theorem foldl_ports {ps : List Part} {R : State → Sap → Sap → Prop} {f : State → Fin 8 → State} (hf : ∀ u p, PortStep ps p (R u) u (f u p))
    (hR : ∀ {s u}, Only ps s u → R u = R s) {l : List (Fin 8)} (hl : l.Nodup) (s : State) : Only ps s (l.foldl f s)
      ∧ (∀ p ∈ l, R s s.sap[p] (l.foldl f s).sap[p]) ∧ ∀ p ∉ l, (l.foldl f s).sap[p] = s.sap[p] := by
  induction l generalizing s with
  | nil => exact ⟨.refl ps s, fun p h => absurd h List.not_mem_nil, fun _ _ => rfl⟩
  | cons q l ih =>
    obtain ⟨hq, hl⟩ := List.nodup_cons.1 hl
    have hstep := hf s q
    obtain ⟨hframe, hin, hout⟩ := ih hl (f s q)
    rw [List.foldl_cons]
    refine ⟨hstep.frame.trans hframe, fun p hp => ?_, fun p hp => ?_⟩
    · rcases List.mem_cons.1 hp with rfl | hp
      · rw [hout p hq]
        exact hstep.port
      · have hne : p ≠ q := fun e => hq (e ▸ hp)
        have hport := hin p hp
        rw [hR hstep.frame, hstep.others p hne] at hport
        exact hport
    · exact (hout p (List.not_mem_of_not_mem_cons hp)).trans (hstep.others p (List.ne_of_not_mem_cons hp))

/-- Every port's part of the cabin frame. -/
def portsServed (speech : Vector Word 16) (s : State) : State := (List.finRange 8).foldl (fun u p => cabinPort speech s.latDue p u) s

/-- A cabin frame serves every port. -/
theorem portsServed_spec (speech : Vector Word 16) (s : State) : Only [.freeCtr, .sap, .gates] s (portsServed speech s)
    ∧ ∀ p : Fin 8, CabinServed s.hubOn s.sap[p] (portsServed speech s).sap[p] := by
  have hhub {s u : State} (h : Only [.freeCtr, .sap, .gates] s u) : CabinServed u.hubOn = CabinServed s.hubOn := by
    have hpwr : u.pwr = s.pwr := h.2 .pwr (by simp)
    rw [State.hubOn, hpwr, State.hubOn]
  obtain ⟨hframe, hports, -⟩ := foldl_ports (R := fun u => CabinServed u.hubOn) (fun u p => portStep_cabinPort speech s.latDue p u) hhub
    (List.nodup_finRange 8) s
  exact ⟨hframe, fun p => hports p (List.mem_finRange p)⟩

/-! ### What else the end of a cabin frame does -/

/-- The parts that the work between the ports and the answers of a cabin frame touches. -/
def cabinParts : List Part := [.freeCtr, .sap, .gates, .fe, .pma, .stream, .hlt, .dbg]

/-- At the end of a cabin frame ports have been noted to and no anti-noise miss is counted. -/
structure Settled (s t : State) : Prop where
  /-- the parts touched -/
  frame : Only cabinParts s t
  /-- the ports -/
  ports : ∀ p : Fin 8, Noted s.sap[p] t.sap[p]
  /-- FE_MISS -/
  miss : t.fe.miss = s.fe.miss

/-- Nothing done. -/
theorem Settled.refl (s : State) : Settled s s := ⟨.refl _ s, fun _ => .refl _, rfl⟩

/-- One after the other. -/
theorem Settled.trans {s t u : State} (h : Settled s t) (h' : Settled t u) : Settled s u :=
  ⟨h.frame.trans h'.frame, fun p => (h.ports p).trans (h'.ports p), h'.miss.trans h.miss⟩

/-- A change of parts that are neither ports nor front end. -/
theorem Only.settled {ps : List Part} {s t : State} (h : Only ps s t) (hp : ps ⊆ cabinParts := by simp [cabinParts])
    (hs : .sap ∉ ps := by simp) (hf : .fe ∉ ps := by simp) : Settled s t where
  frame := h.mono hp
  ports p := by
    have hsap : t.sap = s.sap := h.2 .sap hs
    rw [hsap]
    exact .refl _
  miss := by
    have hfe : t.fe = s.fe := h.2 .fe hf
    rw [hfe]

/-- A change of the front end that counts no miss, with free choices. -/
theorem settled_fe {s : State} {k : Nat} {f : Fe} (h : f.miss = s.fe.miss) : Settled s { s with freeCtr := k, fe := f } :=
  ⟨(only_fe_freeCtr k f s).mono (by simp [cabinParts]), fun _ => .refl _, h⟩

/-- Changes in a row. -/
theorem settled_foldl {α : Type} {f : State → α → State} (hf : ∀ u a, Settled u (f u a)) (l : List α) (s : State) : Settled s (l.foldl f s) :=
  List.foldlRecOn (motive := Settled s) l f (.refl s) fun u hu a _ => hu.trans (hf u a)

section
variable (s : State)

/-- First samples that entered their FIFOs. -/
theorem settled_markLate (speech : Vector Word 16) : Settled s (markLate speech s) :=
  settled_foldl (fun u i => by
    split
    · exact (only_stream _ u).settled
    · exact .refl u) _ s

/-- The anti-noise gates. -/
theorem settled_antiStep : Settled s (antiStep s) :=
  settled_foldl (fun u i => by
    dsimp only
    split
    · exact (only_gateStep ..).settled
    · exact .refl u) _ s

/-- The tap awaits whole vectors. -/
theorem settled_tapBegin : Settled s (tapBegin s) := settled_fe rfl

/-- The spatial products. -/
theorem settled_spatialStep : Settled s (spatialStep s) := by
  unfold spatialStep
  dsimp only
  split
  · exact .refl s
  · exact settled_fe rfl
  · exact settled_fe rfl

/-- The mask hop collects the frame. -/
theorem settled_hopCollect : Settled s (hopCollect s) := by
  unfold hopCollect
  split
  · exact settled_fe rfl
  · exact settled_fe rfl

/-! #### Sections (06_photonic.md Table 6.6) -/

/-- A section changed. -/
theorem only_setSect (i : Fin 4) (f : Sect → Sect) : Only [.pma] s (setSect i f s) := only_pma _ s

/-- A cause of PMA_IRQ. -/
theorem only_pmaCause (k : Nat) : Only [.pma] s (pmaCause k s) := only_pma _ s

/-- A PMA event logged. -/
theorem only_logPma (sec unit : Nat) : Only [.dbg] s (logPma sec unit s) := only_logEvent _ _ _ _ s (by simp)

/-- A unit declared permanent. -/
theorem only_permanent (u : UnitRef) (cls : BitVec 2) (n : Nat) : Only [.hlt] s (permanent u cls n s) := by
  unfold permanent
  split
  · exact .refl _ s
  · exact only_hlt _ s

/-- A section retired (R118). -/
theorem only_retireSection (i : Fin 4) : Only [.pma, .hlt, .dbg] s (retireSection i s) := by
  have hlogged : Only [.pma, .hlt, .dbg] s (logPma i.1 31 (pmaCause 2 (setSect i (fun x => { x with
      retired := true, rotating := none, carriers := [] }) s))) :=
    ((only_setSect s i _).trans (only_pmaCause _ 2)).comp (only_logPma _ _ _) (by simp) (by simp)
  exact (hlogged.trans ((only_permanent _ _ _ _).mono (by simp))).trans ((only_pma _ _).mono (by simp))

/-- Lanes start moving (R134). -/
theorem only_beginSwitch (ms : List LaneMove) : Only [.pma, .gates] s (beginSwitch ms s) := by
  unfold beginSwitch
  split
  · exact .refl _ s
  · have hdelay (u : State) : Only [.pma] u (delayJobs u) := Only.foldl (.refl _ u) fun v i => only_setSect v i _
    exact (((only_pma _ s).trans (only_pmaCause _ 0)).trans (hdelay _)).comp (only_gates _ _) (by simp) (by simp)

/-- Lanes taken to usable channels. -/
theorem only_carry (i : Fin 4) (n : Nat) (pref : Option Nat) : Only [.pma] s (carry i n pref s).2 := only_pma _ s

/-- Lanes that the parts of a section no longer allow drop at its boundary. -/
theorem only_settleLanes (i : Fin 4) : Only [.pma, .gates, .hlt, .dbg] s (settleLanes i s) := by
  have hdrop : Only [.pma, .gates, .hlt, .dbg] s (logPma i.1 30 (pmaCause 1 s)) :=
    (only_pmaCause s 1).comp (only_logPma _ _ _) (by simp) (by simp)
  unfold settleLanes
  dsimp only
  split
  · exact .refl _ s
  · split
    · exact hdrop.trans ((only_retireSection _ i).mono (by simp))
    · exact (hdrop.trans (((only_setSect _ i _).trans (only_carry _ i _ none)).mono (by simp))).trans ((only_beginSwitch _ _).mono (by simp))

/-- A failed row replaced. -/
theorem only_replaceRow (i : Fin 4) : Only [.pma] s (replaceRow i s) := by
  unfold replaceRow
  split
  · exact .refl _ s
  · exact only_setSect s i _

/-- A section's boundary. -/
theorem settled_settleSect (i : Fin 4) : Settled s (settleSect i s) :=
  ((only_replaceRow s i).settled).trans ((only_settleLanes _ i).settled)

/-- Filter states lowered to fit the lanes (07_front_end.md R141). -/
theorem settled_lowerStates : Settled s (lowerStates s) := by
  unfold lowerStates
  dsimp only
  split
  · refine Settled.trans ?_ (only_logPma _ 0 0).settled
    exact settled_fe rfl
  · exact .refl s

/-! #### Row rewrites and a staged RNC configuration (07_front_end.md R140; 19_commands.md Table 19.8) -/

/-- A row of the RNC matrix rewritten. -/
theorem settled_rewriteRow (r : RowRewrite) : Settled s (rewriteRow r s) := by
  unfold rewriteRow
  split
  · exact settled_fe rfl
  · exact .refl s

/-- A row of the spatial matrix rewritten. -/
theorem settled_rewriteSpatial (r : RowRewrite) : Settled s (rewriteSpatial r s) := by
  unfold rewriteSpatial
  split
  · exact settled_fe rfl
  · exact .refl s

end

/-- The row of the RNC matrix that a cabin frame rewrites. -/
def rncRewritten (rows : RowRewrites) (s : State) : State := match rows.rnc with | some r => rewriteRow r s | none => s

/-- The row of the spatial matrix that a cabin frame rewrites. -/
def spatialRewritten (rows : RowRewrites) (s : State) : State := match rows.spatial with | some r => rewriteSpatial r s | none => s

/-- Row rewrites. -/
theorem settled_rewritten (rows : RowRewrites) (s : State) : Settled s (spatialRewritten rows (rncRewritten rows s)) := by
  have hrnc : Settled s (rncRewritten rows s) := by
    unfold rncRewritten
    split
    · exact settled_rewriteRow s _
    · exact .refl s
  have hspatial (u : State) : Settled u (spatialRewritten rows u) := by
    unfold spatialRewritten
    split
    · exact settled_rewriteSpatial u _
    · exact .refl u
  exact hrnc.trans (hspatial _)

/-- A suspended path leaves the misses. -/
theorem settled_rncSuspend (q : Fin 8) (s : State) : Settled s (rncSuspend q s) where
  frame := (noted_rncSuspend q q s).frame.mono (by simp [cabinParts])
  ports p := (noted_rncSuspend p q s).port
  miss := by
    unfold rncSuspend
    split
    case isFalse => rfl
    case isTrue =>
      dsimp only
      generalize hu : gatesMap GateId.isAnti Gate.force { s with fe := { s.fe with suspended := true, rncPath := 3 } } = u
      have hfold : Only [.sap] u (u.rncPorts.foldl (fun s q => sapCause q 8 (setSap q (fun x => { x with rncSusp := true }) s)) u) :=
        Only.foldl (.refl _ u) fun v r => (only_sap _ v).trans (only_sap _ _)
      have hfe : (logPort q _).fe = u.fe := (hfold.comp (only_logPort q _) (rs := [.sap, .dbg]) (by simp) (by simp)).2 .fe (by simp)
      rw [hfe, ← hu]
      rfl

/-- A staged RNC configuration loaded: its channels, and no port suspends it. -/
def rncLoaded (d : Vector Word 16) (s : State) : State := { s with fe := { s.fe with
  kRnc := d[2].setWidth 4
  refs := Vector.ofFn fun i => descByte d 3 i.1
  antis := Vector.ofFn fun i => descByte d 5 i.1
  errs := Vector.ofFn fun i => descByte d 7 i.1
  rncOn := true, suspended := false, rncSt := none, antiQ := [], tapGot := some 0 }, sap := mapV s.sap (fun _ x => { x with rncSusp := false }) }

/-- A staged configuration loaded. -/
theorem settled_rncLoaded (d : Vector Word 16) (s : State) : Settled s (rncLoaded d s) where
  frame := by
    have hfe : Only [.fe] s { s with fe := (rncLoaded d s).fe } := only_fe _ s
    have hsap : Only [.sap] { s with fe := (rncLoaded d s).fe } (rncLoaded d s) := only_sap _ _
    exact hfe.comp hsap (by simp [cabinParts]) (by simp [cabinParts])
  ports p := by
    have hsap : (rncLoaded d s).sap = mapV s.sap (fun _ x => { x with rncSusp := false }) := rfl
    rw [hsap, getElem_mapV]
    exact ⟨_, _, _, fun _ h => h, rfl⟩
  miss := rfl

/-- The configuration loaded gets its states and its path. -/
def rncFitted (d : Vector Word 16) (s : State) : State := { s with fe := { s.fe with
  nState := BitVec.ofNat 5 (if s.inService 0 then fitStates s (fld d[2] 8 5) else fld d[2] 8 5), rncPath := s.rncPathNow } }

/-- Anti-noise channels that the configuration no longer has close. -/
def oldAntisClosed (old : List Byte) (s : State) : State :=
  old.foldl (fun s b => if (validChans s.fe.antis.toList).any (fun c => decide (c = b)) then s
    else gateWant false (.anti (chanPort b) (chanSlot b)) s) s

/-- In STANDBY the path is suspended. -/
def hubChecked (s : State) : State := if s.hubOn then s else { s with fe := { s.fe with suspended := true, rncPath := 3 } }

/-- On a port that is not synchronous the path is suspended. -/
def portsChecked (s : State) : State := match s.rncPorts.find? fun q => !(s.sap[q]).inSync with | some q => rncSuspend q s | none => s

/-- The anti-noise channels of the configuration head for where they should. -/
def antisOpened (s : State) : State :=
  (validChans s.fe.antis.toList).foldl (fun s b => gateWant s.antiOpen (.anti (chanPort b) (chanSlot b)) s) s

/-- What a staged configuration does. -/
theorem applyRnc_some {d : Vector Word 16} {s : State} (h : s.fe.rncSt = some d) :
    applyRnc s = antisOpened (portsChecked (hubChecked
      (oldAntisClosed (validChans s.fe.antis.toList) (rncFitted d (rncLoaded d s))))) := by
  unfold applyRnc
  rw [h]
  rfl

/-- The configuration's states and path. -/
theorem settled_rncFitted (d : Vector Word 16) (s : State) : Settled s (rncFitted d s) := settled_fe rfl

/-- Anti-noise channels that close. -/
theorem settled_oldAntisClosed (old : List Byte) (s : State) : Settled s (oldAntisClosed old s) :=
  settled_foldl (fun u b => by
    split
    · exact .refl u
    · exact (only_gateWant ..).settled) old s

/-- The check of the operating state and of the ports. -/
theorem settled_checked (s : State) : Settled s (portsChecked (hubChecked s)) := by
  have hhub : Settled s (hubChecked s) := by
    unfold hubChecked
    split
    · exact .refl s
    · exact settled_fe rfl
  have hports (u : State) : Settled u (portsChecked u) := by
    unfold portsChecked
    split
    · exact settled_rncSuspend _ u
    · exact .refl u
  exact hhub.trans (hports _)

/-- Anti-noise channels that open. -/
theorem settled_antisOpened (s : State) : Settled s (antisOpened s) := settled_foldl (fun _ _ => (only_gateWant ..).settled) _ s

/-- A staged configuration applied. -/
theorem settled_applyRnc (s : State) : Settled s (applyRnc s) := by
  cases h : s.fe.rncSt with
  | none =>
    unfold applyRnc
    rw [h]
    exact .refl s
  | some d =>
    rw [applyRnc_some h]
    exact ((((settled_rncLoaded d s).trans (settled_rncFitted d _)).trans (settled_oldAntisClosed _ _)).trans (settled_checked _)).trans
      (settled_antisOpened _)

/-! ### The cabin frame -/

/-- The newest anti-noise sample, when it was not ready. -/
def missTaken (missed : Bool) (s : State) : State := if missed then antiMiss s else s

/-- A sample that was not ready is counted, and nothing but the front end changes. -/
theorem missTaken_spec (missed : Bool) (s : State) : Only [.fe] s (missTaken missed s)
    ∧ (missTaken missed s).fe.miss = (if missed && s.rncWorks then satAdd s.fe.miss 1 else s.fe.miss) := by
  unfold missTaken antiMiss
  cases missed with
  | false => exact ⟨.refl _ s, rfl⟩
  | true =>
    cases s.rncWorks with
    | false => exact ⟨.refl _ s, rfl⟩
    | true => exact ⟨only_fe _ s, rfl⟩

/-- What the hub does once the ports are served, up to its answers. -/
def frameEnded (speech : Vector Word 16) (rows : RowRewrites) (s : State) : State :=
  applyRnc (spatialRewritten rows (rncRewritten rows (lowerStates (settleSect 1 (settleSect 0 (hopCollect (spatialStep (tapBegin
    (antiStep (markLate speech s))))))))))

/-- The end of the frame notes to ports and counts no miss. -/
theorem settled_frameEnded (speech : Vector Word 16) (rows : RowRewrites) (s : State) : Settled s (frameEnded speech rows s) :=
  have hanti := (settled_markLate s speech).trans (settled_antiStep _)
  have hhop := ((hanti.trans (settled_tapBegin _)).trans (settled_spatialStep _)).trans (settled_hopCollect _)
  have hsect := ((hhop.trans (settled_settleSect _ 0)).trans (settled_settleSect _ 1)).trans (settled_lowerStates _)
  (hsect.trans (settled_rewritten rows _)).trans (settled_applyRnc _)

/-- The commands that waited for the frame are answered, and the streams report. -/
def frameAnswered (s : State) : State :=
  reportZones (finishWaits (fun w => decide (w.on = .cabin)) (fun _ => (0x00, res1 (s.fe.nState.setWidth 32))) s)

/-- The answers are the host interface's, and no command waits for the frame any more. -/
theorem frameAnswered_spec (s : State) : Only [.stream, .hif, .hostMem] s (frameAnswered s) ∧ ∀ w ∈ (frameAnswered s).hif.waits, w.on ≠ .cabin := by
  have hreport := recordsMoved_reportZones (finishWaits (fun w => decide (w.on = .cabin)) (fun _ => (0x00, res1 (s.fe.nState.setWidth 32))) s)
  refine ⟨(only_finishWaits _ _ s).comp hreport.only (by simp) (by simp), fun w hw hon => ?_⟩
  rw [frameAnswered, hreport.waits, finishWaits_waits, List.mem_filter, hon] at hw
  exact absurd hw.2 (by decide)

/-- The speech that the streams may utter. -/
def uttered (speech : Vector Word 16) (s : State) : Vector Word 16 := mapV speech fun i w => if (s.stream[i]).mayUtter then w else 0

/-- A cabin frame. -/
def framePlayed (speech : Vector Word 16) (rows : RowRewrites) (missed : Bool) (s : State) : State :=
  frameAnswered (frameEnded (uttered speech s) rows (portsServed (uttered speech s) (missTaken missed s)))

/-- A port after a cabin frame: served, then noted to. -/
theorem CabinServed.noted {hub : Bool} {x y z : Sap} (h : CabinServed hub x y) (hn : Noted y z) : CabinServed hub x z := by
  obtain ⟨_, _, _, -, rfl⟩ := hn
  exact ⟨h.stopped, h.output, h.input, h.idle⟩

/-- What a cabin frame does. -/
theorem framePlayed_spec (speech : Vector Word 16) (rows : RowRewrites) (missed : Bool) (s : State) :
    Only [.freeCtr, .sap, .gates, .fe, .pma, .stream, .hif, .hostMem, .hlt, .dbg] s (framePlayed speech rows missed s)
      ∧ (∀ w ∈ (framePlayed speech rows missed s).hif.waits, w.on ≠ .cabin)
      ∧ (framePlayed speech rows missed s).fe.miss = (if missed && s.rncWorks then satAdd s.fe.miss 1 else s.fe.miss)
      ∧ ∀ p : Fin 8, CabinServed s.hubOn s.sap[p] (framePlayed speech rows missed s).sap[p] := by
  unfold framePlayed
  generalize uttered speech s = said
  obtain ⟨hmissed, hmiss⟩ := missTaken_spec missed s
  obtain ⟨hserved, hports⟩ := portsServed_spec said (missTaken missed s)
  have hended := settled_frameEnded said rows (portsServed said (missTaken missed s))
  obtain ⟨hanswered, hwaits⟩ := frameAnswered_spec (frameEnded said rows (portsServed said (missTaken missed s)))
  have hsap : (missTaken missed s).sap = s.sap := hmissed.2 .sap (by simp)
  have hpwr : (missTaken missed s).pwr = s.pwr := hmissed.2 .pwr (by simp)
  have hhub : (missTaken missed s).hubOn = s.hubOn := by rw [State.hubOn, hpwr, State.hubOn]
  rw [hhub, hsap] at hports
  generalize missTaken missed s = a at hmissed hmiss hserved hports hended hanswered hwaits ⊢
  generalize portsServed said a = b at hserved hports hended hanswered hwaits ⊢
  generalize frameEnded said rows b = c at hended hanswered hwaits ⊢
  have hfeb : b.fe = a.fe := hserved.2 .fe (by simp)
  have hfed : (frameAnswered c).fe = c.fe := hanswered.2 .fe (by simp)
  have hsapd : (frameAnswered c).sap = c.sap := hanswered.2 .sap (by simp)
  refine ⟨?_, hwaits, ?_, fun p => ?_⟩
  · exact ((hmissed.mono (by simp)).trans (hserved.mono (by simp))).trans ((hended.frame.mono (by simp [cabinParts])).trans (hanswered.mono (by simp)))
  · rw [hfed, hended.miss, hfeb, hmiss]
  · rw [hsapd]
    exact (hports p).noted (hended.ports p)

/-- CABIN_FRAME (R86). -/
theorem does_cabinFrame {speech : Vector Word 16} {rows : RowRewrites} {missed : Bool} {s : State} (hp : s.powered = true)
    (hl : s.clk.pllLock = true) : Does (.cabinFrame speech rows missed) [.freeCtr, .sap, .gates, .fe, .pma, .stream, .hif, .hostMem, .hlt, .dbg] s
      fun t => (∀ w ∈ t.hif.waits, w.on ≠ .cabin) ∧ t.fe.miss = (if missed && s.rncWorks then satAdd s.fe.miss 1 else s.fe.miss)
        ∧ ∀ p : Fin 8, CabinServed s.hubOn s.sap[p] t.sap[p] := by
  have hexec : exec (.cabinFrame speech rows missed) s = act s s.clk.pllLock (framePlayed speech rows missed s) := rfl
  obtain ⟨hframe, hplayed⟩ := framePlayed_spec speech rows missed s
  generalize framePlayed speech rows missed s = u at hexec hframe hplayed
  exact does_of_act hexec hp hl hframe fun _ _ => hplayed

/-! ### The obligation on frames, rates and gates -/

/-- Settles O27: the frame by `does_cabinFrame`, the window by `does_rateWindowEnd`, the gates by `does_tacetTimeout` and `does_rampEnd`. -/
theorem cabinFramesRatesAndGates : Obligations.CabinFramesRatesAndGates := by
  unfold Obligations.CabinFramesRatesAndGates
  refine ⟨fun speech rows missed s hp hl => ?cabin, fun p s hp => ?window, fun g v s hp => ?gates⟩
  case cabin =>
    refine (does_cabinFrame hp hl).imp ?_
    rintro t ⟨hwaits, hmiss, hports⟩
    refine ⟨hwaits, hmiss, fun p => ⟨(hports p).stopped, (hports p).output, fun hin hy => ?_, (hports p).idle⟩⟩
    obtain ⟨hfifo, hcabin⟩ := (hports p).input hin hy
    exact ⟨by rw [hfifo, List.length_tail], hcabin⟩
  case window =>
    intro x w rate c hs h h'
    refine (does_rateWindowEnd hp hs h h').imp ?_
    rintro t ⟨hended, hmem⟩
    obtain ⟨hmeas, hlast, hwin, hcls, hnew, hratio⟩ := hended.shows
    exact ⟨hmeas, hlast, hwin, hcls, hnew, hratio, fun hc hf hy hx hcc hq hw he hb _ => hended.gains hw hcc ⟨hc, hf, hy, hx, hq, he, hb⟩, hmem⟩
  case gates =>
    intro x p
    refine ⟨fun hst hn hc => does_tacetTimeout hp hst hn hc, fun hst hn => (does_rampEnd hp hst hn).imp ?_⟩
    rintro t ⟨hgate, hothers⟩
    exact ⟨(congrArg Gate.st hgate).trans (Gate.rested_st _ hst), hothers⟩

end Sys2Proof.Machine
end

section
/-! PROOFS. Sections of the PMA, its rings and lasers: what setSect, a calibration's end and the records of a failure make of them. The
proofs of O28, O29 and O30 rest on these. -/

namespace Sys2Proof.Machine

/-! ### One section -/

/-- What setSect makes of its section. -/
theorem setSect_at (i : Fin 4) (f : Sect → Sect) (s : State) : (setSect i f s).sect i = f (s.sect i) := modAt_same ..

/-- What setSect leaves of the others. -/
theorem setSect_off {i k : Fin 4} (h : k ≠ i) (f : Sect → Sect) (s : State) : (setSect i f s).sect k = s.sect k := modAt_other _ _ _ _ h.symm

/-- A section changed twice. -/
theorem setSect_setSect (i : Fin 4) (f g : Sect → Sect) (s : State) : setSect i f (setSect i g s) = setSect i (fun x => f (g x)) s := by
  simp [setSect, modAt, upd]

/-- The same change of some sections. -/
theorem foldl_setSect (f : Sect → Sect) {is : List (Fin 4)} (h : is.Nodup) (s : State) (k : Fin 4) :
    (is.foldl (fun s i => setSect i f s) s).sect k = if k ∈ is then f (s.sect k) else s.sect k := by
  induction is generalizing s with
  | nil => rfl
  | cons i is ih =>
    obtain ⟨hi, his⟩ := List.nodup_cons.1 h
    rw [List.foldl_cons, ih his]
    by_cases hk : k = i
    · subst hk
      rw [setSect_at, if_neg hi, if_pos List.mem_cons_self]
    · rw [setSect_off hk]
      exact if_congr (by simp [hk]) rfl rfl

/-- The same change of S2 and S3. -/
theorem setSect_pair (f : Sect → Sect) (s : State) (k : Fin 4) :
    (setSect 3 f (setSect 2 f s)).sect k = if 2 ≤ k.1 then f (s.sect k) else s.sect k := by
  have h23 : k ∈ [(2 : Fin 4), 3] ↔ 2 ≤ k.1 := by
    rw [List.mem_cons, List.mem_singleton]
    omega
  exact (foldl_setSect f (is := [2, 3]) (by decide) s k).trans (if_congr h23 rfl rfl)

/-- The sections are the PMA's. -/
theorem sect_congr {s t : State} (h : t.pma.sect = s.pma.sect) (k : Fin 4) : t.sect k = s.sect k := congrArg (fun v : Vector Sect 4 => v[k]) h

section
variable {s t : State} {i : Fin 4} (hring : (t.sect i).ringsOk = (s.sect i).ringsOk) (hdead : t.pma.dead = s.pma.dead)
include hring hdead

/-- Usable channels are those of the rings and the lasers (R117). -/
theorem chans_congr : t.chans i = s.chans i := by
  rw [State.chans, State.chans, hring, hdead]

/-- The same for their list. -/
theorem chanList_congr : t.chanList i = s.chanList i := by
  rw [State.chanList, State.chanList, chans_congr hring hdead]

/-- The lanes that the parts allow are those of rings, lasers and rows (R117). -/
theorem lanesRaw_congr (hrows : (t.sect i).rows = (s.sect i).rows) : t.lanesRaw i = s.lanesRaw i := by
  rw [State.lanesRaw, State.lanesRaw, chanList_congr hring hdead, rowCount, rowCount, hrows]

end

/-! ### What leaves the PMA -/

/-- Logging a PMA failure leaves the PMA. -/
@[simp] theorem logPma_pma (a b : Nat) (s : State) : (logPma a b s).pma = s.pma := (only_logPma s a b).2 .pma (by simp)

/-- It leaves the health records. -/
@[simp] theorem logPma_hlt (a b : Nat) (s : State) : (logPma a b s).hlt = s.hlt := (only_logPma s a b).2 .hlt (by simp)

/-- A hard failure is a health record. -/
theorem only_hardFail (u : UnitRef) (s : State) : Only [.hlt] s (hardFail u s) := only_permanent s u 0 _

/-- A hard failure leaves the PMA. -/
@[simp] theorem hardFail_pma (u : UnitRef) (s : State) : (hardFail u s).pma = s.pma := (only_hardFail u s).2 .pma (by simp)

/-- No unit is retired by a hard failure alone: that is decided later (23_repair.md R405). -/
@[simp] theorem hardFail_retired (u : UnitRef) (s : State) : (hardFail u s).hlt.retired = s.hlt.retired := by
  unfold hardFail permanent
  split
  · rfl
  · rfl

/-! ### Rings left beyond the bound (R122) -/

/-- Rings out of lock join those being tuned again. -/
theorem foldl_ringLost (rs : List PmaRing) (s : State) : ∃ l, rs.foldl (fun s r => ringLost r s) s = { s with pma := { s.pma with retuning := l } }
    ∧ ∀ r, r ∈ s.pma.retuning ∨ r ∈ rs → r ∈ l := by
  induction rs generalizing s with
  | nil => exact ⟨s.pma.retuning, rfl, fun r h => h.resolve_right List.not_mem_nil⟩
  | cons q rs ih =>
    have hlost : ∃ l, ringLost q s = { s with pma := { s.pma with retuning := l } } ∧ q ∈ l ∧ ∀ r ∈ s.pma.retuning, r ∈ l := by
      unfold ringLost
      split
      case isTrue h => exact ⟨s.pma.retuning, rfl, by simpa using h, fun _ hr => hr⟩
      case isFalse => exact ⟨_, rfl, by simp, fun _ hr => List.mem_append_left _ hr⟩
    obtain ⟨l, e, hq, hkept⟩ := hlost
    obtain ⟨m, e', hm⟩ := ih (ringLost q s)
    rw [List.foldl_cons, e']
    refine ⟨m, by rw [e], fun r hr => hm r ?_⟩
    rw [e]
    rcases hr with hr | hr
    · exact .inl (hkept r hr)
    · rcases List.mem_cons.1 hr with rfl | hr
      · exact .inl hq
      · exact .inr hr

/-- The ring serves in section i: its channel is usable, and its row, if it has one, healthy (R117). -/
def RingServes (s : State) (i : Fin 4) (r : PmaRing) : Prop :=
  r.sec = i ∧ bit (s.chans i) r.chan.1 = true ∧ ∀ w, r.row = some w → bit (s.sect i).rows w.1 = true

/-- The bad rings of a calibration that serve in its section and that it covers. -/
def servingBad (i : Fin 4) (covers : PmaRing → Bool) (bad : List PmaRing) (s : State) : List PmaRing :=
  bad.filter fun r => decide (r.sec = i) && covers r
    && (bit (s.chans i) r.chan.1 && (match r.row with | some w => bit (s.sect i).rows w.1 | none => true))

/-- They are the bad rings that serve and are covered. -/
theorem mem_servingBad {i : Fin 4} {covers : PmaRing → Bool} {bad : List PmaRing} {s : State} {r : PmaRing} (hr : r ∈ bad) (hs : RingServes s i r)
    (hc : covers r = true) : r ∈ servingBad i covers bad s := by
  obtain ⟨hsec, hchan, hrow⟩ := hs
  refine List.mem_filter.2 ⟨hr, ?_⟩
  cases hw : r.row with
  | none => simp [hsec, hchan, hc]
  | some w => simp [hsec, hchan, hc, hrow w hw]

/-- They are out of lock, with CAL_FAIL. -/
theorem calBad_eq (i : Fin 4) (covers : PmaRing → Bool) (bad : List PmaRing) (s : State) : calBad i covers bad s =
    if (servingBad i covers bad s).isEmpty then s else pmaCause 6 ((servingBad i covers bad s).foldl (fun s r => ringLost r s) s) := rfl

/-- The bad rings of a calibration: nothing changes but the rings being tuned again and the causes, and every ring in service that the
calibration covers is tuned again with CAL_FAIL. -/
theorem calBad_spec (i : Fin 4) (covers : PmaRing → Bool) (bad : List PmaRing) (s : State) :
    ∃ l q, calBad i covers bad s = { s with pma := { s.pma with retuning := l, irq := q } }
      ∧ (bad = [] → l = s.pma.retuning ∧ q = s.pma.irq)
      ∧ ∀ r ∈ bad, RingServes s i r → covers r = true → bit q 6 = true ∧ r ∈ l := by
  rw [calBad_eq]
  have hmem {r : PmaRing} (hr : r ∈ bad) (hs : RingServes s i r) (hc : covers r = true) := mem_servingBad hr hs hc
  have hnil : bad = [] → servingBad i covers bad s = [] := by
    rintro rfl
    rfl
  generalize servingBad i covers bad s = rs at hmem hnil ⊢
  split
  case isTrue hnone =>
    refine ⟨_, _, rfl, fun _ => ⟨rfl, rfl⟩, fun r hr hs hc => ?_⟩
    have hin := hmem hr hs hc
    rw [List.isEmpty_iff.1 hnone] at hin
    exact absurd hin List.not_mem_nil
  case isFalse hsome =>
    obtain ⟨l, e, hl⟩ := foldl_ringLost rs s
    rw [e]
    refine ⟨l, _, rfl, fun hb => absurd (List.isEmpty_iff.2 (hnil hb)) hsome, fun r hr hs hc => ⟨?_, hl r (.inr (hmem hr hs hc))⟩⟩
    exact (bit_setBit _ (by decide) true 6).trans (if_pos rfl)

end Sys2Proof.Machine
end

section
/-! PROOFS. Intonation and calibration of the sections (O28). -/

namespace Sys2Proof.Machine

/-! ### Lasers found dead (Table 6.1 step 1) -/

/-- Lasers retired: causes and records follow, and no unit is retired yet. -/
structure LasersRetired (s t : State) : Prop where
  /-- the parts touched -/
  frame : Only [.pma, .hlt, .dbg] s t
  /-- the PMA but for the lasers and the causes -/
  pma : ∃ d q, t.pma = { s.pma with dead := d, irq := q }
  /-- the retired units -/
  retired : t.hlt.retired = s.hlt.retired

/-- One laser found dead. -/
def laserDead (m : BitVec 18) (s : State) (l : Nat) : State :=
  if bit m l && !bit s.pma.dead l then
    logPma 0 l (pmaCause 4 (hardFail (unit uLaser l) { s with pma := { s.pma with dead := setBit s.pma.dead l true } }))
  else s

/-- One laser found dead is retired. -/
theorem laserDead_retired (m : BitVec 18) (s : State) (l : Nat) : LasersRetired s (laserDead m s l) := by
  unfold laserDead
  split
  · refine ⟨?_, ⟨setBit s.pma.dead l true, setBit s.pma.irq 4 true, by simp [pmaCause]⟩, ?_⟩
    · have hfail := (only_pma { s.pma with dead := setBit s.pma.dead l true } s).comp (only_hardFail (unit uLaser l) _) (rs := [.pma, .hlt])
        (by simp) (by simp)
      exact (hfail.mono (by simp)).trans (((only_pmaCause _ 4).mono (by simp)).trans ((only_logPma _ 0 l).mono (by simp)))
    · rw [logPma_hlt]
      exact hardFail_retired _ _
  · exact ⟨.refl _ s, ⟨_, _, rfl⟩, rfl⟩

/-- It is dead now, as those are that were. -/
theorem laserDead_dead (m : BitVec 18) (s : State) {l : Nat} (hl : l < 18) (k : Nat) :
    bit (laserDead m s l).pma.dead k = (bit s.pma.dead k || (bit m k && decide (k = l))) := by
  unfold laserDead
  split
  case isTrue h =>
    have hdead : (logPma 0 l (pmaCause 4 (hardFail (unit uLaser l) { s with pma := { s.pma with dead := setBit s.pma.dead l true } }))).pma.dead
        = setBit s.pma.dead l true := by simp [pmaCause]
    rw [hdead, bit_setBit _ hl]
    by_cases hk : k = l
    · subst hk
      simp [(Bool.and_eq_true_iff.1 h).1]
    · simp [hk]
  case isFalse h =>
    by_cases hk : k = l
    · subst hk
      simp only [Bool.and_eq_true, Bool.not_eq_true', not_and, Bool.not_eq_false] at h
      cases hm : bit m k with
      | true => simp [h hm]
      | false => simp
    · simp [hk]

/-- Lasers found dead, one after the other. -/
theorem foldl_laserDead (m : BitVec 18) (ls : List Nat) (hls : ∀ l ∈ ls, l < 18) (s : State) :
    LasersRetired s (ls.foldl (laserDead m) s)
      ∧ ∀ k, bit (ls.foldl (laserDead m) s).pma.dead k = (bit s.pma.dead k || (bit m k && decide (k ∈ ls))) := by
  induction ls generalizing s with
  | nil => exact ⟨⟨.refl _ s, ⟨_, _, rfl⟩, rfl⟩, fun k => by simp⟩
  | cons l ls ih =>
    have hstep := laserDead_retired m s l
    obtain ⟨hrest, hbits⟩ := ih (fun k hk => hls k (List.mem_cons_of_mem l hk)) (laserDead m s l)
    obtain ⟨d, q, e⟩ := hstep.pma
    obtain ⟨d', q', e'⟩ := hrest.pma
    refine ⟨⟨hstep.frame.trans hrest.frame, ⟨d', q', e'.trans (by rw [e])⟩, hrest.retired.trans hstep.retired⟩, fun k => ?_⟩
    rw [List.foldl_cons, hbits, laserDead_dead m s (hls l List.mem_cons_self)]
    by_cases hk : k = l
    · subst hk
      cases bit s.pma.dead k <;> cases bit m k <;> simp
    · simp [hk]

/-- The lasers that step 1 finds dead are dead, beside those that were. -/
theorem retireLasers_spec (m : BitVec 18) (s : State) :
    LasersRetired s (retireLasers m s) ∧ (retireLasers m s).pma.dead = s.pma.dead ||| m := by
  have heq : retireLasers m s = (List.range 18).foldl (laserDead m) s := rfl
  obtain ⟨hretired, hbits⟩ := foldl_laserDead m (List.range 18) (fun l hl => List.mem_range.1 hl) s
  rw [heq]
  refine ⟨hretired, BitVec.eq_of_getLsbD_eq fun k hk => ?_⟩
  have hbit := hbits k
  rw [decide_eq_true (List.mem_range.2 hk), Bool.and_true] at hbit
  rw [BitVec.getLsbD_or]
  exact hbit

/-! ### A section intoned (R117..R119) -/

/-- Step 1, which counts with the first section. -/
def lasersFound (i : Fin 4) (r : IntonationResult) (s : State) : State :=
  if i = 0 then
    { retireLasers r.deadLasers s with pma := { (retireLasers r.deadLasers s).pma with lit := 0x1FFFF &&& ~~~(retireLasers r.deadLasers s).pma.dead } }
  else s

/-- Step 1 leaves the sections, the run and the retired units. -/
structure LasersFound (i : Fin 4) (r : IntonationResult) (s t : State) : Prop where
  /-- the parts touched -/
  frame : Only [.pma, .hlt, .dbg] s t
  /-- the PMA but for the lasers and the causes -/
  pma : ∃ d l q, t.pma = { s.pma with dead := d, lit := l, irq := q }
  /-- the retired units -/
  retired : t.hlt.retired = s.hlt.retired
  /-- the lasers -/
  lasers : i = 0 → t.pma.dead = s.pma.dead ||| r.deadLasers ∧ t.pma.lit = 0x1FFFF &&& ~~~t.pma.dead

/-- What step 1 does. -/
theorem lasersFound_spec (i : Fin 4) (r : IntonationResult) (s : State) : LasersFound i r s (lasersFound i r s) := by
  unfold lasersFound
  split
  case isTrue =>
    obtain ⟨⟨hframe, ⟨d, q, e⟩, hretired⟩, hdead⟩ := retireLasers_spec r.deadLasers s
    exact ⟨hframe.trans ((only_pma _ _).mono (by simp)), ⟨d, _, q, by rw [e]⟩, hretired, fun _ => ⟨hdead, rfl⟩⟩
  case isFalse h => exact ⟨.refl _ s, ⟨_, _, _, rfl⟩, rfl, fun hi => absurd hi h⟩

/-- The parts of a section as steps 2 to 5 find them. -/
def sectTuned (i : Fin 4) (r : IntonationResult) (s : State) : State :=
  setSect i (fun x => { x with
    ringsOk := r.chans &&& ~~~s.deadChans i, rows := r.rows &&& ~~~s.deadRows i, ready := true, retired := false, rowDue := none
    spareRow := bit (r.rows &&& ~~~s.deadRows i) 16 && decide ((r.rows &&& ~~~s.deadRows i) &&& 0xFFFF ≠ 0xFFFF)
    ebCal := if r.ebCal.toNat ≤ 21 then r.ebCal else 21, gapAt := s.clk.tempo }) s

/-- The lanes dealt. -/
def lanesDealt (i : Fin 4) (s : State) : State := setSect i (fun x => { x with carriers := (s.chanList i).take (s.lanesRaw i) }) s

/-- Fewer lanes than were in service are a drop, fewer than 8 retire the section, else the bad rings of step 5 are out of lock. -/
def lanesChecked (i : Fin 4) (was : Nat) (bad : List PmaRing) (s : State) : State :=
  let s := if s.lanesRaw i < was then logPma i.1 30 (pmaCause 1 s) else s
  if s.lanesRaw i < 8 then retireSection i (pmaCause 4 s) else calBad i (fun _ => true) bad s

/-- The end of a run, with its last section. -/
def runEnded (i : Fin 4) (wake : Bool) (s : State) : State :=
  if (List.finRange 4).all fun k => (s.sect k).ready then
    let s := finishOk (fun w => decide (w.on = .reset 2)) (pmaCause 3 { s with pma := { s.pma with intoning := false, idleAt := s.clk.tempo } })
    if wake || decide (i ≠ 3) then s
    else { s with pma := { s.pma with s23 := 2 }, boot := { s.boot with done := setBit s.boot.done 6 true } }
  else s

/-- INTONATION_SECTION_DONE in its steps. -/
def intoned (i : Fin 4) (r : IntonationResult) (s : State) : State :=
  runEnded i (decide (s.pma.s23 = 1)) (pmaReady (lanesChecked i ((lasersFound i r s).sect i).carriers.length r.bad
    (lanesDealt i (sectTuned i r (lasersFound i r s)))))

/-- A section retired: it has no lane. -/
def Sect.shut (x : Sect) : Sect := { x with retired := true, rotating := none, carriers := [] }

/-- A section's retirement leaves the PMA but for the section and the causes. -/
theorem retireSection_pma (i : Fin 4) (s : State) : (retireSection i s).pma = { s.pma with
    sect := modAt s.pma.sect i Sect.shut, irq := setBit s.pma.irq 2 true, ready := (retireSection i s).pma.ready } := by
  have hready : (retireSection i s).pma = { (hardFail (unit uSection i.1) (logPma i.1 31 (pmaCause 2 (setSect i Sect.shut s)))).pma with
    ready := (retireSection i s).pma.ready } := rfl
  rw [hardFail_pma, logPma_pma] at hready
  exact hready

/-- The lanes of a section after their check: below 8 it is retired, else they stand; the lasers
and the run stand. -/
structure LanesChecked (i : Fin 4) (s t : State) : Prop where
  /-- the parts touched -/
  frame : Only [.pma, .hlt, .dbg] s t
  /-- the lasers and the run -/
  run : t.pma.dead = s.pma.dead ∧ t.pma.lit = s.pma.lit ∧ t.pma.intoning = s.pma.intoning
  /-- the section -/
  sect : t.sect i = if s.lanesRaw i < 8 then (s.sect i).shut else s.sect i

/-- The check of the lanes. -/
theorem lanesChecked_spec (i : Fin 4) (was : Nat) (bad : List PmaRing) (s : State) : LanesChecked i s (lanesChecked i was bad s) := by
  have hdrop : ∃ u, (if s.lanesRaw i < was then logPma i.1 30 (pmaCause 1 s) else s) = u ∧ Only [.pma, .dbg] s u
      ∧ ∃ q, u.pma = { s.pma with irq := q } := by
    refine ⟨_, rfl, (Only.refl _ s).cond ((only_pmaCause s 1).comp (only_logPma _ _ _) (by simp) (by simp)), ?_⟩
    split
    · exact ⟨setBit s.pma.irq 1 true, by simp [pmaCause]⟩
    · exact ⟨_, rfl⟩
  obtain ⟨u, hu, hframe, q, hpma⟩ := hdrop
  have hsect : u.sect i = s.sect i := sect_congr (by rw [hpma]) i
  have hraw : u.lanesRaw i = s.lanesRaw i := lanesRaw_congr (by rw [hsect]) (by rw [hpma]) (by rw [hsect])
  unfold lanesChecked
  dsimp only
  rw [hu, hraw]
  split
  · have e := retireSection_pma i (pmaCause 4 u)
    refine ⟨(hframe.mono (by simp)).trans (((only_pmaCause u 4).mono (by simp)).trans (only_retireSection _ i)), ?_, ?_⟩
    · rw [e]
      simp [pmaCause, hpma]
    · rw [if_pos ‹_›, ← hsect]
      exact (congrArg (fun p : Pma => p.sect[i]) e).trans (modAt_same ..)
  · obtain ⟨l, q', e, -, -⟩ := calBad_spec i (fun _ => true) bad u
    rw [e]
    exact ⟨(hframe.mono (by simp)).trans ((only_pma _ u).mono (by simp)), by simp [hpma], hsect.trans (if_neg ‹_›).symm⟩

/-- What the end of a run touches. -/
theorem only_runEnded (i : Fin 4) (wake : Bool) (s : State) : Only [.boot, .pma, .hif, .hostMem] s (runEnded i wake s) := by
  have hanswered : Only [.boot, .pma, .hif, .hostMem] s
      (finishOk (fun w => decide (w.on = .reset 2)) (pmaCause 3 { s with pma := { s.pma with intoning := false, idleAt := s.clk.tempo } })) :=
    Only.comp (ps := [.pma]) ((only_pma _ s).trans (only_pmaCause _ 3)) (only_finishWaits _ _ _) (by simp) (by simp)
  unfold runEnded
  dsimp only
  split
  · split
    · exact hanswered
    · exact hanswered.trans (((only_setBoot (fun b => { b with done := setBit b.done 6 true }) _ (by simp)).trans ((only_pma _ _).mono (by simp))))
  · exact .refl _ s

/-- The end of a run leaves sections and lasers, and with its last section the run is over. -/
theorem runEnded_pma (i : Fin 4) (wake : Bool) (s : State) : ∃ q n m, (runEnded i wake s).pma = { s.pma with
    intoning := s.pma.intoning && !decide (∀ j, (s.sect j).ready = true), irq := q, idleAt := n, s23 := m } := by
  have hall : ((List.finRange 4).all fun k => (s.sect k).ready) = decide (∀ j, (s.sect j).ready = true) := by
    rw [Bool.eq_iff_iff]
    simp
  have hfinish : (finishOk (fun w => decide (w.on = .reset 2)) (pmaCause 3 { s with
      pma := { s.pma with intoning := false, idleAt := s.clk.tempo } })).pma = _ := (only_finishWaits _ _ _).2 .pma (by simp)
  unfold runEnded
  dsimp only
  rw [hall]
  split
  case isTrue h =>
    rw [h, Bool.not_true, Bool.and_false]
    split
    · exact ⟨_, _, s.pma.s23, hfinish⟩
    · exact ⟨_, _, 2, by rw [hfinish]; rfl⟩
  case isFalse h =>
    rw [Bool.eq_false_iff.2 h, Bool.not_false, Bool.and_true]
    exact ⟨_, _, _, rfl⟩

/-- Retired channels are those of the retired units. -/
theorem deadChans_congr {s t : State} (h : t.hlt.retired = s.hlt.retired) (i : Fin 4) : t.deadChans i = s.deadChans i := by
  have hret : t.isRetired = s.isRetired := funext fun u => by rw [State.isRetired, State.isRetired, h]
  rw [State.deadChans, State.deadChans, hret]

/-- So are retired rows. -/
theorem deadRows_congr {s t : State} (h : t.hlt.retired = s.hlt.retired) (i : Fin 4) : t.deadRows i = s.deadRows i := by
  have hret : t.isRetired = s.isRetired := funext fun u => by rw [State.isRetired, State.isRetired, h]
  rw [State.deadRows, State.deadRows, hret]

/-- What is left out of a set is not in it. -/
theorem and_not_and {w : Nat} (a b : BitVec w) : (a &&& ~~~b) &&& b = 0 := by
  rw [BitVec.and_assoc, BitVec.not_and_self]
  exact BitVec.and_zero

/-- What is left of a set is of it. -/
theorem and_not_and_not {w : Nat} (a b : BitVec w) : (a &&& b) &&& ~~~a = 0 := by
  rw [BitVec.and_comm a b, BitVec.and_assoc, BitVec.and_not_self]
  exact BitVec.and_zero

/-- A section whose lanes have been dealt, before their check. -/
structure SectDealt (i : Fin 4) (r : IntonationResult) (s t : State) : Prop where
  /-- it serves -/
  ready : (t.sect i).ready = true
  /-- it is not retired -/
  kept : (t.sect i).retired = false
  /-- its rings -/
  rings : (t.sect i).ringsOk = r.chans &&& ~~~s.deadChans i
  /-- its rows -/
  rows : (t.sect i).rows = r.rows &&& ~~~s.deadRows i
  /-- its figure -/
  figure : (t.sect i).ebCal.toNat ≤ 21
  /-- its lanes -/
  lanes : (t.sect i).carriers = (t.chanList i).take (t.lanesRaw i)

/-- Steps 2 to 5. -/
theorem sectDealt (i : Fin 4) (r : IntonationResult) (s : State) : SectDealt i r s (lanesDealt i (sectTuned i r s)) := by
  have hdealt : (lanesDealt i (sectTuned i r s)).sect i = { (sectTuned i r s).sect i with
      carriers := ((sectTuned i r s).chanList i).take ((sectTuned i r s).lanesRaw i) } := setSect_at ..
  have htuned : (sectTuned i r s).sect i = _ := setSect_at ..
  have hchans : (lanesDealt i (sectTuned i r s)).chanList i = (sectTuned i r s).chanList i := chanList_congr (by rw [hdealt]) rfl
  have hraw : (lanesDealt i (sectTuned i r s)).lanesRaw i = (sectTuned i r s).lanesRaw i := lanesRaw_congr (by rw [hdealt]) rfl (by rw [hdealt])
  refine ⟨?_, ?_, ?_, ?_, ?_, by rw [hchans, hraw, hdealt]⟩ <;> rw [hdealt, htuned]
  dsimp only
  split
  · assumption
  · decide

/-- A section as its intonation leaves it (R117..R119). -/
structure SectIntoned (i : Fin 4) (r : IntonationResult) (s t : State) : Prop where
  /-- it serves -/
  ready : (t.sect i).ready = true
  /-- its rings -/
  rings : (t.sect i).ringsOk = r.chans &&& ~~~s.deadChans i
  /-- its rows -/
  rows : (t.sect i).rows = r.rows &&& ~~~s.deadRows i
  /-- its figure -/
  figure : (t.sect i).ebCal.toNat ≤ 21
  /-- retirement -/
  retired : (t.sect i).retired = decide (t.lanesRaw i < 8)
  /-- its lanes -/
  lanes : (t.sect i).retired = false → (t.sect i).carriers = (t.chanList i).take (t.lanesRaw i)
  /-- the lasers -/
  lasers : i = 0 → t.pma.dead = s.pma.dead ||| r.deadLasers ∧ t.pma.lit = 0x1FFFF &&& ~~~t.pma.dead
  /-- the run -/
  run : t.pma.intoning = (s.pma.intoning && !decide (∀ j, (t.sect j).ready = true))

/-- What INTONATION_SECTION_DONE does. -/
theorem intoned_spec (i : Fin 4) (r : IntonationResult) (s : State) :
    Only [.gates, .boot, .fe, .pma, .hif, .hostMem, .hlt, .dbg] s (intoned i r s) ∧ SectIntoned i r s (intoned i r s) := by
  unfold intoned
  have hfound := lasersFound_spec i r s
  generalize lasersFound i r s = a at hfound ⊢
  obtain ⟨hfoundFrame, ⟨_, _, _, ha⟩, hretired, hlasers⟩ := hfound
  obtain ⟨hcheckedFrame, ⟨hdead, hlit, hrun⟩, hsect⟩ := lanesChecked_spec i (a.sect i).carriers.length r.bad (lanesDealt i (sectTuned i r a))
  generalize lanesChecked i (a.sect i).carriers.length r.bad (lanesDealt i (sectTuned i r a)) = c at hcheckedFrame hdead hlit hrun hsect ⊢
  have hendedFrame := only_runEnded i (decide (s.pma.s23 = 1)) (pmaReady c)
  obtain ⟨q, n, m, hended⟩ := runEnded_pma i (decide (s.pma.s23 = 1)) (pmaReady c)
  generalize runEnded i (decide (s.pma.s23 = 1)) (pmaReady c) = t at hendedFrame hended ⊢
  have hdealt := sectDealt i r a
  have hframe : Only [.pma] a (lanesDealt i (sectTuned i r a)) := (only_setSect a i _).trans (only_setSect _ i _)
  have hrunDealt : (lanesDealt i (sectTuned i r a)).pma.dead = a.pma.dead ∧ (lanesDealt i (sectTuned i r a)).pma.lit = a.pma.lit
    ∧ (lanesDealt i (sectTuned i r a)).pma.intoning = a.pma.intoning := ⟨rfl, rfl, rfl⟩
  generalize lanesDealt i (sectTuned i r a) = b at hcheckedFrame hdead hlit hrun hsect hdealt hframe hrunDealt
  obtain ⟨hready, hkept, hrings, hrows, hfigure, hlanes⟩ := hdealt
  have htsect (k : Fin 4) : t.sect k = c.sect k := sect_congr (by rw [hended]; rfl) k
  have hdead' : t.pma.dead = b.pma.dead := by rw [hended]; exact hdead
  have hlit' : t.pma.lit = b.pma.lit := by rw [hended]; exact hlit
  have hparts : (t.sect i).ringsOk = (b.sect i).ringsOk ∧ (t.sect i).rows = (b.sect i).rows ∧ (t.sect i).ready = (b.sect i).ready
      ∧ (t.sect i).ebCal = (b.sect i).ebCal := by
    rw [htsect, hsect]
    split
    · exact ⟨rfl, rfl, rfl, rfl⟩
    · exact ⟨rfl, rfl, rfl, rfl⟩
  obtain ⟨hr, hw, hy, he⟩ := hparts
  have hraw := lanesRaw_congr hr hdead' hw
  have hchans := chanList_congr hr hdead'
  refine ⟨?_, hy.trans hready, ?_, ?_, he ▸ hfigure, ?_, ?_, fun hi => ?_, ?_⟩
  · exact (hfoundFrame.mono (by simp)).trans ((hframe.mono (by simp)).trans ((hcheckedFrame.mono (by simp)).trans
      (((only_pma _ c).mono (by simp)).trans (hendedFrame.mono (by simp)))))
  · rw [hr, hrings, deadChans_congr hretired]
  · rw [hw, hrows, deadRows_congr hretired]
  · rw [hraw, htsect, hsect]
    split
    case isTrue h => exact (decide_eq_true h).symm
    case isFalse h => exact hkept.trans (decide_eq_false h).symm
  · rw [hraw, hchans, htsect, hsect]
    split
    case isTrue => exact fun h => absurd h (by simp [Sect.shut])
    case isFalse => exact fun _ => hlanes
  · obtain ⟨hd, hl⟩ := hlasers hi
    rw [hdead', hlit', hrunDealt.1, hrunDealt.2.1]
    exact ⟨hd, hl⟩
  · have hover : t.pma.intoning = (c.pma.intoning && !decide (∀ j, (c.sect j).ready = true)) := by rw [hended]; rfl
    have hall : (∀ j, (t.sect j).ready = true) = ∀ j, (c.sect j).ready = true := by simp only [htsect]
    have hstill : c.pma.intoning = s.pma.intoning := by rw [hrun, hrunDealt.2.2, ha]
    simp only [hover, hstill, hall]

/-- INTONATION_SECTION_DONE (R119): a section whose turn it is. -/
theorem does_intonationSectionDone {i : Fin 4} {r : IntonationResult} {s : State} (hp : s.powered = true) (hrun : s.pma.intoning = true)
    (hi : (s.sect i).ready = false) (hturn : ∀ j, j < i → (s.sect j).ready = true) :
    Does (.intonationSectionDone i r) [.gates, .boot, .fe, .pma, .hif, .hostMem, .hlt, .dbg] s (SectIntoned i r s) := by
  have hexec : exec (.intonationSectionDone i r) s = act s
      (s.pma.intoning && ((List.finRange 4).all fun j => decide (i ≤ j) || (s.sect j).ready) && !(s.sect i).ready) (intoned i r s) := rfl
  obtain ⟨hframe, hready, hrings, hrows, hfigure, hretired, hlanes, hlasers, hover⟩ := intoned_spec i r s
  generalize intoned i r s = u at hexec hframe hready hrings hrows hfigure hretired hlanes hlasers hover
  refine does_of_act hexec hp ?_ hframe fun _ _ => ⟨hready, hrings, hrows, hfigure, hretired, hlanes, hlasers, hover⟩
  have hall : ((List.finRange 4).all fun j => decide (i ≤ j) || (s.sect j).ready) = true := by
    refine List.all_eq_true.2 fun j _ => ?_
    by_cases hj : i ≤ j
    · rw [decide_eq_true hj, Bool.true_or]
    · rw [hturn j (not_le.1 hj), Bool.or_true]
  rw [hrun, hall, hi]
  rfl

/-! ### Calibration (R130, R131) -/

/-- A section after a calibration: counted, stamped, its figure at most 10.5 bits. -/
def Sect.calibrated (now : BitVec 64) (eb : BitVec 5) (x : Sect) : Sect :=
  { x with steps := satAdd x.steps 1, lastCal := now, ebCal := if eb.toNat ≤ 21 then eb else 21 }

/-- A calibration of section i has ended, with the change f of the section: the rings that it covers and could not bring within their bound
are tuned again (R122). -/
structure Calibrated (i : Fin 4) (eb : BitVec 5) (covers : PmaRing → Bool) (bad : List PmaRing) (f : Sect → Sect) (s t : State) : Prop where
  /-- the section -/
  sect : t.sect i = (f (s.sect i)).calibrated s.now eb
  /-- the other sections -/
  others : ∀ k, k ≠ i → t.sect k = s.sect k
  /-- without bad rings nothing is tuned again -/
  none : bad = [] → t.pma.retuning = s.pma.retuning ∧ t.pma.irq = s.pma.irq
  /-- bad rings -/
  rings : ∀ r ∈ bad, RingServes s i r → covers r = true → bit t.pma.irq 6 = true ∧ r ∈ t.pma.retuning

/-- The end of a calibration that leaves the section's rings and rows. -/
theorem does_calibration {c : Instr} {ok : Bool} {i : Fin 4} {eb : BitVec 5} {covers : PmaRing → Bool} {bad : List PmaRing} {f : Sect → Sect}
    {s : State} (hc : exec c s = act s ok (calBad i covers bad (calEnd i eb (setSect i f s)))) (hp : s.powered = true) (ho : ok = true)
    (hf : ∀ x, (f x).ringsOk = x.ringsOk ∧ (f x).rows = x.rows) : Does c [.pma] s (Calibrated i eb covers bad f s) := by
  have hended : calEnd i eb (setSect i f s) = setSect i (fun x => (f x).calibrated s.now eb) s := setSect_setSect ..
  rw [hended] at hc
  have hsect := setSect_at i (fun x => (f x).calibrated s.now eb) s
  have hoff (k : Fin 4) (hk : k ≠ i) := setSect_off hk (fun x => (f x).calibrated s.now eb) s
  have hframe := only_setSect s i fun x => (f x).calibrated s.now eb
  have hserve {r : PmaRing} (h : RingServes s i r) : RingServes (setSect i (fun x => (f x).calibrated s.now eb) s) i r := by
    obtain ⟨hsec, hchan, hrow⟩ := h
    obtain ⟨hrings, hrows⟩ := hf (s.sect i)
    have hchans := chans_congr (s := s) (t := setSect i (fun x => (f x).calibrated s.now eb) s) (i := i) (by rw [hsect]; exact hrings) rfl
    have hrows' : ((setSect i (fun x => (f x).calibrated s.now eb) s).sect i).rows = (s.sect i).rows := by rw [hsect]; exact hrows
    exact ⟨hsec, hchans ▸ hchan, hrows' ▸ hrow⟩
  obtain ⟨l, q, e, hnone, hrings⟩ := calBad_spec i covers bad (setSect i (fun x => (f x).calibrated s.now eb) s)
  rw [e] at hc
  exact does_of_act hc hp ho (hframe.trans (only_pma _ _)) fun _ _ => ⟨hsect, hoff, hnone, fun r hr hs hcov => hrings r hr (hserve hs) hcov⟩

/-- A command whose effect is a change of one section. -/
theorem does_setSect {c : Instr} {ok : Bool} {i : Fin 4} {f : Sect → Sect} {s : State} (hc : exec c s = act s ok (setSect i f s))
    (hp : s.powered = true) (ho : ok = true) : Does c [.pma] s fun t => t.sect i = f (s.sect i) ∧ ∀ k, k ≠ i → t.sect k = s.sect k :=
  does_of_act hc hp ho (only_setSect s i f) fun _ _ => ⟨setSect_at i f s, fun _ hk => setSect_off hk f s⟩

/-- When a rotation step of S0 or S1 is due (R130). -/
def StepDue (s : State) (i : Fin 4) : Prop :=
  (s.sect i).calDue = true ∨ i.1 = 0 ∧ (∀ u, (s.sect i).rotAt = some u → u + 500 * ms ≤ s.clk.tempo)
    ∨ i.1 = 1 ∧ (s.inService 0 = true ∧ s.rotChan 0 ≠ 31) ∧ ∃ u, (s.sect 0).rotAt = some u ∧ u + 250 * ms ≤ s.clk.tempo
      ∧ ∀ v, (s.sect i).rotAt = some v → v < u

/-- The model's test of it. -/
theorem rotDue_of {s : State} {i : Fin 4} (h : StepDue s i) : s.rotDue i = true := by
  unfold State.rotDue
  dsimp only
  rcases h with h | ⟨hi, h⟩ | ⟨hi, ⟨hin, hch⟩, u, hu, hdue, hlast⟩
  · rw [h, Bool.true_or]
  · rw [hi, decide_eq_false (by decide), Bool.false_and, Bool.false_and, if_neg Bool.false_ne_true]
    cases hr : (s.sect i).rotAt with
    | none => exact Bool.or_true _
    | some t => exact (congrArg (_ || ·) (decide_eq_true (h t hr))).trans (Bool.or_true _)
  · rw [hi, decide_eq_true rfl, hin, decide_eq_true hch, hu]
    cases hr : (s.sect i).rotAt with
    | none => simp [hdue]
    | some v => simp [hdue, hlast v hr]

/-- ROTATION_STEP (R130). -/
theorem does_rotationStep {i : Fin 4} {s : State} (hp : s.powered = true) (hi : i.1 < 2) (hin : s.inService i = true)
    (hr : (s.sect i).rotating = none) (hch : s.rotChan i ≠ 31) (hsw : s.pma.switching = []) (hdue : StepDue s i) :
    Does (.rotationStep i) [.pma] s fun t => t.sect i = { s.sect i with
      rotating := some (s.rotLane i), rotAt := some s.clk.tempo, calDue := false } ∧ ∀ k, k ≠ i → t.sect k = s.sect k := by
  have hexec : exec (.rotationStep i) s = act s (decide (i.1 < 2) && s.inService i && (s.sect i).rotating.isNone && decide (s.rotChan i ≠ 31)
      && s.pma.switching.isEmpty && s.rotDue i)
      (setSect i (fun x => { x with rotating := some (s.rotLane i), rotAt := some s.clk.tempo, calDue := false }) s) := rfl
  exact does_setSect hexec hp (by simp [hi, hin, hr, hch, hsw, rotDue_of hdue])

/-- ROTATION_RETURN (R130): the column of the lane's own channel is covered. -/
theorem does_rotationReturn {i : Fin 4} {eb : BitVec 5} {bad : List PmaRing} {j c : Nat} {s : State} (hp : s.powered = true)
    (hj : (s.sect i).rotating = some j) (hc : (s.sect i).carriers[j]? = some c) : Does (.rotationReturn i eb bad) [.pma] s
      (Calibrated i eb (fun r => decide (r.chan.1 = c)) bad (fun x => { x with rotating := none, rotNext := c + 1 }) s) := by
  have hown : s.rotOwn i = some c := by rw [State.rotOwn, hj]; exact hc
  have hexec : exec (.rotationReturn i eb bad) s = act s true (calBad i (fun r => decide (r.chan.1 = c)) bad
      (calEnd i eb (setSect i (fun x => { x with rotating := none, rotNext := c + 1 }) s))) := by
    show execRotationReturn i eb bad s = _
    unfold execRotationReturn
    rw [hown]
  exact does_calibration hexec hp rfl fun _ => ⟨rfl, rfl⟩

/-- GAP_STEP_START (R131). -/
theorem does_gapStepStart {i : Fin 4} {s : State} (hp : s.powered = true) (hi : 2 ≤ i.1) (hon : s.s23On = true) (hin : s.inService i = true)
    (hr : (s.sect i).running = none) (hq : (s.sect i).queue = []) (hg : (s.sect i).gap = false)
    (hdue : (s.sect i).calDue = true ∨ (s.sect i).gapAt + 10 * ms ≤ s.clk.tempo) :
    Does (.gapStepStart i) [.pma] s fun t => t.sect i = { s.sect i with gap := true, calDue := false } ∧ ∀ k, k ≠ i → t.sect k = s.sect k := by
  have hexec : exec (.gapStepStart i) s = act s (decide (2 ≤ i.1) && s.s23On && s.inService i && (s.sect i).running.isNone
      && (s.sect i).queue.isEmpty && !(s.sect i).gap && ((s.sect i).calDue || decide ((s.sect i).gapAt + 10 * ms ≤ s.clk.tempo)))
      (setSect i (fun x => { x with gap := true, calDue := false }) s) := rfl
  exact does_setSect hexec hp (by simpa [hi, hon, hin, hr, hq, hg] using hdue)

/-- The rings that a gap step from a first row on covers: the modulator rings, and the weight rings of four rows. -/
def gapCovers (first : Nat) (r : PmaRing) : Bool := match r.row with | some w => gapRows first w | none => true

/-- They are those of the statement. -/
theorem gapCovers_of {first : Nat} {r : PmaRing} (h17 : first < 17) (h : ∀ w, r.row = some w → (w.1 + 17 - first) % 17 < 4) :
    gapCovers first r = true := by
  unfold gapCovers
  cases hr : r.row with
  | none => rfl
  | some w =>
    show decide ((w.1 + 17 - first % 17) % 17 < 4) = true
    rw [Nat.mod_eq_of_lt h17]
    exact decide_eq_true (h w hr)

/-- GAP_STEP_END (R131). -/
theorem does_gapStepEnd {i : Fin 4} {eb : BitVec 5} {bad : List PmaRing} {s : State} (hp : s.powered = true) (hg : (s.sect i).gap = true) :
    Does (.gapStepEnd i eb bad) [.pma] s (Calibrated i eb (gapCovers (s.sect i).gapRow) bad
      (fun x => { x with gap := false, gapAt := s.clk.tempo, gapRow := (x.gapRow + 4) % 17 }) s) := by
  have hexec : exec (.gapStepEnd i eb bad) s = act s (s.sect i).gap (calBad i (gapCovers (s.sect i).gapRow) bad
      (calEnd i eb (setSect i (fun x => { x with gap := false, gapAt := s.clk.tempo, gapRow := (x.gapRow + 4) % 17 }) s))) := rfl
  exact does_calibration hexec hp hg fun _ => ⟨rfl, rfl⟩

/-- A job of this number is delayed. -/
def Job.lateIf (id : Nat) (k : Job) : Job := if k.id = id then k.late else k

/-- It keeps its number. -/
@[simp] theorem Job.lateIf_id (n : Nat) (k : Job) : (k.lateIf n).id = k.id := by
  unfold Job.lateIf
  split
  · rfl
  · rfl

/-- A queue whose job of this number is delayed. -/
def Sect.lateHead (id : Nat) (x : Sect) : Sect := { x with queue := x.queue.map (Job.lateIf id) }

/-- The first queued job of a section, and its copy, are delayed: of the sections only jobs in queues change. -/
theorem delayHead_sect (i : Fin 4) (s : State) (hi : 2 ≤ i.1) : Only [.pma] s (delayHead i s)
    ∧ (∀ k, ∃ g : Job → Job, (∀ a, (g a).id = a.id) ∧ (delayHead i s).sect k = { s.sect k with queue := (s.sect k).queue.map g })
    ∧ ∀ a ∈ ((delayHead i s).sect i).queue.head?, a.delayed = true := by
  unfold delayHead
  cases hq : (s.sect i).queue with
  | nil =>
    refine ⟨.refl _ s, fun k => ⟨id, fun _ => rfl, by rw [List.map_id]⟩, fun a ha => ?_⟩
    dsimp only at ha
    rw [hq] at ha
    cases ha
  | cons j more =>
    have hstate : ([2, 3].foldl (fun s (i : Fin 4) => setSect i (fun x => { x with
        queue := x.queue.map fun k => if k.id = j.id then k.late else k }) s) s)
      = setSect 3 (Sect.lateHead j.id) (setSect 2 (Sect.lateHead j.id) s) := rfl
    dsimp only
    rw [hstate]
    refine ⟨(only_setSect s 2 _).trans (only_setSect _ 3 _), fun k => ?_, fun a ha => ?_⟩
    · rw [setSect_pair]
      split
      · exact ⟨Job.lateIf j.id, Job.lateIf_id j.id, rfl⟩
      · exact ⟨id, fun _ => rfl, by rw [List.map_id]⟩
    · rw [setSect_pair, if_pos hi, Sect.lateHead, hq] at ha
      simp only [List.map_cons, List.head?_cons, Option.mem_def, Option.some.injEq] at ha
      rw [← ha, Job.lateIf, if_pos rfl]
      rfl

/-- What a forced gap step does (R131): the step begins and is counted, and the job that waits first is delayed. -/
structure GapForced (i : Fin 4) (s t : State) : Prop where
  /-- the step -/
  gap : (t.sect i).gap = true
  /-- FORCED -/
  forced : (t.sect i).forced = satAdd (s.sect i).forced 1
  /-- FORCED_GAP -/
  cause : bit t.pma.irq 5 = true
  /-- the jobs queued are the same -/
  jobs : ∀ k, (t.sect k).queue.map (·.id) = (s.sect k).queue.map (·.id)
  /-- the first of them waits -/
  head : ∀ a ∈ (t.sect i).queue.head?, a.delayed = true
  /-- the other sections but for their queues -/
  others : ∀ k, k ≠ i → { t.sect k with queue := [] } = { s.sect k with queue := [] }

/-- FORCED_GAP_STEP (R131). -/
theorem does_forcedGapStep {i : Fin 4} {s : State} (hp : s.powered = true) (hi : 2 ≤ i.1) (hon : s.s23On = true) (hin : s.inService i = true)
    (hr : (s.sect i).running = none) (hg : (s.sect i).gap = false) (hdue : (s.sect i).gapAt + 100 * ms ≤ s.clk.tempo) :
    Does (.forcedGapStep i) [.pma] s (GapForced i s) := by
  have hexec : exec (.forcedGapStep i) s = act s (decide (2 ≤ i.1) && s.s23On && s.inService i && (s.sect i).running.isNone && !(s.sect i).gap
      && decide ((s.sect i).gapAt + 100 * ms ≤ s.clk.tempo))
      (pmaCause 5 (setSect i (fun x => { x with gap := true, forced := satAdd x.forced 1 }) (delayHead i s))) := rfl
  obtain ⟨hframe, hlate, hhead⟩ := delayHead_sect i s hi
  generalize delayHead i s = u at hexec hframe hlate hhead
  have hat := setSect_at i (fun x => { x with gap := true, forced := satAdd x.forced 1 }) u
  have hoff (k : Fin 4) (hk : k ≠ i) := setSect_off hk (fun x => { x with gap := true, forced := satAdd x.forced 1 }) u
  have hwhole := (hframe.trans (only_setSect u i fun x => { x with gap := true, forced := satAdd x.forced 1 })).trans (only_pmaCause _ 5)
  generalize setSect i (fun x => { x with gap := true, forced := satAdd x.forced 1 }) u = v at hexec hat hoff hwhole
  refine does_of_act hexec hp (by simp [hi, hon, hin, hr, hg, hdue]) hwhole fun _ _ => ?_
  have hqueue (k : Fin 4) : (v.sect k).queue = (u.sect k).queue := by
    by_cases hk : k = i
    · rw [hk, hat]
    · rw [hoff k hk]
  refine ⟨congrArg Sect.gap hat, ?_, (bit_setBit _ (by decide) true 5).trans (if_pos rfl), fun k => ?_, ?_, fun k hk => ?_⟩
  · obtain ⟨g, -, e⟩ := hlate i
    exact (congrArg Sect.forced hat).trans (by rw [e])
  · obtain ⟨g, hg, e⟩ := hlate k
    refine (congrArg (List.map Job.id) (hqueue k)).trans ?_
    rw [e, List.map_map]
    exact List.map_congr_left fun a _ => hg a
  · show ∀ a ∈ (v.sect i).queue.head?, a.delayed = true
    rw [hqueue]
    exact hhead
  · show { v.sect k with queue := [] } = _
    obtain ⟨g, -, e⟩ := hlate k
    rw [hoff k hk, e]

/-- Once a forced gap step is due no job starts (R131). -/
theorem pmaJobRun_waits {i : Fin 4} {s : State} (hi : 2 ≤ i.1) (hdue : (s.sect i).gapAt + 100 * ms ≤ s.clk.tempo) :
    exec (.pmaJobRun i) s = .next s := by
  have hrun : s.canRun i = false := by
    rw [State.canRun, decide_eq_false (not_lt.2 hdue), Bool.and_false, Bool.false_and]
  have h23 : i = 2 ∨ i = 3 := by omega
  show execPmaJobRun i s = _
  unfold execPmaJobRun
  split
  · rfl
  · split
    · refine act_not _ _ _ (.inr ?_)
      rcases h23 with rfl | rfl
      · simp [hrun]
      · simp [hrun]
    · exact act_not _ _ _ (.inr (by rw [hrun, Bool.and_false]))

/-! ### The obligation on intonation and calibration -/

/-- Settles O28: a section's intonation by `does_intonationSectionDone`; steps by `does_rotationStep`, `does_gapStepStart` and
`does_forcedGapStep`, their ends by `does_rotationReturn` and `does_gapStepEnd`, as `Calibrated` says; no job starts where a step is forced
(`pmaJobRun_waits`). -/
theorem sectionsIntoneAndCalibrate : Obligations.SectionsIntoneAndCalibrate := by
  unfold Obligations.SectionsIntoneAndCalibrate
  refine ⟨fun i r s hp hrun hi hturn => ?intonation, fun i eb bad r j c s hp => ?calibration⟩
  case intonation =>
    refine (does_intonationSectionDone hp hrun hi hturn).imp fun t h => ?_
    refine ⟨h.ready, ?_, ?_, ?_, ?_, h.figure, h.retired, h.lanes, h.lasers, by rw [h.run, hrun, Bool.true_and]⟩
    · rw [h.rings, and_not_and]
    · rw [h.rings, and_not_and_not]
    · rw [h.rows, and_not_and_not]
    · rw [h.rows, and_not_and]
  case calibration =>
    intro x serves ended others
    have hended {covers : PmaRing → Bool} {covered : Prop} {f : Sect → Sect} {t : State} (h : Calibrated i eb covers bad f s t)
        (hf : (f x).steps = x.steps) (hcov : covered → covers r = true) : ended covered t := by
      refine ⟨by rw [h.sect, ← hf]; rfl, by rw [h.sect]; rfl, by rw [h.sect]; rfl, h.none, fun hs hc => ?_⟩
      obtain ⟨hr, hserves⟩ := hs
      exact h.rings r hr hserves (hcov hc)
    refine ⟨fun hi hin hr hch hsw hdue => does_rotationStep hp hi hin hr hch hsw hdue, fun hj hc => ?back,
      fun hi hon hin hr hq hg hdue => does_gapStepStart hp hi hon hin hr hq hg hdue, fun hi hon hin hr hg hdue => ?forced, fun hg => ?gapEnd,
      fun hi hdue => pmaJobRun_waits hi hdue⟩
    case back =>
      refine (does_rotationReturn hp hj hc).imp fun t h => ?_
      exact ⟨congrArg Sect.rotating h.sect, congrArg Sect.rotNext h.sect, hended h rfl fun hcov => decide_eq_true hcov, h.others⟩
    case forced =>
      exact (does_forcedGapStep hp hi hon hin hr hg hdue).imp fun t h => ⟨h.gap, h.forced, h.cause, h.jobs, h.head, h.others⟩
    case gapEnd =>
      refine (does_gapStepEnd hp hg).imp fun t h => ?_
      refine ⟨congrArg Sect.gap h.sect, congrArg Sect.gapAt h.sect, (congrArg Sect.held h.sect :), (congrArg Sect.heldW h.sect :), h.others,
        hended h rfl fun hcov => ?_⟩
      obtain ⟨h17, hrow⟩ := hcov
      exact gapCovers_of h17 hrow

end Sys2Proof.Machine
end

section
/-! PROOFS. Failures of rings, rows and lasers (O29): first the strikes and hard failures of the ledger, then what the moves of lanes and the
boundaries of sections keep, then the commands. -/

namespace Sys2Proof.Machine

/-! ### Strikes and hard failures (23_repair.md R402..R404) -/

/-- What a permanent unit is after more records: failed. -/
theorem foundFailed_permanent (u : UnitRef) (cls : BitVec 2) (n : Nat) (s : State) : FoundFailed u (permanent u cls n s) := by
  unfold permanent
  split
  case isTrue h =>
    rcases Bool.or_eq_true_iff.1 h with h | h
    · exact .inl h
    · obtain ⟨p, hp, hu⟩ := List.any_eq_true.1 h
      exact .inr ⟨p, hp, of_decide_eq_true hu⟩
  case isFalse => exact .inr ⟨(u, cls, n), List.mem_append_right _ List.mem_cons_self, rfl⟩

/-- A failed unit stays one while others fail. -/
theorem FoundFailed.permanent {u : UnitRef} {s : State} (h : FoundFailed u s) (v : UnitRef) (cls : BitVec 2) (n : Nat) :
    FoundFailed u (permanent v cls n s) := by
  unfold Machine.permanent
  split
  · exact h
  · refine h.imp id ?_
    rintro ⟨p, hp, hu⟩
    exact ⟨p, List.mem_append_left _ hp, hu⟩

/-- Failed units are the health records'. -/
theorem FoundFailed.congr {u : UnitRef} {s t : State} (h : FoundFailed u s) (hh : t.hlt = s.hlt) : FoundFailed u t := by
  unfold FoundFailed State.isRetired at h ⊢
  rw [hh]
  exact h

/-- An event recorded stands first in the first record of its unit (R404). -/
theorem record_find {cap t : Nat} {u : UnitRef} {rs us : List Strikes} (h : record cap t u rs = some us) :
    ∃ r, us.find? (fun r => decide (r.unit = u)) = some r ∧ r.events.head? = some t := by
  have hnew {l : List Strikes} (hl : ∀ r ∈ l, r.unit ≠ u) : 
      ∃ r, (l ++ [({ unit := u, events := [t] } : Strikes)]).find? (fun r => decide (r.unit = u)) = some r
      ∧ r.events.head? = some t := by
    have hnone : l.find? (fun r => decide (r.unit = u)) = none := List.find?_eq_none.2 fun r hr => by simpa using hl r hr
    exact ⟨{ unit := u, events := [t] }, by simp [List.find?_append, hnone], rfl⟩
  unfold record at h
  split at h
  case isTrue hany =>
    obtain ⟨r, hr, hu⟩ := List.any_eq_true.1 hany
    have hsome : (rs.find? fun r => decide (r.unit = u)).isSome = true := List.find?_isSome.2 ⟨r, hr, hu⟩
    obtain ⟨q, hq⟩ := Option.isSome_iff_exists.1 hsome
    have hqu : q.unit = u := by simpa using List.find?_some hq
    have hkeep : ((fun r : Strikes => decide (r.unit = u)) ∘ fun r => if r.unit = u then { r with events := t :: recent t r.events } else r)
        = fun r => decide (r.unit = u) := by
      funext r
      dsimp only [Function.comp]
      split
      · rfl
      · rfl
    rw [← Option.some.inj h]
    refine ⟨_, by rw [List.find?_map, hkeep, hq]; rfl, ?_⟩
    dsimp only
    rw [if_pos hqu]
    rfl
  case isFalse hany =>
    have hother : ∀ r ∈ rs, r.unit ≠ u := fun r hr hu => hany (List.any_eq_true.2 ⟨r, hr, decide_eq_true hu⟩)
    split at h
    · rw [← Option.some.inj h]
      exact hnew hother
    · dsimp only at h
      split at h
      · split at h
        · cases h
        · rw [← Option.some.inj h]
          exact hnew fun r hr => hother r (List.mem_of_mem_filter hr)
      · cases h

/-- A unit declared permanent leaves the causes and the unit records. -/
theorem permanent_hlt (u : UnitRef) (cls : BitVec 2) (n : Nat) (s : State) : ∃ p, (permanent u cls n s).hlt = { s.hlt with permanent := p } := by
  unfold permanent
  split
  · exact ⟨_, rfl⟩
  · exact ⟨_, rfl⟩

/-- A strike (R402, R403). -/
theorem struck_strike (u : UnitRef) (s : State) : Struck u s (strike u s) := by
  unfold Struck strike
  split
  case isTrue => rfl
  case isFalse hret =>
    dsimp only
    have hcause : bit (setBit s.hlt.irq 0 true) 0 = true := (bit_setBit _ (by decide) true 0).trans (if_pos rfl)
    split
    case h_1 => exact ⟨hcause, .inr ⟨rfl, rfl⟩⟩
    case h_2 us hus =>
      obtain ⟨r, hr, hhead⟩ := record_find hus
      have hmem := List.mem_of_find?_eq_some hr
      have hunit : r.unit = u := by simpa using List.find?_some hr
      generalize hv : ({ s with hlt := { s.hlt with irq := setBit s.hlt.irq 0 true, units := us } } : State) = v
      have hcount : v.strikesOf u = r.events.length := by
        rw [← hv, State.strikesOf, hr]
        rfl
      have hirq : bit v.hlt.irq 0 = true := hv ▸ hcause
      have hunits : r ∈ v.hlt.units := hv ▸ hmem
      rw [hcount]
      split
      case isTrue =>
        obtain ⟨p, e⟩ := permanent_hlt u 1 r.events.length v
        rw [e]
        exact ⟨hirq, .inl ⟨r, hunits, hunit, hhead, fun _ => foundFailed_permanent u 1 _ v⟩⟩
      case isFalse h3 => exact ⟨hirq, .inl ⟨r, hunits, hunit, hhead, fun h => absurd h h3⟩⟩

/-- A strike is a health record. -/
theorem only_strike (u : UnitRef) (s : State) : Only [.hlt] s (strike u s) := by
  unfold strike
  split
  · exact .refl _ s
  · dsimp only
    split
    · exact only_hlt _ s
    · split
      · exact (only_hlt _ s).trans (only_permanent _ u 1 _)
      · exact only_hlt _ s

/-! ### What work on sections keeps (Table 6.6, R134) -/

/-- Nothing of a section has changed but its lanes, its service, and the delay of its jobs. -/
def LanesShift (x y : Sect) : Prop := ∃ (g : Job → Job) (carriers : List Nat) (retired : Bool) (rotating : Option Nat), (∀ a, (g a).id = a.id)
  ∧ y = { x with carriers := carriers, retired := retired, rotating := rotating, running := x.running.map g, queue := x.queue.map g }

/-- Nothing shifted. -/
theorem LanesShift.refl (x : Sect) : LanesShift x x := ⟨id, x.carriers, x.retired, x.rotating, fun _ => rfl, by simp⟩

/-- A change of the lanes and the service. -/
theorem LanesShift.of {x : Sect} {carriers : List Nat} {retired : Bool} {rotating : Option Nat} :
    LanesShift x { x with carriers := carriers, retired := retired, rotating := rotating } :=
  ⟨id, carriers, retired, rotating, fun _ => rfl, by simp⟩

/-- One after the other. -/
theorem LanesShift.trans {x y z : Sect} (h : LanesShift x y) (h' : LanesShift y z) : LanesShift x z := by
  obtain ⟨g, _, _, _, hg, rfl⟩ := h
  obtain ⟨g', c, b, o, hg', rfl⟩ := h'
  exact ⟨g' ∘ g, c, b, o, fun a => (hg' _).trans (hg a), by simp⟩

/-- Nothing of a section has changed but its rows, its lanes, its service, and the delay of its jobs. -/
def RowsShift (x y : Sect) : Prop := ∃ (rows : BitVec 17) (due : Option (Fin 17)) (spare : Bool),
  LanesShift { x with rows := rows, rowDue := due, spareRow := spare } y

/-- Lanes are part of it. -/
theorem LanesShift.rows {x y : Sect} (h : LanesShift x y) : RowsShift x y := ⟨x.rows, x.rowDue, x.spareRow, h⟩

/-- One after the other. -/
theorem RowsShift.trans {x y z : Sect} (h : RowsShift x y) (h' : RowsShift y z) : RowsShift x z := by
  obtain ⟨_, _, _, g, _, _, _, hg, rfl⟩ := h
  obtain ⟨r, d, p, g', c, b, o, hg', rfl⟩ := h'
  exact ⟨r, d, p, g' ∘ g, c, b, o, fun a => (hg' _).trans (hg a), by simp⟩

/-- A section's rings stand. -/
theorem RowsShift.ringsOk {x y : Sect} (h : RowsShift x y) : y.ringsOk = x.ringsOk := by
  obtain ⟨_, _, _, _, _, _, _, _, rfl⟩ := h
  rfl

/-- Work on sections within R: of the PMA only they, the causes that are set, READY and the lanes on their way change, and failed units stay
failed. -/
structure Worked (R : Sect → Sect → Prop) (s t : State) : Prop where
  /-- the parts touched -/
  frame : Only [.pma, .gates, .hlt, .dbg] s t
  /-- the sections -/
  sects : ∀ k, R (s.sect k) (t.sect k)
  /-- the lasers -/
  lasers : t.pma.dead = s.pma.dead ∧ t.pma.lit = s.pma.lit
  /-- the rings being tuned again, and since when S2 and S3 idle -/
  rings : t.pma.retuning = s.pma.retuning ∧ t.pma.idleAt = s.pma.idleAt
  /-- the causes -/
  causes : ∀ k, bit s.pma.irq k = true → bit t.pma.irq k = true
  /-- failed units -/
  failed : ∀ u, FoundFailed u s → FoundFailed u t

section
variable {R R' : Sect → Sect → Prop} {s t u : State}

/-- Work within a relation, then more. -/
theorem Worked.trans (h : Worked R s t) (h' : Worked R t u) (hR : ∀ {x y z}, R x y → R y z → R x z) : Worked R s u where
  frame := h.frame.trans h'.frame
  sects k := hR (h.sects k) (h'.sects k)
  lasers := ⟨h'.lasers.1.trans h.lasers.1, h'.lasers.2.trans h.lasers.2⟩
  rings := ⟨h'.rings.1.trans h.rings.1, h'.rings.2.trans h.rings.2⟩
  causes k hk := h'.causes k (h.causes k hk)
  failed v hv := h'.failed v (h.failed v hv)

/-- Work within a wider relation. -/
theorem Worked.imp (h : Worked R s t) (hR : ∀ {x y}, R x y → R' x y) : Worked R' s t :=
  ⟨h.frame, fun k => hR (h.sects k), h.lasers, h.rings, h.causes, h.failed⟩

/-- Work on lanes is work on rows and lanes. -/
theorem Worked.rows (h : Worked LanesShift s t) : Worked RowsShift s t := h.imp LanesShift.rows

/-- A change of gates, health records and events that keeps failed units. -/
theorem worked_of_only (h : Only [.gates, .hlt, .dbg] s t) (hf : ∀ u, FoundFailed u s → FoundFailed u t) (hR : ∀ x, R x x) : Worked R s t := by
  have hpma : t.pma = s.pma := h.2 .pma (by simp)
  refine ⟨h.mono (by simp), fun k => ?_, by rw [hpma]; exact ⟨rfl, rfl⟩, by rw [hpma]; exact ⟨rfl, rfl⟩,
    fun k hk => by rw [hpma]; exact hk, hf⟩
  rw [sect_congr (by rw [hpma])]
  exact hR _

/-- A change of one section. -/
theorem worked_setSect {i : Fin 4} {f : Sect → Sect} (hR : ∀ x, R x x) (hf : R (s.sect i) (f (s.sect i))) : Worked R s (setSect i f s) where
  frame := (only_setSect s i f).mono (by simp)
  sects k := by
    by_cases hk : k = i
    · subst hk
      rw [setSect_at]
      exact hf
    · rw [setSect_off hk]
      exact hR _
  lasers := ⟨rfl, rfl⟩
  rings := ⟨rfl, rfl⟩
  causes _ hk := hk
  failed _ hu := hu

/-- A cause set. -/
theorem worked_pmaCause {k : Nat} (hk : k < 7) (hR : ∀ x, R x x) (s : State) : Worked R s (pmaCause k s) :=
  ⟨(only_pmaCause s k).mono (by simp), fun j => hR (s.sect j), ⟨rfl, rfl⟩, ⟨rfl, rfl⟩, fun _ h => bit_setBit_of hk h, fun _ h => h⟩

/-- A PMA failure logged. -/
theorem worked_logPma (a b : Nat) (hR : ∀ x, R x x) (s : State) : Worked R s (logPma a b s) :=
  worked_of_only ((only_logPma s a b).mono (by simp)) (fun _ h => h.congr (logPma_hlt a b s)) hR

/-- A hard failure. -/
theorem worked_hardFail (v : UnitRef) (hR : ∀ x, R x x) (s : State) : Worked R s (hardFail v s) :=
  worked_of_only ((only_hardFail v s).mono (by simp)) (fun _ h => h.permanent v 0 _) hR

end

section
variable (s : State)

/-- A section retired. -/
theorem worked_retireSection (i : Fin 4) : Worked LanesShift s (retireSection i s) := by
  have hshut : Worked LanesShift s (setSect i Sect.shut s) := worked_setSect .refl .of
  have hlogged := (hshut.trans (worked_pmaCause (k := 2) (by decide) .refl _) .trans).trans (worked_logPma i.1 31 .refl _) .trans
  have hfailed := hlogged.trans (worked_hardFail (unit uSection i.1) .refl _) .trans
  exact ⟨hfailed.frame.trans ((only_pma _ _).mono (by simp)), hfailed.sects, hfailed.lasers, hfailed.rings, hfailed.causes, hfailed.failed⟩

/-- The jobs of a section marked as delayed. -/
def Sect.lateJobs (x : Sect) : Sect := { x with running := x.running.map Job.late, queue := x.queue.map Job.late }

/-- The moves under way when others begin: a lane that was already moving goes to its new laser only. -/
def switchingWith (ms : List LaneMove) (s : State) : List (List LaneMove) :=
  (s.pma.switching.map fun l => l.filter fun m => !ms.any fun n => decide (n.sec = m.sec) && decide (n.lane = m.lane)) ++ [ms]

/-- Lanes that start moving (R134). -/
def switchBegun (ms : List LaneMove) (s : State) : State := gatesMap GateId.isAnti Gate.force (setSect 3 Sect.lateJobs (setSect 2 Sect.lateJobs
  (pmaCause 0 { s with pma := { s.pma with switching := switchingWith ms s } })))

/-- They start where there are any. -/
theorem beginSwitch_eq (ms : List LaneMove) : beginSwitch ms s = if ms.isEmpty then s else switchBegun ms s := rfl

/-- Lanes that start moving. -/
theorem worked_switchBegun (ms : List LaneMove) : Worked LanesShift s (switchBegun ms s) := by
  have hnoted : Worked LanesShift s { s with pma := { s.pma with switching := switchingWith ms s } } :=
    ⟨(only_pma _ s).mono (by simp), fun k => .refl _, ⟨rfl, rfl⟩, ⟨rfl, rfl⟩, fun _ h => h, fun _ h => h⟩
  have hlate (u : State) (i : Fin 4) : Worked LanesShift u (setSect i Sect.lateJobs u) :=
    worked_setSect .refl ⟨Job.late, (u.sect i).carriers, (u.sect i).retired, (u.sect i).rotating, fun _ => rfl, rfl⟩
  have hjobs := ((hnoted.trans (worked_pmaCause (k := 0) (by decide) .refl _) .trans).trans (hlate _ 2) .trans).trans (hlate _ 3) .trans
  exact hjobs.trans (worked_of_only ((only_gates _ _).mono (by simp)) (fun _ h => h) .refl) .trans

/-- Lanes start moving where there are any that move. -/
theorem worked_beginSwitch (ms : List LaneMove) : Worked LanesShift s (beginSwitch ms s) := by
  rw [beginSwitch_eq]
  split
  · exact worked_of_only (.refl _ s) (fun _ h => h) .refl
  · exact worked_switchBegun s ms

/-- Lanes carried on usable channels. -/
theorem worked_carry (i : Fin 4) (n : Nat) (pref : Option Nat) : Worked LanesShift s (carry i n pref s).2 := worked_setSect .refl .of

/-- The rotation step of a section that keeps n lanes. -/
def Sect.rotatingBelow (n : Nat) (x : Sect) : Sect :=
  { x with rotating := match x.rotating with | some j => if j < n then some j else none | none => none }

/-- A lane drop is a cause and an event. -/
def dropNoted (i : Fin 4) (s : State) : State := logPma i.1 30 (pmaCause 1 s)

/-- Lanes dropped: the first n lanes stay, on usable channels. -/
def lanesDropped (i : Fin 4) (n : Nat) (s : State) : State :=
  beginSwitch (carry i n none (setSect i (Sect.rotatingBelow n) (dropNoted i s))).1
    (carry i n none (setSect i (Sect.rotatingBelow n) (dropNoted i s))).2

/-- What a section's boundary does to its lanes. -/
theorem settleLanes_eq (i : Fin 4) : settleLanes i s = if !s.inService i || decide (s.lanes i ≤ s.lanesRaw i) then s
    else if s.lanesRaw i < 8 then retireSection i (dropNoted i s) else lanesDropped i (s.lanesRaw i) s := rfl

/-- A lane drop noted. -/
theorem worked_dropNoted (i : Fin 4) : Worked LanesShift s (dropNoted i s) :=
  (worked_pmaCause (k := 1) (by decide) .refl s).trans (worked_logPma i.1 30 .refl _) .trans

/-- Lanes that the parts of a section no longer allow drop at its boundary. -/
theorem worked_settleLanes (i : Fin 4) : Worked LanesShift s (settleLanes i s) := by
  rw [settleLanes_eq]
  split
  · exact worked_of_only (.refl _ s) (fun _ h => h) .refl
  · split
    · exact (worked_dropNoted s i).trans (worked_retireSection _ i) .trans
    · exact (((worked_dropNoted s i).trans (worked_setSect .refl .of) .trans).trans (worked_carry _ i _ none) .trans).trans
        (worked_beginSwitch _ _) .trans

/-- A section whose failed row, if one is due, is replaced by the spare row. -/
def Sect.rowReplaced (x : Sect) : Sect := match x.rowDue with
  | none => x
  | some r => { x with rows := setBit x.rows r.1 false, rowDue := none
                       spareRow := bit (setBit x.rows r.1 false) 16 && decide (setBit x.rows r.1 false &&& 0xFFFF ≠ 0xFFFF) }

/-- Only rows change. -/
theorem Sect.rowsShift_rowReplaced (x : Sect) : RowsShift x x.rowReplaced := by
  unfold Sect.rowReplaced
  split
  · exact (LanesShift.refl x).rows
  · exact ⟨_, _, _, .refl _⟩

/-- Replacing a section's row. -/
theorem replaceRow_eq (i : Fin 4) : replaceRow i s = setSect i Sect.rowReplaced s := by
  cases h : (s.sect i).rowDue with
  | none =>
    have hsame : (s.sect i).rowReplaced = s.sect i := by rw [Sect.rowReplaced, h]
    have hid : modAt s.pma.sect i Sect.rowReplaced = s.pma.sect := modAt_id s.pma.sect i _ hsame
    rw [replaceRow, h, setSect, hid]
  | some r =>
    have hrow : (s.sect i).rowReplaced = { s.sect i with
        rows := setBit (s.sect i).rows r.1 false, rowDue := none
        spareRow := bit (setBit (s.sect i).rows r.1 false) 16 && decide (setBit (s.sect i).rows r.1 false &&& 0xFFFF ≠ 0xFFFF) } := by
      rw [Sect.rowReplaced, h]
    rw [replaceRow, h]
    exact congrArg (fun x => ({ s with pma := { s.pma with sect := upd s.pma.sect i x } } : State)) hrow.symm

/-- A failed row replaced. -/
theorem worked_replaceRow (i : Fin 4) : Worked RowsShift s (replaceRow i s) := by
  rw [replaceRow_eq]
  exact worked_setSect (fun x => (LanesShift.refl x).rows) (Sect.rowsShift_rowReplaced _)

/-- A section's boundary. -/
theorem worked_settleSect (i : Fin 4) : Worked RowsShift s (settleSect i s) :=
  (worked_replaceRow s i).trans (worked_settleLanes _ i).rows .trans

/-- The boundary of a section that runs no job. -/
def settleIfIdle (s : State) (i : Fin 4) : State := if (s.sect i).running.isNone then settleSect i s else s

/-- S2 and S3, one after the other. -/
theorem settleIdle_eq : settleIdle s = settleIfIdle (settleIfIdle s 2) 3 := rfl

/-- A boundary that may be one. -/
theorem worked_settleIfIdle (i : Fin 4) : Worked RowsShift s (settleIfIdle s i) := by
  unfold settleIfIdle
  split
  · exact worked_settleSect s i
  · exact worked_of_only (.refl _ s) (fun _ h => h) fun x => (LanesShift.refl x).rows

/-- The boundaries of S2 and S3. -/
theorem worked_settleIdle : Worked RowsShift s (settleIdle s) := (worked_settleIfIdle s 2).trans (worked_settleIfIdle _ 3) .trans

end

/-- A section that has lost channels carries its lanes elsewhere; the moves are collected. -/
def loseStep (pref : Fin 4 → Option Nat) (a : List LaneMove × State) (i : Fin 4) : List LaneMove × State :=
  if a.2.inService i then (a.1 ++ (carry i (a.2.lanes i) (pref i) a.2).1, (carry i (a.2.lanes i) (pref i) a.2).2) else a

/-- Sections that have lost channels, then the boundaries of those that run no job. -/
theorem loseChans_eq (is : List (Fin 4)) (pref : Fin 4 → Option Nat) (s : State) : loseChans is pref s =
    settleIdle (beginSwitch (is.foldl (loseStep pref) ([], s)).1 (is.foldl (loseStep pref) ([], s)).2) := rfl

/-- Lanes carried elsewhere. -/
theorem worked_foldl_loseStep (pref : Fin 4 → Option Nat) (is : List (Fin 4)) (a : List LaneMove × State) :
    Worked LanesShift a.2 (is.foldl (loseStep pref) a).2 := by
  refine List.foldlRecOn (motive := fun b : List LaneMove × State => Worked LanesShift a.2 b.2) is _
    (worked_of_only (.refl _ a.2) (fun _ h => h) .refl) fun b hb i _ => ?_
  unfold loseStep
  split
  · exact hb.trans (worked_carry _ i _ _) .trans
  · exact hb

/-- Channels lost (R133, R134). -/
theorem worked_loseChans (is : List (Fin 4)) (pref : Fin 4 → Option Nat) (s : State) : Worked RowsShift s (loseChans is pref s) := by
  rw [loseChans_eq]
  exact ((worked_foldl_loseStep pref is ([], s)).trans (worked_beginSwitch _ _) .trans).rows.trans (worked_settleIdle _) .trans

/-! ### Rows (Table 6.6) -/

/-- Any change of sections. -/
def SectTouched (_ _ : Sect) : Prop := True

/-- A row that has failed waits for the boundary. -/
def rowMarked (i : Fin 4) (r : Fin 17) (s : State) : State :=
  setSect i (fun x => { x with rowDue := some r }) (hardFail (unit uRow (i.1 * 32 + r.1)) (logPma i.1 r.1 (replaceRow i s)))

/-- The boundary of an idle S2 or S3 is at once. -/
theorem rowFail_eq (i : Fin 4) (r : Fin 17) (s : State) : rowFail i r s =
    if 2 ≤ i.1 && ((rowMarked i r s).sect i).running.isNone then settleSect i (rowMarked i r s) else rowMarked i r s := rfl

/-- A row that has failed. -/
theorem worked_rowMarked (i : Fin 4) (r : Fin 17) (s : State) : Worked RowsShift s (rowMarked i r s) := by
  have hrefl (x : Sect) : RowsShift x x := (LanesShift.refl x).rows
  have hfailed := ((worked_replaceRow s i).trans (worked_logPma i.1 r.1 hrefl _) .trans).trans
    (worked_hardFail (unit uRow (i.1 * 32 + r.1)) hrefl _) .trans
  exact hfailed.trans (worked_setSect hrefl ⟨_, _, _, .refl _⟩) .trans

/-- A failed row: it is a hard failure, and waits for the boundary or, in an idle S2 or S3, is replaced. -/
structure RowFailed (i : Fin 4) (r : Fin 17) (s t : State) : Prop extends Worked RowsShift s t where
  /-- the hard failure -/
  unit : FoundFailed (Machine.unit uRow (i.1 * 32 + r.1)) t
  /-- a section at its boundary -/
  idle : 2 ≤ i.1 → (s.sect i).running = none → bit (t.sect i).rows r.1 = false ∧ (t.sect i).rowDue = none
  /-- another -/
  busy : i.1 < 2 ∨ (s.sect i).running ≠ none → (t.sect i).rowDue = some r

/-- What a row's failure does. -/
theorem rowFail_spec (i : Fin 4) (r : Fin 17) (s : State) : RowFailed i r s (rowFail i r s) := by
  have hmarked := worked_rowMarked i r s
  have hunit : FoundFailed (unit uRow (i.1 * 32 + r.1)) (rowMarked i r s) := foundFailed_permanent _ _ _ _
  have hdue : ((rowMarked i r s).sect i).rowDue = some r := by rw [rowMarked, setSect_at]
  have hrun : ((rowMarked i r s).sect i).running = none ↔ (s.sect i).running = none := by
    obtain ⟨_, _, _, g, _, _, _, _, e⟩ := hmarked.sects i
    rw [e]
    exact Option.map_eq_none_iff
  have hcond : (decide (2 ≤ i.1) && ((rowMarked i r s).sect i).running.isNone) = true ↔ 2 ≤ i.1 ∧ (s.sect i).running = none := by
    rw [Bool.and_eq_true, decide_eq_true_iff, Option.isNone_iff_eq_none, hrun]
  rw [rowFail_eq]
  generalize rowMarked i r s = u at hmarked hunit hdue hcond ⊢
  by_cases h : 2 ≤ i.1 ∧ (s.sect i).running = none
  · rw [if_pos (hcond.2 h)]
    have hsettled := worked_settleSect u i
    refine ⟨hmarked.trans hsettled .trans, hsettled.failed _ hunit, fun _ _ => ?_, fun hb => ?_⟩
    · have hlanes := (worked_settleLanes (replaceRow i u) i).sects i
      obtain ⟨g, _, _, _, -, e⟩ := hlanes
      have hrow : (settleSect i u).sect i = _ := e
      rw [hrow]
      rw [replaceRow_eq, setSect_at, Sect.rowReplaced, hdue]
      exact ⟨(bit_setBit _ r.2 false r.1).trans (if_pos rfl), rfl⟩
    · rcases hb with hb | hb
      · exact absurd h.1 (not_le.2 hb)
      · exact absurd h.2 hb
  · rw [if_neg (mt hcond.1 h)]
    exact ⟨hmarked, hunit, fun h2 hn => absurd ⟨h2, hn⟩ h, fun _ => hdue⟩

/-! ### Rings (R120, R133) -/

/-- A channel that has become unusable in a section: its rings hold no lock. -/
theorem dropChan_spec (i : Fin 4) (c : Fin 18) (s : State) :
    Worked SectTouched s (dropChan i c s) ∧ bit ((dropChan i c s).sect i).ringsOk c.1 = false := by
  have hlost : Worked SectTouched s (setSect i (fun x => { x with ringsOk := setBit x.ringsOk c.1 false, rotating := none }) s) :=
    worked_setSect (fun _ => trivial) trivial
  have hbit : bit ((setSect i (fun x => { x with ringsOk := setBit x.ringsOk c.1 false, rotating := none }) s).sect i).ringsOk c.1 = false := by
    rw [setSect_at]
    exact (bit_setBit _ c.2 false c.1).trans (if_pos rfl)
  have hmoved := worked_loseChans [i] (fun _ => if s.rotOwn i = some c.1 then some (s.rotChan i) else none)
    (setSect i (fun x => { x with ringsOk := setBit x.ringsOk c.1 false, rotating := none }) s)
  refine ⟨hlost.trans (hmoved.imp fun _ => trivial) fun _ _ => trivial, ?_⟩
  exact (congrArg (bit · c.1) (hmoved.sects i).ringsOk).trans hbit

/-- A channel out of use in a section, and with it a failed unit. -/
structure ChanFailed (i : Fin 4) (c : Fin 18) (u : UnitRef) (s t : State) : Prop extends Worked SectTouched s t where
  /-- the channel -/
  chan : bit (t.sect i).ringsOk c.1 = false
  /-- the unit -/
  unit : FoundFailed u t

/-- A failed channel. -/
theorem chanFail_spec (i : Fin 4) (c : Fin 18) (s : State) : ChanFailed i c (unit uChan (i.1 * 32 + c.1)) s (chanFail i c s) := by
  have hlogged : Worked SectTouched s (logPma i.1 c.1 s) := worked_logPma _ _ (fun _ => trivial) s
  have hfailed := hlogged.trans (worked_hardFail (unit uChan (i.1 * 32 + c.1)) (fun _ => trivial) _) fun _ _ => trivial
  obtain ⟨hdropped, hbit⟩ := dropChan_spec i c (hardFail (unit uChan (i.1 * 32 + c.1)) (logPma i.1 c.1 s))
  exact ⟨hfailed.trans hdropped fun _ _ => trivial, hbit, hdropped.failed _ (foundFailed_permanent _ _ _ _)⟩

/-- A failed row of a channel that carries a lane. -/
theorem laneRowFail_spec (i : Fin 4) (c : Fin 18) (w : Fin 17) (s : State) :
    ChanFailed i c (unit uRow (i.1 * 32 + w.1)) s (rowFail i w (dropChan i c s)) := by
  obtain ⟨hdropped, hbit⟩ := dropChan_spec i c s
  have hrow := rowFail_spec i w (dropChan i c s)
  exact ⟨hdropped.trans (hrow.toWorked.imp fun _ => trivial) fun _ _ => trivial, (congrArg (bit · c.1) (hrow.sects i).ringsOk).trans hbit, hrow.unit⟩

/-- The channel carries a lane of the section. -/
def CarriesLane (s : State) (i : Fin 4) (c : Nat) : Prop := ∃ k, k < s.lanes i ∧ s.laneChan i k = c

/-- What a failed ring does (Table 6.6). -/
def ringFailed (r : PmaRing) (s : State) : State := match r.row with
  | none => chanFail r.sec r.chan s
  | some w => weightFail r.sec r.chan w s

/-- A failed ring takes its channel out of use; the unit that fails is the ring's, or the channel where no lane is on it. -/
theorem ringFailed_spec (r : PmaRing) (s : State) : ∃ u, ChanFailed r.sec r.chan u s (ringFailed r s)
    ∧ (r.row = none ∨ CarriesLane s r.sec r.chan.1 → u = ringUnit r)
    ∧ (¬CarriesLane s r.sec r.chan.1 → u = unit uChan (r.sec.1 * 32 + r.chan.1)) := by
  have hlane : ((List.range (s.lanes r.sec)).any fun k => decide (s.laneChan r.sec k = r.chan.1)) = true ↔ CarriesLane s r.sec r.chan.1 := by
    simp [CarriesLane]
  unfold ringFailed ringUnit
  cases hw : r.row with
  | none => exact ⟨_, chanFail_spec r.sec r.chan s, fun _ => rfl, fun _ => rfl⟩
  | some w =>
    dsimp only
    unfold weightFail
    by_cases h : CarriesLane s r.sec r.chan.1
    · rw [if_pos (hlane.2 h)]
      exact ⟨_, laneRowFail_spec r.sec r.chan w s, fun _ => rfl, fun hn => absurd h hn⟩
    · rw [if_neg (mt hlane.1 h)]
      refine ⟨_, chanFail_spec r.sec r.chan s, fun hn => ?_, fun _ => rfl⟩
      rcases hn with hn | hn
      · cases hn
      · exact absurd hn h

/-- The state in which a ring is no longer being tuned again. -/
def ringTuned (r : PmaRing) (s : State) : State := { s with pma := { s.pma with retuning := s.pma.retuning.filter fun x => !decide (x = r) } }

section
variable {r : PmaRing} {s : State}

/-- RING_LOCK_LOSS (R120). -/
theorem does_ringLockLoss (hp : s.powered = true) (hs : (s.sect r.sec).ready = true) (hr : r ∉ s.pma.retuning) :
    Does (.ringLockLoss r) [.pma] s fun t => t.pma = { s.pma with retuning := s.pma.retuning ++ [r] } := by
  have hany : s.pma.retuning.any (fun x => decide (x = r)) = false := List.any_eq_false.2 fun x hx h => hr (of_decide_eq_true h ▸ hx)
  have hexec : exec (.ringLockLoss r) s = act s ((s.sect r.sec).ready && !s.pma.retuning.any (fun x => decide (x = r))) (ringLost r s) := rfl
  rw [ringLost, hany, if_neg Bool.false_ne_true] at hexec
  exact does_of_act hexec hp (by rw [hs]; rfl) (only_pma _ s) fun _ _ => rfl

/-- RING_REINTONE_DONE ends a ring's tuning. -/
theorem retuning_any (hr : r ∈ s.pma.retuning) : s.pma.retuning.any (fun x => decide (x = r)) = true :=
  List.any_eq_true.2 ⟨r, hr, decide_eq_true rfl⟩

/-- A ring that relocks is a strike (R120). -/
theorem does_ringRelocked (hp : s.powered = true) (hr : r ∈ s.pma.retuning) : Does (.ringReintoneDone r true) [.pma, .hlt] s fun t =>
    t.pma = { s.pma with retuning := s.pma.retuning.filter fun x => !decide (x = r) } ∧ Struck (ringUnit r) s t := by
  have hexec : exec (.ringReintoneDone r true) s = act s (s.pma.retuning.any fun x => decide (x = r)) (strike (ringUnit r) (ringTuned r s)) := rfl
  have hframe := only_strike (ringUnit r) (ringTuned r s)
  have hpma : (strike (ringUnit r) (ringTuned r s)).pma = (ringTuned r s).pma := hframe.2 .pma (by simp)
  have hstruck := struck_strike (ringUnit r) (ringTuned r s)
  generalize strike (ringUnit r) (ringTuned r s) = u at hexec hframe hpma hstruck
  exact does_of_act hexec hp (retuning_any hr) ((only_pma (ringTuned r s).pma s).comp hframe (by simp) (by simp)) fun _ _ => ⟨hpma, hstruck⟩

/-- One that does not is a hard failure (R120, R133). -/
theorem does_ringFailed (hp : s.powered = true) (hr : r ∈ s.pma.retuning) :
    Does (.ringReintoneDone r false) [.pma, .gates, .fe, .hif, .hlt, .dbg] s fun t => r ∉ t.pma.retuning ∧ bit (t.sect r.sec).ringsOk r.chan.1 = false
      ∧ t.hif.mem = s.hif.mem ∧ (r.row = none ∨ CarriesLane s r.sec r.chan.1 → FoundFailed (ringUnit r) t)
      ∧ (¬CarriesLane s r.sec r.chan.1 → FoundFailed (unit uChan (r.sec.1 * 32 + r.chan.1)) t) := by
  have hexec : exec (.ringReintoneDone r false) s = act s (s.pma.retuning.any fun x => decide (x = r)) (ringFailed r (ringTuned r s)) := rfl
  obtain ⟨v, hfailed, hring, hchan⟩ := ringFailed_spec r (ringTuned r s)
  generalize ringFailed r (ringTuned r s) = u at hexec hfailed
  have hgone : r ∉ u.pma.retuning := by
    rw [hfailed.rings.1]
    simp [ringTuned]
  have hmem : u.hif.mem = s.hif.mem := (hfailed.frame.2 .hostMem (by simp)).1
  refine does_of_act hexec hp (retuning_any hr) ((only_pma (ringTuned r s).pma s).comp hfailed.frame (by simp) (by simp)) fun _ _ =>
    ⟨hgone, hfailed.chan, hmem, fun h => ?_, fun h => ?_⟩
  · exact hring h ▸ hfailed.unit
  · exact hchan h ▸ hfailed.unit

/-- ROW_FAULT (R133). -/
theorem does_rowFault {i : Fin 4} {w : Fin 17} (hp : s.powered = true) (hw : bit (s.sect i).rows w.1 = true) :
    Does (.rowFault i w) [.pma, .gates, .fe, .hif, .hlt, .dbg] s fun t => FoundFailed (unit uRow (i.1 * 32 + w.1)) t
      ∧ (2 ≤ i.1 ∧ (s.sect i).running = none → bit (t.sect i).rows w.1 = false ∧ (t.sect i).rowDue = none)
      ∧ (i.1 < 2 ∨ (s.sect i).running ≠ none → (t.sect i).rowDue = some w) ∧ t.hif.mem = s.hif.mem := by
  have hexec : exec (.rowFault i w) s = act s (bit (s.sect i).rows w.1) (rowFail i w s) := rfl
  have hfailed := rowFail_spec i w s
  generalize rowFail i w s = u at hexec hfailed
  have hmem : u.hif.mem = s.hif.mem := (hfailed.frame.2 .hostMem (by simp)).1
  exact does_of_act hexec hp hw (hfailed.frame.mono (by simp)) fun _ _ =>
    ⟨hfailed.unit, fun ⟨h2, hn⟩ => hfailed.idle h2 hn, hfailed.busy, hmem⟩

end

/-! ### Lanes that move to another laser (R133, R134) -/

/-- A lane on a usable channel stays. -/
theorem placeLanes_ok {ok : Nat → Bool} {c : Nat} (h : ok c = true) (cs free : List Nat) :
    placeLanes ok (c :: cs) free = c :: placeLanes ok cs free := by
  conv_lhs => unfold placeLanes
  exact if_pos h

/-- A lane on another takes the first free channel. -/
theorem placeLanes_lost {ok : Nat → Bool} {c : Nat} (h : ok c = false) (cs : List Nat) (f : Nat) (fs : List Nat) :
    placeLanes ok (c :: cs) (f :: fs) = f :: placeLanes ok cs fs := by
  rw [placeLanes, h, if_neg Bool.false_ne_true]

/-- Lanes on usable channels stay. -/
theorem placeLanes_stay {ok : Nat → Bool} {own : List Nat} (h : ∀ c ∈ own, ok c = true) (free : List Nat) : placeLanes ok own free = own := by
  induction own generalizing free with
  | nil => rfl
  | cons c cs ih =>
    rw [placeLanes_ok (h c List.mem_cons_self), ih fun d hd => h d (List.mem_cons_of_mem c hd)]

/-- The one lane whose channel is lost takes the first free channel. -/
theorem placeLanes_one {ok : Nat → Bool} {own : List Nat} {k l : Nat} (hk : own[k]? = some l) (hn : own.Nodup) (hl : ok l = false)
    (h : ∀ c ∈ own, c ≠ l → ok c = true) (f : Nat) (fs : List Nat) : placeLanes ok own (f :: fs) = own.set k f := by
  induction own generalizing k with
  | nil => simp at hk
  | cons c cs ih =>
    obtain ⟨hc, hcs⟩ := List.nodup_cons.1 hn
    cases k with
    | zero =>
      obtain rfl : c = l := by simpa using hk
      have hstay : placeLanes ok cs fs = cs := placeLanes_stay (fun d hd => h d (List.mem_cons_of_mem c hd) fun e => hc (e ▸ hd)) fs
      rw [placeLanes_lost hl, hstay]
      rfl
    | succ k =>
      have hkcs : cs[k]? = some l := by simpa using hk
      have hcl : c ≠ l := fun e => hc (e ▸ List.mem_of_getElem? hkcs)
      rw [placeLanes_ok (h c List.mem_cons_self hcl), ih hkcs hcs fun d hd => h d (List.mem_cons_of_mem c hd)]
      rfl

/-- Lanes with that one moved are on usable channels. -/
theorem ok_of_mem_set {ok : Nat → Bool} {own : List Nat} {k l f : Nat} (hk : own[k]? = some l) (hn : own.Nodup)
    (h : ∀ c ∈ own, c ≠ l → ok c = true) (hf : ok f = true) : ∀ c ∈ own.set k f, ok c = true := by
  intro c hc
  obtain ⟨m, hm⟩ := List.mem_iff_getElem?.1 hc
  rw [List.getElem?_set] at hm
  split at hm
  case isTrue hkm =>
    split at hm
    · rw [← Option.some.inj hm]
      exact hf
    · cases hm
  case isFalse hkm =>
    refine h c (List.mem_of_getElem? hm) fun e => hkm ?_
    exact (List.getElem?_inj (List.getElem?_eq_some_iff.1 hk).1 hn).1 (hk.trans (e ▸ hm).symm)

/-- The moves that new channels make of the lanes of a section. -/
def lanesMoved (i : Fin 4) (own new : List Nat) : List LaneMove :=
  (own.zip new).zipIdx.filterMap fun (m, k) => if m.1 = m.2 then none else some { sec := i, lane := k, onto := m.2 }

/-- They are of the section. -/
theorem sec_of_mem_lanesMoved {i : Fin 4} {own new : List Nat} {m : LaneMove} (h : m ∈ lanesMoved i own new) : m.sec = i := by
  obtain ⟨⟨⟨a, b⟩, k⟩, -, e⟩ := List.mem_filterMap.1 h
  dsimp only at e
  split at e
  · cases e
  · rw [← Option.some.inj e]

/-- Lanes that stay move nowhere. -/
theorem lanesMoved_stay (i : Fin 4) (own : List Nat) : lanesMoved i own own = [] := by
  refine List.filterMap_eq_nil_iff.2 ?_
  rintro ⟨⟨a, b⟩, k⟩ h
  have hzip : (own.zip own)[k]? = some (a, b) := (List.mem_zipIdx_iff_getElem?).1 h
  obtain ⟨ha, hb⟩ := List.getElem?_zip_eq_some.1 hzip
  exact if_pos (Option.some.inj (ha.symm.trans hb))

/-- A lane whose channel changes moves. -/
theorem mem_lanesMoved {i : Fin 4} {own new : List Nat} {k a b : Nat} (ha : own[k]? = some a) (hb : new[k]? = some b) (hne : a ≠ b) :
    { sec := i, lane := k, onto := b } ∈ lanesMoved i own new := by
  refine List.mem_filterMap.2 ⟨((a, b), k), List.mem_zipIdx_iff_getElem?.2 ?_, if_neg hne⟩
  exact List.getElem?_zip_eq_some.2 ⟨ha, hb⟩

/-- The free channels of a section in the order in which its lanes take them: the preferred one first. -/
def freeFirst (i : Fin 4) (own : List Nat) (pref : Option Nat) (s : State) : List Nat :=
  let free := (s.chanList i).filter fun c => !own.contains c
  match pref with
  | some c => if free.contains c then c :: free.filter fun f => f ≠ c else free
  | none => free

/-- The new channels of the first n lanes. -/
def newCarriers (i : Fin 4) (n : Nat) (pref : Option Nat) (s : State) : List Nat :=
  placeLanes (fun c => bit (s.chans i) c) ((s.sect i).carriers.take n) (freeFirst i ((s.sect i).carriers.take n) pref s)

/-- Carrying lanes gives them their new channels, with the moves. -/
theorem carry_eq (i : Fin 4) (n : Nat) (pref : Option Nat) (s : State) : carry i n pref s =
    (lanesMoved i ((s.sect i).carriers.take n) (newCarriers i n pref s), setSect i (fun x => { x with carriers := newCarriers i n pref s }) s) := rfl

/-- Every lane of the section is on a usable channel. -/
def LanesUsable (i : Fin 4) (s : State) : Prop := ∀ c ∈ (s.sect i).carriers, bit (s.chans i) c = true

/-- The move is under way. -/
def LaneMoving (m : LaneMove) (s : State) : Prop := ∃ ms ∈ s.pma.switching, m ∈ ms

/-- The move is under way, and every lane of its section is on a usable channel. -/
def MovesOn (m : LaneMove) (s : State) : Prop := LaneMoving m s ∧ LanesUsable m.sec s

section
variable {m : LaneMove} {s t : State}

/-- Both stand where the lanes of the section, its usable channels and the moves stand; the section may lose lanes. -/
theorem MovesOn.congr (h : MovesOn m s) (hsw : t.pma.switching = s.pma.switching) (hc : t.chans m.sec = s.chans m.sec)
    (hl : ∀ c ∈ (t.sect m.sec).carriers, c ∈ (s.sect m.sec).carriers) : MovesOn m t := by
  obtain ⟨hm, hu⟩ := h
  refine ⟨?_, fun c hmem => ?_⟩
  · unfold LaneMoving
    rw [hsw]
    exact hm
  · rw [hc]
    exact hu c (hl c hmem)

/-- A change of a section that leaves its rings and gives it no lane. -/
theorem MovesOn.setSect (h : MovesOn m s) {i : Fin 4} {f : Sect → Sect} (hr : ∀ x, (f x).ringsOk = x.ringsOk)
    (hl : ∀ x, ∀ c ∈ (f x).carriers, c ∈ x.carriers) : MovesOn m (setSect i f s) := by
  by_cases hi : m.sec = i
  · subst hi
    refine h.congr rfl (chans_congr (by rw [setSect_at, hr]) rfl) ?_
    rw [setSect_at]
    exact hl _
  · refine h.congr rfl (chans_congr (by rw [setSect_off hi]) rfl) ?_
    rw [setSect_off hi]
    exact fun _ h => h

/-- Moves of other sections that begin. -/
theorem MovesOn.switchBegun (h : MovesOn m s) {ms : List LaneMove} (hother : ∀ n ∈ ms, n.sec ≠ m.sec) : MovesOn m (switchBegun ms s) := by
  obtain ⟨⟨l, hl, hm⟩, hu⟩ := h
  have hnoted : MovesOn m (pmaCause 0 { s with pma := { s.pma with switching := switchingWith ms s } }) := by
    refine ⟨⟨_, List.mem_append_left _ (List.mem_map.2 ⟨l, hl, rfl⟩), List.mem_filter.2 ⟨hm, ?_⟩⟩, hu⟩
    rw [Bool.not_eq_true', List.any_eq_false]
    intro n hn
    rw [decide_eq_false (hother n hn), Bool.false_and]
    exact Bool.false_ne_true
  have hlate {v : State} (hv : MovesOn m v) (i : Fin 4) : MovesOn m (Machine.setSect i Sect.lateJobs v) := hv.setSect (fun _ => rfl) fun _ _ h => h
  exact (hlate (hlate hnoted 2) 3).congr rfl rfl fun _ h => h

/-- A drop noted. -/
theorem MovesOn.dropNoted (h : MovesOn m s) (i : Fin 4) : MovesOn m (dropNoted i s) := by
  have hpma : (Machine.dropNoted i s).pma = (pmaCause 1 s).pma := logPma_pma ..
  have hsect : (Machine.dropNoted i s).sect m.sec = s.sect m.sec := sect_congr (by rw [hpma]; rfl) _
  refine h.congr (by rw [hpma]; rfl) (chans_congr (by rw [hsect]) (by rw [hpma]; rfl)) ?_
  rw [hsect]
  exact fun _ h => h

/-- A section retired. -/
theorem MovesOn.retireSection (h : MovesOn m s) (i : Fin 4) : MovesOn m (retireSection i s) := by
  have hpma := retireSection_pma i s
  have hsect : (Machine.retireSection i s).sect m.sec = (Machine.setSect i Sect.shut s).sect m.sec := sect_congr (by rw [hpma]; rfl) _
  refine (h.setSect (i := i) (f := Sect.shut) (fun _ => rfl) fun _ c hc => absurd hc List.not_mem_nil).congr (by rw [hpma]; rfl)
    (chans_congr (by rw [hsect]) (by rw [hpma]; rfl)) ?_
  rw [hsect]
  exact fun _ h => h

/-- Lanes dropped: where the section's are on usable channels none moves, and another section's moves are its own. -/
theorem MovesOn.lanesDropped (h : MovesOn m s) (i : Fin 4) (n : Nat) : MovesOn m (lanesDropped i n s) := by
  unfold Machine.lanesDropped
  have hbelow : MovesOn m (Machine.setSect i (Sect.rotatingBelow n) (Machine.dropNoted i s)) :=
    (h.dropNoted i).setSect (fun _ => rfl) fun _ _ h => h
  generalize Machine.setSect i (Sect.rotatingBelow n) (Machine.dropNoted i s) = u at hbelow ⊢
  rw [carry_eq, beginSwitch_eq]
  dsimp only
  by_cases hi : m.sec = i
  · subst hi
    have hstay : newCarriers m.sec n none u = (u.sect m.sec).carriers.take n :=
      placeLanes_stay (fun c hc => hbelow.2 c (List.mem_of_mem_take hc)) _
    rw [hstay, lanesMoved_stay, List.isEmpty_nil, if_pos rfl]
    refine hbelow.congr rfl (chans_congr (by rw [setSect_at]) rfl) ?_
    rw [setSect_at]
    exact fun c hc => List.mem_of_mem_take hc
  · have hcarried : MovesOn m (Machine.setSect i (fun x => { x with carriers := newCarriers i n none u }) u) := by
      refine hbelow.congr rfl (chans_congr (by rw [setSect_off hi]) rfl) ?_
      rw [setSect_off hi]
      exact fun _ h => h
    split
    · exact hcarried
    · exact hcarried.switchBegun fun k hk e => hi ((sec_of_mem_lanesMoved hk).symm.trans e).symm

/-- A section's boundary. -/
theorem MovesOn.settleSect (h : MovesOn m s) (i : Fin 4) : MovesOn m (settleSect i s) := by
  have hrow : MovesOn m (replaceRow i s) := by
    rw [replaceRow_eq]
    have hkept (x : Sect) : x.rowReplaced.ringsOk = x.ringsOk ∧ x.rowReplaced.carriers = x.carriers := by
      unfold Sect.rowReplaced
      split
      · exact ⟨rfl, rfl⟩
      · exact ⟨rfl, rfl⟩
    exact h.setSect (fun x => (hkept x).1) fun x c hc => (hkept x).2 ▸ hc
  unfold Machine.settleSect
  rw [settleLanes_eq]
  split
  · exact hrow
  · split
    · exact (hrow.dropNoted i).retireSection i
    · exact hrow.lanesDropped i _

/-- The boundaries of S2 and S3. -/
theorem MovesOn.settleIdle (h : MovesOn m s) : MovesOn m (settleIdle s) := by
  have hone {u : State} (hu : MovesOn m u) (i : Fin 4) : MovesOn m (settleIfIdle u i) := by
    unfold settleIfIdle
    split
    · exact hu.settleSect i
    · exact hu
  exact hone (hone h 2) 3

end

/-- Other sections that carry their lanes elsewhere leave a section, and the moves collected. -/
theorem foldl_loseStep_off {i : Fin 4} {is : List (Fin 4)} (hi : i ∉ is) (pref : Fin 4 → Option Nat) (a : List LaneMove × State) :
    (is.foldl (loseStep pref) a).2.sect i = a.2.sect i ∧ ∀ m ∈ a.1, m ∈ (is.foldl (loseStep pref) a).1 := by
  induction is generalizing a with
  | nil => exact ⟨rfl, fun _ h => h⟩
  | cons j is ih =>
    have hij : i ≠ j := List.ne_of_not_mem_cons hi
    have hi := List.not_mem_of_not_mem_cons hi
    obtain ⟨hsect, hmoves⟩ := ih hi (loseStep pref a j)
    rw [List.foldl_cons]
    have hstep : (loseStep pref a j).2.sect i = a.2.sect i ∧ ∀ m ∈ a.1, m ∈ (loseStep pref a j).1 := by
      unfold loseStep
      split
      · rw [carry_eq]
        exact ⟨setSect_off hij _ _, fun m hm => List.mem_append_left _ hm⟩
      · exact ⟨rfl, fun _ h => h⟩
    exact ⟨hsect.trans hstep.1, fun m hm => hmoves m (hstep.2 m hm)⟩

/-- A section in service with one lane on a channel that has been lost, every other lane on a usable one, and a free usable channel c. -/
structure LaneLost (i : Fin 4) (k l c : Nat) (s : State) : Prop where
  /-- it serves -/
  serves : s.inService i = true
  /-- the lane -/
  lane : (s.sect i).carriers[k]? = some l
  /-- no channel carries two lanes -/
  nodup : (s.sect i).carriers.Nodup
  /-- the channel lost -/
  lost : bit (s.chans i) l = false
  /-- the others -/
  others : ∀ d ∈ (s.sect i).carriers, d ≠ l → bit (s.chans i) d = true
  /-- the channel c carries nothing -/
  free : c ∉ (s.sect i).carriers
  /-- it is usable -/
  usable : bit (s.chans i) c = true

/-- It is of the section and its usable channels. -/
theorem LaneLost.congr {i : Fin 4} {k l c : Nat} {s t : State} (h : LaneLost i k l c s) (hs : t.sect i = s.sect i)
    (hd : t.pma.dead = s.pma.dead) : LaneLost i k l c t := by
  have hchans : t.chans i = s.chans i := chans_congr (by rw [hs]) hd
  obtain ⟨hserves, hlane, hnodup, hlost, hothers, hfree, husable⟩ := h
  unfold State.inService at hserves
  rw [← hs] at hserves hlane hnodup hothers hfree
  rw [← hchans] at hlost hothers husable
  exact ⟨hserves, hlane, hnodup, hlost, hothers, hfree, husable⟩

/-- The lane goes to the channel c where that is preferred: a move, after which every lane is on a usable channel. -/
theorem LaneLost.carried {i : Fin 4} {k l c : Nat} {s : State} (h : LaneLost i k l c s) :
    { sec := i, lane := k, onto := c } ∈ (carry i (s.lanes i) (some c) s).1 ∧ LanesUsable i (carry i (s.lanes i) (some c) s).2 := by
  have hlanes : s.lanes i = (s.sect i).carriers.length := by
    have hserves := h.serves
    unfold State.inService at hserves
    unfold State.lanes
    simp only [Bool.and_eq_true, Bool.not_eq_true'] at hserves
    rw [hserves.1, hserves.2]
    rfl
  have hown : (s.sect i).carriers.take (s.lanes i) = (s.sect i).carriers := by rw [hlanes, List.take_length]
  have h18 : c < 18 := BitVec.lt_of_getLsbD h.usable
  have hmem : ((s.chanList i).filter fun d => !(s.sect i).carriers.contains d).contains c = true := by
    rw [List.contains_iff_mem, List.mem_filter]
    refine ⟨List.mem_filter.2 ⟨List.mem_range.2 h18, h.usable⟩, ?_⟩
    simpa using h.free
  have hfirst : ∃ fs, freeFirst i (s.sect i).carriers (some c) s = c :: fs := ⟨_, if_pos hmem⟩
  obtain ⟨fs, hfs⟩ := hfirst
  have hnew : newCarriers i (s.lanes i) (some c) s = (s.sect i).carriers.set k c := by
    rw [newCarriers, hown, hfs]
    exact placeLanes_one h.lane h.nodup h.lost h.others c fs
  have hk : k < (s.sect i).carriers.length := (List.getElem?_eq_some_iff.1 h.lane).1
  rw [carry_eq, hnew, hown]
  refine ⟨mem_lanesMoved h.lane (List.getElem?_set_self hk) fun e => ?_, fun d hd => ?_⟩
  · exact h.free (e ▸ List.mem_of_getElem? h.lane)
  · rw [setSect_at] at hd
    have hchans : (setSect i (fun x => { x with carriers := (s.sect i).carriers.set k c }) s).chans i = s.chans i :=
      chans_congr (by rw [setSect_at]) rfl
    dsimp only
    rw [hchans]
    exact ok_of_mem_set (ok := fun d => bit (s.chans i) d) h.lane h.nodup h.others h.usable d hd

/-- In a loss of channels the lane is on its way to the channel preferred, with LASER_SWITCH (R134). -/
theorem LaneLost.moves {i : Fin 4} {k l c : Nat} {s : State} (h : LaneLost i k l c s) {pref : Fin 4 → Option Nat} (hpref : pref i = some c) :
    LaneMoving { sec := i, lane := k, onto := c } (loseChans (List.finRange 4) pref s)
      ∧ bit (loseChans (List.finRange 4) pref s).pma.irq 0 = true := by
  obtain ⟨before, after, hsplit⟩ := List.append_of_mem (List.mem_finRange i)
  have hnodup : (before ++ i :: after).Nodup := hsplit ▸ List.nodup_finRange 4
  have hbefore : i ∉ before := fun hm => (List.nodup_append.1 hnodup).2.2 i hm i List.mem_cons_self rfl
  have hafter : i ∉ after := (List.nodup_cons.1 (List.nodup_append.1 hnodup).2.1).1
  obtain ⟨hsect, -⟩ := foldl_loseStep_off hbefore pref ([], s)
  have hdead := (worked_foldl_loseStep pref before ([], s)).lasers.1
  rw [loseChans_eq, hsplit, List.foldl_append, List.foldl_cons]
  generalize before.foldl (loseStep pref) ([], s) = a at hsect hdead ⊢
  have hlost := h.congr hsect hdead
  have hstep : loseStep pref a i = (a.1 ++ (carry i (a.2.lanes i) (some c) a.2).1, (carry i (a.2.lanes i) (some c) a.2).2) := by
    rw [loseStep, hlost.serves, if_pos rfl, hpref]
  obtain ⟨hmove, husable⟩ := hlost.carried
  rw [← show (loseStep pref a i).2 = _ from congrArg Prod.snd hstep] at husable
  have hmove' : { sec := i, lane := k, onto := c } ∈ (loseStep pref a i).1 := by
    rw [hstep]
    exact List.mem_append_right _ hmove
  generalize loseStep pref a i = b at hmove' husable ⊢
  obtain ⟨hsect', hmoves⟩ := foldl_loseStep_off hafter pref b
  have hdead' := (worked_foldl_loseStep pref after b).lasers.1
  generalize after.foldl (loseStep pref) b = e at hsect' hmoves hdead' ⊢
  have hin := hmoves _ hmove'
  have hsome : e.1.isEmpty = false := List.isEmpty_eq_false_iff.2 (List.ne_nil_of_mem hin)
  have hbegun : MovesOn { sec := i, lane := k, onto := c } (beginSwitch e.1 e.2) := by
    rw [beginSwitch_eq, hsome, if_neg Bool.false_ne_true]
    refine ⟨⟨e.1, List.mem_append_right _ List.mem_cons_self, hin⟩, ?_⟩
    have hworked := worked_switchBegun e.2 e.1
    have hcarriers : ((switchBegun e.1 e.2).sect i).carriers = (e.2.sect i).carriers := by
      show ((setSect 3 Sect.lateJobs (setSect 2 Sect.lateJobs _)).sect i).carriers = _
      rw [setSect_pair]
      split
      · rfl
      · rfl
    have hchans : (switchBegun e.1 e.2).chans i = b.2.chans i :=
      (chans_congr (hworked.sects i).rows.ringsOk hworked.lasers.1).trans (chans_congr (by rw [hsect']) hdead')
    intro d hd
    dsimp only at hd ⊢
    rw [hcarriers, hsect'] at hd
    rw [hchans]
    exact husable d hd
  have hcause : bit (beginSwitch e.1 e.2).pma.irq 0 = true := by
    rw [beginSwitch_eq, hsome, if_neg Bool.false_ne_true]
    exact (bit_setBit _ (by decide) true 0).trans (if_pos rfl)
  exact ⟨hbegun.settleIdle.1, (worked_settleIdle _).causes 0 hcause⟩

/-! ### Lasers (R133, R134; 23_repair.md R402) -/

/-- A usable channel: its rings hold lock and its laser lives (R117). -/
theorem bit_chans (s : State) (i : Fin 4) {c : Nat} (hc : c < 18) : bit (s.chans i) c = (bit (s.sect i).ringsOk c && !bit s.pma.dead c) := by
  unfold State.chans bit
  rw [BitVec.getLsbD_and, BitVec.getLsbD_not, decide_eq_true hc, Bool.true_and]

/-- A lamp lit stays lit while others are. -/
theorem bit_setBit_stays {w : Nat} {a : BitVec w} {k : Nat} (h : bit a k = true) (i : Nat) : bit (setBit a i true) k = true := by
  unfold setBit bit at *
  rw [if_pos rfl, BitVec.getLsbD_or, h, Bool.true_or]

/-- Rotation steps abandoned. -/
def rotationsLeft (s : State) : State := (List.finRange 4).foldl (fun s i => setSect i (fun x => { x with rotating := none }) s) s

/-- A section of them. -/
theorem rotationsLeft_sect (s : State) (k : Fin 4) : (rotationsLeft s).sect k = { s.sect k with rotating := none } :=
  (foldl_setSect _ (List.nodup_finRange 4) s k).trans (if_pos (List.mem_finRange k))

/-- Nothing but sections is touched. -/
theorem worked_rotationsLeft (s : State) : Worked SectTouched s (rotationsLeft s) :=
  List.foldlRecOn (motive := Worked SectTouched s) _ _ (worked_of_only (.refl _ s) (fun _ h => h) fun _ => trivial) fun _ hu _ _ =>
    hu.trans (worked_setSect (fun _ => trivial) trivial) fun _ _ => trivial

/-- A laser dark and dead. -/
def laserDark (l : Nat) (s : State) : State := { s with pma := { s.pma with dead := setBit s.pma.dead l true, lit := setBit s.pma.lit l false } }

/-- A laser's failure before lanes move. -/
def laserOut (l : Fin 18) (s : State) : State := laserDark l.1 (rotationsLeft (logPma 0 l.1 (hardFail (unit uLaser l.1) s)))

/-- The channel that a section's lanes take first. -/
def laserPref (l : Fin 18) (s : State) (i : Fin 4) : Option Nat := if s.rotOwn i = some l.1 then some (s.rotChan i) else s.standby l

/-- A laser's failure: the laser is out, then its channel is lost in every section. -/
theorem laserFail_eq (l : Fin 18) (s : State) : laserFail l s = loseChans (List.finRange 4) (laserPref l s) (laserOut l s) := by
  have hkeep : (fun i : Fin 4 => (Vector.ofFn (laserPref l s))[i]) = laserPref l s := by
    funext i
    exact Vector.getElem_ofFn ..
  rw [← hkeep]
  rfl

/-- What a laser's failure leaves before lanes move: the sections but for their rotation, and the other lasers. -/
structure LaserOut (l : Fin 18) (s t : State) : Prop where
  /-- the parts touched -/
  frame : Only [.pma, .hlt, .dbg, .gates] s t
  /-- the sections -/
  sects : ∀ k, t.sect k = { s.sect k with rotating := none }
  /-- the lasers -/
  lasers : t.pma.dead = setBit s.pma.dead l.1 true ∧ t.pma.lit = setBit s.pma.lit l.1 false
  /-- the hard failure -/
  failed : FoundFailed (unit uLaser l.1) t

/-- A laser's failure before lanes move. -/
theorem laserOut_spec (l : Fin 18) (s : State) : LaserOut l s (laserOut l s) := by
  have hlogged : Worked SectTouched s (logPma 0 l.1 (hardFail (unit uLaser l.1) s)) :=
    (worked_hardFail _ (fun _ => trivial) s).trans (worked_logPma 0 l.1 (fun _ => trivial) _) fun _ _ => trivial
  have hpma : (logPma 0 l.1 (hardFail (unit uLaser l.1) s)).pma = s.pma := by rw [logPma_pma, hardFail_pma]
  have hunit : FoundFailed (unit uLaser l.1) (logPma 0 l.1 (hardFail (unit uLaser l.1) s)) :=
    (foundFailed_permanent _ _ _ _).congr (logPma_hlt ..)
  unfold laserOut
  generalize logPma 0 l.1 (hardFail (unit uLaser l.1) s) = u at hlogged hpma hunit
  have hleft := worked_rotationsLeft u
  have hsects := rotationsLeft_sect u
  generalize rotationsLeft u = v at hleft hsects
  refine ⟨((hlogged.frame.trans hleft.frame).trans ((only_pma _ v).mono (by simp))).mono (by simp), fun k => ?_, ?_, ?_⟩
  · have hsect : u.sect k = s.sect k := sect_congr (by rw [hpma]) k
    exact (hsects k).trans (congrArg (fun x : Sect => { x with rotating := none }) hsect)
  · obtain ⟨hdead, hlit⟩ := hleft.lasers
    exact ⟨by rw [← hpma, ← hdead]; rfl, by rw [← hpma, ← hlit]; rfl⟩
  · exact (hleft.failed _ hunit).congr rfl

/-- The lane on the channel of a failed laser is lost, the standby laser being dark and usable. -/
structure StandbyFree (i : Fin 4) (k : Nat) (l : Fin 18) (s : State) : Prop where
  /-- the lane -/
  lane : (s.sect i).carriers[k]? = some l.1
  /-- no channel carries two lanes -/
  nodup : (s.sect i).carriers.Nodup
  /-- the section serves -/
  serves : s.inService i = true
  /-- the lane is not being calibrated -/
  still : s.rotOwn i ≠ some l.1
  /-- the other lanes are on usable channels -/
  others : ∀ c ∈ (s.sect i).carriers, c ≠ l.1 → bit (s.chans i) c = true
  /-- the standby laser carries nothing -/
  free : 17 ∉ (s.sect i).carriers
  /-- it is usable -/
  usable : bit (s.chans i) 17 = true
  /-- it is dark -/
  dark : bit s.pma.lit 17 = false

section
variable {i : Fin 4} {k : Nat} {l : Fin 18} {s t : State} (h : StandbyFree i k l s)
include h

/-- The failed laser is not the standby laser. -/
theorem StandbyFree.ne : l.1 ≠ 17 := fun e => h.free (e ▸ List.mem_of_getElem? h.lane)

/-- The lane is to go to the standby laser. -/
theorem StandbyFree.pref : laserPref l s i = some 17 := by
  have hlive : bit s.pma.dead 17 = false := by
    have husable := h.usable
    rw [bit_chans s i (by decide), Bool.and_eq_true, Bool.not_eq_true'] at husable
    exact husable.2
  have hne : l ≠ 17 := fun e => h.ne (congrArg Fin.val e)
  rw [laserPref, if_neg h.still, State.standby, hlive, h.dark, decide_eq_true hne]
  rfl

/-- Once the laser is out the lane is lost. -/
theorem StandbyFree.laneLost (ht : LaserOut l s t) : LaneLost i k l.1 17 t := by
  have hl17 := h.ne
  obtain ⟨hlane, hnodup, hserves, -, hothers, hfree, husable, -⟩ := h
  have hsect := ht.sects i
  have hbit {c : Nat} (hc : c < 18) : bit (t.chans i) c = (bit (s.sect i).ringsOk c && !(if c = l.1 then true else bit s.pma.dead c)) := by
    rw [bit_chans t i hc, ht.lasers.1, bit_setBit _ l.2, hsect]
  have hkept {c : Nat} (hne : c ≠ l.1) (hc : bit (s.chans i) c = true) : bit (t.chans i) c = true := by
    have h18 : c < 18 := BitVec.lt_of_getLsbD hc
    rw [hbit h18, if_neg hne, ← bit_chans s i h18, hc]
  unfold State.inService at hserves
  refine ⟨?_, ?_, ?_, ?_, ?_, ?_, hkept hl17.symm husable⟩
  · rw [State.inService, hsect]
    exact hserves
  · rw [hsect]
    exact hlane
  · rw [hsect]
    exact hnodup
  · rw [hbit l.2, if_pos rfl, Bool.not_true, Bool.and_false]
  · rw [hsect]
    exact fun c hc hne => hkept hne (hothers c hc hne)
  · rw [hsect]
    exact hfree

end

/-- LASER_FAIL (R133, R134). -/
theorem does_laserFail {l : Fin 18} {s : State} (hp : s.powered = true) (hl : bit s.pma.dead l.1 = false) :
    Does (.laserFail l) [.pma, .fe, .gates, .hif, .hlt, .dbg] s fun t => bit t.pma.dead l.1 = true ∧ bit t.pma.lit l.1 = false
      ∧ FoundFailed (unit uLaser l.1) t ∧ t.hif.mem = s.hif.mem
      ∧ ∀ (i : Fin 4) (k : Nat), StandbyFree i k l s → LaneMoving { sec := i, lane := k, onto := 17 } t ∧ bit t.pma.irq 0 = true := by
  have hexec : exec (.laserFail l) s = act s (!bit s.pma.dead l.1) (loseChans (List.finRange 4) (laserPref l s) (laserOut l s)) := by
    rw [← laserFail_eq]
    rfl
  have hout := laserOut_spec l s
  have hlost := worked_loseChans (List.finRange 4) (laserPref l s) (laserOut l s)
  have hmoves (i : Fin 4) (k : Nat) (h : StandbyFree i k l s) := (h.laneLost hout).moves h.pref
  generalize loseChans (List.finRange 4) (laserPref l s) (laserOut l s) = u at hexec hlost hmoves
  have hframe := (hout.frame.mono (by simp)).trans (hlost.frame.mono (by simp)) (ps := [.pma, .fe, .gates, .hif, .hlt, .dbg])
  have hmem : u.hif.mem = s.hif.mem := (hframe.2 .hostMem (by simp)).1
  refine does_of_act hexec hp (by rw [hl]; rfl) hframe fun _ _ => ⟨?_, ?_, hlost.failed _ hout.failed, hmem, hmoves⟩
  · show bit u.pma.dead l.1 = true
    rw [hlost.lasers.1, hout.lasers.1, bit_setBit _ l.2, if_pos rfl]
  · show bit u.pma.lit l.1 = false
    rw [hlost.lasers.2, hout.lasers.2, bit_setBit _ l.2, if_pos rfl]

/-- The lasers lit at the end of a switch: those of the moves, and those that were. -/
theorem bit_foldl_lit (ms : List LaneMove) (v : BitVec 18) :
    (∀ m ∈ ms, m.onto < 18 → bit (ms.foldl (fun v (m : LaneMove) => setBit v m.onto true) v) m.onto = true)
      ∧ ∀ c, bit v c = true → bit (ms.foldl (fun v (m : LaneMove) => setBit v m.onto true) v) c = true := by
  induction ms generalizing v with
  | nil => exact ⟨fun m h => absurd h List.not_mem_nil, fun _ h => h⟩
  | cons n ms ih =>
    obtain ⟨hnew, hold⟩ := ih (setBit v n.onto true)
    rw [List.foldl_cons]
    refine ⟨fun m hm h18 => ?_, fun c hc => hold c (bit_setBit_stays hc _)⟩
    rcases List.mem_cons.1 hm with rfl | hm
    · exact hold _ ((bit_setBit _ h18 true _).trans (if_pos rfl))
    · exact hnew m hm h18

/-- LASER_SWITCH_DONE (R134). -/
theorem does_laserSwitchDone {ms : List LaneMove} {rest : List (List LaneMove)} {s : State} (hp : s.powered = true)
    (hsw : s.pma.switching = ms :: rest) : Does .laserSwitchDone [.pma, .gates] s fun t =>
      t.pma = { s.pma with lit := t.pma.lit, switching := rest } ∧ (∀ m ∈ ms, m.onto < 18 → bit t.pma.lit m.onto = true)
        ∧ ∀ c, bit s.pma.lit c = true → bit t.pma.lit c = true := by
  let u : State := { s with pma := { s.pma with lit := ms.foldl (fun v (m : LaneMove) => setBit v m.onto true) s.pma.lit, switching := rest } }
  have hexec : exec .laserSwitchDone s = act s true
      ((u.fe.antis.toList.filter chanValid).foldl (fun s b => gateWant s.antiOpen (.anti (chanPort b) (chanSlot b)) s) u) := by
    show execLaserSwitchDone s = _
    unfold execLaserSwitchDone
    rw [hsw]
  have hgates : Only [.gates] u _ := Only.foldl (l := u.fe.antis.toList.filter chanValid)
    (f := fun s b => gateWant s.antiOpen (.anti (chanPort b) (chanSlot b)) s) (.refl _ u) fun v b => only_gateWant ..
  generalize (u.fe.antis.toList.filter chanValid).foldl (fun s b => gateWant s.antiOpen (.anti (chanPort b) (chanSlot b)) s) u = t at hexec hgates
  have hpma : t.pma = u.pma := hgates.2 .pma (by simp)
  obtain ⟨hnew, hold⟩ := bit_foldl_lit ms s.pma.lit
  refine does_of_act hexec hp rfl ((only_pma u.pma s).comp hgates (by simp) (by simp)) fun _ _ => ?_
  dsimp only
  rw [hpma]
  exact ⟨rfl, hnew, hold⟩

/-- LASER_WAVELENGTH_LOCK_REGAINED (23_repair.md R402). -/
theorem does_laserWavelengthLockRegained {l : Fin 18} {s : State} (hp : s.powered = true) (hl : bit s.pma.dead l.1 = false) :
    Does (.laserWavelengthLockRegained l) [.hlt] s (Struck (unit uLaser l.1) s) := by
  have hexec : exec (.laserWavelengthLockRegained l) s = act s (!bit s.pma.dead l.1) (strike (unit uLaser l.1) s) := rfl
  have hstruck := struck_strike (unit uLaser l.1) s
  have hframe := only_strike (unit uLaser l.1) s
  generalize strike (unit uLaser l.1) s = u at hexec hstruck hframe
  exact does_of_act hexec hp (by rw [hl]; rfl) hframe fun _ _ => hstruck

/-! ### The obligation on rings, rows and lasers -/

/-- Settles O29: rings by `does_ringLockLoss`, `does_ringRelocked` and `does_ringFailed`, rows by `does_rowFault`, lasers by `does_laserFail`,
`does_laserSwitchDone` and `does_laserWavelengthLockRegained`. -/
theorem ringsRowsAndLasers : Obligations.RingsRowsAndLasers := by
  unfold Obligations.RingsRowsAndLasers
  refine ⟨fun r i w s hp => ?rings, fun l ms rest s hp => ?lasers⟩
  case rings =>
    exact ⟨fun hs hr => does_ringLockLoss hp hs hr, fun hr => does_ringRelocked hp hr, fun hr => does_ringFailed hp hr, fun hw => does_rowFault hp hw⟩
  case lasers =>
    refine ⟨fun hl => ?fails, fun hsw => does_laserSwitchDone hp hsw, fun hl => does_laserWavelengthLockRegained hp hl⟩
    case fails =>
      refine (does_laserFail hp hl).imp ?_
      rintro t ⟨hdead, hlit, hunit, hmem, hmoves⟩
      refine ⟨hdead, hlit, hunit, hmem, fun i k hlane hnodup hserves hstill hothers hfree husable hdark => ?_⟩
      exact hmoves i k ⟨hlane, hnodup, hserves, hstill, hothers, hfree, husable, hdark⟩

end Sys2Proof.Machine
end

section
/-! PROOFS. Power of S2 and S3, photonic jobs and the PMA commands (O30): first requests that a service issues, then the jobs from their
acceptance to their completion, then the host commands. -/

namespace Sys2Proof.Machine

/-! ### Frames -/

/-- A change of the fabric. -/
theorem only_fab (f : Fab) (s : State) : Only [.fab] s { s with fab := f } := by
  refine ⟨rfl, fun p hp => ?_⟩
  cases p with
  | fab => simp at hp
  | hostMem => exact ⟨rfl, rfl⟩
  | _ => rfl

/-- A change of the grid. -/
theorem only_grid (g : Grid) (s : State) : Only [.grid] s { s with grid := g } := by
  refine ⟨rfl, fun p hp => ?_⟩
  cases p with
  | grid => simp at hp
  | hostMem => exact ⟨rfl, rfl⟩
  | _ => rfl

/-- A change of one network interface. -/
theorem only_setNi (i : Fin 300) (f : Ni → Ni) (s : State) : Only [.fab] s (setNi i f s) := only_fab _ s

/-! ### The S2/S3 power group (R129) -/

/-- S23_IDLE_TIMEOUT. -/
theorem does_s23IdleTimeout {s : State} (hp : s.powered = true) (hon : s.pma.s23 = 2)
    (hidle : ∀ i : Fin 4, 2 ≤ i.1 → (s.sect i).running = none ∧ (s.sect i).queue = [] ∧ (s.sect i).gap = false)
    (hdue : s.pma.idleAt + (max 1 s.pma.idleMs.toNat) * ms ≤ s.clk.tempo) (hb : ∀ b ∈ s.fab.belays, b.dom ≠ .s23) :
    Does .s23IdleTimeout [.pma, .fab] s fun t => t.pma = { s.pma with s23 := 3 }
      ∧ t.fab = { s.fab with belays := s.fab.belays ++ [{ dom := .s23, off := true, step := .request, since := s.clk.tempo }] } := by
  have hexec : exec .s23IdleTimeout s = act s (s.s23On
      && ([2, 3].all fun (i : Fin 4) => (s.sect i).running.isNone && (s.sect i).queue.isEmpty && !(s.sect i).gap)
      && decide (s.pma.idleAt + (max 1 s.pma.idleMs.toNat) * ms ≤ s.clk.tempo) && !s.fab.belays.any (fun b => decide (b.dom = .s23)))
      (belayBegin .s23 true { s with pma := { s.pma with s23 := 3 } }) := rfl
  have hnone : s.fab.belays.any (fun b => decide (b.dom = .s23)) = false := List.any_eq_false.2 fun b hm h => hb b hm (of_decide_eq_true h)
  obtain ⟨hr2, hq2, hg2⟩ := hidle 2 (by decide)
  obtain ⟨hr3, hq3, hg3⟩ := hidle 3 (by decide)
  refine does_of_act hexec hp ?_ ((only_pma _ s).comp (only_fab _ _) (by simp) (by simp)) fun _ _ => ⟨rfl, rfl⟩
  simp [State.s23On, hon, hr2, hq2, hg2, hr3, hq3, hg3, hdue, hnone]

/-- S23_WAKE_DONE. -/
theorem does_s23WakeDone {s : State} (hp : s.powered = true) (hw : s.pma.s23 = 1) (h2 : (s.sect 2).ready = true) (h3 : (s.sect 3).ready = true) :
    Does .s23WakeDone [.pma, .fab] s fun t => t.pma = { s.pma with s23 := 2, idleAt := s.clk.tempo } ∧ (∀ b ∈ t.fab.belays, b.dom ≠ .s23)
      ∧ t.fab.net = s.fab.net := by
  have hexec : exec .s23WakeDone s = act s s.s23Awake (s23Woken s) := rfl
  refine does_of_act hexec hp (by simp [State.s23Awake, hw, h2, h3])
    ((only_pma { s.pma with s23 := 2, idleAt := s.clk.tempo } s).comp (only_fab _ _) (by simp) (by simp)) fun _ _ => ⟨rfl, fun b hb e => ?_, rfl⟩
  have hkept := (List.mem_filter.1 hb).2
  rw [e] at hkept
  exact absurd hkept (by decide)

/-! ### Requests of an initiator (09_core_isa.md R184) -/

/-- The initiator's NI holds these requests more, at the end of its issue order, and nothing else has changed. -/
def Issued (i : Fin 300) (l : List Req) (s t : State) : Prop := t = setNi i (fun x => { x with reqs := x.reqs ++ l }) s

section
variable {i : Fin 300} {l l' : List Req} {s t u : State}

/-- No request. -/
theorem Issued.nil : Issued i [] s s := by
  have hid : modAt s.fab.ni i (fun x => { x with reqs := x.reqs ++ [] }) = s.fab.ni := modAt_id s.fab.ni i _ (by rw [List.append_nil])
  exact congrArg (fun v => ({ s with fab := { s.fab with ni := v } } : State)) hid.symm

/-- Requests, then more. -/
theorem Issued.append (h : Issued i l s t) (h' : Issued i l' t u) : Issued i (l ++ l') s u := by
  unfold Issued at *
  rw [h', h]
  simp [setNi, setFab, modAt, upd]

/-- They are the fabric's. -/
theorem Issued.only (h : Issued i l s t) : Only [.fab] s t := by
  rw [h]
  exact only_setNi i _ s

/-- They leave the PMA. -/
theorem Issued.pma (h : Issued i l s t) : t.pma = s.pma := h.only.2 .pma (by simp)

/-- The NI's requests. -/
theorem Issued.reqs (h : Issued i l s t) : (t.ni i).reqs = (s.ni i).reqs ++ l := by
  rw [h]
  exact congrArg Ni.reqs (modAt_same s.fab.ni i _)

end

/-- A U-space access issued: its request. -/
theorem issued_issueU (i : Fin 300) (o : Owner) (p : Packet) (s : State) : ∃ r : Req, Issued i [r] s (issueU i o p s)
    ∧ r.owner = o ∧ r.pkt.cmd = p.cmd ∧ r.pkt.cls = p.cls ∧ r.pkt.addr = p.addr := by
  unfold issueU
  dsimp only
  split
  · exact ⟨_, rfl, rfl, rfl, rfl, rfl⟩
  · exact ⟨_, rfl, rfl, rfl, rfl, rfl⟩

/-- The PMA bridge's reads of tiles for a job. -/
def tilesRead (id : Nat) (ks : List Nat) (s : State) : State := ks.foldl (fun s t =>
  issueU (svcNi 0) (.pmaRead id) { blank with cmd := 0x06, cls := 0, addr := BitVec.ofNat 40 (4096 * t) } s) s

/-- One U_RD for each tile. -/
theorem issued_tilesRead (id : Nat) (ks : List Nat) (s : State) : ∃ l, Issued (svcNi 0) l s (tilesRead id ks s) ∧ l.length = ks.length
    ∧ ∀ r ∈ l, r.owner = .pmaRead id ∧ r.pkt.cmd = 0x06 ∧ r.pkt.cls = 0 ∧ ∃ k ∈ ks, r.pkt.addr = BitVec.ofNat 40 (4096 * k) := by
  induction ks generalizing s with
  | nil => exact ⟨[], .nil, rfl, fun r hr => absurd hr List.not_mem_nil⟩
  | cons k ks ih =>
    obtain ⟨r, hr, howner, hcmd, hcls, haddr⟩ :=
      issued_issueU (svcNi 0) (.pmaRead id) { blank with cmd := 0x06, cls := 0, addr := BitVec.ofNat 40 (4096 * k) } s
    obtain ⟨l, hl, hlen, hall⟩ := ih (issueU (svcNi 0) (.pmaRead id) { blank with cmd := 0x06, cls := 0, addr := BitVec.ofNat 40 (4096 * k) } s)
    refine ⟨[r] ++ l, hr.append hl, by simp [hlen], fun q hq => ?_⟩
    rcases List.mem_cons.1 hq with rfl | hq
    · exact ⟨howner, hcmd, hcls, k, List.mem_cons_self, haddr⟩
    · obtain ⟨ho, hc, hs, d, hd, ha⟩ := hall q hq
      exact ⟨ho, hc, hs, d, List.mem_cons_of_mem k hd, ha⟩

/-- The results of a job go out as U_WR packets. -/
theorem issued_writeResults (id fuel a : Nat) (b : List Byte) (s : State) : ∃ l, Issued (svcNi 0) l s (writeResults id fuel a b s)
    ∧ ∀ r ∈ l, r.owner = .pmaWrite id ∧ r.pkt.cmd = 0x07 ∧ r.pkt.cls = 0 := by
  induction fuel generalizing a b s with
  | zero => exact ⟨[], .nil, fun r hr => absurd hr List.not_mem_nil⟩
  | succ fuel ih =>
    unfold writeResults
    split
    · exact ⟨[], .nil, fun r hr => absurd hr List.not_mem_nil⟩
    · dsimp only
      generalize hp : ({ blank with cmd := 0x07, cls := 0, addr := BitVec.ofNat 40 a, opb := wd (b.take (512 - a % 512)).length
                                    len := BitVec.ofNat 5 (((b.take (512 - a % 512)).length + 31) / 32)
                                    body := bodyOf (b.take (512 - a % 512)) } : Packet) = p
      have hcmd : p.cmd = 0x07 ∧ p.cls = 0 := by
        rw [← hp]
        exact ⟨rfl, rfl⟩
      obtain ⟨r, hr, howner, hc, hs, -⟩ := issued_issueU (svcNi 0) (.pmaWrite id) p s
      obtain ⟨l, hl, hall⟩ := ih (a + (512 - a % 512)) (b.drop (512 - a % 512)) (issueU (svcNi 0) (.pmaWrite id) p s)
      refine ⟨[r] ++ l, hr.append hl, fun q hq => ?_⟩
      rcases List.mem_cons.1 hq with rfl | hq
      · exact ⟨howner, hc.trans hcmd.1, hs.trans hcmd.2⟩
      · exact hall q hq

/-! ### A job starts (R123, R126) -/

/-- A section that starts the first job of its queue. -/
def Sect.started (j : Job) (x : Sect) : Sect := { x with running := some j, queue := x.queue.drop 1 }

/-- The job as it runs on a section. -/
def jobStarted (j : Job) (i : Fin 4) (s : State) : Job := { j with start := s.clk.tempo, loaded := !s.keeps j i || jTwo j.desc }

/-- A job starts on its sections, and their tiles are read. -/
theorem startJob_eq (j : Job) (is : List (Fin 4)) (s : State) : startJob j is s =
    tilesRead j.id (s.jobReads j is) (is.foldl (fun s i => setSect i (Sect.started (jobStarted j i s)) s) s) := rfl

/-- The bridge has asked for these tiles for the job, and for nothing else. -/
def ReadsIssued (id : Nat) (ks : List Nat) (s t : State) : Prop := ∃ l, (t.ni (svcNi 0)).reqs = (s.ni (svcNi 0)).reqs ++ l ∧ l.length = ks.length
  ∧ ∀ r ∈ l, r.owner = .pmaRead id ∧ r.pkt.cmd = 0x06 ∧ r.pkt.cls = 0 ∧ ∃ k ∈ ks, r.pkt.addr = BitVec.ofNat 40 (4096 * k)

/-- PMA_JOB_RUN of a job of one section. -/
theorem does_pmaJobRun {i : Fin 4} {j : Job} {more : List Job} {s : State} (hp : s.powered = true) (hi : 2 ≤ i.1)
    (hq : (s.sect i).queue = j :: more) (hone : jSect j.desc ≠ 3) (hrun : s.canRun i = true) : Does (.pmaJobRun i) [.pma, .fab] s fun t =>
      t.sect i = (s.sect i).started (jobStarted j i s) ∧ (∀ k, k ≠ i → t.sect k = s.sect k) ∧ ReadsIssued j.id (s.jobReads j [i]) s t := by
  have hexec : exec (.pmaJobRun i) s = act s (decide (2 ≤ i.1) && s.canRun i)
      (tilesRead j.id (s.jobReads j [i]) (setSect i (Sect.started (jobStarted j i s)) s)) := by
    show execPmaJobRun i s = _
    unfold execPmaJobRun
    rw [hq]
    exact if_neg hone
  have hat := setSect_at i (Sect.started (jobStarted j i s)) s
  have hoff (k : Fin 4) (hk : k ≠ i) := setSect_off hk (Sect.started (jobStarted j i s)) s
  have hframe := only_setSect s i (Sect.started (jobStarted j i s))
  have hreqs : ((setSect i (Sect.started (jobStarted j i s)) s).ni (svcNi 0)).reqs = (s.ni (svcNi 0)).reqs := rfl
  generalize setSect i (Sect.started (jobStarted j i s)) s = u at hexec hat hoff hframe hreqs
  obtain ⟨l, hl, hlen, hall⟩ := issued_tilesRead j.id (s.jobReads j [i]) u
  generalize tilesRead j.id (s.jobReads j [i]) u = t at hexec hl
  have hsect (k : Fin 4) : t.sect k = u.sect k := sect_congr (by rw [hl.pma]) k
  exact does_of_act hexec hp (by simp [hi, hrun]) (hframe.comp hl.only (by simp) (by simp)) fun _ _ =>
    ⟨(hsect i).trans hat, fun k hk => (hsect k).trans (hoff k hk), l, hl.reqs.trans (by rw [hreqs]), hlen, hall⟩

/-- PMA_JOB_RUN of a pair: it starts on both sections at the same time (R125). -/
theorem does_pmaJobRun_pair {i : Fin 4} {j : Job} {more more3 : List Job} {s : State} (hp : s.powered = true) (hi : 2 ≤ i.1)
    (hq2 : (s.sect 2).queue = j :: more) (hq3 : (s.sect 3).queue = j :: more3) (hpair : jSect j.desc = 3) (hrun2 : s.canRun 2 = true)
    (hrun3 : s.canRun 3 = true) : Does (.pmaJobRun i) [.pma, .fab] s fun t => (t.sect 2).queue = more ∧ (t.sect 3).queue = more3
      ∧ ReadsIssued j.id (s.jobReads j [2, 3]) s t ∧ (∃ a, (t.sect 2).running = some a ∧ a.start = s.clk.tempo)
      ∧ ∃ a, (t.sect 3).running = some a ∧ a.start = s.clk.tempo := by
  have h23 : i = 2 ∨ i = 3 := by omega
  have hqueue : ∃ more', (s.sect i).queue = j :: more' := by
    rcases h23 with rfl | rfl
    · exact ⟨_, hq2⟩
    · exact ⟨_, hq3⟩
  obtain ⟨more', hq⟩ := hqueue
  let a := setSect 2 (Sect.started (jobStarted j 2 s)) s
  have hexec : exec (.pmaJobRun i) s = act s (decide (2 ≤ i.1) && s.canRun 2 && s.canRun 3
      && decide (((s.sect 2).queue.head?.map (·.id)) = some j.id) && decide (((s.sect 3).queue.head?.map (·.id)) = some j.id))
      (tilesRead j.id (s.jobReads j [2, 3]) (setSect 3 (Sect.started (jobStarted j 3 a)) a)) := by
    show execPmaJobRun i s = _
    unfold execPmaJobRun
    rw [hq]
    exact if_pos hpair
  have hat2 : (setSect 3 (Sect.started (jobStarted j 3 a)) a).sect 2 = (s.sect 2).started (jobStarted j 2 s) :=
    (setSect_off (by decide) _ a).trans (setSect_at 2 _ s)
  have hat3 : (setSect 3 (Sect.started (jobStarted j 3 a)) a).sect 3 = (s.sect 3).started (jobStarted j 3 a) :=
    (setSect_at 3 _ a).trans (congrArg _ (setSect_off (by decide) _ s))
  have hstart : (jobStarted j 3 a).start = s.clk.tempo := rfl
  have hframe := (only_setSect s 2 (Sect.started (jobStarted j 2 s))).trans (only_setSect a 3 (Sect.started (jobStarted j 3 a)))
  have hreqs : ((setSect 3 (Sect.started (jobStarted j 3 a)) a).ni (svcNi 0)).reqs = (s.ni (svcNi 0)).reqs := rfl
  generalize jobStarted j 3 a = j3 at hexec hat2 hat3 hframe hreqs hstart
  generalize setSect 3 (Sect.started j3) a = u at hexec hat2 hat3 hframe hreqs
  obtain ⟨l, hl, hlen, hall⟩ := issued_tilesRead j.id (s.jobReads j [2, 3]) u
  generalize tilesRead j.id (s.jobReads j [2, 3]) u = t at hexec hl
  have hsect2 : t.sect 2 = (s.sect 2).started (jobStarted j 2 s) := (sect_congr (by rw [hl.pma]) 2).trans hat2
  have hsect3 : t.sect 3 = (s.sect 3).started j3 := (sect_congr (by rw [hl.pma]) 3).trans hat3
  refine does_of_act hexec hp (by simp [hi, hrun2, hrun3, hq2, hq3]) (hframe.comp hl.only (by simp) (by simp)) fun _ _ =>
    ⟨?_, ?_, ⟨l, hl.reqs.trans (by rw [hreqs]), hlen, hall⟩, ⟨_, congrArg Sect.running hsect2, rfl⟩,
      ⟨_, congrArg Sect.running hsect3, hstart⟩⟩
  · exact (congrArg Sect.queue hsect2).trans (by rw [Sect.started, hq2]; rfl)
  · exact (congrArg Sect.queue hsect3).trans (by rw [Sect.started, hq3]; rfl)

/-! ### Passes and completions (R124, R125, R128) -/

/-- A section after the passes of its job: the job has its result, and the section holds the matrix. -/
def Sect.passed (res : Nat × Nat × Nat × Bool) (a : BitVec 40) (w : List (BitVec 16)) (x : Sect) : Sect :=
  { x with running := x.running.map fun k => { k with result := some res }, held := some a, heldW := w }

/-- The figure of a job on one section (R121, R125): the lower of those of K and of the section, less half a bit for a complex job. -/
def jobFigure (d : Vector Word 8) (x : Sect) : Nat := min (11 + jK d) x.ebCal.toNat - (if jComplex d then 1 else 0)

/-- Where the matrix lies that a section holds after a job of its own. -/
def heldAfter (d : Vector Word 8) : BitVec 40 := BitVec.ofNat 40 (jMatrix d + if jComplex d then 512 else 0)

/-- The passes of a job of one section: free values are taken, the section holds the matrix, and the results go out. -/
theorem passesEnd_single {i : Fin 4} {j : Job} (hone : jSect j.desc ≠ 3) (st n : Nat) (s : State) : ∃ sat w k fuel b, passesEnd i j st n s =
    writeResults j.id fuel (jOut j.desc) b
      (setSect i (Sect.passed (st, n, jobFigure j.desc (s.sect i), sat) (heldAfter j.desc) w) { s with freeCtr := k }) := by
  have hsects : jobSects j i = [i] := if_neg hone
  have hcal : min 31 (s.sect i).ebCal.toNat = (s.sect i).ebCal.toNat := min_eq_right (Nat.le_of_lt_succ (s.sect i).ebCal.isLt)
  have haddr : (if jTwo j.desc then jMatrix j.desc + 512 else partAddr j i) = jMatrix j.desc + if jComplex j.desc then 512 else 0 := by
    unfold jTwo partAddr
    rw [decide_eq_true hone, Bool.and_true]
    cases jComplex j.desc with
    | true => rfl
    | false => simp [hone]
  unfold passesEnd jobFigure heldAfter
  rw [hsects, ← haddr]
  simp only [List.foldl_cons, List.foldl_nil, hcal, if_neg hone]
  have hfree (eb : Nat) (mr mi : List (BitVec 16)) :
      (jobResults j eb mr mi n (stepFree 1280 s)).2 = { s with freeCtr := s.freeCtr + 1280 + 32 * n } := rfl
  rw [hfree]
  exact ⟨_, _, _, _, _, rfl⟩

/-- The vectors done at the end of the passes: all of a job that stands, of another some (log entry 2). -/
def vectorsDone (j : Job) (i : Fin 4) (s : State) : Nat × State := if s.jobStands j i then (jV j.desc, s) else s.pick (jV j.desc)

/-- They are all of them, or fewer; only the free values are stepped on. -/
theorem vectorsDone_spec (j : Job) (i : Fin 4) (s : State) : (∃ k, (vectorsDone j i s).2 = { s with freeCtr := k })
    ∧ (s.jobStands j i = true → (vectorsDone j i s).1 = jV j.desc)
    ∧ (s.jobStands j i = false → jV j.desc = 0 ∨ (vectorsDone j i s).1 < jV j.desc) := by
  unfold vectorsDone
  generalize s.jobStands j i = stands
  cases stands with
  | true => exact ⟨⟨s.freeCtr, rfl⟩, fun _ => rfl, fun h => Bool.noConfusion h⟩
  | false => exact ⟨⟨s.freeCtr + 1, rfl⟩, fun h => Bool.noConfusion h, fun _ => (Nat.eq_zero_or_pos _).imp id (Nat.mod_lt _)⟩

/-- A job's passes have ended on its one section. -/
structure PassesEnded (i : Fin 4) (j : Job) (s t : State) : Prop where
  /-- the job and its result -/
  result : ∃ n sat, (t.sect i).running = some { j with
      result := some (if s.jobStands j i then 0 else 2, n, jobFigure j.desc (s.sect i), sat) }
    ∧ (s.jobStands j i = true → n = jV j.desc) ∧ (s.jobStands j i = false → jV j.desc = 0 ∨ n < jV j.desc)
  /-- the matrix -/
  held : (t.sect i).held = some (heldAfter j.desc)
  /-- the other sections -/
  others : ∀ k, k ≠ i → t.sect k = s.sect k
  /-- the results on their way -/
  writes : ∃ l, (t.ni (svcNi 0)).reqs = (s.ni (svcNi 0)).reqs ++ l ∧ ∀ r ∈ l, r.owner = .pmaWrite j.id ∧ r.pkt.cmd = 0x07 ∧ r.pkt.cls = 0

section
variable {i : Fin 4} {j : Job} {s : State}

/-- PMA_JOB_COMPLETE once the tiles have been read. -/
theorem does_passesEnd (hp : s.powered = true) (hj : (s.sect i).running = some j) (hres : j.result = none) (hsw : s.pma.switching = [])
    (hopen : s.jobOpen j.id = false) (hone : jSect j.desc ≠ 3) :
    Does (.pmaJobComplete i) [.freeCtr, .pma, .fab] s (PassesEnded i j s) := by
  have hsects : jobSects j i = [i] := if_neg hone
  have hexec : exec (.pmaJobComplete i) s = act s (s.pma.switching.isEmpty && !s.jobOpen j.id)
      (passesEnd i j (if s.jobStands j i then 0 else 2) (vectorsDone j i s).1 (vectorsDone j i s).2) := by
    show execPmaJobComplete i s = _
    unfold execPmaJobComplete vectorsDone
    rw [hj]
    dsimp only
    rw [hres, hsects]
    dsimp only
    rw [List.all_cons, List.all_nil, Bool.and_true]
  obtain ⟨⟨k, hk⟩, hall, hsome⟩ := vectorsDone_spec j i s
  generalize (vectorsDone j i s).1 = n at hexec hall hsome
  obtain ⟨sat, w, m, fuel, b, hpassed⟩ := passesEnd_single hone (i := i) (if s.jobStands j i then 0 else 2) n (vectorsDone j i s).2
  rw [hpassed, hk] at hexec
  let u : State := { s with freeCtr := m }
  let f := Sect.passed (if s.jobStands j i then 0 else 2, n, jobFigure j.desc (s.sect i), sat) (heldAfter j.desc) w
  have hat : (setSect i f u).sect i = f (s.sect i) := setSect_at i f u
  have hoff (k : Fin 4) (hk : k ≠ i) : (setSect i f u).sect k = s.sect k := setSect_off hk f u
  have hframe : Only [.freeCtr, .pma] s (setSect i f u) := (only_freeCtr _ s (by simp)).comp (only_setSect u i f) (List.Subset.refl _) (by simp)
  obtain ⟨l, hl, hwrites⟩ := issued_writeResults j.id fuel (jOut j.desc) b (setSect i f u)
  have hsect (k : Fin 4) := sect_congr (t := writeResults j.id fuel (jOut j.desc) b (setSect i f u)) (s := setSect i f u) (by rw [hl.pma]) k
  have hreqs := hl.reqs
  have honly := hl.only
  refine does_of_act hexec hp (by rw [hsw, hopen]; rfl) (hframe.comp honly (by simp) (by simp)) fun _ _ =>
    ⟨⟨n, sat, ?_, hall, hsome⟩, ?_, fun k hk => (hsect k).trans (hoff k hk), l, hreqs, hwrites⟩
  · refine (congrArg Sect.running ((hsect i).trans hat)).trans ?_
    show (s.sect i).running.map _ = _
    rw [hj]
    rfl
  · exact congrArg Sect.held ((hsect i).trans hat)

end

/-- What leaves the host interface leaves the commands that wait. -/
theorem Only.waits {ps : List Part} {s t : State} (h : Only ps s t) (hps : Part.hif ∉ ps) : t.hif.waits = s.hif.waits := by
  have hhif : t.hif = { s.hif with sent := t.hif.sent, pba := t.hif.pba, mem := t.hif.mem, upq := t.hif.upq } := h.2 .hif hps
  rw [hhif]

/-- No command waits any more for the job. -/
def JobAnswered (j : Job) (t : State) : Prop := ∀ c, j.cmd = some c → ∀ w ∈ t.hif.waits, ¬(w.on = .job ∧ w.cmd.id = c.id)

/-- A completion goes to the submitter (R128, R182). -/
theorem completeJob_spec (j : Job) (ws : List Word) (s : State) :
    Only [.fab, .hif, .hostMem] s (completeJob j ws s) ∧ JobAnswered j (completeJob j ws s) := by
  unfold completeJob JobAnswered
  cases hc : j.cmd with
  | some c =>
    refine ⟨(only_finishWaits _ _ s).mono (by simp), fun d hd w hw => ?_⟩
    obtain rfl := Option.some.inj hd
    rw [finishWaits_waits] at hw
    rintro ⟨hon, hid⟩
    have hkept := (List.mem_filter.1 hw).2
    rw [hon, hid, decide_eq_true rfl, decide_eq_true rfl] at hkept
    exact absurd hkept (by decide)
  | none =>
    refine ⟨?_, fun d hd => by cases hd⟩
    rcases j.core with _ | ⟨n, mb⟩
    · exact .refl _ s
    · dsimp only
      unfold messageCore
      split
      · exact (only_setNi _ _ s).mono (by simp)
      · exact .refl _ s

/-- A section whose job has ended. -/
def Sect.freed (x : Sect) : Sect := { x with running := none, jobs := satAdd x.jobs 1 }

/-- A section set free: since then it idles, and the job's tiles are gone. -/
def jobFreed (i : Fin 4) (id : Nat) (s : State) : State :=
  { setSect i Sect.freed s with pma := { (setSect i Sect.freed s).pma with idleAt := s.clk.tempo, tiles := s.pma.tiles.filter fun x => x.1 ≠ id } }

/-- The end of a job of one section: the section is free, then the submitter gets the completion. -/
theorem endJob_single {i : Fin 4} {j : Job} (hone : jSect j.desc ≠ 3) (st n eb : Nat) (sat : Bool) (s : State) :
    ∃ ws, endJob i j st n eb sat s = completeJob j ws (jobFreed i j.id s) := by
  have hsects : jobSects j i = [i] := if_neg hone
  unfold endJob
  rw [hsects]
  exact ⟨_, rfl⟩

/-- A job has ended on its one section. -/
structure JobEnded (i : Fin 4) (j : Job) (s t : State) : Prop where
  /-- the section is free -/
  free : (t.sect i).running = none
  /-- JOBS -/
  jobs : (t.sect i).jobs = satAdd (s.sect i).jobs 1
  /-- the jobs queued are the same -/
  queue : (t.sect i).queue.map (·.id) = (s.sect i).queue.map (·.id)
  /-- since when S2 and S3 idle -/
  idle : t.pma.idleAt = s.clk.tempo
  /-- the reply -/
  answered : JobAnswered j t

/-- PMA_JOB_COMPLETE once the results have been written (R128): a job boundary. -/
theorem does_jobEnds {i : Fin 4} {j : Job} {d : Nat × Nat × Nat × Bool} {s : State} (hp : s.powered = true) (hj : (s.sect i).running = some j)
    (hres : j.result = some d) (hopen : s.jobOpen j.id = false) (hone : jSect j.desc ≠ 3) :
    Does (.pmaJobComplete i) [.gates, .fe, .pma, .fab, .hif, .hostMem, .hlt, .dbg] s (JobEnded i j s) := by
  obtain ⟨st, n, eb, sat⟩ := d
  obtain ⟨ws, hend⟩ := endJob_single hone (i := i) st n eb sat s
  have hsects : jobSects j i = [i] := if_neg hone
  have hexec : exec (.pmaJobComplete i) s = act s (!s.jobOpen j.id) (settleSect i (completeJob j ws (jobFreed i j.id s))) := by
    show execPmaJobComplete i s = _
    unfold execPmaJobComplete
    rw [hj]
    dsimp only
    rw [hres, hsects]
    dsimp only
    rw [hend]
    rfl
  have hfreed : (jobFreed i j.id s).sect i = (s.sect i).freed := setSect_at i Sect.freed s
  have hfree := (only_setSect s i Sect.freed).trans (only_pma (jobFreed i j.id s).pma _)
  obtain ⟨hcompleted, hanswered⟩ := completeJob_spec j ws (jobFreed i j.id s)
  generalize completeJob j ws (jobFreed i j.id s) = u at hexec hcompleted hanswered
  have hpma : u.pma = (jobFreed i j.id s).pma := hcompleted.2 .pma (by simp)
  have hsettled := worked_settleSect u i
  generalize settleSect i u = t at hexec hsettled
  have hwaits : t.hif.waits = u.hif.waits := hsettled.frame.waits (by simp)
  have hframe : Only [.gates, .fe, .pma, .fab, .hif, .hostMem, .hlt, .dbg] s t :=
    (hfree.mono (by simp)).trans ((hcompleted.mono (by simp)).trans (hsettled.frame.mono (by simp)))
  obtain ⟨_, _, _, g, _, _, _, hg, hsect⟩ := hsettled.sects i
  have hsectu : u.sect i = (s.sect i).freed := (sect_congr (by rw [hpma]) i).trans hfreed
  rw [hsectu] at hsect
  refine does_of_act hexec hp (by rw [hopen]; rfl) hframe fun _ _ =>
    ⟨congrArg Sect.running hsect, congrArg Sect.jobs hsect, ?_, ?_, fun c hc w hw => ?_⟩
  · refine (congrArg (fun x : Sect => x.queue.map Job.id) hsect).trans ?_
    show ((s.sect i).queue.map g).map Job.id = _
    rw [List.map_map]
    exact List.map_congr_left fun a _ => hg a
  · show t.pma.idleAt = s.clk.tempo
    rw [hsettled.rings.2, hpma]
    rfl
  · refine hanswered c hc w ?_
    rw [← hwaits]
    exact hw

/-! ### Acceptance (R123, R127, R129) -/

/-- A section that is to be intoned. -/
def Sect.unready (x : Sect) : Sect := { x with ready := false, rotating := none, gap := false, held := none }

/-- Intonation that begins touches the PMA, and leaves every queue. -/
theorem startIntonation_spec {is : List (Fin 4)} (h : is.Nodup) (s : State) :
    Only [.pma] s (startIntonation is s) ∧ ∀ k, ((startIntonation is s).sect k).queue = (s.sect k).queue := by
  have hsects := foldl_setSect Sect.unready h s
  have hframe : Only [.pma] s (is.foldl (fun s i => setSect i Sect.unready s) s) :=
    Only.foldl (.refl _ s) fun u i => only_setSect u i _
  have heq : startIntonation is s = pmaReady { is.foldl (fun s i => setSect i Sect.unready s) s with
      pma := (startIntonation is s).pma } := rfl
  have hsect (k : Fin 4) : (startIntonation is s).sect k = (is.foldl (fun s i => setSect i Sect.unready s) s).sect k := rfl
  refine ⟨?_, fun k => ?_⟩
  · rw [heq]
    exact hframe.trans ((only_pma _ _).trans (only_pma _ _))
  · rw [hsect, hsects]
    split
    · rfl
    · rfl

/-- Demand for S2 and S3 leaves every queue. -/
theorem demandS23_spec (s : State) : Only [.pma, .fab] s (demandS23 s) ∧ ∀ k, ((demandS23 s).sect k).queue = (s.sect k).queue := by
  unfold demandS23
  split
  · split
    · refine ⟨?_, fun _ => rfl⟩
      exact (only_pma { s.pma with s23 := 2 } s).comp (only_fab _ _) (by simp) (by simp)
    · exact ⟨.refl _ s, fun _ => rfl⟩
  · split
    · obtain ⟨hframe, hqueue⟩ := startIntonation_spec (is := [2, 3]) (by decide) { s with pma := { s.pma with s23 := 1 } }
      exact ⟨((only_pma _ s).trans hframe).mono (by simp), hqueue⟩
    · exact ⟨.refl _ s, fun _ => rfl⟩

/-- A job is queued last in its section, as it was submitted. -/
theorem acceptJob_spec (d : Vector Word 8) (cmd : Option Cmd) (core : Option (Fin 288 × BitVec 3)) (i : Fin 4) (s : State) :
    Only [.pma, .fab] s (acceptJob d cmd core [i] s)
      ∧ ∃ a, ((acceptJob d cmd core [i] s).sect i).queue = (s.sect i).queue ++ [a] ∧ a.desc = d ∧ a.cmd = cmd ∧ a.core = core := by
  obtain ⟨hframe, hqueue⟩ := demandS23_spec s
  unfold acceptJob
  dsimp only
  rw [List.foldl_cons, List.foldl_nil]
  generalize demandS23 s = u at hframe hqueue ⊢
  refine ⟨hframe.trans (((only_pma _ u).trans (only_setSect _ i _)).mono (by simp)), ?_⟩
  rw [setSect_at, ← hqueue i]
  exact ⟨_, rfl, rfl, rfl, rfl⟩

/-- R127 asks of the PMA and the boot alone. -/
theorem validateJob_congr {s t : State} (hp : t.pma = s.pma) (hb : t.boot = s.boot) (d : Vector Word 8) : validateJob t d = validateJob s d := by
  have hsect : t.sect = s.sect := funext fun k => sect_congr (by rw [hp]) k
  have hin : t.inService = s.inService := funext fun k => by rw [State.inService, State.inService, hsect]
  have hlanes : t.lanes = s.lanes := funext fun k => by rw [State.lanes, State.lanes, hsect]
  have hraw : t.lanesRaw = s.lanesRaw := funext fun k => lanesRaw_congr (by rw [hsect]) (by rw [hp]) (by rw [hsect])
  have hjob : t.jobLanes = s.jobLanes := funext fun k => by rw [State.jobLanes, State.jobLanes, hsect, hb, hin, hlanes, hraw]
  have htakes : t.takesJob = s.takesJob := funext fun e => funext fun k => by rw [State.takesJob, State.takesJob, hsect, hjob]
  rw [validateJob, validateJob, hsect, hjob, htakes]

/-- The descriptor of a job message. -/
def messageJob (p : Packet) : Vector Word 8 := Vector.ofFn fun k => wordOf ((bodyBytes p.body 32 |>.drop (4 * k.1)).take 4)

/-- The message leaves its slot, is acknowledged, and its credit goes back (09_core_isa.md R182). -/
def jobReceived (p : Packet) (s : State) : State := respond (svcNi 0) p 0x42 0 id (ack (svcNi 0) p 0 (dropRx (svcNi 0) p s))

/-- That is the fabric's. -/
theorem only_jobReceived (p : Packet) (s : State) : Only [.fab] s (jobReceived p s) :=
  ((only_setNi _ _ s).trans (only_setNi _ _ _)).trans (only_setNi _ _ _)

/-- A graph in unison taints the grid's streams. -/
theorem only_taintBy (n : Fin 288) (s : State) : Only [.grid] s (taintBy n s) := by
  unfold taintBy
  split
  · exact only_grid _ s
  · exact .refl _ s

/-- PMA_BRIDGE_JOB of a job that R127 accepts. -/
theorem does_pmaBridgeJob {i : Fin 4} {p : Packet} {n : Fin 288} {s : State} (ha : Arrived (svcNi 0) 0x80 p s)
    (hn : s.nodeOf p.src.toNat = some n) (hv : validateJob s (messageJob p) = .ok [i]) : Does .pmaBridgeJob [.pma, .fab, .grid] s fun t =>
      ∃ a, (t.sect i).queue = (s.sect i).queue ++ [a] ∧ a.desc = messageJob p ∧ a.core = some (n, p.mb) ∧ a.cmd = none := by
  have hreceived := only_jobReceived p s
  have hpma : (jobReceived p s).pma = s.pma := hreceived.2 .pma (by simp)
  have hn' : (jobReceived p s).nodeOf p.src.toNat = some n := hn
  have hv' : validateJob (jobReceived p s) (messageJob p) = .ok [i] := (validateJob_congr hpma (hreceived.2 .boot (by simp)) _).trans hv
  have hexec : exec .pmaBridgeJob s = act s true (acceptJob (messageJob p) none (some (n, p.mb)) [i] (taintBy n (jobReceived p s))) := by
    show execPmaBridgeJob s = _
    unfold execPmaBridgeJob serve
    dsimp only
    rw [ha.first]
    dsimp only
    rw [servePacket, ha.clean, if_neg Bool.false_ne_true]
    change act s true (match (jobReceived p s).nodeOf p.src.toNat, validateJob (jobReceived p s) (messageJob p) with
      | none, _ => jobReceived p s
      | some n, .ok is => acceptJob (messageJob p) none (some (n, p.mb)) is (taintBy n (jobReceived p s))
      | some n, .error (st, _) => messageCore n p.mb [st.setWidth 32 <<< 16, 0, 0, 0, 0, 0, 0, 0] (jobReceived p s)) = _
    rw [hn', hv']
  have htaint := only_taintBy n (jobReceived p s)
  obtain ⟨hframe, a, hqueue, hdesc, hcmd, hcore⟩ := acceptJob_spec (messageJob p) none (some (n, p.mb)) i (taintBy n (jobReceived p s))
  have hsect : (taintBy n (jobReceived p s)).sect i = s.sect i := sect_congr (by rw [htaint.2 .pma (by simp), hpma]) i
  rw [hsect] at hqueue
  exact does_of_act hexec ha.power rfl ((hreceived.mono (by simp)).trans ((htaint.mono (by simp)).trans (hframe.mono (by simp)))) fun _ _ =>
    ⟨a, hqueue, hdesc, hcore, hcmd⟩

/-! ### Host commands (19_commands.md R362) -/

/-- Taking the next command leaves the PMA, the boot and the operating modes. -/
theorem HostNext.parts {op : Nat} {c : Cmd} {s u : State} (h : HostNext op c s u) : u.pma = s.pma ∧ u.boot = s.boot ∧ u.pwr = s.pwr := by
  obtain ⟨w, r, rfl⟩ := nextCmd_eq s u c h.next
  exact ⟨rfl, rfl, rfl⟩

/-- A command of device scope keeps to it (R340). -/
theorem scopeD_pass {c : Cmd} (h : DeviceScope c) : (scopeD c).1 = false := by
  obtain ⟨hsess, hstream⟩ := h
  simp [scopeD, bad, hsess, hstream]

/-- What PMA_CAL makes of the PMA. -/
def calAsked (c : Cmd) (p : Pma) : Pma := { p with
  idleMs := if fld (c.w 2) 0 10 = 0 then p.idleMs else BitVec.ofNat 10 (fld (c.w 2) 0 10)
  sect := mapV p.sect fun i x => if bit (c.w 2) (16 + i.1) then { x with calDue := true } else x }

/-- PMA_CAL of a command that passes its checks. -/
theorem answers_pmaCal {c : Cmd} {s u : State} (hd : DeviceScope c) (h : HostNext 0xB0 c s u) (hw : WordsFit c [(2, 0xF03FF)])
    (hms : fld (c.w 2) 0 10 ≤ 1000) (hret : ∀ k : Fin 4, bit (c.w 2) (16 + k.1) = true → (s.sect k).retired = false) :
    Answers .pmaCal c 0x00 res0 s fun t => Only [.pma] u t
      ∧ t.pma.idleMs = (if fld (c.w 2) 0 10 = 0 then s.pma.idleMs else BitVec.ofNat 10 (fld (c.w 2) 0 10))
      ∧ ∀ k : Fin 4, t.sect k = { s.sect k with calDue := (s.sect k).calDue || bit (c.w 2) (16 + k.1) } := by
  obtain ⟨hpma, -, -⟩ := h.parts
  have hsect (k : Fin 4) : u.sect k = s.sect k := sect_congr (by rw [hpma]) k
  have hlive : ((List.finRange 4).any fun k => bit (c.w 2) (16 + k.1) && (u.sect k).retired) = false := by
    refine List.any_eq_false.2 fun k _ hk => ?_
    obtain ⟨hnamed, hretired⟩ := Bool.and_eq_true_iff.1 hk
    rw [hsect, hret k hnamed] at hretired
    cases hretired
  have hresv : (resv c [(2, 0xF03FF)]).1 = false := hw
  have hexec : exec .pmaCal s = act s true (reply c 0x00 res0 { u with pma := calAsked c u.pma }) := by
    refine (exec_hostRow rfl h).trans (congrArg (act s true) ?_)
    refine runCmd_go c _ pass pass _ _ u ?_ h.kept rfl rfl (by simp only [refuse, hlive]; rfl)
    simp only [List.find?_cons, scopeD_pass hd, hresv, bad, decide_eq_false (Nat.not_lt.2 hms), List.find?_nil]
  refine answers_of_act hexec h.power ⟨only_pma _ u, by rw [hpma]; rfl, fun k => ?_⟩
  have hk : ({ u with pma := calAsked c u.pma } : State).sect k = if bit (c.w 2) (16 + k.1) then { u.sect k with calDue := true } else u.sect k :=
    getElem_mapV ..
  rw [hk, hsect]
  cases bit (c.w 2) (16 + k.1) with
  | true => rw [Bool.or_true]; rfl
  | false => rw [Bool.or_false]; rfl

/-- PMA_STATUS of a command that passes its checks. -/
theorem answers_pmaStatus {i : Fin 4} {c : Cmd} {s u : State} (hd : DeviceScope c) (h : HostNext 0xB1 c s u) (hw : WordsFit c [(2, 3)])
    (hi : fld (c.w 2) 0 2 = i.1) : Answers .pmaStatus c 0x00 (pmaStatus s, sectStat i s, (s.sect i).rows.setWidth 32, (s.chans i).setWidth 32) s
      fun t => t = u := by
  have hix : (⟨fld (c.w 2) 0 2, Nat.mod_lt _ (by decide)⟩ : Fin 4) = i := Fin.ext hi
  have hexec : exec .pmaStatus s = act s true
      (reply c 0x00 (pmaStatus u, sectStat i u, (u.sect i).rows.setWidth 32, (u.chans i).setWidth 32) u) := by
    refine (exec_hostRow rfl h).trans (congrArg (act s true) ?_)
    dsimp only
    rw [hix]
    exact runCmd_device hd hw h.kept
  have hshown : (pmaStatus u, sectStat i u, (u.sect i).rows.setWidth 32, (u.chans i).setWidth 32)
      = (pmaStatus s, sectStat i s, (s.sect i).rows.setWidth 32, (s.chans i).setWidth 32) := by
    obtain ⟨w, r, rfl⟩ := nextCmd_eq s u c h.next
    rfl
  rw [hshown] at hexec
  exact answers_of_act hexec h.power rfl

/-- A descriptor that R127 accepts has its fields in range and a precision within reach. -/
theorem fields_of_validateJob {s : State} {d : Vector Word 8} {is : List (Fin 4)} (h : validateJob s d = .ok is) :
    jobFields d = true ∧ ¬11 + jK d < jMin d := by
  unfold validateJob at h
  dsimp only at h
  split at h
  · cases h
  · split at h
    · cases h
    · exact ⟨by simpa using ‹¬(!jobFields d) = true›, by assumption⟩

/-- Fields in range pass the checks of PMA_JOB. -/
theorem jobChecks_of_fields {d : Vector Word 8} (h : jobFields d = true) : jobReserved d = false ∧ jobRange d = false
    ∧ (decide (jMatrix d % 64 ≠ 0) || decide (jIn d % 64 ≠ 0) || decide (jOut d % 64 ≠ 0)) = false
    ∧ ((decide (jSect d = 3) && !jComplex d) || (jKeep d && decide (jSect d = 2))) = false := by
  simp only [jobFields, Bool.and_eq_true, beq_iff_eq, decide_eq_true_eq, Bool.not_eq_true'] at h
  obtain ⟨⟨⟨⟨⟨⟨⟨⟨⟨⟨⟨⟨⟨⟨h0, hk⟩, hn2⟩, hn16⟩, hgain⟩, hmin⟩, hv⟩, h3⟩, h5⟩, h7⟩, hm⟩, hin⟩, hout⟩, hpair⟩, hkeep⟩ := h
  refine ⟨by simp [jobReserved, h0, h3, h5, h7], ?_, by simp [hm, hin, hout], ?_⟩
  · simp only [jobRange, Bool.or_eq_false_iff, decide_eq_false_iff_not]
    omega
  · rw [Bool.or_eq_false_iff]
    exact ⟨hpair, hkeep⟩

/-- PMA_JOB of a command that passes its checks. -/
theorem exec_pmaJob {i : Fin 4} {c : Cmd} {s u : State} (hd : DeviceScope c) (h : HostNext 0xB2 c s u)
    (hw : WordsFit c ((List.range 8).map fun k => (2 + k, -1))) (hm : s.pwr.mode ≠ 1) (hv : validateJob s (cJob c) = .ok [i]) :
    exec .pmaJob s = act s true (acceptJob (cJob c) (some c) none [i] (waitOn c .job 0 res0 u)) := by
  obtain ⟨hpma, hboot, hpwr⟩ := h.parts
  have hvu : validateJob u (cJob c) = .ok [i] := (validateJob_congr hpma hboot _).trans hv
  obtain ⟨hfields, hprec⟩ := fields_of_validateJob hv
  obtain ⟨hreserved, hrange, haligned, hsect⟩ := jobChecks_of_fields hfields
  have hresv : (resv c ((List.range 8).map fun k => (2 + k, -1))).1 = false := hw
  have hmode : (conflict (decide (u.pwr.mode = 1)) 1).1 = false := by rw [hpwr]; exact decide_eq_false hm
  have hrefusal : jobRefusal u (cJob c) = pass := by
    unfold jobRefusal
    rw [hvu]
  refine (exec_hostRow rfl h).trans (congrArg (act s true) ?_)
  refine (runCmd_go c _ pass _ _ _ u ?_ h.kept rfl hmode (by rw [hrefusal]; rfl)).trans ?_
  · simp only [List.find?_cons, scopeD_pass hd, hresv, bad, hreserved, hrange, haligned, hsect, decide_eq_false hprec, List.find?_nil]
  · rw [hvu]

/-- PMA_JOB (R127, R362): the job is queued, and the command waits for its completion. -/
theorem does_pmaJob {i : Fin 4} {c : Cmd} {s u : State} (hd : DeviceScope c) (h : HostNext 0xB2 c s u)
    (hw : WordsFit c ((List.range 8).map fun k => (2 + k, -1))) (hm : s.pwr.mode ≠ 1) (hv : validateJob s (cJob c) = .ok [i]) :
    Does .pmaJob [.pma, .fab, .hif] s fun t => Waits c .job t ∧ t.hif.mem = s.hif.mem
      ∧ ∃ a, (t.sect i).queue = (s.sect i).queue ++ [a] ∧ a.desc = cJob c ∧ a.cmd = some c ∧ a.core = none := by
  have hexec := exec_pmaJob hd h hw hm hv
  have hwait : Only [.pma, .fab, .hif] s (waitOn c .job 0 res0 u) := (h.only (by simp)).trans (only_waitOn _ _ _ _ _ (by simp))
  obtain ⟨hframe, a, hqueue, hdesc, hcmd, hcore⟩ := acceptJob_spec (cJob c) (some c) none i (waitOn c .job 0 res0 u)
  have hsect : (waitOn c .job 0 res0 u).sect i = s.sect i := sect_congr (congrArg Pma.sect h.parts.1) i
  rw [hsect] at hqueue
  generalize acceptJob (cJob c) (some c) none [i] (waitOn c .job 0 res0 u) = t at hexec hframe hqueue
  have hwhole := hwait.trans (hframe.mono (by simp))
  have hmem : t.hif.mem = s.hif.mem := (hwhole.2 .hostMem (by simp)).1
  have hwaits : t.hif.waits = (waitOn c .job 0 res0 u).hif.waits := hframe.waits (by simp)
  refine does_of_act hexec h.power rfl hwhole fun _ _ => 
    ⟨⟨{ cmd := c, on := .job, deadline := u.clk.tempo + 0, res := res0 }, ?_, rfl, rfl⟩, hmem, a, hqueue, hdesc, hcmd, hcore⟩
  show _ ∈ t.hif.waits
  rw [hwaits]
  exact List.mem_append_right _ List.mem_cons_self

/-! ### The obligation on jobs -/

/-- Settles O30: the power group by `does_s23IdleTimeout` and `does_s23WakeDone`; a job by `does_pmaJobRun` (a pair by `does_pmaJobRun_pair`),
`does_passesEnd` and `does_jobEnds`; a job message by `does_pmaBridgeJob`; the host commands by `answers_pmaCal`, `answers_pmaStatus` and
`does_pmaJob`. -/
theorem photonicJobs : Obligations.PhotonicJobs := by
  unfold Obligations.PhotonicJobs
  refine ⟨fun s hp => ?power, fun i j more p s hp hi => ?jobs, fun i c s u hd => ?commands⟩
  case power => exact ⟨fun hon hidle hdue hb => does_s23IdleTimeout hp hon hidle hdue hb, fun hw h2 h3 => does_s23WakeDone hp hw h2 h3⟩
  case jobs =>
    intro x bridge reads
    refine ⟨fun hq hone hrun => ?starts, fun more3 hq2 hq3 hpair hrun2 hrun3 => ?pair, fun hj hres hsw hopen hone => ?passes,
      fun d hj hres hopen hone => ?ends, fun ha n hn => ?message⟩
    case starts =>
      refine (does_pmaJobRun hp hi hq hone hrun).imp ?_
      rintro t ⟨hsect, hothers, hreads⟩
      have htwo : jTwo j.desc = jComplex j.desc := by rw [jTwo, decide_eq_true hone, Bool.and_true]
      refine ⟨?_, (congrArg Sect.held hsect :), hothers, hreads, ?_⟩
      · rw [hsect, Sect.started, hq]
        rfl
      · rw [hsect, ← htwo]
        rfl
    case pair =>
      refine (does_pmaJobRun_pair hp hi hq2 hq3 hpair hrun2 hrun3).imp ?_
      rintro t ⟨h2, h3, hreads, hrun2', hrun3'⟩
      exact ⟨h2, h3, hreads, hrun2', hrun3'⟩
    case passes =>
      refine (does_passesEnd hp hj hres hsw hopen hone).imp fun t h => ?_
      obtain ⟨⟨n, sat, hresult, hall, hsome⟩, hheld, hothers, hwrites⟩ := h
      exact ⟨n, sat, hresult, hall, hsome, hheld, hothers, hwrites⟩
    case message =>
      intro d hv
      exact does_pmaBridgeJob ha hn hv
    case ends => exact (does_jobEnds hp hj hres hopen hone).imp fun t h => ⟨h.free, h.jobs, h.queue, h.idle, h.answered⟩
  case commands =>
    exact ⟨fun h hw hms hret => answers_pmaCal hd h hw hms hret, fun h hw hix => answers_pmaStatus hd h hw hix,
      fun h hw hm hv => does_pmaJob hd h hw hm hv⟩

end Sys2Proof.Machine
end

section
/-! PROOFS. The front end's moves (O31): RNC and separation changing their section, then the separation hop from its decisions to what
commits at its boundary. -/

namespace Sys2Proof.Machine

/-! ### Frames -/

/-- A change of the power state. -/
theorem only_setPwr (f : Pwr → Pwr) (s : State) : Only [.pwr] s (setPwr f s) := by
  refine ⟨rfl, fun p hp => ?_⟩
  cases p with
  | pwr => simp at hp
  | hostMem => exact ⟨rfl, rfl⟩
  | _ => rfl

/-- A change of the session. -/
theorem only_sess (x : Session) (s : State) : Only [.sess] s { s with sess := x } := by
  refine ⟨rfl, fun p hp => ?_⟩
  cases p with
  | sess => simp at hp
  | hostMem => exact ⟨rfl, rfl⟩
  | _ => rfl

/-- A change of one stream. -/
theorem only_setStream (i : Fin 16) (f : Stream → Stream) (s : State) : Only [.stream] s (setStream i f s) := only_stream _ s

/-! ### RNC and separation move with their sections (R145) -/

/-- Filter states lowered to fit the lanes leave the rest of the front end (R141). -/
theorem lowerStates_spec (s : State) :
    Only [.fe, .dbg] s (lowerStates s) ∧ ∃ n states, (lowerStates s).fe = { s.fe with nState := n, states := states } := by
  unfold lowerStates
  dsimp only
  split
  · exact ⟨(only_fe _ s).comp (only_logPma _ 0 0) (by simp) (by simp), _, _, (only_logPma _ 0 0).2 .fe (by simp)⟩
  · exact ⟨.refl _ s, _, _, rfl⟩

/-- RNC stands on another path than S0 gives. -/
def State.rncMoves (s : State) : Bool :=
  s.fe.rncOn && decide (s.fe.rncPath = 1 ∨ s.fe.rncPath = 2) && decide (s.fe.rncPath ≠ s.rncPathNow)

/-- Separation stands on another path than S1 gives. -/
def State.sepMoves (s : State) : Bool :=
  decide (s.fe.sepPath = 1 ∨ s.fe.sepPath = 2) && decide (s.sepPathNow = 1 ∨ s.sepPathNow = 2) && decide (s.fe.sepPath ≠ s.sepPathNow)

/-- The paths that stand on another section take the one in force. -/
def pathsMoved (s : State) : State := { s with fe := { s.fe with
  rncPath := if s.rncMoves then s.rncPathNow else s.fe.rncPath, sepPath := if s.sepMoves then s.sepPathNow else s.fe.sepPath } }

/-- RNC back on S0 is lowered to its lanes. -/
def pathsFitted (back : Bool) (s : State) : State := if back && decide (s.fe.rncPath = 1) then lowerStates s else s

/-- Paths fitted leave the rest of the front end. -/
theorem pathsFitted_spec (back : Bool) (s : State) :
    Only [.fe, .dbg] s (pathsFitted back s) ∧ ∃ n states, (pathsFitted back s).fe = { s.fe with nState := n, states := states } := by
  unfold pathsFitted
  split
  · exact lowerStates_spec s
  · exact ⟨.refl _ s, _, _, rfl⟩

/-- The event that shows the paths in force. -/
def pathsLogged (s : State) : State := logEvent 0xFF 5 (wd s.fe.rncPath.toNat) (wd s.fe.sepPath.toNat) s

/-- The event is the newest, and nothing but the observation registers changes. -/
theorem pathsLogged_spec (s : State) : Only [.dbg] s (pathsLogged s) ∧ ∃ e, (pathsLogged s).dbg.newest = some e ∧ e.code = 0xFF := by
  obtain ⟨-, e, hnewest, hcode, -⟩ := logEvent_logged 0xFF 5 (wd s.fe.rncPath.toNat) (wd s.fe.sepPath.toNat) s
  exact ⟨only_logEvent _ _ _ _ s (by simp), e, hnewest, hcode⟩

/-- The move is that of the paths, of the states that S0 has lanes for, and its event. -/
theorem exec_rncPathMove (s : State) :
    exec .rncPathMove s = act s (s.rncMoves || s.sepMoves) (pathsLogged (pathsFitted s.rncMoves (pathsMoved s))) := rfl

/-- RNC_PATH_MOVE (R145). -/
theorem does_rncPathMove {s : State} (hp : s.powered = true) (hon : s.fe.rncOn = true) (hpath : s.fe.rncPath = 1 ∨ s.fe.rncPath = 2)
    (hmove : s.fe.rncPath ≠ s.rncPathNow) : Does .rncPathMove [.fe, .dbg] s fun t =>
      t.fe.rncPath = s.rncPathNow ∧ t.fe.matrix = s.fe.matrix ∧ t.fe.rncOn = true ∧ t.fe.suspended = s.fe.suspended
        ∧ ∃ e, t.dbg.newest = some e ∧ e.code = 0xFF := by
  have hmoves : s.rncMoves = true := by
    rw [State.rncMoves, hon, decide_eq_true hpath, decide_eq_true hmove]
    rfl
  have hnow : (pathsMoved s).fe.rncPath = s.rncPathNow := if_pos hmoves
  have hexec := exec_rncPathMove s
  have hmoved : Only [.fe] s (pathsMoved s) := only_fe _ s
  obtain ⟨hfitted, n, states, hfe⟩ := pathsFitted_spec s.rncMoves (pathsMoved s)
  generalize pathsFitted s.rncMoves (pathsMoved s) = u at hexec hfitted hfe
  obtain ⟨hlogged, hevent⟩ := pathsLogged_spec u
  generalize pathsLogged u = t at hexec hlogged hevent
  have ht : t.fe = { (pathsMoved s).fe with nState := n, states := states } := Eq.trans (hlogged.2 .fe (by simp)) hfe
  have hframe : Only [.fe, .dbg] s t := ((hmoved.mono (by simp)).trans hfitted).trans (hlogged.mono (by simp))
  refine does_of_act hexec hp (by rw [hmoves, Bool.true_or]) hframe fun _ _ => ?_
  rw [ht]
  exact ⟨hnow, rfl, hon, rfl, hevent⟩

/-! ### Voice activity (20_streams.md R366, 15_recurrence.md R284) -/

/-- The parts that streams touch as voice activity and boundaries reach them. -/
def voiceParts : List Part := [.gates, .fab, .grid, .tiers, .stream, .hif, .hostMem, .pwr]

/-- A move queued. -/
theorem only_queueMove (m : Move) (s : State) : Only [.tiers] s (queueMove m s) := by
  unfold queueMove
  dsimp only
  split
  · exact .refl _ s
  · exact only_setTiers _ s (by simp)

/-- A restore trigger. -/
theorem only_restoreState (i : Fin 16) (s : State) : Only [.tiers, .stream] s (restoreState i s) := by
  unfold restoreState
  split
  · exact .refl _ s
  · dsimp only
    split
    · exact .refl _ s
    · have hasked (f : Obj → Obj) (g : Stream → Stream) (id : Nat) : Only [.tiers, .stream] s (setStream i g (setObj id f s)) :=
        (only_setTiers _ s (by simp)).trans ((only_setStream i g _).mono (by simp))
      refine Only.foldl ((hasked _ _ _).trans (only_setTiers _ _ (by simp))) fun u x => ?_
      exact (Only.refl _ u).cond ((only_queueMove _ u).mono (by simp))

/-- From QUIET the change to ACTIVE only sets its target: intonation is that of STANDBY (24_power.md R419). -/
theorem beginMode_active {s : State} (h : s.pwr.mode = 2) : beginMode 3 s = setPwr (fun x => { x with target := some 3 }) s := by
  have hmode : (setPwr (fun x => { x with target := some 3 }) s).pwr.mode ≠ 1 := by
    rw [setPwr_pwr, h]
    decide
  unfold beginMode
  dsimp only
  rw [if_neg (by decide), if_neg hmode]

/-- The automatic wake is the power state's (24_power.md R420). -/
theorem only_autoWake (s : State) : Only [.pwr] s (autoWake s) := by
  unfold autoWake
  split_ifs with hoff hquiet
  · exact .refl _ s
  · obtain ⟨hmode, -⟩ := Bool.and_eq_true_iff.1 hquiet
    rw [beginMode_active (of_decide_eq_true hmode)]
    exact (only_setPwr _ s).trans (only_setPwr _ _)
  · exact only_setPwr _ s
  · exact .refl _ s

/-- Voice activity starts on a seat. -/
theorem only_vadStart (q : Fin 4) (first : Nat) (s : State) : Only [.tiers, .stream, .hif, .hostMem, .pwr] s (vadStart q first s) := by
  unfold vadStart
  dsimp only
  refine Only.cond (Only.foldl (.refl _ s) fun u i => ?_) ((only_autoWake _).mono (by simp))
  refine Only.trans (Only.cond (.refl _ u) ?_) ((only_restoreState i _).mono (by simp))
  exact (recordsMoved_emitEvent ..).setStream.only.mono (by simp)

/-- Voice activity ends on a seat. -/
theorem only_vadEnd (q : Fin 4) (first : Nat) (s : State) : Only [.stream, .hif, .hostMem] s (vadEnd q first s) := by
  unfold vadEnd
  refine Only.foldl (.refl _ s) fun u i => ?_
  refine Only.cond (Only.cond (.refl _ u) ?_) ((only_setStream i _ _).mono (by simp))
  exact ((recordsMoved_setStream i _ u).trans (recordsMoved_emitEvent ..)).only

/-- The seats whose decision has changed from old to vad, in turn. -/
def voicesTold (vad old : BitVec 4) (first : Nat) (s : State) : State := (List.finRange 4).foldl (fun s q =>
  if bit vad q.1 && !bit old q.1 then vadStart q first s else if !bit vad q.1 && bit old q.1 then vadEnd q first s else s) s

/-- Changed decisions reach the streams. -/
theorem only_voicesTold (vad old : BitVec 4) (first : Nat) (s : State) : Only voiceParts s (voicesTold vad old first s) := by
  refine Only.foldl (.refl _ s) fun u q => ?_
  split_ifs
  · exact (only_vadStart q first u).mono (by simp [voiceParts])
  · exact (only_vadEnd q first u).mono (by simp [voiceParts])
  · exact .refl _ u

/-! ### Boundaries of streams and graphs (15_recurrence.md R286, 20_streams.md R365, R368) -/

/-- A change of a stream's state. -/
theorem only_toState (i : Fin 16) (st : StreamState) (s : State) : Only [.stream, .hif, .hostMem] s (toState i st s) := by
  have hheld (u : State) : Only [.stream, .hif, .hostMem] u (deferredHeld i u) :=
    (Only.refl _ u).cond ((only_finishWaits _ _ u).mono (by simp))
  exact (((recordsMoved_setStream i _ s).trans (recordsMoved_emitEvent ..)).trans (recordsMoved_closePage ..)).only.trans (hheld _)

/-- Changes of ports that stand still reach their gates. -/
theorem only_syncStopped (s : State) : Only [.gates] s (syncStopped s) := by
  refine Only.foldl (.refl _ s) fun u p => ?_
  split
  · exact .refl _ u
  · exact only_syncGates p u

/-- The open segments of a stream closed. -/
theorem only_closeSegments (i : Fin 16) (s : State) : Only [.stream] s (closeSegments i s) := only_setStream i _ s

/-- A pause takes effect. -/
theorem only_takePause (i : Fin 16) (s : State) : Only [.gates, .stream, .hif, .hostMem] s (takePause i s) := by
  unfold takePause finishOk
  have hclosed (f : Stream → Stream) : Only [.stream] s (closeSegments i (setStream i f s)) :=
    (only_setStream i f s).trans (only_closeSegments i _)
  have hpaused (f : Stream → Stream) : Only [.stream, .hif, .hostMem] s (toState i .paused (closeSegments i (setStream i f s))) :=
    ((hclosed f).mono (by simp)).trans (only_toState ..)
  exact (((hpaused _).mono (by simp)).trans ((only_syncStopped _).mono (by simp))).trans ((only_finishWaits ..).mono (by simp))

/-- Pauses of streams at a boundary. -/
theorem only_settlePauses (s : State) : Only [.gates, .stream, .hif, .hostMem] s (settlePauses s) :=
  Only.foldl (.refl _ s) fun u i => (Only.refl _ u).cond (only_takePause i u)

/-- The trees of a graph's cores are the fabric's. -/
theorem only_dropTrees (g : Fin 8) (s : State) : Only [.fab] s (dropTrees g s) :=
  Only.foldl (only_fab _ s) fun u _ => only_setNi _ _ u

/-- The phrases of a graph end. -/
theorem only_endPhrases (g : Fin 8) (s : State) : Only [.stream, .hif, .hostMem] s (endPhrases g s) := by
  refine Only.foldl (.refl _ s) fun u i => ?_
  have hclosed : Only [.stream, .hif, .hostMem] u (setStream i (fun t => { t with idleAt := u.clk.tempo }) (closeSegments i u)) :=
    ((only_closeSegments i u).trans (only_setStream i _ _)).mono (by simp)
  dsimp only
  split_ifs
  · exact hclosed.trans (only_toState ..)
  · exact hclosed.trans (only_toState ..)
  · exact hclosed

/-- A graph stops. -/
theorem only_stopGraph (g : Fin 8) (s : State) : Only [.fab, .grid, .stream, .hif, .hostMem] s (stopGraph g s) := by
  have hidle (f : Graph → Graph) (c : State → Vector Core 288) : Only [.fab, .grid] s
      { setGraph g f (dropTrees g s) with grid := { (setGraph g f (dropTrees g s)).grid with core := c (setGraph g f (dropTrees g s)) } } :=
    ((only_dropTrees g s).mono (by simp)).trans (((only_grid _ _).trans (only_grid _ _)).mono (by simp))
  exact (hidle _ fun u => mapV u.grid.core _).comp (only_endPhrases g _) (by simp) (by simp)

/-- Stops of graphs at a boundary. -/
theorem only_settleStops (s : State) : Only [.fab, .grid, .stream, .hif, .hostMem] s (settleStops s) := by
  refine Only.foldl (.refl _ s) fun u g => (Only.refl _ u).cond ?_
  exact (only_stopGraph g u).trans (((only_finishWaits ..).trans (only_finishWaits ..)).mono (by simp))

/-! ### What is staged for the hop (R149; 19_commands.md Table 19.8) -/

/-- A separation path that was to change changes. -/
def sepTaken (s : State) : State := match s.fe.sepDue with
  | some p => { s with fe := { s.fe with sepPath := p, sepDue := none, sepState := 0 } }
  | none => s

/-- The microphones whose ports are not synchronous. -/
def micsOff (m : Vector Byte 16) (s : State) : BitVec 16 := (List.finRange 16).foldl (fun (x : BitVec 16) (i : Fin 16) =>
  if chanValid m[i] && !(s.sap[chanPort m[i]]).sync then setBit x i.1 true else x) 0

/-- A separation configuration in force. -/
def cfgLoaded (k : BitVec 4) (m : Vector Byte 16) (s : State) : State := { s with fe := { s.fe with
  kSep := k, mics := m, cfgSt := none, micOff := micsOff m s, micLost := decide (micsOff m s ≠ 0) } }

/-- A staged configuration is taken over, and separation that was off starts. -/
def cfgTaken (s : State) : State := match s.fe.cfgSt with
  | some (k, m) => if (cfgLoaded k m s).fe.sepPath = 0 then
      { cfgLoaded k m s with fe := { (cfgLoaded k m s).fe with sepPath := (cfgLoaded k m s).sepPathNow } } else cfgLoaded k m s
  | none => s

/-- A staged seat map is taken over. -/
def seatsTaken (s : State) : State := match s.fe.seatSt with
  | some d => applySeats d (d[2].setWidth 4) { s with fe := { s.fe with seatSt := none } }
  | none => s

/-- The hop's commit takes over the path, the configuration and the seat map, then answers the commands that waited. -/
theorem hopCommit_eq (s : State) : hopCommit s = finishOk (fun w => decide (w.on = .hop)) (seatsTaken (cfgTaken (sepTaken s))) := rfl

/-- No path stays due. -/
theorem sepTaken_spec (s : State) : Only [.fe] s (sepTaken s)
    ∧ ∃ p x, (sepTaken s).fe = { s.fe with sepPath := p, sepDue := none, sepState := x } := by
  unfold sepTaken
  split
  case h_1 p _ => exact ⟨only_fe _ s, p, 0, rfl⟩
  case h_2 h => exact ⟨.refl _ s, _, _, congrArg (fun d => { s.fe with sepDue := d }) h⟩

/-- No configuration stays staged, and the one that was is in force. -/
theorem cfgTaken_spec (s : State) : Only [.fe] s (cfgTaken s) ∧ ∃ k m off lost p,
    (cfgTaken s).fe = { s.fe with kSep := k, mics := m, cfgSt := none, micOff := off, micLost := lost, sepPath := p }
      ∧ ∀ k' m', s.fe.cfgSt = some (k', m') → k = k' ∧ m = m' := by
  unfold cfgTaken
  split
  case h_1 k m h =>
    have hsame : ∀ k' m', s.fe.cfgSt = some (k', m') → k = k' ∧ m = m' := fun k' m' h' => Prod.mk.inj (Option.some.inj (h.symm.trans h'))
    have hloaded : Only [.fe] s (cfgLoaded k m s) := only_fe _ s
    split
    · exact ⟨hloaded.trans (only_fe _ _), k, m, _, _, _, rfl, hsame⟩
    · exact ⟨hloaded, k, m, _, _, _, rfl, hsame⟩
  case h_2 h =>
    refine ⟨.refl _ s, _, _, _, _, _, congrArg (fun d => { s.fe with cfgSt := d }) h, fun k' m' h' => ?_⟩
    cases h.symm.trans h'

/-- No seat map stays staged, and the session is the same one. -/
theorem seatsTaken_spec (s : State) : Only [.fe, .sess] s (seatsTaken s) ∧ (seatsTaken s).fe = { s.fe with seatSt := none }
    ∧ (seatsTaken s).sess.id = s.sess.id ∧ (seatsTaken s).sess.open_ = s.sess.open_
    ∧ (s.fe.seatSt = none → (seatsTaken s).sess = s.sess) := by
  unfold seatsTaken
  split
  case h_1 d h =>
    have hframe : Only [.fe, .sess] s (applySeats d (d[2].setWidth 4) { s with fe := { s.fe with seatSt := none } }) :=
      (only_fe _ s).comp (only_sess _ _) (by simp) (by simp)
    exact ⟨hframe, rfl, rfl, rfl, fun h' => by cases h.symm.trans h'⟩
  case h_2 h => exact ⟨.refl _ s, congrArg (fun d => { s.fe with seatSt := d }) h, rfl, rfl, fun _ => rfl⟩

/-- The answers of the hop leave everything but the host interface, and no command waits for the hop any more. -/
theorem hopAnswered_spec (s : State) : Only [.hif, .hostMem] s (finishOk (fun w => decide (w.on = .hop)) s)
    ∧ ∀ w ∈ (finishOk (fun w => decide (w.on = .hop)) s).hif.waits, w.on ≠ .hop := by
  refine ⟨only_finishWaits _ _ s, fun w hw hon => ?_⟩
  rw [finishOk, finishWaits_waits, List.mem_filter, hon] at hw
  exact absurd hw.2 (by decide)

/-- What the commit at a hop makes of the front end and the session. -/
structure HopCommitted (s t : State) : Prop where
  /-- the parts touched -/
  frame : Only [.fe, .sess, .hif, .hostMem] s t
  /-- the decisions, the frames collected and the talker signals stand -/
  kept : t.fe.vad = s.fe.vad ∧ t.fe.hopFrames = s.fe.hopFrames ∧ t.fe.talker = s.fe.talker
  /-- nothing stays staged -/
  staged : t.fe.cfgSt = none ∧ t.fe.seatSt = none ∧ t.fe.sepDue = none
  /-- the configuration that was staged -/
  cfg : ∀ k m, s.fe.cfgSt = some (k, m) → t.fe.kSep = k ∧ t.fe.mics = m
  /-- the session is the same -/
  session : t.sess.id = s.sess.id ∧ t.sess.open_ = s.sess.open_
  /-- and changes only by a seat map -/
  seats : s.fe.seatSt = none → t.sess = s.sess
  /-- the commands that waited are answered -/
  answered : ∀ w ∈ t.hif.waits, w.on ≠ .hop

/-- The hop's commit. -/
theorem hopCommitted (s : State) : HopCommitted s (hopCommit s) := by
  rw [hopCommit_eq]
  obtain ⟨hsep, p, x, hsepFe⟩ := sepTaken_spec s
  generalize sepTaken s = a at hsep hsepFe ⊢
  obtain ⟨hcfg, k, m, off, lost, q, hcfgFe, hsame⟩ := cfgTaken_spec a
  generalize cfgTaken a = b at hcfg hcfgFe ⊢
  obtain ⟨hseats, hseatsFe, hid, hopen, hstands⟩ := seatsTaken_spec b
  generalize seatsTaken b = c at hseats hseatsFe hid hopen hstands ⊢
  obtain ⟨hanswered, hwaits⟩ := hopAnswered_spec c
  generalize finishOk (fun w => decide (w.on = .hop)) c = t at hanswered hwaits ⊢
  have hfe : t.fe = c.fe := hanswered.2 .fe (by simp)
  have hsess : t.sess = c.sess := hanswered.2 .sess (by simp)
  have hbefore : b.sess = s.sess := (hsep.trans hcfg).2 .sess (by simp)
  rw [hsepFe] at hcfgFe hsame
  rw [hcfgFe] at hseatsFe hstands
  rw [hseatsFe] at hfe
  rw [hbefore] at hid hopen hstands
  exact {
    frame := ((hsep.trans hcfg).mono (by simp)).trans ((hseats.mono (by simp)).trans (hanswered.mono (by simp)))
    kept := by rw [hfe]; exact ⟨rfl, rfl, rfl⟩
    staged := by rw [hfe]; exact ⟨rfl, rfl, rfl⟩
    cfg := by rw [hfe]; exact hsame
    session := by rw [hsess]; exact ⟨hid, hopen⟩
    seats := by rw [hsess]; exact hstands
    answered := hwaits }

/-! ### The hop (R146, R147, R149) -/

/-- The seats that have a talker signal: those occupied, while the session is open and separation runs. -/
def State.hopSeats (s : State) : BitVec 4 := if s.sess.open_ && decide (s.fe.sepPath ≠ 0) then s.sess.occupied else 0

/-- The frames of a hop taken. -/
def hopTaken (s : State) : State := { s with fe := { s.fe with hopFrames := s.fe.hopFrames - 192, hopFirst := s.fe.hopNext } }

/-- The decisions of a hop with its talker signals. -/
def hopHeard (vad : BitVec 4) (s : State) : State :=
  talkerHop s.hopSeats { s with fe := { s.fe with vad := s.voices vad &&& s.hopSeats } }

/-- The talker signals go to the recognition encoder, or are held. -/
def hopHanded (seats : BitVec 4) (s : State) : State := { s with fe := { s.fe with
  hops := mapV s.fe.hops fun q n => if (bit seats q.1 && !s.fe.frozen) && !s.seatHeld q then n + 1 else n
  held := mapV s.fe.held fun q n => if (bit seats q.1 && !s.fe.frozen) && s.seatHeld q then n + 1 else n } }

/-- A hop whose frames are taken, up to its commit. -/
def hopPlayed (vad : BitVec 4) (first : Nat) (s : State) : State := settleStops (settlePauses (releaseHops (hopHanded s.hopSeats
  (voicesTold (s.voices vad &&& s.hopSeats) s.fe.vad first (hopHeard vad s)))))

/-- SEPARATION_HOP takes its frames, plays the hop and commits. -/
theorem exec_separationHop (vad : BitVec 4) (first : Nat) (s : State) : exec (.separationHop vad first) s =
    act s (s.boot.quietReady && s.hubOn && s.fe.loaded && decide (192 ≤ s.fe.hopFrames) && decide (first = s.fe.hopFirst))
      (hopCommit (hopPlayed vad first (hopTaken s))) := rfl

/-- What the frames taken leave of the front end. -/
theorem hopTaken_fe (s : State) : (hopTaken s).fe = { s.fe with hopFrames := s.fe.hopFrames - 192, hopFirst := s.fe.hopNext } := rfl

/-- The frames taken leave the decisions. -/
theorem hopTaken_voices (vad : BitVec 4) (s : State) : (hopTaken s).voices vad = s.voices vad := by
  unfold State.voices
  rw [hopTaken_fe]

/-- The frames taken leave the seats. -/
theorem hopTaken_hopSeats (s : State) : (hopTaken s).hopSeats = s.hopSeats := by
  unfold State.hopSeats
  rw [hopTaken_fe]
  rfl

/-- A talker signal has 64 samples for each seat that has one (01_cabin.md R16). -/
theorem talkerHop_length (seats : BitVec 4) (s : State) (q : Fin 4) :
    ((talkerHop seats s).fe.talker[q]).length = if bit seats q.1 then 64 else 0 := by
  simp only [talkerHop, Fin.getElem_fin, Vector.getElem_ofFn]
  split
  · rw [List.length_map, List.length_range]
  · rfl

/-- What a hop heard makes of the front end. -/
theorem hopHeard_fe (vad : BitVec 4) (s : State) : ∃ talker,
    (hopHeard vad s).fe = { s.fe with vad := s.voices vad &&& s.hopSeats, talker := talker }
      ∧ ∀ q : Fin 4, (talker[q]).length = if bit s.hopSeats q.1 then 64 else 0 := ⟨_, rfl, talkerHop_length _ _⟩

/-- Nothing of the front end has changed but the hops handed on and held. -/
def HopsMoved (s t : State) : Prop := t.fe = { s.fe with hops := t.fe.hops, held := t.fe.held }

/-- Hops move, then move again. -/
theorem HopsMoved.trans {s t u : State} (h : HopsMoved s t) (h' : HopsMoved t u) : HopsMoved s u :=
  Eq.trans h' (congrArg (fun f : Fe => { f with hops := u.fe.hops, held := u.fe.held }) h)

/-- What leaves the front end moves no hop. -/
theorem Only.hopsMoved {ps : List Part} {s t : State} (h : Only ps s t) (hps : Part.fe ∉ ps) : HopsMoved s t := by
  have hfe : t.fe = s.fe := h.2 .fe hps
  rw [HopsMoved, hfe]

/-- The parts that a hop touches up to its commit. -/
def hopParts : List Part := .freeCtr :: .fe :: voiceParts

/-- After its decisions and talker signals a hop changes streams, graphs and the hops handed on, and nothing else of the front end. -/
theorem hopPlayed_spec (vad : BitVec 4) (first : Nat) (s : State) :
    Only hopParts s (hopPlayed vad first s) ∧ HopsMoved (hopHeard vad s) (hopPlayed vad first s) := by
  unfold hopPlayed
  have hheard : Only [.freeCtr, .fe] s (hopHeard vad s) := only_fe_freeCtr _ _ s
  have htold := only_voicesTold (s.voices vad &&& s.hopSeats) s.fe.vad first (hopHeard vad s)
  generalize voicesTold (s.voices vad &&& s.hopSeats) s.fe.vad first (hopHeard vad s) = u at htold ⊢
  have hhanded : Only [.fe] u (releaseHops (hopHanded s.hopSeats u)) := (only_fe _ u).trans (only_fe _ _)
  have hmoved : HopsMoved u (releaseHops (hopHanded s.hopSeats u)) := rfl
  generalize releaseHops (hopHanded s.hopSeats u) = v at hhanded hmoved ⊢
  have hsettled : Only voiceParts v (settleStops (settlePauses v)) :=
    (only_settlePauses v).comp (only_settleStops _) (by simp [voiceParts]) (by simp [voiceParts])
  refine ⟨?_, ((htold.hopsMoved (by simp [voiceParts])).trans hmoved).trans (hsettled.hopsMoved (by simp [voiceParts]))⟩
  exact ((hheard.mono (by simp [hopParts])).trans (htold.mono (by simp [hopParts]))).trans
    ((hhanded.mono (by simp [hopParts])).trans (hsettled.mono (by simp [hopParts])))

/-- What a hop gives: the decisions, the talker signals, and the commit after them. -/
structure HopDone (vad : BitVec 4) (s t : State) : Prop where
  /-- the decisions of the seats -/
  decided : t.fe.vad = s.voices vad &&& s.hopSeats
  /-- 192 frames are taken -/
  frames : t.fe.hopFrames = s.fe.hopFrames - 192
  /-- the talker signals -/
  talker : ∀ q : Fin 4, (t.fe.talker[q]).length = if bit s.hopSeats q.1 then 64 else 0
  /-- the commit takes over what was staged before -/
  commit : ∃ u : State, HopCommitted u t ∧ u.fe.cfgSt = s.fe.cfgSt ∧ u.fe.seatSt = s.fe.seatSt ∧ u.sess = s.sess

/-- A hop with its commit. -/
theorem hopDone (vad : BitVec 4) (first : Nat) (s : State) :
    Only [.freeCtr, .gates, .fe, .fab, .grid, .tiers, .sess, .stream, .hif, .hostMem, .pwr] s (hopCommit (hopPlayed vad first (hopTaken s)))
      ∧ HopDone vad s (hopCommit (hopPlayed vad first (hopTaken s))) := by
  obtain ⟨hplayed, hmoved⟩ := hopPlayed_spec vad first (hopTaken s)
  have hframe : Only hopParts s (hopPlayed vad first (hopTaken s)) := Only.trans ((only_fe _ s).mono (by simp [hopParts])) hplayed
  have hsess : (hopPlayed vad first (hopTaken s)).sess = s.sess := hframe.2 .sess (by simp [hopParts, voiceParts])
  obtain ⟨talker, hheard, hlength⟩ := hopHeard_fe vad (hopTaken s)
  rw [hopTaken_voices, hopTaken_hopSeats, hopTaken_fe] at hheard
  rw [hopTaken_hopSeats] at hlength
  rw [HopsMoved, hheard] at hmoved
  have hcommit := hopCommitted (hopPlayed vad first (hopTaken s))
  generalize hopPlayed vad first (hopTaken s) = u at hframe hmoved hcommit hsess ⊢
  generalize hopCommit u = t at hcommit ⊢
  obtain ⟨hvad, hframes, htalker⟩ := hcommit.kept
  refine ⟨(hframe.mono (by simp [hopParts, voiceParts])).trans (hcommit.frame.mono (by simp)), ?_, ?_, ?_, u, hcommit, ?_, ?_, hsess⟩
  · rw [hvad, hmoved]
  · rw [hframes, hmoved]
  · rw [htalker, hmoved]
    exact hlength
  · rw [hmoved]
  · rw [hmoved]

/-- SEPARATION_HOP (R146, R147, R149). -/
theorem does_separationHop (vad : BitVec 4) {s : State} (hp : s.powered = true) (hboot : s.boot.quietReady = true) (hhub : s.hubOn = true)
    (hloaded : s.fe.loaded = true) (hfull : 192 ≤ s.fe.hopFrames) :
    Does (.separationHop vad s.fe.hopFirst) [.freeCtr, .gates, .fe, .pma, .fab, .grid, .tiers, .sess, .stream, .hif, .hostMem, .pwr] s fun t =>
      t.fe.vad = s.voices vad &&& s.hopSeats ∧ t.fe.hopFrames = s.fe.hopFrames - 192
        ∧ (∀ q : Fin 4, (t.fe.talker[q]).length = if bit s.hopSeats q.1 then 64 else 0) ∧ (∀ w ∈ t.hif.waits, w.on ≠ .hop)
        ∧ t.fe.cfgSt = none ∧ t.fe.seatSt = none ∧ t.fe.sepDue = none ∧ t.sess.id = s.sess.id ∧ t.sess.open_ = s.sess.open_
        ∧ (∀ k m, s.fe.cfgSt = some (k, m) → t.fe.kSep = k ∧ t.fe.mics = m) ∧ (s.fe.seatSt = none → t.sess = s.sess) := by
  have hexec := exec_separationHop vad s.fe.hopFirst s
  obtain ⟨hframe, hdecided, hframes, htalker, u, hcommit, hcfg, hseat, hsess⟩ := hopDone vad s.fe.hopFirst s
  generalize hopCommit (hopPlayed vad s.fe.hopFirst (hopTaken s)) = t at hexec hframe hdecided hframes htalker hcommit
  obtain ⟨hcfgSt, hseatSt, hsepDue⟩ := hcommit.staged
  obtain ⟨hid, hopen⟩ := hcommit.session
  rw [hsess] at hid hopen
  have hguard : (s.boot.quietReady && s.hubOn && s.fe.loaded && decide (192 ≤ s.fe.hopFrames)
      && decide (s.fe.hopFirst = s.fe.hopFirst)) = true := by
    rw [hboot, hhub, hloaded, decide_eq_true hfull, decide_eq_true rfl]
    rfl
  exact does_of_act hexec hp hguard (hframe.mono (by simp)) fun _ _ =>
    ⟨hdecided, hframes, htalker, hcommit.answered, hcfgSt, hseatSt, hsepDue, hid, hopen, fun k m h => hcommit.cfg k m (hcfg.trans h),
      fun h => (hcommit.seats (hseat.trans h)).trans hsess⟩

/-! ### The obligation -/

/-- Settles O31: the move by `does_rncPathMove`, the hop by `does_separationHop`. -/
theorem frontEndMoves : Obligations.FrontEndMoves := by
  unfold Obligations.FrontEndMoves
  intro vad s hp seats
  exact ⟨fun hon hpath hmove => does_rncPathMove hp hon hpath hmove,
    fun hboot hhub hloaded hfull => does_separationHop vad hp hboot hhub hloaded hfull⟩

end Sys2Proof.Machine
end

section
/-! PROOFS. What the tiers leave of the grid (O32, O33): they move bytes in and out of the home memories, and nothing else of a core. -/

namespace Sys2Proof.Machine

/-! ### Steps that leave the grid but for the home memories -/

/-- Nothing but the listed parts has changed, and of the grid only home memories. -/
structure HomesStep (ps : List Part) (s t : State) : Prop where
  /-- the parts touched -/
  frame : Only ps s t
  /-- the grid but for its cores -/
  grid : t.grid = { s.grid with core := t.grid.core }
  /-- each core but for its home memory -/
  core : ∀ n : Fin 288, t.core n = { s.core n with home := (t.core n).home }

section
variable {ps qs : List Part} {s t u : State}

/-- No step. -/
theorem HomesStep.refl (ps : List Part) (s : State) : HomesStep ps s s := ⟨.refl ps s, rfl, fun _ => rfl⟩

/-- A step, then another. -/
theorem HomesStep.trans (h : HomesStep ps s t) (h' : HomesStep ps t u) : HomesStep ps s u where
  frame := h.frame.trans h'.frame
  grid := h'.grid.trans (congrArg (fun g : Grid => { g with core := u.grid.core }) h.grid)
  core n := (h'.core n).trans (congrArg (fun c : Core => { c with home := (u.core n).home }) (h.core n))

/-- A step of some parts is one of more. -/
theorem HomesStep.mono (h : HomesStep ps s t) (hsub : ps ⊆ qs) : HomesStep qs s t := ⟨h.frame.mono hsub, h.grid, h.core⟩

/-- A change that leaves the grid. -/
theorem Only.homes (h : Only ps s t) (hg : .grid ∉ ps := by simp) : HomesStep ps s t := by
  have e : t.grid = s.grid := h.2 .grid hg
  have hc (n : Fin 288) : t.core n = s.core n := congrArg (fun g : Grid => g.core[n]) e
  refine ⟨h, ?_, fun n => ?_⟩
  · rw [e]
  · rw [hc n]

/-- A step that may take place. -/
theorem HomesStep.cond {c : Prop} [Decidable c] (h : HomesStep ps s t) : HomesStep ps s (if c then t else s) := by
  split
  · exact h
  · exact .refl ps s

/-- Steps in a row. -/
theorem HomesStep.foldl {α : Type} {f : State → α → State} {l : List α} (h : HomesStep ps s u) (hf : ∀ v a, HomesStep ps v (f v a)) :
    HomesStep ps s (l.foldl f u) :=
  List.foldlRecOn (motive := HomesStep ps s) l f h fun v hv a _ => hv.trans (hf v a)

/-- What a step leaves of the graphs. -/
theorem HomesStep.graph (h : HomesStep ps s t) : t.grid.graph = s.grid.graph := by rw [h.grid]

end

/-! ### Runs and entries (12_tiers.md) -/

/-- A step of the tiers: they change, and home memories. -/
abbrev TierStep (s t : State) : Prop := HomesStep [.grid, .tiers] s t

/-- A change of the tiers. -/
theorem homes_setTiers (f : Tiers → Tiers) (s : State) : TierStep s (setTiers f s) :=
  (only_setTiers (ps := [.tiers]) f s (by simp)).homes.mono (by simp)

/-- Bytes put into a home memory. -/
theorem homes_putHome (j a : Nat) (b : List Byte) (s : State) : TierStep s (putHome j a b s) := by
  unfold putHome
  split
  case isFalse => exact .refl _ s
  case isTrue h =>
    refine ⟨(only_grid _ s).mono (by simp), rfl, fun n => ?_⟩
    by_cases hn : (⟨j, h⟩ : Fin 288) = n
    · subst hn
      rw [setCore_core]
    · rw [setCore_other _ _ _ _ hn]

/-- Bytes put into DRAM. -/
theorem homes_putDram (a : Nat) (b : List Byte) (s : State) : TierStep s (putDram a b s) := homes_setTiers ..

/-- An entry set. -/
theorem homes_setEntry (t : Nat) (e : Entry) (s : State) : TierStep s (setEntry t e s) := homes_setTiers ..

/-- A run taken. -/
theorem homes_takeRun (t : Nat) (j : Fin 288) (g n : Nat) (s : State) : TierStep s (takeRun t j g n s) := homes_setTiers ..

/-- A run released. -/
theorem homes_dropRun (tile node granule : Nat) (s : State) : TierStep s (dropRun tile node granule s) := homes_setTiers ..

/-- A run closed or opened. -/
theorem homes_closeRun (tile node granule : Nat) (closed : Bool) (s : State) : TierStep s (closeRun tile node granule closed s) :=
  homes_setTiers ..

/-- A move queued. -/
theorem homes_queueMove (m : Move) (s : State) : TierStep s (queueMove m s) :=
  (only_queueMove m s).homes.mono (by simp)

/-- A move given up. -/
theorem homes_moveAbandon (c : Fin 8) (m : Moving) (s : State) : TierStep s (moveAbandon c m s) := by
  unfold moveAbandon
  extract_lets e s1 s2 s3
  have h1 : TierStep s s1 := by
    unfold s1
    split
    · exact .refl _ s
    · exact homes_setEntry ..
  have h2 : TierStep s1 s2 := by
    unfold s2
    split
    · exact homes_closeRun ..
    · exact .refl _ s1
  have h3 : TierStep s2 s3 := by
    unfold s3
    split
    · exact homes_dropRun ..
    · exact .refl _ s2
  exact ((h1.trans h2).trans h3).trans (homes_setTiers ..)

/-- An object changed. -/
theorem homes_setObj (id : Nat) (f : Obj → Obj) (s : State) : TierStep s (setObj id f s) := homes_setTiers ..

/-- A tile stored RAW because its code is no shorter. -/
theorem homes_escapeRaw (b : List Byte) (s : State) : TierStep s (escapeRaw b s).2 := by
  dsimp only [escapeRaw]
  exact homes_setTiers ..

/-- A tile's form for its frame. -/
theorem homes_frameForm (o : Obj) (t : Nat) (b : List Byte) (s : State) : TierStep s (frameForm o t b s).2 := by
  have htable : TierStep s (tableFor o t s).2 := by
    unfold tableFor
    dsimp only
    split
    · exact .refl _ s
    · dsimp only
      exact (homes_setObj ..).trans (homes_setTiers ..)
  unfold frameForm
  split
  · unfold xeForm
    dsimp only
    split
    · exact htable
    · exact htable.trans (homes_escapeRaw ..)
  · exact .refl _ s

/-- A tile that arrives in DRAM. -/
theorem homes_arriveDram (o : Obj) (m : Moving) (s : State) : TierStep s (arriveDram o m s) := by
  unfold arriveDram
  extract_lets t e f
  split_ifs
  · exact homes_setEntry ..
  · exact homes_setEntry ..
  · exact homes_setEntry ..
  · exact ((homes_frameForm ..).trans (homes_putDram ..)).trans (homes_setEntry ..)
  · exact ((homes_frameForm ..).trans (homes_putDram ..)).trans (homes_setEntry ..)
  · exact (homes_putDram ..).trans (homes_setEntry ..)
  · exact (homes_putDram ..).trans (homes_setEntry ..)

/-- A run that leaves its pool. -/
theorem homes_expelRun (r : Run) (s : State) : TierStep s (expelRun r s) := by
  unfold expelRun
  dsimp only
  have hdrop := homes_dropRun r.tile r.node r.granule s
  split
  · exact hdrop
  · split
    · exact hdrop
    · split
      · exact ((hdrop.trans (homes_takeRun ..)).trans (homes_putHome ..)).trans (homes_setEntry ..)
      · exact hdrop.trans (homes_arriveDram ..)

/-- The runs of a node packed. -/
theorem homes_packPool (j : Fin 288) (s : State) : TierStep s (packPool j s) := by
  unfold packPool
  extract_lets rs sorted
  refine List.foldlRecOn (motive := fun a : Nat × State => TierStep s a.2) sorted _ (.refl _ s) fun a ha r _ => ?_
  extract_lets u g b v e w
  have hv : TierStep u v := (homes_putHome ..).trans (homes_setTiers ..)
  have hw : TierStep v w := (homes_setEntry ..).cond
  exact ha.trans (hv.trans hw)

/-- The pool of a node fitted to what its core leaves of the banks (R153). -/
theorem homes_fitPool (j : Fin 288) (s : State) : TierStep s (fitPool j s) := by
  unfold fitPool
  refine HomesStep.foldl (.trans (.trans (.foldl (.refl _ s) fun u x => ?moves) (homes_setTiers ..)) (homes_packPool ..)) fun u r => ?runs
  case moves => exact (homes_moveAbandon ..).trans (homes_queueMove ..)
  case runs =>
    split
    · exact .refl _ u
    · exact homes_expelRun ..

end Sys2Proof.Machine
end

section
/-! PROOFS. A staged switch of programs (O33): the image, the plan, then the cores at their ENTRY. -/

namespace Sys2Proof.Machine

/-! ### What the parts of a switch leave of the grid -/

/-- Nothing but the listed parts has changed, and of the grid only its cores. -/
structure MapStep (ps : List Part) (s t : State) : Prop where
  /-- the parts touched -/
  frame : Only ps s t
  /-- the grid but for its cores -/
  grid : t.grid = { s.grid with core := t.grid.core }

section
variable {ps qs : List Part} {s t u : State}

/-- A step, then another. -/
theorem MapStep.trans (h : MapStep ps s t) (h' : MapStep ps t u) : MapStep ps s u where
  frame := h.frame.trans h'.frame
  grid := h'.grid.trans (congrArg (fun g : Grid => { g with core := u.grid.core }) h.grid)

/-- A step of some parts is one of more. -/
theorem MapStep.mono (h : MapStep ps s t) (hsub : ps ⊆ qs) : MapStep qs s t := ⟨h.frame.mono hsub, h.grid⟩

/-- A step that leaves the grid but for the home memories. -/
theorem HomesStep.map (h : HomesStep ps s t) : MapStep ps s t := ⟨h.frame, h.grid⟩

/-- A change that leaves the grid. -/
theorem Only.map (h : Only ps s t) (hg : .grid ∉ ps := by simp) : MapStep ps s t := h.homes hg |>.map

/-- Steps in a row. -/
theorem MapStep.foldl {α : Type} {f : State → α → State} {l : List α} (h : MapStep ps s u) (hf : ∀ v a, MapStep ps v (f v a)) :
    MapStep ps s (l.foldl f u) :=
  List.foldlRecOn (motive := MapStep ps s) l f h fun v hv a _ => hv.trans (hf v a)

/-- The roles stand. -/
theorem MapStep.role (h : MapStep ps s t) : t.grid.role = s.grid.role := by rw [h.grid]

/-- The graphs stand. -/
theorem MapStep.graph (h : MapStep ps s t) : t.grid.graph = s.grid.graph := by rw [h.grid]

/-- The numbers stand where the roles do. -/
theorem MapStep.nodeOf (h : MapStep ps s t) (l : Nat) : t.nodeOf l = s.nodeOf l := by
  unfold State.nodeOf
  rw [h.role]

/-- The cores of a graph stand where the roles and the graphs do. -/
theorem MapStep.coresOf (h : MapStep ps s t) (g : Fin 8) : t.coresOf g = s.coresOf g := by
  simp only [State.coresOf, h.graph, h.nodeOf]

end

/-- The cores changed, and nothing else. -/
theorem map_withCores (v : Vector Core 288) (s : State) : MapStep [.grid] s { s with grid := { s.grid with core := v } } :=
  ⟨only_grid _ s, rfl⟩

/-- A core changed. -/
theorem map_setCore (n : Fin 288) (f : Core → Core) (s : State) : MapStep [.grid] s (setCore n f s) := map_withCores _ s

/-- An image bound to a graph's cores. -/
theorem map_bindCores (g : Fin 8) (cores : List Nat) (h : List Word) (code : List Byte) (s : State) :
    MapStep [.fab, .grid, .tiers, .dbg] s (bindCores g cores h code s) := by
  unfold bindCores
  extract_lets nodes u grid v
  have hu : MapStep [.fab] s u := (only_dropTrees g s).map
  have hv : MapStep [.grid] u v := map_withCores _ u
  have hfit : MapStep [.grid, .tiers] v (nodes.foldl (fun s j => fitPool j s) v) :=
    HomesStep.map (.foldl (.refl _ v) fun w j => homes_fitPool j w)
  have hev (w : State) : MapStep [.dbg] w (buildEvent (hBuild h) w) := (only_logEvent _ _ _ _ w (by simp)).map
  exact (((hu.mono (by simp)).trans (hv.mono (by simp))).trans (hfit.mono (by simp))).trans ((hev _).mono (by simp))

/-- A plan put in force (R169). -/
theorem map_installPlan (g : Fin 8) (p : Plan) (launch : Bool) (s : State) : MapStep [.fab] s (installPlan g p launch s) := by
  refine Only.map ?_
  unfold installPlan
  refine Only.foldl (Only.foldl (only_dropTrees g s) fun u x => only_setNi ..) fun u x => ?_
  dsimp only
  split
  · exact (only_fab _ u).trans (only_setNi ..)
  · exact .refl _ u

/-! ### The parts of a switch (R165) -/

/-- The staged image, loaded. -/
def imageSwitched (g : Fin 8) (s : State) : State :=
  match (s.grid.graph[g]).stagedImage with
  | some (id, cores) => match s.imageOf id with
    | some (h, code) => bindCores g cores h code
        (setGraph g (fun y => { y with image := id, cores := cores, numerics := hNumerics h, build := hBuild h, stagedImage := none }) s)
    | none => s
  | none => s

/-- The graph after a switch: the next epoch, and nothing staged. -/
def switchedGraph (x y : Graph) : Graph :=
  { y with epoch := x.epoch + 1, plan := if x.stagedPlan.isSome then x.stagedPlan else y.plan, stagedImage := none, stagedPlan := none }

/-- The plan in force after a switch, installed. -/
def planSwitched (g : Fin 8) (s : State) : State :=
  match (s.grid.graph[g]).plan with
  | some p => installPlan g p false s
  | none => s

/-- A core at a switch: one that paused keeps its state but for what R166 sets, another starts anew. -/
def Core.switched (l : Nat) (g : Fin 8) (e : BitVec 16) (c : Core) : Core :=
  if c.run = .paused then { c with
    run := .running, atPitch := false, pc := wd (4 * c.entry), handler := false
    g := ((c.g.set 0 (wd l)).set 1 (wd g.1)).set 2 (e.setWidth 32) }
  else c.launch l g e

/-- A core of the graph switched, its scratch open again. -/
def coreSwitched (g : Fin 8) (e : BitVec 16) (s : State) (a : Nat × Fin 288) : State :=
  freeScratch a.2 (s.core a.2).scratchBase (setCore a.2 (Core.switched a.1 g e) s)

/-- A switch is that of the image, of the graph and its plan, then of the cores. -/
theorem switchGraph_eq (g : Fin 8) (s : State) :
    let u := planSwitched g (setGraph g (switchedGraph s.grid.graph[g]) (imageSwitched g s))
    switchGraph g s = (u.coresOf g).foldl (coreSwitched g ((s.grid.graph[g]).epoch + 1)) u := rfl

/-- A switch of images leaves the roles and the graph's state. -/
theorem imageSwitched_spec (g : Fin 8) (s : State) : Only [.fab, .grid, .tiers, .dbg] s (imageSwitched g s)
    ∧ (imageSwitched g s).grid.role = s.grid.role ∧ ((imageSwitched g s).grid.graph[g]).state = (s.grid.graph[g]).state := by
  unfold imageSwitched
  split
  · split
    next id cores _ _ h code _ =>
      have hset (f : Graph → Graph) : Only [.grid] s (setGraph g f s) := only_grid _ s
      have hb (f : Graph → Graph) := map_bindCores g cores h code (setGraph g f s)
      refine ⟨((hset _).mono (by simp)).trans (hb _).frame, (hb _).role, ?_⟩
      rw [(hb _).graph]
      have hsame (f : Graph → Graph) : (setGraph g f s).grid.graph[g] = f s.grid.graph[g] := modAt_same ..
      rw [hsame]
    · exact ⟨.refl _ s, rfl, rfl⟩
  · exact ⟨.refl _ s, rfl, rfl⟩

/-- The plan of a switch is the fabric's. -/
theorem map_planSwitched (g : Fin 8) (s : State) : MapStep [.fab] s (planSwitched g s) := by
  unfold planSwitched
  split
  · exact map_installPlan ..
  · exact (Only.refl _ s).map

/-! ### The cores of a switch (R166) -/

/-- The core runs from its ENTRY with its number, its graph and the epoch. -/
def AtEntry (l : Nat) (g : Fin 8) (e : BitVec 16) (c : Core) : Prop :=
  c.run = .running ∧ c.pc = wd (4 * c.entry) ∧ c.g[0] = wd l ∧ c.g[1] = wd g.1 ∧ c.g[2] = e.setWidth 32

/-- A core switched is at its ENTRY. -/
theorem atEntry_switched (l : Nat) (g : Fin 8) (e : BitVec 16) (c : Core) : AtEntry l g e (c.switched l g e) := by
  unfold Core.switched
  split
  · simp [AtEntry]
  · simp [AtEntry, Core.launch]

/-- Scratch that is open again leaves the roles and the graphs. -/
theorem map_freeScratch (j : Fin 288) (base : Nat) (s : State) : MapStep [.freeCtr, .grid] s (freeScratch j base s) := by
  have hfree : MapStep [.freeCtr] s { s with freeCtr := s.freeCtr + 1 } := (only_freeCtr _ s (by simp)).map
  exact (hfree.mono (by simp)).trans ((map_setCore j _ _).mono (by simp))

/-- A core switched leaves the roles and the graphs. -/
theorem map_coreSwitched (g : Fin 8) (e : BitVec 16) (s : State) (a : Nat × Fin 288) :
    MapStep [.freeCtr, .grid] s (coreSwitched g e s a) := ((map_setCore a.2 _ s).mono (by simp)).trans (map_freeScratch ..)

/-- The core that is switched. -/
theorem coreSwitched_core (g : Fin 8) (e : BitVec 16) (s : State) (a : Nat × Fin 288) :
    AtEntry a.1 g e ((coreSwitched g e s a).core a.2) := by
  unfold coreSwitched freeScratch
  rw [setCore_core]
  have h := atEntry_switched a.1 g e (s.core a.2)
  have hc := setCore_core a.2 (Core.switched a.1 g e) s
  rw [← hc] at h
  exact h

/-- The other cores. -/
theorem coreSwitched_other (g : Fin 8) (e : BitVec 16) (s : State) (a : Nat × Fin 288) {n : Fin 288} (h : a.2 ≠ n) :
    (coreSwitched g e s a).core n = s.core n := by
  unfold coreSwitched freeScratch
  rw [setCore_other _ _ _ _ h]
  exact setCore_other a.2 n _ s h

/-- Every core of a list of them is at its ENTRY once all are switched. -/
theorem coresSwitched_atEntry {g : Fin 8} {e : BitVec 16} (as : List (Nat × Fin 288)) (s : State) (a : Nat × Fin 288)
    (ha : a ∈ as ∨ AtEntry a.1 g e (s.core a.2)) (hinj : ∀ b ∈ as, b.2 = a.2 → b.1 = a.1) :
    AtEntry a.1 g e ((as.foldl (coreSwitched g e) s).core a.2) := by
  induction as generalizing s with
  | nil => exact ha.resolve_left (List.not_mem_nil)
  | cons b as ih =>
    obtain ⟨hb, has⟩ := List.forall_mem_cons.1 hinj
    refine ih _ ?_ has
    by_cases hn : b.2 = a.2
    · right
      have h := coreSwitched_core g e s b
      rwa [hn, hb hn] at h
    · refine ha.elim (fun hm => ?_) fun h => ?_
      · exact .inl ((List.mem_cons.1 hm).resolve_left fun heq => hn (congrArg Prod.snd heq.symm))
      · right
        rwa [coreSwitched_other g e s b hn]

/-- The node of a number has it as its role. -/
theorem role_of_nodeOf {s : State} {l : Nat} {j : Fin 288} (h : s.nodeOf l = some j) : s.grid.role[j] = .mapped l := by
  have h' := List.find?_some h
  exact of_decide_eq_true h'

/-- The members of a graph's cores. -/
theorem nodeOf_of_mem_coresOf {s : State} {g : Fin 8} {a : Nat × Fin 288} (h : a ∈ s.coresOf g) : s.nodeOf a.1 = some a.2 := by
  obtain ⟨l, -, hl⟩ := List.mem_filterMap.1 h
  obtain ⟨j, hj, rfl⟩ := Option.map_eq_some_iff.1 hl
  exact hj

/-- A node stands for one number only. -/
theorem coresOf_injective {s : State} {g : Fin 8} {a b : Nat × Fin 288} (ha : a ∈ s.coresOf g) (hb : b ∈ s.coresOf g) (h : b.2 = a.2) :
    b.1 = a.1 := by
  have hra := role_of_nodeOf (nodeOf_of_mem_coresOf ha)
  have hrb := role_of_nodeOf (nodeOf_of_mem_coresOf hb)
  rw [h, hra] at hrb
  exact (Role.mapped.inj hrb).symm

/-! ### The switch -/

/-- What a switch makes of the graph and its cores. -/
theorem switchGraph_spec (g : Fin 8) (s : State) : Only [.freeCtr, .fab, .grid, .tiers, .dbg] s (switchGraph g s)
    ∧ (∃ y : Graph, y.state = (s.grid.graph[g]).state ∧ (switchGraph g s).grid.graph[g] = switchedGraph s.grid.graph[g] y)
    ∧ ∀ a ∈ (switchGraph g s).coresOf g, AtEntry a.1 g ((s.grid.graph[g]).epoch + 1) ((switchGraph g s).core a.2) := by
  rw [switchGraph_eq]
  obtain ⟨himage, hrole, hstate⟩ := imageSwitched_spec g s
  generalize imageSwitched g s = u at himage hrole hstate ⊢
  have hgraph : Only [.grid] u (setGraph g (switchedGraph s.grid.graph[g]) u) := only_grid _ u
  have hsame : (setGraph g (switchedGraph s.grid.graph[g]) u).grid.graph[g] = switchedGraph s.grid.graph[g] u.grid.graph[g] := modAt_same ..
  generalize setGraph g (switchedGraph s.grid.graph[g]) u = v at hgraph hsame ⊢
  have hplan := map_planSwitched g v
  generalize planSwitched g v = w at hplan ⊢
  have hcores : MapStep [.freeCtr, .grid] w ((w.coresOf g).foldl (coreSwitched g ((s.grid.graph[g]).epoch + 1)) w) :=
    MapStep.foldl (HomesStep.refl _ w).map fun x a => map_coreSwitched ..
  refine ⟨?_, ⟨_, hstate, ?_⟩, fun a ha => ?_⟩
  · exact ((himage.mono (by simp)).trans (hgraph.mono (by simp))).trans ((hplan.frame.mono (by simp)).trans (hcores.frame.mono (by simp)))
  · rw [hcores.graph, hplan.graph, hsame]
  · rw [hcores.coresOf] at ha
    exact coresSwitched_atEntry _ w a (.inl ha) fun b hb => coresOf_injective ha hb

/-- PROGRAM_SWITCH (R165, R166, R190). -/
theorem does_programSwitch {g : Fin 8} {s : State} (hp : s.powered = true) (hrun : (s.grid.graph[g]).state = .running)
    (hstaged : ((s.grid.graph[g]).stagedImage.isSome || (s.grid.graph[g]).stagedPlan.isSome) = true) (hpaused : s.allPaused g = true)
    (hrows : (s.grid.graph[g]).rowsDown = false) : Does (.programSwitch g) [.freeCtr, .fab, .grid, .tiers, .hif, .hostMem, .dbg] s fun t =>
      (∃ y : Graph, y.state = .running ∧ t.grid.graph[g] = switchedGraph s.grid.graph[g] y) ∧ (∀ w ∈ t.hif.waits, w.on ≠ .switch g)
        ∧ ∀ a ∈ t.coresOf g, AtEntry a.1 g ((s.grid.graph[g]).epoch + 1) (t.core a.2) := by
  obtain ⟨hframe, ⟨y, hstate, hgraph⟩, hcores⟩ := switchGraph_spec g s
  have hexec : exec (.programSwitch g) s = act s _ (finishOk (fun w => decide (w.on = .switch g)) (switchGraph g s)) := rfl
  generalize switchGraph g s = u at hframe hgraph hcores hexec
  have hdone : MapStep [.hif, .hostMem] u (finishOk (fun w => decide (w.on = .switch g)) u) := (only_finishWaits _ _ u).map
  have hwaits : ∀ w ∈ (finishOk (fun w => decide (w.on = .switch g)) u).hif.waits, w.on ≠ .switch g := by
    intro w hw hon
    rw [finishOk, finishWaits_waits, List.mem_filter, hon] at hw
    simp at hw
  have hcore (n : Fin 288) : (finishOk (fun w => decide (w.on = .switch g)) u).core n = u.core n :=
    congrArg (fun x : Grid => x.core[n]) (hdone.frame.2 .grid (by simp))
  have hguard : (decide ((s.grid.graph[g]).state = .running) && ((s.grid.graph[g]).stagedImage.isSome || (s.grid.graph[g]).stagedPlan.isSome)
      && s.allPaused g && !(s.grid.graph[g]).rowsDown) = true := by
    rw [decide_eq_true hrun, hstaged, hpaused, hrows]
    rfl
  generalize finishOk (fun w => decide (w.on = .switch g)) u = t at hexec hdone hwaits hcore
  refine does_of_act hexec hp hguard ((hframe.mono (by simp)).trans (hdone.frame.mono (by simp))) fun sent pba => ⟨⟨y, hstate.trans hrun, ?_⟩, hwaits, ?_⟩
  · rw [← hgraph]
    exact congrArg (·[g]) hdone.graph
  · intro a ha
    have ha' : a ∈ t.coresOf g := ha
    rw [hdone.coresOf] at ha'
    have h := hcores a ha'
    rw [← hcore] at h
    exact h

end Sys2Proof.Machine
end

section
/-! PROOFS. What a step writes to the tiers (O33): the object's tiles, the token log and the map's header (12_tiers.md, 14_attention_kv.md). -/

namespace Sys2Proof.Machine

/-! ### Tiles written -/

/-- A run released. -/
theorem homes_freeRun (t : Nat) (s : State) : TierStep s (freeRun t s) := homes_setTiers ..

/-- A pool short of room evicts (R240). -/
theorem homes_evictPool (j : Fin 288) (s : State) : TierStep s (evictPool j s) := by
  unfold evictPool
  split
  case isFalse => exact .refl _ s
  case isTrue =>
    dsimp only
    refine List.foldlRecOn (motive := fun a : Nat × State => TierStep s a.2) _ _ (.refl _ s) fun a ha x _ => ?_
    split
    · exact ha
    · exact ha.trans (homes_queueMove ..)

/-- A table in an expander's cache (R253). -/
theorem homes_fetchTable (expander : Nat) (o : Obj) (t : Nat) (s : State) : TierStep s (fetchTable expander o t s) := by
  unfold fetchTable
  dsimp only
  split
  · exact .refl _ s
  · exact homes_setTiers ..

/-- An expander has a tile's table (R252). -/
theorem homes_expandFetch (t : Nat) (s : State) : TierStep s (expandFetch t s) := by
  unfold expandFetch
  split
  · exact HomesStep.cond (homes_fetchTable ..)
  · exact .refl _ s

/-- A tile used (R240). -/
theorem homes_touch (t : Nat) (s : State) : TierStep s (touch t s) := by
  unfold touch
  dsimp only
  split
  · exact .refl _ s
  · exact (homes_setTiers ..).trans (homes_setEntry ..)

/-- A tile poisoned (R247). -/
theorem homes_poison (t : Nat) (s : State) : TierStep s (poison t s) := by
  unfold poison
  split
  · exact .refl _ s
  · exact (homes_setEntry ..).trans (homes_setTiers ..)

/-- A tile stored for the first time. -/
theorem homes_storeNew (o : Obj) (t : Nat) (b : List Byte) (s : State) : TierStep s (storeNew o t b s) := by
  unfold storeNew
  extract_lets wantHome place
  generalize place = p
  generalize s.pickFrame o t = frame
  split
  next j g frame =>
    extract_lets u f
    have hu : TierStep s u := (homes_takeRun ..).trans (homes_putHome ..)
    split
    · exact (hu.trans (homes_setEntry ..)).trans (homes_evictPool ..)
    · exact (hu.trans (homes_setEntry ..)).trans (homes_evictPool ..)
  next f => exact (homes_putDram ..).trans (homes_setEntry ..)
  next => exact (homes_setEntry ..).trans (homes_poison ..)

/-- A tile stored RAW in its serving copy (R243). -/
theorem homes_storeRaw (o : Obj) (t : Nat) (b : List Byte) (s : State) : TierStep s (storeRaw o t b s) := by
  have hfree := homes_freeRun t s
  unfold storeRaw
  dsimp only
  split
  case isFalse => exact (homes_putDram ..).trans (homes_setEntry ..)
  case isTrue =>
    split
    · exact (homes_putHome ..).trans (homes_setEntry ..)
    · split
      · exact ((hfree.trans (homes_takeRun ..)).trans (homes_putHome ..)).trans (homes_setEntry ..)
      · exact (hfree.trans (homes_putDram ..)).trans (homes_setEntry ..)

/-! ### Marks of streams -/

/-- What a pitch shows of a stream: word 0 of its header tile, whether it is to pause, its state. -/
structure Mark where
  /-- the word -/
  slot : Word
  /-- to pause -/
  pausing : Bool
  /-- the state -/
  state : StreamState

/-- A stream's mark. -/
def Stream.mark (t : Stream) : Mark := ⟨t.slotWord, t.pausing, t.state⟩

/-- Every stream keeps its mark. -/
structure SameMarks (s t : State) : Prop where
  /-- each mark -/
  mark : ∀ j : Fin 16, (t.stream[j]).mark = (s.stream[j]).mark

section
variable {ps : List Part} {s t u : State}

/-- No step. -/
theorem SameMarks.refl (s : State) : SameMarks s s := ⟨fun _ => rfl⟩

/-- A step, then another. -/
theorem SameMarks.trans (h : SameMarks s t) (h' : SameMarks t u) : SameMarks s u := ⟨fun j => (h'.mark j).trans (h.mark j)⟩

/-- A step that leaves the streams. -/
theorem SameMarks.of_stream (h : t.stream = s.stream) : SameMarks s t := ⟨fun j => by rw [h]⟩

/-- A change that leaves the streams. -/
theorem Only.sameMarks (h : Only ps s t) (hs : .stream ∉ ps := by simp) : SameMarks s t := .of_stream (h.2 .stream hs)

/-- A step that may take place. -/
theorem SameMarks.cond {c : Prop} [Decidable c] (h : SameMarks s t) : SameMarks s (if c then t else s) := by
  split
  · exact h
  · exact .refl s

end

/-- One stream changed: the others. -/
theorem setStream_other (i j : Fin 16) (f : Stream → Stream) (s : State) (h : i ≠ j) : (setStream i f s).stream[j] = s.stream[j] :=
  modAt_other _ i j f h

/-- One stream changed: that stream. -/
theorem setStream_same (i : Fin 16) (f : Stream → Stream) (s : State) : (setStream i f s).stream[i] = f s.stream[i] := modAt_same ..

/-- A change of a stream that leaves its mark. -/
theorem sameMarks_setStream (i : Fin 16) (f : Stream → Stream) (s : State) (hf : ∀ t, (f t).mark = t.mark := by exact fun _ => rfl) :
    SameMarks s (setStream i f s) := by
  refine ⟨fun j => ?_⟩
  by_cases h : i = j
  · subst h
    rw [setStream_same, hf]
  · rw [setStream_other i j f s h]

/-- A write to host memory. -/
theorem sameMarks_upWrite (a : BitVec 64) (ws : List Word) (s : State) : SameMarks s (upWrite a ws s) := by
  obtain ⟨m, q, e⟩ := upWrite_eq a ws s
  rw [e]
  exact .of_stream rfl

/-- Records lost (18_rings.md R337). -/
theorem sameMarks_loseRecords (i : Fin 16) (rs : List Rec) (s : State) : SameMarks s (loseRecords i rs s) := by
  unfold loseRecords
  split
  · extract_lets t fresh g u
    have hu : SameMarks s u := sameMarks_setStream i _ s
    exact hu.trans (SameMarks.cond (.of_stream rfl))
  · exact .refl s

/-- Filled pages go into the return ring (R333). -/
theorem sameMarks_serveReturns (k : Nat) (s : State) : SameMarks s (serveReturns k s) := by
  induction k generalizing s with
  | zero => exact .refl s
  | succ k ih =>
    unfold serveReturns
    split
    · exact .refl s
    · split
      · exact .refl s
      · split
        · exact .of_stream rfl
        · extract_lets u hif v
          have hv : SameMarks s v := (sameMarks_upWrite _ _ s).trans (.of_stream rfl)
          refine hv.trans (SameMarks.trans ?_ (ih _))
          exact sameMarks_setStream _ _ _

/-- A page returned (R332). -/
theorem sameMarks_returnPage (i : Fin 16) (reason : BitVec 3) (addr : BitVec 64) (used : Nat) (rs : List Rec) (s : State) :
    SameMarks s (returnPage i reason addr used rs s) := by
  unfold returnPage drainReturns
  extract_lets t u v
  have hv : SameMarks u v := sameMarks_setStream i _ u
  have hqueued (h : Hif) : SameMarks v { v with hif := h } := .of_stream rfl
  exact ((sameMarks_upWrite _ _ s).trans hv).trans ((hqueued _).trans (sameMarks_serveReturns ..))

/-- A current page returned. -/
theorem sameMarks_closePage (i : Fin 16) (reason : BitVec 3) (s : State) : SameMarks s (closePage i reason s) := by
  unfold closePage
  split
  · exact .refl s
  · split
    · exact .refl s
    · refine SameMarks.trans ?_ (sameMarks_returnPage ..)
      exact sameMarks_setStream i _ s

/-- Words written to a page, and the stream changed. -/
theorem sameMarks_fillPage (i : Fin 16) (p : Page) (ws : List Word) (rs : List Rec) (f : Stream → Stream) (s : State)
    (hf : ∀ t, (f t).mark = t.mark := by exact fun _ => rfl) : SameMarks s (setStream i f (fillPage i p ws rs s)) :=
  .trans (.trans (sameMarks_upWrite _ _ s) (sameMarks_setStream i _ _)) (sameMarks_setStream i f _ hf)

/-- A backlog moved into pages (R337). -/
theorem sameMarks_drainBacklog (k : Nat) (i : Fin 16) (s : State) : SameMarks s (drainBacklog k i s) := by
  induction k generalizing s with
  | zero => exact .refl s
  | succ k ih =>
    unfold drainBacklog
    dsimp only
    split
    · exact .refl s
    · split
      · split
        · exact .refl s
        · split
          · exact .refl s
          · refine SameMarks.trans ?_ (ih _)
            exact sameMarks_setStream i _ s
      · split
        · split
          · refine SameMarks.trans ?_ (ih _)
            exact sameMarks_fillPage ..
          · exact (sameMarks_closePage ..).trans (ih _)
        · split
          · refine SameMarks.trans ?_ (ih _)
            exact sameMarks_fillPage ..
          · exact (sameMarks_closePage ..).trans (ih _)
        · exact .refl s

/-- A record generated (R334). -/
theorem sameMarks_emit (i : Fin 16) (tempo ty : Nat) (body : List Word) (s : State) : SameMarks s (emit i tempo ty body s) := by
  unfold emit
  extract_lets t len ws gone u v
  have hv : SameMarks u v := sameMarks_setStream i _ u
  exact ((sameMarks_loseRecords i _ s).trans hv).trans (sameMarks_drainBacklog ..)

/-- A restore trigger (15_recurrence.md R284). -/
theorem sameMarks_restoreState (i : Fin 16) (s : State) : SameMarks s (restoreState i s) := by
  unfold restoreState
  split
  · exact .refl s
  next o _ =>
    split
    · exact .refl s
    · extract_lets u v
      have hu : SameMarks (setObj o.id (fun o => { o with restored := true }) s) u := sameMarks_setStream i _ _
      have hv : SameMarks u v := .of_stream rfl
      have hasked := (homes_setObj o.id (fun o => { o with restored := true }) s).frame.sameMarks
      exact List.foldlRecOn (motive := SameMarks s) _ _ ((hasked.trans hu).trans hv) fun w hw x _ => hw.trans (only_queueMove _ w).sameMarks.cond

/-! ### Steps that keep the marks -/

/-- What a pitch touches. -/
def pitchParts : List Part := [.gates, .grid, .tiers, .stream, .hif, .hostMem, .dbg]

/-- A part of a pitch that leaves every stream's mark, and of the grid all but home memories. -/
structure StepKept (s t : State) : Prop where
  /-- the frame -/
  homes : HomesStep pitchParts s t
  /-- the marks -/
  marks : SameMarks s t

section
variable {ps : List Part} {s t u : State}

/-- No step. -/
theorem StepKept.refl (s : State) : StepKept s s := ⟨.refl _ s, .refl s⟩

/-- A step, then another. -/
theorem StepKept.trans (h : StepKept s t) (h' : StepKept t u) : StepKept s u := ⟨h.homes.trans h'.homes, h.marks.trans h'.marks⟩

/-- A step that may take place. -/
theorem StepKept.cond {c : Prop} [Decidable c] (h : StepKept s t) : StepKept s (if c then t else s) := ⟨h.homes.cond, h.marks.cond⟩

/-- Steps in a row. -/
theorem StepKept.foldl {α : Type} {f : State → α → State} {l : List α} (h : StepKept s u) (hf : ∀ v a, StepKept v (f v a)) :
    StepKept s (l.foldl f u) := List.foldlRecOn (motive := StepKept s) l f h fun v hv a _ => hv.trans (hf v a)

/-- A step of the tiers. -/
theorem HomesStep.kept (h : TierStep s t) : StepKept s t := ⟨h.mono (by simp [pitchParts]), h.frame.sameMarks⟩

/-- Records (18_rings.md R331). -/
theorem RecordsMoved.kept (h : RecordsMoved s t) (hm : SameMarks s t) : StepKept s t := ⟨h.only.homes.mono (by simp [pitchParts]), hm⟩

/-- A change of the observation registers. -/
theorem Only.dbgKept (h : Only [.dbg] s t) : StepKept s t := ⟨h.homes.mono (by simp [pitchParts]), h.sameMarks⟩

/-- Commands answered. -/
theorem Only.waitsKept (h : Only [.hif, .hostMem] s t) : StepKept s t := ⟨h.homes.mono (by simp [pitchParts]), h.sameMarks⟩

/-- Gates. -/
theorem Only.gatesKept (h : Only [.gates] s t) : StepKept s t := ⟨h.homes.mono (by simp [pitchParts]), h.sameMarks⟩

end

/-- A change of a stream that leaves its mark. -/
theorem kept_setStream (i : Fin 16) (f : Stream → Stream) (s : State) (hf : ∀ t, (f t).mark = t.mark := by exact fun _ => rfl) :
    StepKept s (setStream i f s) := (recordsMoved_setStream i f s).kept (sameMarks_setStream i f s hf)

/-- A record. -/
theorem kept_emit (i : Fin 16) (tempo ty : Nat) (body : List Word) (s : State) : StepKept s (emit i tempo ty body s) :=
  (recordsMoved_emit ..).kept (sameMarks_emit ..)

/-- An EVENT record. -/
theorem kept_emitEvent (i : Fin 16) (tempo code : Nat) (status : BitVec 8) (prev : StreamState) (value : BitVec 64) (s : State) :
    StepKept s (emitEvent i tempo code status prev value s) := kept_emit ..

/-- A restore trigger. -/
theorem kept_restoreState (i : Fin 16) (s : State) : StepKept s (restoreState i s) :=
  ⟨(only_restoreState i s).homes.mono (by simp [pitchParts]), sameMarks_restoreState i s⟩

/-- What a use of a tile asks for (R239). -/
theorem kept_demand (t : Nat) (s : State) : StepKept s (demand t s) := by
  unfold demand
  split
  · exact .refl s
  next o _ =>
    split
    · exact StepKept.cond (homes_queueMove ..).kept
    · split
      · exact .refl s
      · split
        · exact kept_restoreState ..
        · exact StepKept.foldl (homes_setObj ..).kept fun u x => StepKept.cond (homes_queueMove ..).kept
    · exact .refl s

/-- A tile written (R235, R243). -/
theorem kept_writeTile (t off : Nat) (b : List Byte) (s : State) : StepKept s (writeTile t off b s) := by
  unfold writeTile
  extract_lets u e full v old new
  have hu : StepKept s u := StepKept.cond (kept_demand t s)
  split
  · exact hu
  · extract_lets w cleared x
    have hv : StepKept u v := by
      unfold v
      split
      · exact .refl u
      · exact (homes_expandFetch t u).kept
    have hw : StepKept v w := by
      unfold w
      split
      · exact (homes_storeNew ..).kept
      · exact (homes_storeRaw ..).kept
    have hx : StepKept w x := StepKept.cond (homes_setEntry ..).kept
    exact (((hu.trans hv).trans hw).trans hx).trans ((kept_demand t x).trans (homes_touch ..).kept)

/-- Bytes written to U-space. -/
theorem kept_uWriteBytes (a : Nat) (b : List Byte) (s : State) : StepKept s (uWriteBytes a b s) := by
  unfold uWriteBytes
  generalize b.length / 4096 + 2 = k
  induction k generalizing a b s with
  | zero => exact .refl s
  | succ k ih =>
    unfold uPut
    split
    · exact .refl s
    · exact (kept_writeTile ..).trans (ih ..)

/-- A KV context changed. -/
theorem kept_setKv (i : Fin 16) (f : Kv → Kv) (s : State) : StepKept s (setKv i f s) := (homes_setTiers ..).kept

/-- Words written to the pool. -/
theorem kept_poolWords (tile word : Nat) (ws : List Word) (s : State) : StepKept s (poolWords tile word ws s) :=
  StepKept.cond (kept_uWriteBytes ..)

/-- A step committed (R267). -/
theorem kept_commitStep (i : Fin 16) (ws : List Word) (s : State) : StepKept s (commitStep i ws s) := by
  unfold commitStep logWords rewriteHeader
  split
  · exact .refl s
  · have hlog (f : Kv → Kv) (p : Nat) : StepKept s (poolWords (64 + 4 * i.1) p ws (setKv i f s)) := (kept_setKv i f s).trans (kept_poolWords ..)
    exact (((hlog _ _).trans (kept_setKv ..)).trans (kept_setKv ..)).trans (kept_poolWords ..)

end Sys2Proof.Machine
end

section
/-! PROOFS. PITCH (O33): one stream's boundary, the streams of a graph in the mask, then the core (09_core_isa.md R188, 15_recurrence.md R282). -/

namespace Sys2Proof.Machine

/-! ### Steps of one stream -/

/-- A part of a pitch that changes the mark of one stream alone, which comes to meet P. -/
structure StreamStep (i : Fin 16) (P : Mark → Prop) (s t : State) : Prop where
  /-- the frame -/
  homes : HomesStep pitchParts s t
  /-- the stream's mark -/
  own : P (t.stream[i]).mark
  /-- the other marks -/
  others : ∀ j : Fin 16, i ≠ j → (t.stream[j]).mark = (s.stream[j]).mark

section
variable {i : Fin 16} {P Q : Mark → Prop} {s t u : State}

/-- A step that leaves every mark. -/
theorem StepKept.stream (h : StepKept s t) (hp : P (s.stream[i]).mark) : StreamStep i P s t :=
  ⟨h.homes, (h.marks.mark i).symm ▸ hp, fun j _ => h.marks.mark j⟩

/-- A step, then one that rests on what it has brought about. -/
theorem StreamStep.trans (h : StreamStep i P s t) (h' : P (t.stream[i]).mark → StreamStep i Q t u) : StreamStep i Q s u :=
  have hu := h' h.own
  ⟨h.homes.trans hu.homes, hu.own, fun j hj => (hu.others j hj).trans (h.others j hj)⟩

/-- A step, then one that leaves every mark. -/
theorem StreamStep.kept (h : StreamStep i P s t) (h' : StepKept t u) : StreamStep i P s u := h.trans h'.stream

/-- What a step has brought about, said otherwise. -/
theorem StreamStep.imp (h : StreamStep i P s t) (hi : ∀ m, P m → Q m) : StreamStep i Q s t := ⟨h.homes, hi _ h.own, h.others⟩

end

/-- A step that takes one of two courses. -/
theorem StreamStep.cond {i : Fin 16} {P : Mark → Prop} {s t u : State} {c : Prop} [Decidable c] (h : StreamStep i P s t)
    (h' : StreamStep i P s u) : StreamStep i P s (if c then t else u) := by
  split
  · exact h
  · exact h'

/-- A stream changed. -/
theorem streamStep_setStream {i : Fin 16} {f : Stream → Stream} {P : Mark → Prop} {s : State} (hp : P (f s.stream[i]).mark) :
    StreamStep i P s (setStream i f s) where
  homes := (only_setStream i f s).homes.mono (by simp [pitchParts])
  own := (setStream_same i f s).symm ▸ hp
  others j hj := congrArg Stream.mark (setStream_other i j f s hj)

/-- A change of a stream's state (20_streams.md R365). -/
theorem streamStep_toState {i : Fin 16} {st : StreamState} {P : Mark → Prop} {s : State}
    (hp : P { (s.stream[i]).mark with state := st }) : StreamStep i P s (toState i st s) := by
  have hheld (u : State) : StepKept u (deferredHeld i u) := StepKept.cond (only_finishWaits ..).waitsKept
  have hpage (u : State) : StepKept u (closePage i 2 u) := (recordsMoved_closePage ..).kept (sameMarks_closePage ..)
  unfold toState
  extract_lets prev u
  have hset : StreamStep i P s u := streamStep_setStream hp
  exact ((hset.kept (kept_emitEvent ..)).kept (hpage _)).kept (hheld _)

/-! ### A stream's boundary (R365, R368) -/

/-- The word of a header tile at the next pitch: the other slot, one pitch more (R282). -/
def flippedWord (w : Word) : Word := wd ((w.toNat / 2 + 1) % 2 ^ 31 * 2 + (1 - w.toNat % 2))

/-- What a pitch makes of a stream's mark: its word flips, and one that is to pause is PAUSED. -/
def Pitched (m m' : Mark) : Prop := m'.slot = flippedWord m.slot ∧ (m.pausing = true → m'.state = .paused)

/-- The positions of a step leave the marks. -/
theorem kept_stepPositions (i : Fin 16) (ws : List Word) (s : State) : StepKept s (stepPositions i ws s) := by
  unfold stepPositions
  split
  · split
    · exact .refl s
    · extract_lets u
      have hclosed (f : Kv → Kv) : StepKept s (setKv i f (setStream i (fun t => { t with openSegs := [] }) s)) := by
        refine StepKept.trans ?_ (kept_setKv ..)
        exact kept_setStream i _ s
      exact ((hclosed _).trans (kept_emitEvent ..)).trans (only_logEvent _ _ _ _ _ (by simp)).dbgKept
  · exact kept_commitStep ..

/-- The slot flips. -/
theorem streamStep_flipSlot {i : Fin 16} {P : Mark → Prop} {s : State}
    (hp : P { (s.stream[i]).mark with slot := flippedWord (s.stream[i]).slotWord }) : StreamStep i P s (flipSlot i s) := by
  unfold flipSlot
  extract_lets w w' u
  have hset : StreamStep i P s u := streamStep_setStream hp
  split
  · exact hset.kept (kept_uWriteBytes ..)
  · exact hset

/-- The records of a step leave the marks. -/
theorem kept_stepRecords (i : Fin 16) (o : StreamOut) (s : State) : StepKept s (stepRecords i o s) := by
  have hbegin : StepKept s (segBegin i o.last s) := by
    refine (kept_emitEvent ..).trans (kept_setStream i _ _ fun t => ?_)
    split
    · rfl
    · rfl
  unfold stepRecords
  refine StepKept.foldl hbegin.cond fun u x => ?_
  have htext (v : State) : StepKept v (emitText i x v) := kept_emit ..
  refine StepKept.trans ?_ (htext _)
  exact kept_setStream i _ u

/-- A pause takes effect (R368). -/
theorem streamStep_takePause (i : Fin 16) (s : State) :
    StreamStep i (fun m => m.slot = (s.stream[i]).slotWord ∧ m.state = .paused) s (takePause i s) := by
  unfold takePause
  extract_lets u
  have hset : StreamStep i (fun m => m.slot = (s.stream[i]).slotWord) s (setStream i (fun t => { t with pausing := false }) s) :=
    streamStep_setStream rfl
  have hclose (v : State) : StepKept v (closeSegments i v) := kept_setStream i _ v
  have hu : StreamStep i (fun m => m.slot = (s.stream[i]).slotWord ∧ m.state = .paused) s u :=
    (hset.kept (hclose _)).trans fun hslot => streamStep_toState ⟨hslot, rfl⟩
  exact (hu.kept (only_syncStopped u).gatesKept).kept (only_finishWaits ..).waitsKept

/-- A phrase that ends leaves the slot (R366). -/
theorem streamStep_phraseEnd (i : Fin 16) (s : State) : StreamStep i (fun m => m.slot = (s.stream[i]).slotWord) s (phraseEnd i s) := by
  have hstay : StreamStep i (fun m => m.slot = (s.stream[i]).slotWord) s s := (StepKept.refl s).stream rfl
  unfold phraseEnd
  extract_lets t open_ u t' v
  have hu : StepKept s u := by
    refine kept_setStream i _ s fun t => ?_
    split
    · rfl
    · rfl
  have hv : StreamStep i (fun m => m.slot = (s.stream[i]).slotWord) s v := (hstay.kept hu).kept (kept_setStream i _ u)
  have hstate (st : StreamState) : StreamStep i (fun m => m.slot = (s.stream[i]).slotWord) s (toState i st v) :=
    hv.trans fun hslot => streamStep_toState hslot
  exact hstay.cond (.cond (.cond (hstate _) (.cond (hstate _) hv)) (hstay.kept hu))

/-- A stream's pitch boundary (R282, R365, R368). -/
theorem streamStep_pitchStream (i : Fin 16) (o : StreamOut) (s : State) :
    StreamStep i (Pitched (s.stream[i]).mark) s (pitchStream i o s) := by
  unfold pitchStream
  extract_lets input u v
  have hu : StreamStep i (fun m => m.slot = (s.stream[i]).slotWord ∧ m.pausing = (s.stream[i]).pausing) s u :=
    StreamStep.cond (streamStep_toState ⟨rfl, rfl⟩) ((StepKept.refl s).stream ⟨rfl, rfl⟩)
  have hflip : StreamStep i (fun m => m.slot = flippedWord (s.stream[i]).slotWord ∧ m.pausing = (s.stream[i]).pausing) s
      (flipSlot i (stepPositions i o.positions u)) :=
    (hu.kept (kept_stepPositions ..)).trans fun ⟨hslot, hpausing⟩ => streamStep_flipSlot ⟨congrArg flippedWord hslot, hpausing⟩
  have hv : StreamStep i (fun m => m.slot = flippedWord (s.stream[i]).slotWord ∧ m.pausing = (s.stream[i]).pausing) s v :=
    hflip.kept (kept_stepRecords ..)
  have hrunning (hp : ¬ (v.stream[i]).pausing = true) : ∀ m : Mark, m.slot = (v.stream[i]).slotWord → Pitched (s.stream[i]).mark m :=
    fun m hm => ⟨hm.trans hv.own.1, fun h => absurd (hv.own.2.trans h) hp⟩
  split_ifs with hp
  · exact hv.trans fun _ => (streamStep_takePause i v).imp fun m hm => ⟨hm.1.trans hv.own.1, fun _ => hm.2⟩
  · exact hv.trans fun _ => (streamStep_phraseEnd i v).imp (hrunning hp)
  · exact hv.trans fun _ => (StepKept.refl v).stream (hrunning hp _ rfl)

/-! ### The streams in the mask -/

/-- Streams pitched one after the other: each once, the others as they stand. -/
theorem pitchStreams_spec (out : Fin 16 → StreamOut) (is : List (Fin 16)) (hnd : is.Nodup) (s : State) :
    let t := is.foldl (fun s i => pitchStream i (out i) s) s
    HomesStep pitchParts s t ∧ (∀ i ∈ is, Pitched (s.stream[i]).mark (t.stream[i]).mark)
      ∧ ∀ i, i ∉ is → (t.stream[i]).mark = (s.stream[i]).mark := by
  induction is generalizing s with
  | nil => exact ⟨.refl _ s, fun i hi => absurd hi List.not_mem_nil, fun i _ => rfl⟩
  | cons k is ih =>
    obtain ⟨hk, hnd⟩ := List.nodup_cons.1 hnd
    have hstep := streamStep_pitchStream k (out k) s
    obtain ⟨hrest, hin, hout⟩ := ih hnd (pitchStream k (out k) s)
    refine ⟨hstep.homes.trans hrest, fun i hi => ?_, fun i hi => ?_⟩
    · obtain rfl | hi' := List.mem_cons.1 hi
      · have h := hout i hk
        rw [List.foldl_cons, h]
        exact hstep.own
      · have h := hin i hi'
        rwa [hstep.others i fun e => hk (e ▸ hi')] at h
    · obtain ⟨hne, hi'⟩ := not_or.1 (mt List.mem_cons.2 hi)
      exact (hout i hi').trans (hstep.others i (Ne.symm hne))

/-! ### The core -/

/-- The streams of a graph that a core's PITCH reaches. -/
def State.pitchMask (s : State) (n : Fin 288) (w : BitVec 26) (g : Fin 8) : List (Fin 16) :=
  (s.streamsOf g).filter fun i => bit ((s.core n).getG (fRs1 w)) i.1 && s.pitches i

/-- Each stream stands in the mask once. -/
theorem nodup_pitchMask (s : State) (n : Fin 288) (w : BitVec 26) (g : Fin 8) : (s.pitchMask n w g).Nodup :=
  ((List.nodup_finRange 16).filter _).filter _

/-- What a stream's step brings. -/
def pitchOut (outs : List StreamOut) (i : Fin 16) : StreamOut := (outs.find? fun o => decide (o.stream = i)).getD (StreamOut.none_ i)

/-- The core pauses where its graph's boundary is awaited (R190). -/
def corePaused (n : Fin 288) (g : Fin 8) (s : State) : State :=
  if s.boundaryDue g && s.coreRuns n then setCore n (fun c => { c with run := .paused, atPitch := true }) s else s

/-- The streams that PITCH reaches, pitched. -/
def streamsPitched (n : Fin 288) (w : BitVec 26) (outs : List StreamOut) (g : Fin 8) (s : State) : State :=
  (s.pitchMask n w g).foldl (fun s i => pitchStream i (pitchOut outs i) s) s

/-- The body of PITCH on a core of a graph. -/
def pitchBody (n : Fin 288) (w : BitVec 26) (outs : List StreamOut) (s : State) : Option State :=
  if !(s.core n).free [fRs1 w] then none
  else match (s.core n).graph with
  | none => some (coreNext n s)
  | some g =>
    if (s.pitchMask n w g).all fun i => (pitchOut outs i).positions.isEmpty || s.ctxFull i (pitchOut outs i).positions
        || s.stepReady i (pitchOut outs i).positions.length then
      some (settleStop g (corePaused n g (coreNext n (streamsPitched n w outs g s))))
    else none

/-- PITCH is that body. -/
theorem exec_pitch (n : Fin 288) (w : BitVec 26) (outs : List StreamOut) (s : State) :
    exec (.pitch n w outs) s = coreRow n 0x35 w true s (pitchBody n w outs) := rfl

/-- PITCH on a core of no graph goes on. -/
theorem pitch_retired {n : Fin 288} {w : BitVec 26} {outs : List StreamOut} {s : State} (h : CoreAt n 0x35 w s)
    (hfree : (s.core n).free [fRs1 w] = true) (hgraph : (s.core n).graph = none) : Completes (.pitch n w outs) s (Retired n id s) := by
  have hbody : pitchBody n w outs s = some (coreNext n s) := by
    unfold pitchBody
    rw [hfree, hgraph]
    rfl
  refine ⟨coreNext n s, ?_, rfl⟩
  rw [exec_pitch]
  exact coreRow_exact n _ w _ s _ _ h.power h.runs h.word rfl h.ready h.guard hbody rfl rfl rfl rfl rfl rfl rfl rfl rfl rfl

/-- What PITCH makes of its core and of the graphs, where no stop is asked for. -/
theorem corePaused_spec {n : Fin 288} {g : Fin 8} {s t : State} (h : HomesStep pitchParts s t) (hruns : s.coreRuns n = true) :
    let u := corePaused n g (coreNext n t)
    Only pitchParts s u ∧ u.stream = t.stream ∧ (u.core n).pc = (s.core n).pc + 4 ∧ u.grid.graph = s.grid.graph
      ∧ (s.boundaryDue g = false → (u.core n).run = (s.core n).run)
      ∧ (s.boundaryDue g = true → (u.core n).run = .paused ∧ (u.core n).atPitch = true) := by
  have hnext : (coreNext n t).core n = { t.core n with pc := (t.core n).pc + 4 } := setCore_core ..
  have hpc : ((coreNext n t).core n).pc = (s.core n).pc + 4 := by rw [hnext, h.core n]
  have hrun : ((coreNext n t).core n).run = (s.core n).run := by rw [hnext, h.core n]
  have hruns' : (coreNext n t).coreRuns n = true := by rw [State.coreRuns, hrun]; exact hruns
  have hframe : Only pitchParts s (coreNext n t) := h.frame.trans ((only_grid _ t).mono (by simp [pitchParts]))
  have hgraph : (coreNext n t).grid.graph = s.grid.graph := h.graph
  have hdue : (coreNext n t).boundaryDue g = s.boundaryDue g := by
    have hpending : t.grid.uPending = s.grid.uPending := by rw [h.grid]
    have hpwr : (coreNext n t).pwr = s.pwr := hframe.2 .pwr (by simp [pitchParts])
    unfold State.boundaryDue
    rw [hgraph, hpwr, ← hpending]
    rfl
  unfold corePaused
  rw [hdue, hruns', Bool.and_true]
  cases hb : s.boundaryDue g
  case false => exact ⟨hframe, rfl, hpc, hgraph, fun _ => hrun, fun h => absurd h (by decide)⟩
  case true =>
    have hpaused := setCore_core n (fun c => { c with run := .paused, atPitch := true }) (coreNext n t)
    refine ⟨hframe.trans ((only_grid _ _).mono (by simp [pitchParts])), rfl, ?_, hgraph, fun h => absurd h (by decide), fun _ => ?_⟩
    · rw [if_pos rfl, hpaused]
      exact hpc
    · rw [if_pos rfl, hpaused]
      exact ⟨rfl, rfl⟩

/-- PITCH on a core of a graph (R188, R190, R282). -/
theorem does_pitch {n : Fin 288} {w : BitVec 26} {outs : List StreamOut} {g : Fin 8} {s : State} (h : CoreAt n 0x35 w s)
    (hfree : (s.core n).free [fRs1 w] = true) (hgraph : (s.core n).graph = some g)
    (hready : ∀ i ∈ s.pitchMask n w g, (pitchOut outs i).positions = [] ∨ s.ctxFull i (pitchOut outs i).positions = true
      ∨ s.stepReady i (pitchOut outs i).positions.length = true) (hstop : (s.grid.graph[g]).stopping = false) :
    Does (.pitch n w outs) pitchParts s fun t => (t.core n).pc = (s.core n).pc + 4 ∧ t.grid.graph = s.grid.graph
      ∧ (s.boundaryDue g = false → (t.core n).run = (s.core n).run)
      ∧ (s.boundaryDue g = true → (t.core n).run = .paused ∧ (t.core n).atPitch = true)
      ∧ (∀ i ∈ s.pitchMask n w g, Pitched (s.stream[i]).mark (t.stream[i]).mark)
      ∧ ∀ i, i ∉ s.pitchMask n w g → (t.stream[i]).mark = (s.stream[i]).mark := by
  obtain ⟨hsteps, hin, hout⟩ := pitchStreams_spec (pitchOut outs) _ (nodup_pitchMask s n w g) s
  obtain ⟨hframe, hstream, hpc, hgraphs, hgoes, hpauses⟩ := corePaused_spec (g := g) hsteps h.runs
  have hall : ((s.pitchMask n w g).all fun i => (pitchOut outs i).positions.isEmpty || s.ctxFull i (pitchOut outs i).positions
      || s.stepReady i (pitchOut outs i).positions.length) = true := by
    refine List.all_eq_true.2 fun i hi => ?_
    rw [Bool.or_eq_true, Bool.or_eq_true, List.isEmpty_iff, or_assoc]
    exact hready i hi
  have hbody : pitchBody n w outs s = some (settleStop g (corePaused n g (coreNext n (streamsPitched n w outs g s)))) := by
    unfold pitchBody
    rw [hfree, hgraph]
    exact if_pos hall
  rw [← streamsPitched] at hin hout hframe hstream hpc hgraphs hgoes hpauses
  generalize corePaused n g (coreNext n (streamsPitched n w outs g s)) = t at hbody hframe hstream hpc hgraphs hgoes hpauses
  have hsettle : settleStop g t = t := by
    unfold settleStop
    rw [hgraphs, hstop]
    rfl
  rw [hsettle] at hbody
  rw [← hstream] at hin hout
  obtain ⟨sent, pba, e⟩ := coreRow_body n _ w _ s _ _ h.power h.runs h.word rfl h.ready h.guard hbody
  exact ⟨_, e, hframe.messages sent pba, hpc, hgraphs, hgoes, hpauses, hin, hout⟩

/-! ### The obligation -/

/-- Settles O33: the switch of a graph that stands at PITCH, and PITCH itself. -/
theorem programsSwitchAndPitch : Obligations.ProgramsSwitchAndPitch := by
  refine ⟨fun g s hp => ?_, fun n w outs g s => ?_⟩
  · intro x hrun hstaged hpaused hrows
    refine (does_programSwitch hp hrun hstaged hpaused hrows).imp fun t ⟨⟨y, hstate, hgraph⟩, hwaits, hcores⟩ => ?_
    dsimp only
    rw [hgraph]
    exact ⟨rfl, hstate, rfl, rfl, fun hplan => if_pos hplan, hwaits, hcores⟩
  · intro c out is h hfree
    refine ⟨pitch_retired h hfree, fun hgraph hready hstop => ?_⟩
    refine (does_pitch h hfree hgraph hready hstop).imp fun t ⟨hpc, hgraphs, hgoes, hpauses, hin, hout⟩ => ?_
    exact ⟨hpc, hgraphs, hgoes, hpauses, hin, fun i hi => congrArg Mark.slot (hout i hi)⟩

end Sys2Proof.Machine
end

section
/-! PROOFS. Numbers that change hands (O32): what each part of a replacement leaves, and the roles it sets (08_grid_cores.md R160, R161). -/

namespace Sys2Proof.Machine

/-! ### Steps that set roles -/

/-- What the parts of a replacement touch. -/
def replaceParts : List Part := [.fab, .grid, .tiers, .stream, .hif, .hostMem, .dbg]

/-- The roles have become r and the numbers that await a spare ls; of the rest of the grid only cores and graphs have changed, and no router
has gone. -/
structure RolesTo (r : Vector Role 288) (ls : List Nat) (s t : State) : Prop where
  /-- the frame -/
  frame : Only replaceParts s t
  /-- the grid -/
  grid : t.grid = { s.grid with core := t.grid.core, graph := t.grid.graph, role := r, toReplace := ls }
  /-- the routers out of service -/
  dead : t.fab.deadRouters = s.fab.deadRouters

/-- The roles stand, and the numbers that await a spare. -/
abbrev SameRoles (s t : State) : Prop := RolesTo s.grid.role s.grid.toReplace s t

section
variable {r r' : Vector Role 288} {ls ls' : List Nat} {ps : List Part} {s t u : State}

/-- The roles set. -/
theorem RolesTo.role (h : RolesTo r ls s t) : t.grid.role = r := congrArg Grid.role h.grid

/-- The numbers that await a spare. -/
theorem RolesTo.toReplace (h : RolesTo r ls s t) : t.grid.toReplace = ls := congrArg Grid.toReplace h.grid

/-- The width stands. -/
theorem RolesTo.width (h : RolesTo r ls s t) : t.grid.width = s.grid.width := by rw [h.grid]

/-- The same cores are healthy. -/
theorem RolesTo.healthy (h : RolesTo r ls s t) (j : Nat) : t.healthy j = s.healthy j := by
  have hhlt : t.hlt = s.hlt := h.frame.2 .hlt (by simp [replaceParts])
  simp only [State.healthy, State.isRetired, hhlt, h.dead]

/-- No step. -/
theorem SameRoles.refl (s : State) : SameRoles s s := ⟨.refl _ s, rfl, rfl⟩

/-- A step, then another. -/
theorem RolesTo.trans (h : RolesTo r ls s t) (h' : RolesTo r' ls' t u) : RolesTo r' ls' s u where
  frame := h.frame.trans h'.frame
  grid := h'.grid.trans (congrArg (fun g : Grid => { g with core := u.grid.core, graph := u.grid.graph, role := r', toReplace := ls' }) h.grid)
  dead := h'.dead.trans h.dead

/-- A step, then one that leaves the roles. -/
theorem RolesTo.same (h : RolesTo r ls s t) (h' : SameRoles t u) : RolesTo r ls s u := by
  rw [SameRoles, h.role, h.toReplace] at h'
  exact h.trans h'

/-- A step that leaves the roles and may take place. -/
theorem SameRoles.cond {c : Prop} [Decidable c] (h : SameRoles s t) : SameRoles s (if c then t else s) := by
  split
  · exact h
  · exact .refl s

/-- Steps in a row that leave the roles. -/
theorem SameRoles.foldl {α : Type} {f : State → α → State} {l : List α} (h : SameRoles s u) (hf : ∀ v a, SameRoles v (f v a)) :
    SameRoles s (l.foldl f u) :=
  List.foldlRecOn (motive := SameRoles s) l f h fun v hv a _ => hv.same (hf v a)

/-- A change of cores, outside the fabric. -/
theorem MapStep.sameRoles (h : MapStep ps s t) (hps : ps ⊆ replaceParts) (hfab : .fab ∉ ps := by simp) : SameRoles s t where
  frame := h.frame.mono hps
  grid := by
    rw [h.grid]
  dead := congrArg Fab.deadRouters (h.frame.2 .fab hfab)

end

/-- The fabric changed, but for the routers out of service. -/
theorem sameRoles_setFab {f : Fab → Fab} {s : State} (h : (f s.fab).deadRouters = s.fab.deadRouters) : SameRoles s (setFab f s) :=
  ⟨(only_fab _ s).mono (by simp [replaceParts]), rfl, h⟩

/-- An NI changed. -/
theorem sameRoles_setNi (i : Fin 300) (f : Ni → Ni) (s : State) : SameRoles s (setNi i f s) :=
  ⟨(only_setNi i f s).mono (by simp [replaceParts]), rfl, rfl⟩

/-- A core changed. -/
theorem sameRoles_setCore (n : Fin 288) (f : Core → Core) (s : State) : SameRoles s (setCore n f s) :=
  (map_setCore n f s).sameRoles (by simp [replaceParts])

/-- A graph changed. -/
theorem sameRoles_setGraph (g : Fin 8) (f : Graph → Graph) (s : State) : SameRoles s (setGraph g f s) :=
  ⟨(only_grid _ s).mono (by simp [replaceParts]), rfl, rfl⟩

/-- A pool fitted. -/
theorem sameRoles_fitPool (j : Fin 288) (s : State) : SameRoles s (fitPool j s) := (homes_fitPool j s).map.sameRoles (by simp [replaceParts])

/-- An event. -/
theorem sameRoles_logEvent (code src : BitVec 8) (a0 a1 : Word) (s : State) : SameRoles s (logEvent code src a0 a1 s) :=
  (only_logEvent code src a0 a1 s (ps := [.dbg]) (by simp)).map.sameRoles (by simp [replaceParts])

/-- A stream's fault (20_streams.md R367). -/
theorem sameRoles_streamFault (i : Fin 16) (status : BitVec 8) (s : State) : SameRoles s (streamFault i status s) := by
  have hclosed (st : StreamState) : Only [.stream, .hif, .hostMem] s (emitEvent i (closeSegments i s).clk.tempo 0x08 status st 0 (closeSegments i s)) :=
    ((only_closeSegments i s).mono (by simp)).trans (recordsMoved_emitEvent ..).only
  have hstate (u : State) : Only [.stream, .hif, .hostMem] u (toState i .faulted (setStream i (fun t => { t with pausing := false }) u)) :=
    ((only_setStream i _ u).mono (by simp)).trans (only_toState ..)
  unfold streamFault
  dsimp only
  split
  · exact .refl s
  · exact ((hclosed _).map.sameRoles (by simp [replaceParts])).same
      ((sameRoles_logEvent ..).same ((hstate _).map.sameRoles (by simp [replaceParts])))

/-- A graph that faults (R167). -/
theorem sameRoles_graphFault (g : Fin 8) (status : BitVec 8) (s : State) : SameRoles s (graphFault g status s) := by
  have hhalt (u : State) : SameRoles u (haltCores g u) := (map_withCores _ u).sameRoles (by simp [replaceParts])
  have hwaits (u : State) : SameRoles u (failGraphWaits g u) := (only_finishWaits ..).map.sameRoles (by simp [replaceParts])
  refine SameRoles.cond (.foldl ?_ fun u i => sameRoles_streamFault i status u)
  exact (((sameRoles_setGraph ..).same (sameRoles_logEvent ..)).same (hhalt _)).same (hwaits _)

/-- A number lost (R167). -/
theorem sameRoles_loseCore (l : Nat) (s : State) : SameRoles s (loseCore l s) :=
  .foldl (.refl s) fun u g => (sameRoles_graphFault g 0x1C u).cond

/-- A role set. -/
theorem rolesTo_setRole (j : Fin 288) (x : Role) (s : State) : RolesTo (upd s.grid.role j x) s.grid.toReplace s (setRole j.1 x s) := by
  unfold setRole
  rw [dif_pos j.2]
  exact ⟨(only_grid _ s).mono (by simp [replaceParts]), rfl, rfl⟩

/-! ### Numbers taken and given -/

/-- The role of a core that carries no number. -/
def State.idleRole (s : State) (j : Fin 288) : Role := if s.healthy j.1 then .spare else .retired

/-- A number taken from a node. -/
theorem rolesTo_takeNumber (j : Fin 288) (s : State) : RolesTo (upd s.grid.role j (s.idleRole j)) s.grid.toReplace s (takeNumber j s) := by
  have htrees : SameRoles s (dropTreesOf [j] s) := by
    unfold dropTreesOf
    extract_lets gone
    exact SameRoles.foldl (sameRoles_setFab rfl) fun u n => sameRoles_setNi ..
  have hset := rolesTo_setRole j (s.idleRole j) (dropTreesOf [j] s)
  rw [htrees.role, htrees.toReplace] at hset
  exact (htrees.trans hset).same (sameRoles_setCore ..)

/-- A number given to a node (R160). -/
theorem rolesTo_giveNumber (l : Nat) (j : Fin 288) (s : State) :
    RolesTo (upd s.grid.role j (.mapped l)) s.grid.toReplace s (giveNumber l j s) := by
  unfold giveNumber
  extract_lets g u m v
  have hu : RolesTo (upd s.grid.role j (.mapped l)) s.grid.toReplace s u :=
    RolesTo.trans (sameRoles_setFab rfl) (rolesTo_setRole j (.mapped l) (setFab _ s))
  have hv : RolesTo (upd s.grid.role j (.mapped l)) s.grid.toReplace s v := hu.same (sameRoles_setNi ..)
  clear_value g
  split
  · exact (hv.same (sameRoles_setCore ..)).same (sameRoles_fitPool ..)
  · have hbound (f : Core → Core) := hv.same (sameRoles_setCore j f v)
    dsimp only
    split
    · exact (((hbound _).same (sameRoles_setCore ..)).same (sameRoles_fitPool ..)).same (sameRoles_logEvent ..)
    · exact (hbound _).same (sameRoles_fitPool ..)

/-- The newest event says that core b has taken over the number of core a (R160). -/
def Told (a b : Nat) (t : State) : Prop := ∃ e, t.dbg.newest = some e ∧ e.code = 0xFF ∧ e.arg0 = wd a ∧ e.arg1 = wd b

/-- A number taken over by a spare (R160). -/
theorem rolesTo_replaceWith (l old : Nat) (j : Fin 288) (s : State) :
    RolesTo (upd s.grid.role j (.mapped l)) (s.grid.toReplace.filter fun k => k ≠ l) s (replaceWith l old j s)
      ∧ Told old j.1 (replaceWith l old j s) := by
  have hgiven := rolesTo_giveNumber l j s
  unfold replaceWith
  extract_lets u grid v
  have hu : RolesTo (upd s.grid.role j (.mapped l)) (s.grid.toReplace.filter fun k => k ≠ l) u v := by
    have hframe : Only [.grid] u v := only_grid _ u
    refine ⟨hframe.mono (by simp [replaceParts]), ?_, rfl⟩
    rw [← hgiven.role, ← hgiven.toReplace]
  obtain ⟨-, e, hnewest, hcode, -, h0, h1, -⟩ := logEvent_logged 0xFF 9 (wd old) (wd j.1) v
  exact ⟨(hgiven.trans hu).same (sameRoles_logEvent ..), e, hnewest, hcode, h0, h1⟩

/-! ### Spares -/

/-- The logical number of a node is that of its role. -/
theorem logicalOf_eq_some {s : State} {j : Fin 288} {l : Nat} : s.logicalOf j = some l ↔ s.grid.role[j] = .mapped l := by
  unfold State.logicalOf
  split
  next k hk => rw [hk, Option.some.injEq, Role.mapped.injEq]
  next hn => exact ⟨fun h => absurd h (by simp), fun h => absurd h (hn l)⟩

/-- A core without a number. -/
theorem logicalOf_eq_none {s : State} {j k : Fin 288} (h : s.grid.role[j] = s.idleRole k) : s.logicalOf j = none := by
  unfold State.logicalOf
  rw [h]
  unfold State.idleRole
  split_ifs
  · rfl
  · rfl

/-- The spares are the nodes of that role. -/
theorem mem_spares {s : State} {j : Fin 288} : j.1 ∈ s.spares ↔ s.grid.role[j] = .spare := by
  unfold State.spares
  rw [List.mem_map_of_injective Fin.val_injective, List.mem_filter]
  simp

/-- The nearest of the spares is one of them. -/
theorem nearestSpare_mem {y j : Nat} {l : List Nat} (h : nearestSpare y l = some j) : j ∈ l := by
  have hall : ∀ k, nearestSpare y l = some k → k ∈ l := by
    unfold nearestSpare
    refine List.foldlRecOn (motive := fun m : Option Nat => ∀ k, m = some k → k ∈ l) l _ (fun k hk => by simp at hk) fun m hm a ha k hk => ?_
    cases m with
    | none => exact Option.some.inj hk ▸ ha
    | some b =>
      dsimp only at hk
      split at hk
      · exact Option.some.inj hk ▸ ha
      · exact hm k hk
  exact hall j h

/-- There is none where there are no spares. -/
theorem nearestSpare_eq_none {y : Nat} {l : List Nat} : nearestSpare y l = none ↔ l = [] := by
  refine ⟨fun h => ?_, fun h => h ▸ rfl⟩
  by_contra hne
  obtain ⟨a, l, rfl⟩ := List.exists_cons_of_ne_nil hne
  have hsome : (nearestSpare y (a :: l)).isSome = true := by
    unfold nearestSpare
    refine List.foldlRecOn (motive := fun m : Option Nat => m.isSome = true) l _ rfl fun m hm b _ => ?_
    obtain ⟨k, rfl⟩ := Option.isSome_iff_exists.1 hm
    dsimp only
    split
    · rfl
    · rfl
  rw [h] at hsome
  exact absurd hsome (by decide)

/-- A node index below the number of nodes. -/
theorem nodeFin_val (j : Fin 288) : nodeFin j.1 = some j := dif_pos j.2

end Sys2Proof.Machine
end

section
/-! PROOFS. A retired core replaced (O32): a compute core, a front-end core by a spare of its row, and by the row's last compute core (R160, R161). -/

namespace Sys2Proof.Machine

/-! ### CORE_REPLACE -/

/-- The spares of the anchor row. -/
def State.rowSpares (s : State) : List Nat := s.spares.filter fun x => decide (nodeY x = s.grid.anchorY)

/-- CORE_REPLACE of a compute core. -/
theorem exec_coreReplace_compute {n j : Fin 288} {l : Nat} {s : State} (hl : s.logicalOf n = some l) (hw : l + 8 < s.grid.width)
    (hj : s.spareFor (nodeY n.1) = some j.1) : exec (.coreReplace n) s =
      act s (s.grid.toReplace.contains l && s.sterdo) (replaceWith l n.1 j (takeNumber n (loseCore l s))) := by
  have hfe : decide (s.grid.width ≤ l + 8) = false := decide_eq_false (Nat.not_le.2 hw)
  show execCoreReplace n s = _
  unfold execCoreReplace
  simp only [hl, hfe, hj, Option.bind_some, nodeFin_val, Bool.not_false, if_true]

/-- CORE_REPLACE of a front-end core by a spare of the anchor row. -/
theorem exec_coreReplace_row {n j : Fin 288} {l : Nat} {s : State} (hl : s.logicalOf n = some l) (hw : s.grid.width ≤ l + 8)
    (hj : s.rowSpares.head? = some j.1) : exec (.coreReplace n) s =
      act s (s.grid.toReplace.contains l && s.sterdo && s.grid.anchorDue.isNone) (replaceWith l n.1 j (takeNumber n s)) := by
  have hfe : decide (s.grid.width ≤ l + 8) = true := decide_eq_true hw
  rw [State.rowSpares] at hj
  show execCoreReplace n s = _
  unfold execCoreReplace
  simp only [hl, hfe, hj, Option.bind_some, nodeFin_val, Bool.not_true, Bool.false_eq_true, if_false]

/-- CORE_REPLACE of a front-end core by the row's last compute core, and of that by a spare. -/
theorem exec_coreReplace_last {n j k : Fin 288} {l lk : Nat} {s : State} (hl : s.logicalOf n = some l) (hw : s.grid.width ≤ l + 8)
    (hrow : s.rowSpares = []) (hk : s.lastCompute = some (k, lk)) (hj : s.spareFor (nodeY k.1) = some j.1) : exec (.coreReplace n) s =
      act s (s.grid.toReplace.contains l && s.sterdo && s.grid.anchorDue.isNone)
        (replaceWith lk k.1 j (replaceWith l n.1 k (takeNumber n (loseCore lk s)))) := by
  have hfe : decide (s.grid.width ≤ l + 8) = true := decide_eq_true hw
  rw [State.rowSpares] at hrow
  show execCoreReplace n s = _
  unfold execCoreReplace
  simp only [hl, hfe, hrow, hk, hj, List.head?_nil, Option.bind_none, Option.bind_some, nodeFin_val, Bool.not_true, Bool.false_eq_true,
    if_false]

/-- The last compute core carries the number found for it. -/
theorem logicalOf_lastCompute {s : State} {k : Fin 288} {l : Nat} (h : s.lastCompute = some (k, l)) : s.logicalOf k = some l := by
  have hall : ∀ x : Fin 288 × Nat, s.lastCompute = some x → s.logicalOf x.1 = some x.2 := by
    unfold State.lastCompute
    refine List.foldlRecOn (motive := fun m : Option (Fin 288 × Nat) => ∀ x, m = some x → s.logicalOf x.1 = some x.2) _ _
      (fun x hx => by simp at hx) fun m hm j _ x hx => ?_
    split at hx
    next i hi =>
      have hnew (hx : some (j, i) = some x) : s.logicalOf x.1 = some x.2 := Option.some.inj hx ▸ hi
      split at hx
      · split at hx
        · split at hx
          · exact hnew hx
          · exact hm x hx
        · exact hnew hx
      · exact hm x hx
    next => exact hm x hx
  exact hall _ h

/-! ### What a replacement brings about -/

/-- A number taken from a core and given to a spare. -/
theorem replaced_spec {n j : Fin 288} {l : Nat} {s u : State} (hu : SameRoles s u) (hj : s.grid.role[j] = .spare) (hl : s.logicalOf n = some l) :
    let t := replaceWith l n.1 j (takeNumber n u)
    Only replaceParts s t ∧ t.logicalOf j = some l ∧ t.logicalOf n = none ∧ l ∉ t.grid.toReplace ∧ Told n.1 j.1 t := by
  have hn : s.grid.role[n] = .mapped l := logicalOf_eq_some.1 hl
  have hne : n ≠ j := fun e => by rw [e, hj] at hn; cases hn
  have htaken := rolesTo_takeNumber n u
  obtain ⟨hgiven, htold⟩ := rolesTo_replaceWith l n.1 j (takeNumber n u)
  refine ⟨((hu.frame.trans htaken.frame).trans hgiven.frame), ?_, ?_, ?_, htold⟩
  · rw [logicalOf_eq_some, hgiven.role]
    exact upd_same ..
  · refine logicalOf_eq_none (k := n) ?_
    unfold State.idleRole
    rw [hgiven.healthy, htaken.healthy, hgiven.role, upd_other _ _ hne, htaken.role]
    exact upd_same ..
  · rw [hgiven.toReplace]
    simp

/-- A number given to a core whose own goes to a spare in turn. -/
theorem replacedInTurn_spec {n j k : Fin 288} {l lk : Nat} {s : State} (hj : s.grid.role[j] = .spare) (hk : s.logicalOf k = some lk) :
    let t := replaceWith lk k.1 j (replaceWith l n.1 k (takeNumber n (loseCore lk s)))
    Only replaceParts s t ∧ t.logicalOf k = some l ∧ t.logicalOf j = some lk ∧ l ∉ t.grid.toReplace ∧ lk ∉ t.grid.toReplace
      ∧ Told k.1 j.1 t := by
  have hk' : s.grid.role[k] = .mapped lk := logicalOf_eq_some.1 hk
  have hne : k ≠ j := fun e => by rw [e, hj] at hk'; cases hk'
  have hlost := sameRoles_loseCore lk s
  have htaken := rolesTo_takeNumber n (loseCore lk s)
  obtain ⟨hfirst, -⟩ := rolesTo_replaceWith l n.1 k (takeNumber n (loseCore lk s))
  obtain ⟨hthen, htold⟩ := rolesTo_replaceWith lk k.1 j (replaceWith l n.1 k (takeNumber n (loseCore lk s)))
  refine ⟨((hlost.frame.trans htaken.frame).trans hfirst.frame).trans hthen.frame, ?_, ?_, ?_, ?_, htold⟩
  · rw [logicalOf_eq_some, hthen.role, upd_other _ _ hne, hfirst.role]
    exact upd_same ..
  · rw [logicalOf_eq_some, hthen.role]
    exact upd_same ..
  · rw [hthen.toReplace, hfirst.toReplace]
    simp
  · rw [hthen.toReplace]
    simp

section
variable {n j k : Fin 288} {l lk : Nat} {s : State} (hp : s.powered = true) (hs : s.sterdo = true) (hl : s.logicalOf n = some l)
  (hwaits : l ∈ s.grid.toReplace)
include hp hs hl hwaits

/-- R160: a compute core. -/
theorem does_coreReplace_compute (hw : l + 8 < s.grid.width) (hj : s.spareFor (nodeY n.1) = some j.1) :
    Does (.coreReplace n) replaceParts s fun t =>
      t.logicalOf j = some l ∧ t.logicalOf n = none ∧ l ∉ t.grid.toReplace ∧ Told n.1 j.1 t := by
  obtain ⟨hframe, hdone⟩ := replaced_spec (sameRoles_loseCore l s) (mem_spares.1 (nearestSpare_mem hj)) hl
  have hexec := exec_coreReplace_compute hl hw hj
  generalize replaceWith l n.1 j (takeNumber n (loseCore l s)) = t at hexec hframe hdone
  refine does_of_act hexec hp ?_ hframe fun sent pba => hdone
  rw [List.contains_iff_mem.2 hwaits, hs]
  rfl

/-- R161: a front-end core, where the anchor row has a spare. -/
theorem does_coreReplace_row (hw : s.grid.width ≤ l + 8) (hdue : s.grid.anchorDue = none) (hj : s.rowSpares.head? = some j.1) :
    Does (.coreReplace n) replaceParts s fun t =>
      t.logicalOf j = some l ∧ t.logicalOf n = none ∧ l ∉ t.grid.toReplace ∧ Told n.1 j.1 t := by
  obtain ⟨hmem, -⟩ := List.mem_filter.1 (List.mem_of_mem_head? hj)
  obtain ⟨hframe, hdone⟩ := replaced_spec (SameRoles.refl s) (mem_spares.1 hmem) hl
  have hexec := exec_coreReplace_row hl hw hj
  generalize replaceWith l n.1 j (takeNumber n s) = t at hexec hframe hdone
  refine does_of_act hexec hp ?_ hframe fun sent pba => hdone
  rw [List.contains_iff_mem.2 hwaits, hs, hdue]
  rfl

/-- R161: a front-end core, where the anchor row has none. -/
theorem does_coreReplace_last (hw : s.grid.width ≤ l + 8) (hdue : s.grid.anchorDue = none) (hrow : s.rowSpares = [])
    (hk : s.lastCompute = some (k, lk)) (hj : s.spareFor (nodeY k.1) = some j.1) : Does (.coreReplace n) replaceParts s fun t =>
      t.logicalOf k = some l ∧ t.logicalOf j = some lk ∧ l ∉ t.grid.toReplace ∧ lk ∉ t.grid.toReplace ∧ Told k.1 j.1 t := by
  obtain ⟨hframe, hdone⟩ := replacedInTurn_spec (l := l) (n := n) (mem_spares.1 (nearestSpare_mem hj)) (logicalOf_lastCompute hk)
  have hexec := exec_coreReplace_last hl hw hrow hk hj
  generalize replaceWith lk k.1 j (replaceWith l n.1 k (takeNumber n (loseCore lk s))) = t at hexec hframe hdone
  refine does_of_act hexec hp ?_ hframe fun sent pba => hdone
  rw [List.contains_iff_mem.2 hwaits, hs, hdue]
  rfl

end

end Sys2Proof.Machine
end

section
/-! PROOFS. The front end moves to another row (O32): FE0..FE7 taken and given anew, the displaced numbers to spares, or the width drops (R161, R162). -/

namespace Sys2Proof.Machine

/-! ### The parts of a move -/

/-- The first eight healthy cores of a row. -/
def State.newAnchor (s : State) (y : Nat) : List Nat := (s.healthyRow y).take 8

/-- The numbers that FE0..FE7 displace there. -/
def State.shifted (s : State) (y : Nat) : List Nat :=
  ((s.newAnchor y).filterMap fun j => (nodeFin j).bind fun j => s.logicalOf j).filter fun l => decide (l < s.grid.width - 8)

/-- The cores that carry FE0..FE7. -/
def State.feNodes (s : State) : List (Fin 288) := (List.finRange 288).filter fun j => s.isFe j

/-- FE0..FE7 at their new cores. -/
def feMoved (y : Nat) (s : State) : State :=
  (((s.newAnchor y).filterMap nodeFin).zipIdx.foldl (fun t x => giveNumber (s.grid.width - 8 + x.2) x.1 t)
    (s.feNodes.foldl (fun t j => takeNumber j t) ((s.shifted y).foldl (fun t l => loseCore l t) s)))

/-- The row designated is the anchor row. -/
def anchorSet (y first : Nat) (s : State) : State := { s with grid := { s.grid with
  anchorY := y, anchorDue := none, toReplace := s.grid.toReplace.filter fun l => decide (l < first) } }

/-- A displaced number goes to a spare, where there is one. -/
def renumber (y : Nat) (s : State) (l : Nat) : State :=
  match (s.spareFor y).bind nodeFin with
  | some j => replaceWith l 0x1FF j s
  | none => { s with grid := { s.grid with toReplace := s.grid.toReplace ++ [l] } }

/-- The front end runs on. -/
def frontEndOn (y : Nat) (s : State) : State := logEvent 0xFF 9 (wd y) 0 { s with fe := { s.fe with frozen := false } }

/-- The move but for a drop of the width. -/
def anchorMoved (y : Nat) (s : State) : State :=
  frontEndOn y ((s.shifted y).foldl (renumber y) (anchorSet y (s.grid.width - 8) (feMoved y s)))

/-- The move: the width drops where a number is left without a core. -/
theorem moveAnchor_eq (y : Nat) (s : State) : moveAnchor y s =
    if (anchorMoved y s).grid.toReplace.isEmpty || !(anchorMoved y s).spares.isEmpty then anchorMoved y s else dropWidth (anchorMoved y s) := rfl

/-! ### FE0..FE7 -/

/-- Numbers taken from several nodes. -/
theorem takeNumbers_spec (js : List (Fin 288)) (s : State) : ∃ r, RolesTo r s.grid.toReplace s (js.foldl (fun t j => takeNumber j t) s)
    ∧ ∀ j, r[j] = if j ∈ js then s.idleRole j else s.grid.role[j] := by
  induction js generalizing s with
  | nil => exact ⟨_, SameRoles.refl s, fun j => (if_neg List.not_mem_nil).symm⟩
  | cons k js ih =>
    have hk := rolesTo_takeNumber k s
    obtain ⟨r, hr, hroles⟩ := ih (takeNumber k s)
    rw [hk.toReplace] at hr
    refine ⟨r, hk.trans hr, fun j => ?_⟩
    have hidle : (takeNumber k s).idleRole j = s.idleRole j := by
      unfold State.idleRole
      rw [hk.healthy]
    rw [hroles, hidle, hk.role]
    by_cases hj : j ∈ js
    · rw [if_pos hj, if_pos (List.mem_cons_of_mem k hj)]
    · rw [if_neg hj]
      by_cases he : j = k
      · subst he
        rw [upd_same, if_pos List.mem_cons_self]
      · rw [upd_other _ _ he, if_neg fun h => hj ((List.mem_cons.1 h).resolve_left he)]

/-- Numbers given to several nodes in turn. -/
theorem giveNumbers_spec (first : Nat) (js : List (Fin 288)) (hnd : js.Nodup) (i : Nat) (s : State) :
    ∃ r, RolesTo r s.grid.toReplace s ((js.zipIdx i).foldl (fun t x => giveNumber (first + x.2) x.1 t) s)
      ∧ (∀ (k : Nat) (j : Fin 288), js[k]? = some j → r[j] = .mapped (first + (i + k))) ∧ ∀ j, j ∉ js → r[j] = s.grid.role[j] := by
  induction js generalizing i s with
  | nil => exact ⟨_, SameRoles.refl s, fun k j hk => by simp at hk, fun j _ => rfl⟩
  | cons b js ih =>
    obtain ⟨hb, hnd⟩ := List.nodup_cons.1 hnd
    have hgive := rolesTo_giveNumber (first + i) b s
    obtain ⟨r, hr, hin, hout⟩ := ih hnd (i + 1) (giveNumber (first + i) b s)
    rw [hgive.toReplace] at hr
    rw [hgive.role] at hout
    refine ⟨r, hgive.trans hr, fun k j hk => ?_, fun j hj => ?_⟩
    · cases k with
      | zero =>
        obtain rfl : b = j := by simpa using hk
        rw [hout _ hb, upd_same, Nat.add_zero]
      | succ k =>
        rw [hin k j (by simpa using hk), Nat.add_right_comm, Nat.add_assoc i]
    · obtain ⟨hne, hj'⟩ := not_or.1 (mt List.mem_cons.2 hj)
      rw [hout j hj', upd_other _ _ hne]

/-- A healthy row names each of its cores once. -/
theorem nodup_newAnchor (s : State) (y : Nat) : (s.newAnchor y).Nodup := by
  refine List.Nodup.sublist (List.take_sublist ..) (List.Nodup.filter _ (List.Nodup.map_on (fun a _ b _ h => ?_) List.nodup_range))
  exact Nat.add_left_cancel h

/-- The new nodes, each once. -/
theorem nodup_newNodes (s : State) (y : Nat) : ((s.newAnchor y).filterMap nodeFin).Nodup := by
  refine (nodup_newAnchor s y).filterMap fun a b j ha hb => ?_
  unfold nodeFin at ha hb
  split at ha
  · split at hb
    · obtain rfl := Option.some.inj ha
      exact (congrArg Fin.val (Option.some.inj hb)).symm
    · simp at hb
  · simp at ha

/-- The new nodes are those of the row's first eight healthy cores. -/
theorem mem_newNodes {s : State} {y : Nat} {j : Fin 288} : j ∈ (s.newAnchor y).filterMap nodeFin ↔ j.1 ∈ s.newAnchor y := by
  rw [List.mem_filterMap]
  refine ⟨fun ⟨a, ha, haj⟩ => ?_, fun h => ⟨j.1, h, nodeFin_val j⟩⟩
  unfold nodeFin at haj
  split at haj
  · obtain rfl := Option.some.inj haj
    exact ha
  · simp at haj

/-- A row of the grid has its cores below the number of nodes. -/
theorem newNodes_getElem? {s : State} {y k : Nat} {j : Fin 288} (hk : k < 8) (h : (s.healthyRow y)[k]? = some j.1) :
    ((s.newAnchor y).filterMap nodeFin)[k]? = some j := by
  have hnew : (s.newAnchor y)[k]? = some j.1 := by rw [State.newAnchor, List.getElem?_take_of_lt hk, h]
  have hrow (a : Nat) (ha : a ∈ s.healthyRow y) : ∃ x < 18, nodeAt x y = a := by
    simpa using (List.mem_filter.1 ha).1
  obtain ⟨x, -, hx⟩ := hrow j.1 (List.mem_of_getElem? h)
  have hlt (a : Nat) (ha : a ∈ s.newAnchor y) : a < 288 := by
    obtain ⟨z, hz, rfl⟩ := hrow a (List.mem_of_mem_take ha)
    have hj := j.2
    unfold nodeAt at hx ⊢
    omega
  have hvals : ((s.newAnchor y).filterMap nodeFin).map Fin.val = s.newAnchor y := by
    rw [List.map_filterMap]
    refine (List.filterMap_congr fun a ha => ?_).trans List.filterMap_some
    rw [nodeFin, dif_pos (hlt a ha)]
    rfl
  rw [← hvals, List.getElem?_map, Option.map_eq_some_iff] at hnew
  obtain ⟨i, hi, hij⟩ := hnew
  rw [hi, Fin.ext hij]

/-- FE0..FE7 moved: the new cores carry their numbers, the old ones none. -/
theorem feMoved_spec (y : Nat) (s : State) : ∃ r, RolesTo r s.grid.toReplace s (feMoved y s)
    ∧ (∀ (k : Nat) (j : Fin 288), ((s.newAnchor y).filterMap nodeFin)[k]? = some j → r[j] = .mapped (s.grid.width - 8 + k))
    ∧ ∀ j : Fin 288, j.1 ∉ s.newAnchor y → r[j] = if s.isFe j then s.idleRole j else s.grid.role[j] := by
  have hlost : SameRoles s ((s.shifted y).foldl (fun t l => loseCore l t) s) := .foldl (.refl s) fun t l => sameRoles_loseCore l t
  have hmoved : feMoved y s = ((s.newAnchor y).filterMap nodeFin).zipIdx.foldl (fun t x => giveNumber (s.grid.width - 8 + x.2) x.1 t)
    (s.feNodes.foldl (fun t j => takeNumber j t) ((s.shifted y).foldl (fun t l => loseCore l t) s)) := rfl
  generalize (s.shifted y).foldl (fun t l => loseCore l t) s = u at hlost hmoved
  obtain ⟨r, hr, hroles⟩ := takeNumbers_spec s.feNodes u
  have htaken : RolesTo r s.grid.toReplace s (s.feNodes.foldl (fun t j => takeNumber j t) u) := by
    rw [hlost.toReplace] at hr
    exact hlost.trans hr
  generalize s.feNodes.foldl (fun t j => takeNumber j t) u = v at htaken hmoved
  obtain ⟨r', hr', hin, hout⟩ := giveNumbers_spec (s.grid.width - 8) _ (nodup_newNodes s y) 0 v
  rw [htaken.toReplace] at hr'
  refine ⟨r', hmoved ▸ htaken.trans hr', fun k j hk => ?_, fun j hj => ?_⟩
  · rw [hin k j hk, Nat.zero_add]
  · have hidle : u.idleRole j = s.idleRole j := by
      unfold State.idleRole
      rw [hlost.healthy]
    have hfe : j ∈ s.feNodes ↔ s.isFe j = true := by simp [State.feNodes]
    rw [hout j (mt mem_newNodes.1 hj), htaken.role, hroles, hidle, hlost.role]
    simp only [hfe]

end Sys2Proof.Machine
end

section
/-! PROOFS. Displaced numbers and the spares left for them (O32): each takes one, and where they run out the width drops (R161, R162). -/

namespace Sys2Proof.Machine

/-! ### Counting spares -/

/-- The nodes that are spares. -/
def State.spareNodes (s : State) : List (Fin 288) := (List.finRange 288).filter fun j => decide (s.grid.role[j] = .spare)

/-- The spares are their indices. -/
theorem spares_eq (s : State) : s.spares = s.spareNodes.map (·.1) := rfl

/-- There are as many. -/
theorem length_spares (s : State) : s.spares.length = s.spareNodes.length := by rw [spares_eq, List.length_map]

/-- Where there is a spare, the nearest is one. -/
theorem spareFor_some {s : State} (y : Nat) (h : s.spares ≠ []) : ∃ j : Fin 288, s.spareFor y = some j.1 ∧ s.grid.role[j] = .spare := by
  obtain ⟨k, hk⟩ := Option.ne_none_iff_exists'.1 (mt nearestSpare_eq_none.1 h : s.spareFor y ≠ none)
  have hmem := nearestSpare_mem hk
  rw [spares_eq, List.mem_map] at hmem
  obtain ⟨j, -, rfl⟩ := hmem
  exact ⟨j, hk, mem_spares.1 (nearestSpare_mem hk)⟩

/-- A spare that is given a number is one no longer. -/
theorem length_spares_replaceWith {s : State} {j : Fin 288} (l old : Nat) (h : s.grid.role[j] = .spare) :
    (replaceWith l old j s).spares.length = s.spares.length - 1 := by
  obtain ⟨hgiven, -⟩ := rolesTo_replaceWith l old j s
  have hmem : j ∈ s.spareNodes := List.mem_filter.2 ⟨List.mem_finRange j, decide_eq_true h⟩
  have hnd : s.spareNodes.Nodup := (List.nodup_finRange 288).filter _
  have herase : (replaceWith l old j s).spareNodes = s.spareNodes.erase j := by
    rw [hnd.erase_eq_filter]
    unfold State.spareNodes
    rw [hgiven.role, List.filter_filter]
    refine List.filter_congr fun i _ => ?_
    by_cases hi : i = j
    · subst hi
      rw [upd_same]
      simp
    · rw [upd_other _ _ hi]
      simp [hi]
  rw [length_spares, length_spares, herase, List.length_erase_of_mem hmem]

/-! ### Displaced numbers (R161) -/

/-- A step of displaced numbers: they take spares, and what else carries a number keeps it. -/
structure Renumbered (s t : State) : Prop where
  /-- the frame -/
  roles : RolesTo t.grid.role t.grid.toReplace s t
  /-- the nodes that were no spares -/
  kept : ∀ j : Fin 288, s.grid.role[j] ≠ .spare → t.grid.role[j] = s.grid.role[j]

/-- No number displaced. -/
theorem Renumbered.refl (s : State) : Renumbered s s := ⟨SameRoles.refl s, fun _ _ => rfl⟩

/-- Numbers, then more. -/
theorem Renumbered.trans {s t u : State} (h : Renumbered s t) (h' : Renumbered t u) : Renumbered s u where
  roles := h.roles.trans h'.roles
  kept j hj := by
    have ht := h.kept j hj
    rw [h'.kept j (ht.symm ▸ hj), ht]

/-- With a spare left, a number takes it. -/
theorem renumber_spare {s : State} (y l : Nat) (h : s.spares ≠ []) :
    Renumbered s (renumber y s l) ∧ (renumber y s l).spares.length = s.spares.length - 1 := by
  obtain ⟨j, hj, hrole⟩ := spareFor_some y h
  have hnumber : renumber y s l = replaceWith l 0x1FF j s := by
    unfold renumber
    rw [hj, Option.bind_some, nodeFin_val]
  obtain ⟨hgiven, -⟩ := rolesTo_replaceWith l 0x1FF j s
  rw [hnumber]
  refine ⟨⟨?_, fun i hi => ?_⟩, length_spares_replaceWith l 0x1FF hrole⟩
  · rw [hgiven.role, hgiven.toReplace]
    exact hgiven
  · have hne : i ≠ j := fun e => hi (by rw [e, hrole])
    rw [hgiven.role, upd_other _ _ hne]

/-- With none left, it waits. -/
theorem renumber_none {s : State} (y l : Nat) (h : s.spares = []) : Renumbered s (renumber y s l)
    ∧ (renumber y s l).spares = [] ∧ (renumber y s l).grid.toReplace = s.grid.toReplace ++ [l] := by
  have hnumber : renumber y s l = { s with grid := { s.grid with toReplace := s.grid.toReplace ++ [l] } } := by
    unfold renumber
    rw [State.spareFor, h]
    rfl
  rw [hnumber]
  exact ⟨⟨⟨(only_grid _ s).mono (by simp [replaceParts]), rfl, rfl⟩, fun _ _ => rfl⟩, h, rfl⟩

/-- Each displaced number takes a spare as long as there are any; the others wait. -/
theorem renumbers_spec (y : Nat) (ls : List Nat) (s : State) : let t := ls.foldl (renumber y) s
    Renumbered s t ∧ t.spares.length = s.spares.length - ls.length
      ∧ (s.spares.length < ls.length ∨ s.spares = [] ∧ s.grid.toReplace ≠ [] → t.grid.toReplace ≠ []) := by
  induction ls generalizing s with
  | nil => exact ⟨.refl s, rfl, fun h => (h.resolve_left (Nat.not_lt_zero _)).2⟩
  | cons l ls ih =>
    obtain ⟨hrest, hlen, hwait⟩ := ih (renumber y s l)
    by_cases hs : s.spares = []
    · obtain ⟨hstep, hnone, happ⟩ := renumber_none y l hs
      refine ⟨hstep.trans hrest, ?_, fun _ => hwait (.inr ⟨hnone, ?_⟩)⟩
      · rw [List.foldl_cons, hlen, hnone, hs]
        simp
      · rw [happ]
        simp
    · obtain ⟨hstep, hone⟩ := renumber_spare y l hs
      have hpos := List.length_pos_of_ne_nil hs
      rw [hone] at hlen hwait
      refine ⟨hstep.trans hrest, ?_, fun h => hwait (.inl ?_)⟩
      · rw [List.foldl_cons, hlen, List.length_cons]
        omega
      · have hlt := h.resolve_right fun h' => hs h'.1
        rw [List.length_cons] at hlt
        omega

/-! ### The numbers and the room -/

/-- The numbers displaced, counted over the nodes. -/
def State.displaced (s : State) (y : Nat) : Nat := (s.grid.role.toList.zipIdx.filter fun x => decide (x.2 ∈ s.newAnchor y)
  && (match x.1 with | .mapped l => decide (l < s.grid.width - 8) | _ => false)).length

/-- The cores free for them: the spares and the healthy cores that FE0..FE7 leave, but for the new ones. -/
def State.room (s : State) (y : Nat) : Nat := ((List.finRange 288).filter fun j =>
  (decide (s.grid.role[j] = .spare) || (s.isFe j && s.healthy j.1)) && decide (j.1 ∉ s.newAnchor y)).length

/-- The node carries a number below those of FE0..FE7. -/
def State.belowFe (s : State) (j : Fin 288) : Bool := match s.grid.role[j] with
  | .mapped l => decide (l < s.grid.width - 8)
  | _ => false

/-- The roles with their nodes. -/
theorem zipIdx_toList (v : Vector Role 288) : v.toList.zipIdx = (List.finRange 288).map fun j => (v[j], j.1) := by
  refine List.ext_getElem (by simp) fun k h h' => ?_
  simp

/-- The numbers displaced are those of the new nodes below FE0. -/
theorem length_shifted (s : State) (y : Nat) : (s.shifted y).length = s.displaced y := by
  have hnodes : (s.shifted y).length = (((s.newAnchor y).filterMap nodeFin).filter s.belowFe).length := by
    have hmoved : s.shifted y = (((s.newAnchor y).filterMap nodeFin).filterMap s.logicalOf).filter fun l => decide (l < s.grid.width - 8) := by
      rw [State.shifted, List.filterMap_filterMap]
    rw [hmoved]
    induction (s.newAnchor y).filterMap nodeFin with
    | nil => rfl
    | cons j js ih =>
      rw [List.filterMap_cons, List.filter_cons]
      unfold State.belowFe State.logicalOf
      cases hrole : s.grid.role[j] with
      | mapped l =>
        dsimp only
        rw [List.filter_cons]
        split_ifs
        · exact congrArg (· + 1) ih
        · exact ih
      | spare => exact ih
      | retired => exact ih
  have hperm : ((s.newAnchor y).filterMap nodeFin).Perm ((List.finRange 288).filter fun j => decide (j.1 ∈ s.newAnchor y)) :=
    (List.perm_ext_iff_of_nodup (nodup_newNodes s y) ((List.nodup_finRange 288).filter _)).2 fun j => by rw [mem_newNodes]; simp
  have hcount : s.displaced y = (((List.finRange 288).filter fun j => decide (j.1 ∈ s.newAnchor y)).filter s.belowFe).length := by
    rw [State.displaced, zipIdx_toList, List.filter_map, List.length_map, List.filter_filter]
    refine congrArg List.length (List.filter_congr fun j _ => ?_)
    exact Bool.and_comm ..
  rw [hnodes, hcount, (hperm.filter _).length_eq]

/-- A node that carries one of FE0..FE7 is no spare. -/
theorem role_ne_spare_of_isFe {s : State} {j : Fin 288} (h : s.isFe j = true) : s.grid.role[j] ≠ .spare := by
  intro hrole
  unfold State.isFe at h
  rw [hrole] at h
  cases h

/-- The spares left by the move of FE0..FE7 are the room. -/
theorem length_spares_feMoved (y : Nat) (s : State) : (feMoved y s).spares.length = s.room y := by
  obtain ⟨r, hr, hin, hout⟩ := feMoved_spec y s
  rw [length_spares, State.room, State.spareNodes, hr.role]
  refine congrArg List.length (List.filter_congr fun j _ => ?_)
  by_cases hj : j.1 ∈ s.newAnchor y
  · obtain ⟨k, hk⟩ := List.mem_iff_getElem?.1 (mem_newNodes.2 hj)
    rw [hin k j hk]
    simp [hj]
  · rw [hout j hj]
    cases hfe : s.isFe j
    case false => simp [hj]
    case true =>
      have hrole : decide (s.grid.role[j] = .spare) = false := decide_eq_false (role_ne_spare_of_isFe hfe)
      rw [hrole]
      unfold State.idleRole
      cases hh : s.healthy j.1
      case false => simp
      case true => simp [hj]

/-! ### The width drops (R162) -/

/-- An event leaves the grid. -/
theorem grid_logEvent (code src : BitVec 8) (a0 a1 : Word) (s : State) : (logEvent code src a0 a1 s).grid = s.grid :=
  (only_logEvent (ps := [.dbg]) code src a0 a1 s (by simp)).2 .grid (by simp)

/-- Images loaded again leave the grid but for its cores. -/
theorem grid_reloadGraphs (s : State) : (reloadGraphs s).grid = { s.grid with core := (reloadGraphs s).grid.core } := by
  unfold reloadGraphs
  extract_lets u grid v
  have htrees : Only [.fab] s u := Only.foldl (only_fab _ s) fun t n => only_setNi ..
  have hunbound : MapStep [.fab, .grid, .tiers, .dbg] s v := (htrees.map.mono (by simp)).trans ((map_withCores _ u).mono (by simp))
  refine (MapStep.foldl hunbound fun t g => ?_).grid
  have hstay : MapStep [.fab, .grid, .tiers, .dbg] t t := (HomesStep.refl _ t).map
  dsimp only
  split
  · exact hstay
  · split
    · exact map_bindCores ..
    · exact hstay

/-- The widths of a grid (R155). -/
theorem fitWidth_le {s : State} {top m : Nat} (h : s.fitWidth top = some m) : 128 ≤ m ∧ m ≤ top := by
  have hok := List.find?_some h
  have hmem := List.mem_of_find?_eq_some h
  simp only [Bool.and_eq_true, decide_eq_true_eq] at hok
  simp only [List.mem_cons, List.not_mem_nil, or_false] at hmem
  omega

/-- The map of a narrower grid stands when its images are loaded again. -/
theorem reloaded_map (m y : Nat) (f : Fab → Fab) (s : State) :
    (reloadGraphs (setFab f (buildMap m y s))).grid.width = m ∧ (reloadGraphs (setFab f (buildMap m y s))).grid.anchorDue = none := by
  rw [grid_reloadGraphs, setFab_grid]
  exact ⟨rfl, rfl⟩

/-- A drop narrows the grid, and no row is awaited any longer. -/
theorem dropWidth_spec {s : State} (h : s.grid.width ≠ 0) : (dropWidth s).grid.width < s.grid.width ∧ (dropWidth s).grid.anchorDue = none := by
  unfold dropWidth
  dsimp only
  split
  next m y hm _ =>
    have hmap := reloaded_map m y (fun x => { x with topo := [] }) (graphsAfterWidth m s)
    generalize buildMap m y (graphsAfterWidth m s) = v at hmap ⊢
    generalize reloadGraphs (setFab (fun x => { x with topo := [] }) v) = u at hmap ⊢
    obtain ⟨hwidth, hdue⟩ := hmap
    have hle := fitWidth_le hm
    rw [grid_logEvent]
    refine ⟨?_, hdue⟩
    change u.grid.width < s.grid.width
    omega
  next =>
    generalize reloadGraphs (graphsAfterWidth 0 s) = u
    rw [grid_logEvent]
    exact ⟨Nat.pos_of_ne_zero h, rfl⟩

/-! ### ANCHOR_ROW_MOVE -/

/-- The move is that of its row, while Sterdo runs. -/
theorem exec_anchorRowMove {y : Nat} {s : State} (h : s.grid.anchorDue = some y) : exec .anchorRowMove s = act s s.sterdo (moveAnchor y s) := by
  show execAnchorRowMove s = _
  unfold execAnchorRowMove
  rw [h]

/-- FE0..FE7 moved and the displaced numbers given out, as far as the spares reach. -/
theorem renumbered_spec (y : Nat) (s : State) : let u := anchorSet y (s.grid.width - 8) (feMoved y s)
    let t := (s.shifted y).foldl (renumber y) u
    Only replaceParts s t ∧ t.grid.width = s.grid.width ∧ t.grid.anchorY = y ∧ t.grid.anchorDue = none
      ∧ t.spares.length = s.room y - s.displaced y ∧ (s.room y < s.displaced y → t.grid.toReplace ≠ [])
      ∧ ∀ (k : Nat) (j : Fin 288), k < 8 → (s.healthyRow y)[k]? = some j.1 → t.grid.role[j] = .mapped (s.grid.width - 8 + k) := by
  obtain ⟨r, hr, hin, -⟩ := feMoved_spec y s
  have hroom := length_spares_feMoved y s
  generalize feMoved y s = v at hr hroom
  have hset : Only [.grid] v (anchorSet y (s.grid.width - 8) v) := only_grid _ v
  have hspares : (anchorSet y (s.grid.width - 8) v).spares = v.spares := rfl
  have hrole : (anchorSet y (s.grid.width - 8) v).grid.role = r := hr.role
  have hwidth : (anchorSet y (s.grid.width - 8) v).grid.width = s.grid.width := hr.width
  have hrow : (anchorSet y (s.grid.width - 8) v).grid.anchorY = y ∧ (anchorSet y (s.grid.width - 8) v).grid.anchorDue = none := ⟨rfl, rfl⟩
  obtain ⟨hgiven, hlen, hwait⟩ := renumbers_spec y (s.shifted y) (anchorSet y (s.grid.width - 8) v)
  rw [hspares, length_shifted, hroom] at hlen hwait
  generalize anchorSet y (s.grid.width - 8) v = u at hset hrole hwidth hrow hgiven hlen hwait
  have hgrid := hgiven.roles.grid
  refine ⟨(hr.frame.trans (hset.mono (by simp [replaceParts]))).trans hgiven.roles.frame, ?_, ?_, ?_, hlen, fun h => hwait (.inl h), ?_⟩
  · rw [hgiven.roles.width, hwidth]
  · rw [hgrid]
    exact hrow.1
  · rw [hgrid]
    exact hrow.2
  · intro k j hk hj
    have hnumber : u.grid.role[j] = .mapped (s.grid.width - 8 + k) := by
      rw [hrole]
      exact hin k j (newNodes_getElem? hk hj)
    rw [hgiven.kept j (by rw [hnumber]; simp), hnumber]

/-- What the row's first eight healthy cores carry after a move. -/
def FeAt (y width : Nat) (s t : State) : Prop :=
  ∀ (k : Nat) (j : Fin 288), k < 8 → (s.healthyRow y)[k]? = some j.1 → t.logicalOf j = some (width - 8 + k)

/-- The move but for a drop of the width. -/
theorem anchorMoved_spec (y : Nat) (s : State) : let t := anchorMoved y s
    Only (.fe :: replaceParts) s t ∧ t.grid.width = s.grid.width ∧ t.grid.anchorY = y ∧ t.grid.anchorDue = none
      ∧ t.fe = { s.fe with frozen := false } ∧ (∃ e, t.dbg.newest = some e ∧ e.code = 0xFF ∧ e.arg0 = wd y)
      ∧ t.spares.length = s.room y - s.displaced y ∧ (s.room y < s.displaced y → t.grid.toReplace ≠ []) ∧ FeAt y s.grid.width s t := by
  have hmoved : anchorMoved y s = frontEndOn y ((s.shifted y).foldl (renumber y) (anchorSet y (s.grid.width - 8) (feMoved y s))) := rfl
  obtain ⟨hframe, hwidth, hrow, hdue, hlen, hwait, hroles⟩ := renumbered_spec y s
  generalize (s.shifted y).foldl (renumber y) (anchorSet y (s.grid.width - 8) (feMoved y s)) = u at *
  obtain ⟨-, e, hnewest, hcode, -, h0, -⟩ := logEvent_logged 0xFF 9 (wd y) 0 { u with fe := { u.fe with frozen := false } }
  have hon : Only [.fe] u { u with fe := { u.fe with frozen := false } } := only_fe _ u
  have hlog : Only [.dbg] { u with fe := { u.fe with frozen := false } } (frontEndOn y u) := only_logEvent _ _ _ _ _ (by simp)
  have hgrid : (frontEndOn y u).grid = u.grid := hlog.2 .grid (by simp)
  have hfe : (frontEndOn y u).fe = { u.fe with frozen := false } := hlog.2 .fe (by simp)
  have hsame : u.fe = s.fe := hframe.2 .fe (by simp [replaceParts])
  have hspares : (frontEndOn y u).spares = u.spares := by rw [State.spares, State.spares, hgrid]
  rw [hmoved]
  refine ⟨?_, ?_, ?_, ?_, ?_, ⟨e, hnewest, hcode, h0⟩, ?_, ?_, fun k j hk hj => ?_⟩
  · exact ((hframe.mono (by simp)).trans (hon.mono (by simp))).trans (hlog.mono (by simp [replaceParts]))
  · rw [hgrid, hwidth]
  · rw [hgrid, hrow]
  · rw [hgrid, hdue]
  · rw [hfe, hsame]
  · rw [hspares, hlen]
  · rw [hgrid]
    exact hwait
  · rw [logicalOf_eq_some, hgrid]
    exact hroles k j hk hj

/-- With fewer spares than numbers displaced the width drops (R162). -/
theorem completes_anchorRowMove {y : Nat} {s : State} (hp : s.powered = true) (hs : s.sterdo = true) (hdue : s.grid.anchorDue = some y)
    (hroom : s.room y < s.displaced y) (hw : s.grid.width ≠ 0) :
    Completes .anchorRowMove s fun t => t.grid.width < s.grid.width ∧ t.grid.anchorDue = none := by
  obtain ⟨-, hwidth, -, -, -, -, hlen, hwait, -⟩ := anchorMoved_spec y s
  have hempty : (anchorMoved y s).spares = [] := List.length_eq_zero_iff.1 (by omega)
  have hmove : moveAnchor y s = dropWidth (anchorMoved y s) := by
    rw [moveAnchor_eq, if_neg]
    rw [hempty, List.isEmpty_eq_false_iff.2 (hwait hroom)]
    decide
  rw [← hwidth] at hw
  obtain ⟨hlt, hnone⟩ := dropWidth_spec hw
  rw [hwidth] at hlt
  generalize dropWidth (anchorMoved y s) = t at hmove hlt hnone
  obtain ⟨sent, pba, e⟩ := act_next s s.sterdo t hp hs
  exact ⟨_, ((exec_anchorRowMove hdue).trans (by rw [hmove])).trans e, hlt, hnone⟩

/-- With spares to spare the front end runs on in its new row (R161). -/
theorem does_anchorRowMove {y : Nat} {s : State} (hp : s.powered = true) (hs : s.sterdo = true) (hdue : s.grid.anchorDue = some y)
    (hroom : s.displaced y < s.room y) : Does .anchorRowMove (.fe :: replaceParts) s fun t => t.grid.anchorY = y ∧ t.grid.anchorDue = none
      ∧ t.fe = { s.fe with frozen := false } ∧ (∃ e, t.dbg.newest = some e ∧ e.code = 0xFF ∧ e.arg0 = wd y) ∧ FeAt y s.grid.width s t := by
  obtain ⟨hframe, -, hrow, hnone, hfe, hevent, hlen, -, hnumbers⟩ := anchorMoved_spec y s
  have hleft : (anchorMoved y s).spares.isEmpty = false := List.isEmpty_eq_false_iff.2 (List.ne_nil_of_length_pos (by omega))
  have hmove : moveAnchor y s = anchorMoved y s := by
    rw [moveAnchor_eq, if_pos]
    rw [hleft, Bool.not_false, Bool.or_true]
  have hexec := exec_anchorRowMove hdue
  rw [hmove] at hexec
  generalize anchorMoved y s = t at hexec hframe hrow hnone hfe hevent hnumbers
  exact does_of_act hexec hp hs hframe fun sent pba => ⟨hrow, hnone, hfe, hevent, hnumbers⟩

/-- Settles O32: the three replacements of a retired core, and the move of the front end with room and without. -/
theorem coresAndAnchorRow : Obligations.CoresAndAnchorRow := by
  refine ⟨fun n j k l lk s hp hs hl hwaits => ⟨?_, ?_, ?_⟩, fun y s hp hs hdue => ⟨?_, ?_⟩⟩
  · exact does_coreReplace_compute hp hs hl hwaits
  · exact does_coreReplace_row hp hs hl hwaits
  · exact does_coreReplace_last hp hs hl hwaits
  · exact completes_anchorRowMove hp hs hdue
  · exact does_anchorRowMove hp hs hdue

end Sys2Proof.Machine
end

section
/-! PROOFS. Byte memories in canonical form (O3): the relation "what is in canonical form stays so" between two states, and how it
goes through the ways in which the model builds a state. -/

namespace Sys2Proof.Machine

/-- The byte memories of the cores, DRAM, the mailbox and host memory are in canonical form: what MemoryCanonical says, of the
four parts of a state that it rests on. -/
def Canonical (cores : Vector Core 288) (dram mailbox host : Mem) : Prop :=
  (∀ n : Fin 288, cores[n].home.wf = true ∧ cores[n].imem.wf = true) ∧ dram.wf = true ∧ mailbox.wf = true ∧ host.wf = true

/-- If the byte memories of s are in canonical form, those of t are. An update that does not touch them has this by definition: ⟨id⟩. -/
structure Keeps (s t : State) : Prop where
  canonical : Canonical s.grid.core s.tiers.dram s.boot.mailbox s.hif.mem → Canonical t.grid.core t.tiers.dram t.boot.mailbox t.hif.mem

theorem Keeps.memoryCanonical {s t : State} (h : Keeps s t) : MemoryCanonical s → MemoryCanonical t := h.canonical

namespace Keeps
variable {s t u : State}

theorem refl (s : State) : Keeps s s := ⟨id⟩

theorem after (h' : Keeps t u) (h : Keeps s t) : Keeps s u := ⟨h'.1 ∘ h.1⟩

/-- A state written out field by field, whose four parts are those of t. -/
theorem update {pending freeCtr gen otp boot clk rtc sap zone gates fe hubReset pma fab grid tiers sess stream pack holds hif guard hlt
    pwr dbg} (hg : grid.core = t.grid.core) (ht : tiers.dram = t.tiers.dram) (hb : boot.mailbox = t.boot.mailbox)
    (hh : hif.mem = t.hif.mem) (h : Keeps s t) :
    Keeps s ⟨pending, freeCtr, gen, otp, boot, clk, rtc, sap, zone, gates, fe, hubReset, pma, fab, grid, tiers, sess, stream, pack, holds,
      hif, guard, hlt, pwr, dbg⟩ :=
  ⟨by rw [hg, ht, hb, hh]; exact h.1⟩

theorem ite {c : Prop} {_ : Decidable c} (h : Keeps s t) (h' : Keeps s u) : Keeps s (if c then t else u) := by
  split
  · exact h
  · exact h'

theorem dite {c : Prop} {_ : Decidable c} {t : c → State} {u : ¬c → State} (h : ∀ hc, Keeps s (t hc)) (h' : ∀ hc, Keeps s (u hc)) :
    Keeps s (if h : c then t h else u h) := by
  split
  · exact h _
  · exact h' _

theorem iteSnd {β : Type} {c : Prop} {_ : Decidable c} {p q : β × State} (h : Keeps s p.2) (h' : Keeps s q.2) :
    Keeps s (if c then p else q).2 := by
  split
  · exact h
  · exact h'

theorem foldl {α : Type} {f : State → α → State} {l : List α} (h : Keeps s t) (hf : ∀ v a, Keeps v (f v a)) : Keeps s (l.foldl f t) :=
  List.foldlRecOn (motive := Keeps s) l f h fun v hv a _ => (hf v a).after hv

theorem foldlSnd {α β : Type} {f : β × State → α → β × State} {l : List α} {p : β × State} (h : Keeps s p.2)
    (hf : ∀ q a, Keeps q.2 (f q a).2) : Keeps s (l.foldl f p).2 :=
  List.foldlRecOn (motive := fun q : β × State => Keeps s q.2) l f h fun v hv a _ => (hf v a).after hv

/-! The matches of the model, as they unfold with smartUnfolding off: one literal of a match and then the others, `some` and
then everything else, the constructors of an option and of a list. -/

theorem litCase {β : Type} {o L : β} {_ : Decidable (o = L)} {e : ¬ o = L → State} (ht : Keeps s t) (he : ∀ h, Keeps s (e h)) :
    Keeps s (if h : o = L then Eq.ndrec_symm (motive := fun _ => State) t h else e h) := by
  split
  next h => subst h; exact ht
  · exact he _

section
variable {α : Type}

theorem someCase {o : Option α} {f : α → State} {g : Nat.hasNotBit 2 o.ctorIdx → State} {p : ¬ Nat.land 1 (Nat.shiftRight 2 0) = 1}
    (hf : ∀ a, Keeps s (f a)) (hg : ∀ h, Keeps s (g h)) :
    Keeps s (Option.rec (motive := fun t => (Nat.hasNotBit 2 t.ctorIdx → State) → State) (fun e => e p) (fun v _ => f v) o g) := by
  cases o with
  | none => exact hg _
  | some a => exact hf a

theorem optionCase {o : Option α} {f : α → State} (ht : Keeps s t) (hf : ∀ a, Keeps s (f a)) : Keeps s (Option.casesOn o t f) := by
  cases o with
  | none => exact ht
  | some a => exact hf a

theorem optionSnd {β : Type} {o : Option α} {p : β × State} {f : α → β × State} (hp : Keeps s p.2) (hf : ∀ a, Keeps s (f a).2) :
    Keeps s (Option.casesOn (motive := fun _ => β × State) o p f).2 := by
  cases o with
  | none => exact hp
  | some a => exact hf a

theorem listSnd {β : Type} {l : List α} {p : β × State} {f : α → List α → β × State} (hp : Keeps s p.2) (hf : ∀ a l, Keeps s (f a l).2) :
    Keeps s (List.casesOn (motive := fun _ => β × State) l p f).2 := by
  cases l with
  | nil => exact hp
  | cons a l => exact hf a l

theorem listCase {l : List α} {f : α → List α → State} (ht : Keeps s t) (hf : ∀ a l, Keeps s (f a l)) : Keeps s (List.casesOn l t f) := by
  cases l with
  | nil => exact ht
  | cons a l => exact hf a l

end
end Keeps

/-- What a body answers, if it answers, keeps the memories of s in canonical form. -/
structure KeepsBody (s : State) (o : Option State) : Prop where
  keeps : ∀ t, o = some t → Keeps s t

namespace KeepsBody
variable {s t : State}

theorem none : KeepsBody s none := ⟨fun _ e => absurd e.symm (Option.some_ne_none _)⟩

theorem some (h : Keeps s t) : KeepsBody s (some t) := ⟨fun _ e => Option.some.inj e ▸ h⟩

theorem ite {p : Prop} {_ : Decidable p} {o o' : Option State} (h : KeepsBody s o) (h' : KeepsBody s o') : KeepsBody s (if p then o else o') := by
  split
  · exact h
  · exact h'

theorem optionCase {α : Type} {x : Option α} {o : Option State} {f : α → Option State} (ho : KeepsBody s o) (hf : ∀ a, KeepsBody s (f a)) :
    KeepsBody s (Option.casesOn x o f) := by
  cases x with
  | none => exact ho
  | some a => exact hf a

end KeepsBody

theorem Keeps.bodyCase {s t u : State} {o : Option State} {f : State → State} (ho : KeepsBody t o) (ht : Keeps s t) (hu : Keeps s u)
    (hf : ∀ v, Keeps v (f v)) : Keeps s (Option.casesOn o u f) := by
  cases o with
  | none => exact hu
  | some v => exact (hf v).after ((ho.1 v rfl).after ht)

/-! ### Parts of the state -/

section
variable {s : State}

theorem keeps_setTiers {f : Tiers → Tiers} (h : ∀ x, (f x).dram = x.dram) : Keeps s (setTiers f s) :=
  .update rfl (h _) rfl rfl (.refl s)

theorem keeps_setHif {f : Hif → Hif} (h : ∀ x, (f x).mem = x.mem) : Keeps s (setHif f s) :=
  .update rfl rfl rfl (h _) (.refl s)

theorem keeps_setBoot {f : Boot → Boot} (h : ∀ x, (f x).mailbox = x.mailbox) : Keeps s (setBoot f s) :=
  .update rfl rfl (h _) rfl (.refl s)

theorem keeps_withDram {t : Tiers} (h : s.tiers.dram.wf = true → t.dram.wf = true) : Keeps s { s with tiers := t } :=
  ⟨fun ⟨hc, hd, hb, hh⟩ => ⟨hc, h hd, hb, hh⟩⟩

theorem keeps_withMailbox {b : Boot} (h : s.boot.mailbox.wf = true → b.mailbox.wf = true) : Keeps s { s with boot := b } :=
  ⟨fun ⟨hc, hd, hb, hh⟩ => ⟨hc, hd, h hb, hh⟩⟩

theorem keeps_withHost {x : Hif} (h : s.hif.mem.wf = true → x.mem.wf = true) : Keeps s { s with hif := x } :=
  ⟨fun ⟨hc, hd, hb, hh⟩ => ⟨hc, hd, hb, h hh⟩⟩

end

/-! ### Cores -/

/-- If the two byte memories of c are in canonical form, those of d are. -/
structure CoreKeeps (c d : Core) : Prop where
  canonical : c.home.wf = true ∧ c.imem.wf = true → d.home.wf = true ∧ d.imem.wf = true

theorem CoreKeeps.after {c d e : Core} (h' : CoreKeeps d e) (h : CoreKeeps c d) : CoreKeeps c e := ⟨h'.1 ∘ h.1⟩

theorem CoreKeeps.ite {c d e : Core} {p : Prop} {_ : Decidable p} (h : CoreKeeps c d) (h' : CoreKeeps c e) : CoreKeeps c (if p then d else e) := by
  split
  · exact h
  · exact h'

theorem CoreKeeps.home {c d : Core} (h : c.home.wf = true → d.home.wf = true) (hi : d.imem = c.imem) : CoreKeeps c d :=
  ⟨fun ⟨hh, hc⟩ => ⟨h hh, hi ▸ hc⟩⟩

theorem coreKeeps_writeHome (c : Core) (a : Nat) (b : List Byte) : CoreKeeps c { c with home := c.home.writeN a b } := .home (Mem.writeN_wf _ _ _) rfl

section
variable {s : State}

theorem keeps_setCore {n : Fin 288} {f : Core → Core} (h : CoreKeeps (s.core n) (f (s.core n))) : Keeps s (setCore n f s) := by
  refine ⟨fun ⟨hc, ho⟩ => ⟨fun m => ?_, ho⟩⟩
  by_cases e : n = m
  · subst e
    simpa [setCore, State.core] using h.1 (hc n)
  · simpa [setCore, modAt_other _ n m f e] using hc m

theorem keeps_mapCores {f : Fin 288 → Core → Core} {g : Grid} (e : g.core = mapV s.grid.core f) (h : ∀ j c, CoreKeeps c (f j c)) :
    Keeps s { s with grid := g } :=
  ⟨fun ⟨hc, ho⟩ => ⟨fun m => by simpa [e, mapV] using (h m _).1 (hc m), ho⟩⟩

end

theorem coreKeeps_setG (c : Core) (r : Nat) (x : Word) : CoreKeeps c (c.setG r x) := by
  unfold Core.setG
  split <;> exact ⟨id⟩

theorem coreKeeps_deliverG (rd : Nat) (x : Word) (c : Core) : CoreKeeps c (deliverG rd x c) := ⟨(coreKeeps_setG c rd x).1⟩

theorem coreKeeps_setP (c : Core) (i : Nat) (b : Bool) : CoreKeeps c (c.setP i b) := .ite ⟨id⟩ ⟨id⟩

theorem coreKeeps_setV (c : Core) (i : Nat) (x : VReg) : CoreKeeps c (c.setV i x) := by
  unfold Core.setV
  split <;> exact ⟨id⟩

theorem coreKeeps_setT (c : Core) (i : Nat) (x : Tile) (st : BitVec 8) : CoreKeeps c (c.setT i x st) := by
  unfold Core.setT
  split <;> exact ⟨id⟩

theorem coreKeeps_setTst (c : Core) (i : Nat) (st : BitVec 8) : CoreKeeps c (c.setTst i st) := by
  unfold Core.setTst
  split <;> exact ⟨id⟩

theorem coreKeeps_setA (c : Core) (i : Nat) (x : Acc) (cls : Option Bool) : CoreKeeps c (c.setA i x cls) := by
  unfold Core.setA
  split <;> exact ⟨id⟩

theorem coreKeeps_resume (c : Core) : CoreKeeps c c.resume := .ite ⟨id⟩ ⟨id⟩

theorem coreKeeps_launch (c : Core) (l : Nat) (g : Fin 8) (epoch : BitVec 16) : CoreKeeps c (c.launch l g epoch) := ⟨id⟩

theorem coreKeeps_unbind (c : Core) : CoreKeeps c c.unbind := ⟨fun h => ⟨h.1, rfl⟩⟩

theorem coreKeeps_load (c : Core) (h : List Word) (code : List Byte) : CoreKeeps c (c.load h code) := ⟨fun hc => ⟨hc.1, Mem.ofBytes_wf code 0⟩⟩

theorem coreKeeps_settle (k : Nat) (c : Core) : CoreKeeps c (c.settle k) := by
  induction k generalizing c with
  | zero => exact ⟨id⟩
  | succ k ih =>
    unfold Core.settle
    split
    · exact ⟨id⟩
    · split
      · exact ⟨id⟩
      · exact (ih _).after ⟨id⟩

section
variable {c d : Core}

theorem CoreKeeps.litCase {β : Type} {o L : β} {_ : Decidable (o = L)} {e : ¬ o = L → Core} (hd : CoreKeeps c d) (he : ∀ h, CoreKeeps c (e h)) :
    CoreKeeps c (if h : o = L then Eq.ndrec_symm (motive := fun _ => Core) d h else e h) := by
  split
  next h => subst h; exact hd
  · exact he _

theorem CoreKeeps.optionCase {α : Type} {o : Option α} {f : α → Core} (hd : CoreKeeps c d) (hf : ∀ a, CoreKeeps c (f a)) :
    CoreKeeps c (Option.casesOn o d f) := by
  cases o with
  | none => exact hd
  | some a => exact hf a

end

set_option smartUnfolding false in
/-- A TST that completes stores its tile; no other tile operation writes a byte memory. -/
theorem coreKeeps_tileEffect (o : TileOp) (k : Nat) (c : Core) : CoreKeeps c (tileEffect o k c) := by with_reducible_and_instances
  have hT (i x st) := coreKeeps_setT c i x st
  have hS (i st) := coreKeeps_setTst c i st
  have hA (i x cls) := coreKeeps_setA c i x cls
  have hW (i st a bs) : CoreKeeps c { c.setTst i st with home := c.home.writeN a bs } :=
    ⟨fun h => ⟨Mem.writeN_wf _ _ _ h.1, ((hS i st).1 h).2⟩⟩
  delta tileEffect
  exact .litCase (hT ..) fun _ => .litCase (hW ..) fun _ =>
    .litCase (.ite (hT ..) (hS ..)) fun _ => .litCase (hS ..) fun _ =>
    .litCase (.ite (hT ..) (hS ..)) fun _ => .litCase (hS ..) fun _ => .litCase (hT ..) fun _ =>
    .litCase (.optionCase ⟨id⟩ fun _ => .ite (hA ..) (hA ..)) fun _ => .litCase (hA ..) fun _ =>
    .litCase (.optionCase ⟨id⟩ fun _ => hT ..) fun _ => .litCase (.optionCase ⟨id⟩ fun _ => hA ..) fun _ => .litCase (hT ..) fun _ => ⟨id⟩

/-- A memory cut off at an address and filled from there on, as new scratch is. -/
theorem wf_below_append_ofBytes {m : Mem} (h : m.wf = true) (a : Nat) (bs : List Byte) :
    Mem.wf (m.filter (fun x => decide (x.1 < a)) ++ Mem.ofBytes a bs) = true := by
  obtain ⟨hz, hp⟩ := (Mem.wf_iff m).1 h
  obtain ⟨hz', hp'⟩ := (Mem.wf_iff _).1 (Mem.ofBytes_wf bs a)
  refine (Mem.wf_iff _).2 ⟨fun c hc => ?_, List.pairwise_append.2 ⟨hp.filter _, hp', fun c hc d hd => ?_⟩⟩
  · rcases List.mem_append.1 hc with hc | hc
    · exact hz c (List.mem_filter.1 hc).1
    · exact hz' c hc
  · exact lt_of_lt_of_le (of_decide_eq_true (List.mem_filter.1 hc).2) (Mem.ofBytes_ge bs a d hd).1

end Sys2Proof.Machine
end

section
set_option smartUnfolding false
/-! PROOFS. What the shared operations of the model do to the byte memories (O3): a lemma for each, in the order of the model's files. A
proof follows the branches of the definition. With smartUnfolding off a match is the case distinction that the lemmas of Keeps speak of,
and with_reducible_and_instances leaves the operations folded that the earlier lemmas are about. -/

namespace Sys2Proof.Machine

/-! ### Events, replies and the host link -/

theorem keeps_traceOffer (kind : Nat) (ws : List Word) (s : State) : Keeps s (traceOffer kind ws s) := .ite (.ite ⟨id⟩ ⟨id⟩) (.refl _)

theorem keeps_logEvent (code src : BitVec 8) (a0 a1 : Word) (s : State) : Keeps s (logEvent code src a0 a1 s) := .after (keeps_traceOffer ..) ⟨id⟩

theorem keeps_alert (k : Nat) (s : State) : Keeps s (alert k s) := ⟨id⟩

theorem keeps_upWrite (a : BitVec 64) (ws : List Word) (s : State) : Keeps s (upWrite a ws s) :=
  .ite (.refl _) (.ite (keeps_withHost (Mem.writeN_wf _ _ _)) ⟨id⟩)

theorem keeps_replyWith (c : Cmd) (st : BitVec 8) (r : Res) (final : Bool) (s : State) :
    Keeps s (replyWith c st r final s) := .ite (.refl _) ⟨(keeps_upWrite ..).1⟩

theorem keeps_reply (c : Cmd) (st : BitVec 8) (r : Res) (s : State) : Keeps s (reply c st r s) := keeps_replyWith ..

theorem keeps_replyOk (c : Cmd) (s : State) : Keeps s (replyOk c s) := keeps_reply ..

theorem keeps_waitOn (c : Cmd) (on : Wait) (ns : Nat) (r : Res) (s : State) : Keeps s (waitOn c on ns r s) := ⟨id⟩

theorem keeps_finishWaits (p : Waiting → Bool) (f : Waiting → BitVec 8 × Res) (s : State) :
    Keeps s (finishWaits p f s) := .foldl ⟨id⟩ fun _ _ => keeps_reply ..

theorem keeps_finishOk (p : Waiting → Bool) (s : State) : Keeps s (finishOk p s) := keeps_finishWaits ..

/-! ### Gates -/

theorem keeps_setGate (g : GateId) (x : Gate) (s : State) : Keeps s (setGate g x s) := ⟨id⟩

theorem keeps_gatesMap (p : GateId → Bool) (f : Gate → Gate) (s : State) : Keeps s (gatesMap p f s) := ⟨id⟩

/-! ### Pages and their return -/

theorem keeps_setStream (i : Fin 16) (f : Stream → Stream) (s : State) : Keeps s (setStream i f s) := ⟨id⟩

theorem keeps_loseRecords (i : Fin 16) (rs : List Rec) (s : State) : Keeps s (loseRecords i rs s) := by with_reducible_and_instances
  delta loseRecords
  cases rs
  · exact .refl s
  · exact .someCase (fun _ => .ite ⟨id⟩ ⟨id⟩) fun _ => .refl _

theorem keeps_unlessShadowed {c : Cmd} {go : State → State} {s : State} (h : Keeps s (go s)) : Keeps s (unlessShadowed c go s) :=
  .ite (keeps_waitOn ..) h

theorem keeps_serveReturns (k : Nat) (s : State) : Keeps s (serveReturns k s) := by
  induction k generalizing s with
  | zero => exact .refl s
  | succ k ih =>
    unfold serveReturns
    exact .listCase (.refl _) fun _ _ => .ite (.refl _)
      (.ite ⟨id⟩ (.after (ih _) (.after (keeps_setStream ..) (.update rfl rfl rfl rfl (keeps_upWrite ..)))))

theorem keeps_drainReturns (s : State) : Keeps s (drainReturns s) := keeps_serveReturns ..

theorem keeps_returnPage (i : Fin 16) (reason : BitVec 3) (addr : BitVec 64) (used : Nat) (rs : List Rec) (s : State) :
    Keeps s (returnPage i reason addr used rs s) :=
  .after (keeps_drainReturns ..) (.update rfl rfl rfl rfl (.after (keeps_setStream ..) (keeps_upWrite ..)))

theorem keeps_closePage (i : Fin 16) (reason : BitVec 3) (s : State) : Keeps s (closePage i reason s) :=
  .optionCase (.refl _) fun _ => .ite (.refl _) (.after (keeps_returnPage ..) ⟨id⟩)

theorem keeps_fillPage (i : Fin 16) (p : Page) (ws : List Word) (rs : List Rec) (s : State) :
    Keeps s (fillPage i p ws rs s) := .after (keeps_setStream ..) (keeps_upWrite ..)

theorem keeps_drainBacklog (k : Nat) (i : Fin 16) (s : State) : Keeps s (drainBacklog k i s) := by
  induction k generalizing s with
  | zero => exact .refl s
  | succ k ih =>
    unfold drainBacklog
    exact .ite (.refl _) (.optionCase (.listCase (.refl _) fun _ _ => .ite (.refl _) (.after (ih _) (keeps_setStream ..))) fun _ => .optionCase
      (.listCase (.refl _) fun _ _ => .ite (.after (ih _) (.after (keeps_setStream ..) (keeps_fillPage ..))) (.after (ih _) (keeps_closePage ..)))
      fun _ => .ite (.after (ih _) (.after (keeps_setStream ..) (keeps_fillPage ..))) (.after (ih _) (keeps_closePage ..)))

theorem keeps_drainStream (i : Fin 16) (s : State) : Keeps s (drainStream i s) := keeps_drainBacklog ..

theorem keeps_emit (i : Fin 16) (tempo : Nat) (ty : Nat) (body : List Word) (s : State) :
    Keeps s (emit i tempo ty body s) := .after (keeps_drainStream ..) (.after (keeps_setStream ..) (keeps_loseRecords ..))

theorem keeps_emitEvent (i : Fin 16) (tempo code : Nat) (status : BitVec 8) (prev : StreamState) (value : BitVec 64) (s : State) :
    Keeps s (emitEvent i tempo code status prev value s) :=
  keeps_emit ..

theorem keeps_deferredHeld (i : Fin 16) (s : State) : Keeps s (deferredHeld i s) := .ite (keeps_finishWaits ..) (.refl _)

theorem keeps_toState (i : Fin 16) (st : StreamState) (s : State) : Keeps s (toState i st s) :=
  .after (keeps_deferredHeld ..) (.after (keeps_closePage ..) (.after (keeps_emitEvent ..) ⟨id⟩))

theorem keeps_losePage (i : Fin 16) (s : State) : Keeps s (losePage i s) :=
  .after (keeps_setStream ..) (.optionCase (.refl _) fun _ => keeps_loseRecords ..)

theorem keeps_emitText (i : Fin 16) (x : TextRec) (s : State) : Keeps s (emitText i x s) := keeps_emit ..

theorem keeps_reportZones (s : State) : Keeps s (reportZones s) := by with_reducible_and_instances
  delta reportZones
  exact .foldl (.refl _) fun _ _ => .ite (.refl _) (.ite (.after (keeps_emitEvent ..) ⟨id⟩) ⟨id⟩)

/-! ### Tile moves asked for -/

theorem keeps_setObj (k : Nat) (f : Obj → Obj) (s : State) : Keeps s (setObj k f s) := keeps_setTiers fun _ => rfl

theorem keeps_queueMove (m : Move) (s : State) : Keeps s (queueMove m s) := .ite (.refl _) (keeps_setTiers fun _ => rfl)

theorem keeps_beginPark (i : Fin 16) (s : State) : Keeps s (beginPark i s) :=
  .optionCase (.refl _) fun _ => .foldl (.after (keeps_setStream ..) (keeps_setObj ..)) fun _ _ => .ite (keeps_queueMove ..) (.refl _)

theorem keeps_restoreState (i : Fin 16) (s : State) : Keeps s (restoreState i s) :=
  .optionCase (.refl _) fun _ => .ite (.refl _) (.foldl (.after (keeps_setTiers fun _ => rfl) (.after (keeps_setStream ..)
    (keeps_setObj ..))) fun _ _ => .ite (keeps_queueMove ..) (.refl _))

/-! ### The safe states -/

theorem keeps_gateWant (opens : Bool) (g : GateId) (s : State) : Keeps s (gateWant opens g s) := .ite (.refl _) ⟨id⟩

theorem keeps_syncGates (p : Fin 8) (s : State) : Keeps s (syncGates p s) :=
  .foldl (.ite (.foldl (.foldl (.foldl (.refl _) fun _ _ => keeps_gateWant ..) fun _ _ => .foldl (.refl _) fun _ _ => .ite (keeps_gateWant ..)
    (.refl _)) fun _ _ => .ite (keeps_gateWant ..) (.refl _)) (.foldl (.foldl (.refl _) fun _ _ => keeps_gateWant ..) fun _ _ => .foldl
      (.refl _) fun _ _ => .ite (keeps_gateWant ..) (.refl _))) fun _ _ => keeps_gateWant ..

theorem keeps_syncStopped (s : State) : Keeps s (syncStopped s) := .foldl (.refl _) fun _ _ => .ite (.refl _) (keeps_syncGates ..)

theorem keeps_rncClose (s : State) : Keeps s (rncClose s) := .after (keeps_finishWaits ..) ⟨id⟩

theorem keeps_takePause (i : Fin 16) (s : State) : Keeps s (takePause i s) :=
  .after (keeps_finishOk ..) (.after (keeps_syncStopped ..) (.after (keeps_toState ..) ⟨id⟩))

theorem keeps_askPause (i : Fin 16) (s : State) : Keeps s (askPause i s) := .after (keeps_restoreState ..) ⟨id⟩

theorem keeps_settlePauses (s : State) : Keeps s (settlePauses s) := .foldl (.refl _) fun _ _ => .ite (keeps_takePause ..) (.refl _)

theorem keeps_enterSafe (s : State) : Keeps s (enterSafe s) := by with_reducible_and_instances
  delta enterSafe
  exact .after (keeps_reportZones ..) (.after (keeps_settlePauses ..) (.foldl (.after (keeps_rncClose ..) ⟨id⟩) fun _ _ => keeps_askPause ..))

theorem keeps_leaveSafe (s : State) : Keeps s (leaveSafe s) := .after (keeps_reportZones ..) (keeps_syncStopped ..)

theorem keeps_logHold (kind mask what : Nat) (s : State) : Keeps s (logHold kind mask what s) := keeps_logEvent ..

/-! ### Register access -/

theorem keeps_returned (src : Src) (w : Word) (s : State) : Keeps s (returned src w s) := by
  delta returned
  cases src
  · exact ⟨id⟩
  · exact .refl s
  · exact ⟨id⟩

/-- Said of any address, as the model's own is a number that is not to be computed. -/
theorem keeps_errAddr (a : BitVec 27) (s : State) : Keeps s { s with hif := { s.hif with errAddr := a } } := ⟨id⟩

theorem keeps_noteAddr (off : Nat) (src : Src) (lock : Bool) (s : State) : Keeps s (noteAddr off src lock s) := keeps_errAddr _ s

theorem keeps_hifErr (k : Nat) (s : State) : Keeps s (hifErr k s) := ⟨id⟩

theorem keeps_lockViol (off : Nat) (src : Src) (v : Word) (s : State) : Keeps s (lockViol off src v s) :=
  .after (keeps_logEvent ..) (.update rfl rfl rfl rfl (.after (keeps_hifErr ..) (keeps_noteAddr ..)))

/-! ### Clock, RTC, captures and comparators -/

theorem keeps_setCmp (n : Fin 4) (f : Cmp → Cmp) (s : State) : Keeps s (setCmp n f s) := ⟨id⟩

theorem keeps_capture (n : Fin 4) (s : State) : Keeps s (capture n s) := .ite ⟨id⟩ ⟨id⟩

theorem keeps_edgeSeen (k : Nat) (fall : Bool) (s : State) : Keeps s (edgeSeen k fall s) := .ite ⟨id⟩ (.refl _)

theorem keeps_writeCapCfg (n : Fin 4) (v : Word) (s : State) : Keeps s (writeCapCfg n v s) := .ite (.after (keeps_capture ..) ⟨id⟩) ⟨id⟩

theorem keeps_readCapHi (n : Fin 4) (s : State) : Keeps s (readCapHi n s) := ⟨id⟩

theorem keeps_matched (n : Fin 4) (late : Bool) (s : State) : Keeps s (matched n late s) := .ite ⟨id⟩ (.refl _)

theorem keeps_writeCmpLo (src : Src) (n : Fin 4) (v : Word) (s : State) : Keeps s (writeCmpLo src n v s) := ⟨id⟩

theorem keeps_passed (n : Fin 4) (s : State) : Keeps s (passed n s) := .ite ⟨id⟩ (.refl _)

theorem keeps_writeCmpHi (src : Src) (n : Fin 4) (h : Word) (s : State) : Keeps s (writeCmpHi src n h s) :=
  .after (keeps_passed ..) (.after (keeps_setCmp ..) (keeps_matched ..))

theorem keeps_writeCmpCfg (n : Fin 4) (v : Word) (s : State) : Keeps s (writeCmpCfg n v s) :=
  .after (.ite (keeps_passed ..) (keeps_matched ..)) (.after (keeps_setCmp ..) (keeps_matched ..))

theorem keeps_finishRtc (s : State) : Keeps s (finishRtc s) := keeps_finishOk ..

theorem keeps_tickBare (s : State) : Keeps s (tickBare s) := by with_reducible_and_instances
  delta tickBare
  cases s.rtc.queued
  · exact .ite (.refl _) (.ite ⟨id⟩ ⟨id⟩)
  · cases commitDue s
    · exact .ite (.refl _) (.ite ⟨id⟩ ⟨id⟩)
    · exact ⟨id⟩

theorem keeps_correlate (s : State) : Keeps s (correlate s) := ⟨id⟩

theorem keeps_alarmFire (s : State) : Keeps s (alarmFire s) := .ite ⟨id⟩ (.refl _)

theorem keeps_tickFull (s : State) : Keeps s (tickFull s) :=
  .after (.ite (keeps_finishRtc ..) (.refl _)) (.after (keeps_alarmFire ..) (.after (.ite (keeps_correlate ..) (.refl _)) (.ite (.after
    (keeps_logEvent ..) ⟨(keeps_tickBare ..).1⟩) (keeps_tickBare ..))))

theorem keeps_preempt (src : Src) (s : State) : Keeps s (preempt src s) := ⟨id⟩

theorem keeps_badDate (t d : Word) (s : State) : Keeps s (badDate t d s) := .after (keeps_logEvent ..) ⟨id⟩

theorem keeps_queueCommit (src : Src) (at_ : Nat) (v : Cal) (s : State) : Keeps s (queueCommit src at_ v s) :=
  .optionCase (.ite ⟨id⟩ ⟨id⟩) fun _ => .ite ⟨id⟩ ⟨id⟩

theorem keeps_spvAct (k : Nat) (s : State) : Keeps s (spvAct k s) := ⟨id⟩

theorem keeps_commitOf (src : Src) (s : State) : Keeps s (commitOf src s) :=
  .ite ⟨id⟩ (.ite (keeps_badDate ..) (.ite (.after (keeps_spvAct ..) (keeps_queueCommit ..)) (keeps_queueCommit ..)))

theorem keeps_armAlarm (s : State) : Keeps s (armAlarm s) := .ite ⟨id⟩ ⟨id⟩

theorem keeps_writeRtcCtrl (src : Src) (v : Word) (s : State) : Keeps s (writeRtcCtrl src v s) :=
  .ite (.after (keeps_commitOf ..) (.ite (keeps_armAlarm ..) ⟨id⟩)) (.ite (keeps_armAlarm ..) ⟨id⟩)

theorem keeps_writeTmp (src : Src) (o : Nat) (v : Word) (s : State) : Keeps s (writeTmp src o v s) :=
  .litCase ⟨id⟩ fun _ => .litCase ⟨id⟩ fun _ => .litCase ⟨id⟩ fun _ => .litCase (keeps_writeRtcCtrl ..) fun _ => .litCase ⟨id⟩ fun _ =>
    .litCase ⟨id⟩ fun _ => .litCase ⟨id⟩ fun _ => .litCase (.ite ⟨id⟩ (.refl _)) fun _ => .optionCase (.someCase (fun _ => .litCase
      (keeps_writeCmpCfg ..) fun _ => .litCase ⟨id⟩ fun _ => .litCase (keeps_writeCmpHi ..) fun _ => .refl _) fun _ => .refl _) fun _ => .litCase
        (keeps_writeCapCfg ..) fun _ => .refl _

theorem keeps_readTmpEffect (o : Nat) (s : State) : Keeps s (readTmpEffect o s) :=
  .someCase (fun _ => .litCase ⟨id⟩ fun _ => .litCase ⟨id⟩ fun _ => .refl _) fun _ => .refl _

/-! ### Health, trees and graphs that fault -/

theorem keeps_permanent (u : UnitRef) (cls : BitVec 2) (count : Nat) (s : State) :
    Keeps s (permanent u cls count s) := .ite (.refl _) ⟨id⟩

theorem keeps_hardFail (u : UnitRef) (s : State) : Keeps s (hardFail u s) := keeps_permanent ..

theorem keeps_strike (u : UnitRef) (s : State) : Keeps s (strike u s) :=
  .ite (.refl _) (.optionCase ⟨id⟩ fun _ => .ite (.after (keeps_permanent ..) ⟨id⟩) ⟨id⟩)

theorem keeps_rowError (u : UnitRef) (s : State) : Keeps s (rowError u s) :=
  .ite (.refl _) (.optionCase ⟨id⟩ fun _ => .ite (.after (keeps_permanent ..) ⟨id⟩) ⟨id⟩)

theorem keeps_recordRetire (u : UnitRef) (entry : BitVec 64) (s : State) : Keeps s (recordRetire u entry s) :=
  .after (keeps_alert ..) (.after (keeps_logEvent ..) ⟨id⟩)

theorem keeps_streamFault (i : Fin 16) (status : BitVec 8) (s : State) : Keeps s (streamFault i status s) :=
  .ite (.refl _) (.after (keeps_toState ..) (.after (keeps_setStream ..) (.after (keeps_logEvent ..) (.after (keeps_emitEvent ..) ⟨id⟩))))

theorem keeps_setGraph (g : Fin 8) (f : Graph → Graph) (s : State) : Keeps s (setGraph g f s) := ⟨id⟩

theorem keeps_safeChange {f : State → State} {s : State} (h : Keeps s (f s)) : Keeps s (safeChange f s) :=
  .ite (.after (keeps_enterSafe ..) h) (.ite (.after (keeps_leaveSafe ..) h) h)

theorem keeps_haltCores (g : Fin 8) (s : State) : Keeps s (haltCores g s) := by with_reducible_and_instances
  delta haltCores
  exact keeps_mapCores rfl fun _ _ => .ite ⟨id⟩ ⟨id⟩

theorem keeps_failGraphWaits (g : Fin 8) (s : State) : Keeps s (failGraphWaits g s) := keeps_finishWaits ..

theorem keeps_buildEvent (b : BitVec 64) (s : State) : Keeps s (buildEvent b s) := keeps_logEvent ..

theorem keeps_graphFault (g : Fin 8) (st : BitVec 8) (s : State) : Keeps s (graphFault g st s) :=
  .ite (.foldl (.after (keeps_failGraphWaits ..) (.after (keeps_haltCores ..) (.after
    (keeps_buildEvent ..) ⟨id⟩))) fun _ _ => keeps_streamFault ..) (.refl _)

/-! ### The PMA -/

theorem keeps_setSect (i : Fin 4) (f : Sect → Sect) (s : State) : Keeps s (setSect i f s) := ⟨id⟩

theorem keeps_pmaCause (k : Nat) (s : State) : Keeps s (pmaCause k s) := ⟨id⟩

theorem keeps_logPma (sec unit : Nat) (s : State) : Keeps s (logPma sec unit s) := keeps_logEvent ..

theorem keeps_pmaReady (s : State) : Keeps s (pmaReady s) := ⟨id⟩

theorem keeps_lowerStates (s : State) : Keeps s (lowerStates s) := .ite (.after (keeps_logPma ..) ⟨id⟩) (.refl _)

theorem keeps_carry (i : Fin 4) (n : Nat) (pref : Option Nat) (s : State) : Keeps s ((carry i n pref s).2) := ⟨id⟩

theorem keeps_delayJobs (s : State) : Keeps s (delayJobs s) := .foldl (.refl _) fun _ _ => ⟨id⟩

theorem keeps_beginSwitch (ms : List LaneMove) (s : State) : Keeps s (beginSwitch ms s) :=
  .ite (.refl _) (.after (keeps_gatesMap ..) (.after (keeps_delayJobs ..) ⟨id⟩))

theorem keeps_retireSection (i : Fin 4) (s : State) : Keeps s (retireSection i s) :=
  .after (keeps_pmaReady ..) (.after (keeps_hardFail ..) (.after (keeps_logPma ..) ⟨id⟩))

theorem keeps_settleLanes (i : Fin 4) (s : State) : Keeps s (settleLanes i s) := by with_reducible_and_instances
  delta settleLanes
  exact .ite (.refl _) (.ite (.after (keeps_retireSection ..) (.after (keeps_logPma ..) ⟨id⟩)) (.after (keeps_beginSwitch ..) (.after (keeps_carry ..)
    (.after (keeps_setSect ..) (.after (keeps_logPma ..) ⟨id⟩)))))

theorem keeps_replaceRow (i : Fin 4) (s : State) : Keeps s (replaceRow i s) := .optionCase (.refl _) fun _ => ⟨id⟩

theorem keeps_settleSect (i : Fin 4) (s : State) : Keeps s (settleSect i s) := .after (keeps_settleLanes ..) (keeps_replaceRow ..)

theorem keeps_settleIdle (s : State) : Keeps s (settleIdle s) := .foldl (.refl _) fun _ _ => .ite (keeps_settleSect ..) (.refl _)

theorem keeps_loseChans (is : List (Fin 4)) (pref : Fin 4 → Option Nat) (s : State) : Keeps s (loseChans is pref s) :=
  .after (keeps_settleIdle ..) (.after (keeps_beginSwitch ..) (.foldlSnd (.refl _) fun _ _ => .iteSnd ⟨id⟩ (.refl _)))

theorem keeps_ringLost (r : PmaRing) (s : State) : Keeps s (ringLost r s) := .ite (.refl _) ⟨id⟩

theorem keeps_calBad (i : Fin 4) (covers : PmaRing → Bool) (bad : List PmaRing) (s : State) :
    Keeps s (calBad i covers bad s) := .ite (.refl _) (.after (keeps_pmaCause ..) (.foldl (.refl _) fun _ _ => keeps_ringLost ..))

theorem keeps_startIntonation (is : List (Fin 4)) (s : State) : Keeps s (startIntonation is s) :=
  .after (keeps_pmaReady ..) (.update rfl rfl rfl rfl (.foldl (.refl _) fun _ _ => ⟨id⟩))

theorem keeps_retireLasers (m : BitVec 18) (s : State) : Keeps s (retireLasers m s) :=
  .foldl (.refl _) fun _ _ => .ite (.after (keeps_logPma ..) (.after (keeps_pmaCause ..) (.after (keeps_hardFail ..) ⟨id⟩))) (.refl _)

theorem keeps_rowFail (i : Fin 4) (r : Fin 17) (s : State) : Keeps s (rowFail i r s) :=
  .after (.ite (keeps_settleSect ..) (.refl _)) (.after (keeps_setSect ..) (.after (keeps_hardFail ..) (.after (keeps_logPma ..)
    (keeps_replaceRow ..))))

theorem keeps_dropChan (i : Fin 4) (c : Fin 18) (s : State) : Keeps s (dropChan i c s) := by with_reducible_and_instances
  delta dropChan
  exact .after (keeps_loseChans ..) ⟨id⟩

theorem keeps_chanFail (i : Fin 4) (c : Fin 18) (s : State) : Keeps s (chanFail i c s) :=
  .after (keeps_dropChan ..) (.after (keeps_hardFail ..) (keeps_logPma ..))

theorem keeps_weightFail (i : Fin 4) (c : Fin 18) (w : Fin 17) (s : State) : Keeps s (weightFail i c w s) :=
  .ite (.after (keeps_rowFail ..) (keeps_dropChan ..)) (keeps_chanFail ..)

theorem keeps_laserFail (l : Fin 18) (s : State) : Keeps s (laserFail l s) := by with_reducible_and_instances
  delta laserFail
  exact .after (keeps_loseChans ..) (.update rfl rfl rfl rfl (.foldl (.after (keeps_logPma ..) (keeps_hardFail ..)) fun _ _ => ⟨id⟩))

theorem keeps_calEnd (i : Fin 4) (eb : BitVec 5) (s : State) : Keeps s (calEnd i eb s) := ⟨id⟩

theorem keeps_delayHead (sec : Fin 4) (s : State) : Keeps s (delayHead sec s) := .listCase (.refl _) fun _ _ => .foldl (.refl _) fun _ _ => ⟨id⟩

theorem keeps_belayBegin (d : Domain) (off : Bool) (s : State) : Keeps s (belayBegin d off s) := ⟨id⟩

theorem keeps_s23Woken (s : State) : Keeps s (s23Woken s) := ⟨id⟩

theorem keeps_writePma (o : Nat) (v : Word) (s : State) : Keeps s (writePma o v s) := .litCase ⟨id⟩ fun _ => .litCase ⟨id⟩ fun _ => .refl _

theorem keeps_readPmaEffect (o : Nat) (s : State) : Keeps s (readPmaEffect o s) :=
  .someCase (fun _ => .litCase ⟨id⟩ fun _ => .litCase ⟨id⟩ fun _ => .refl _) fun _ => .refl _

/-! ### The front end -/

theorem keeps_setSap (p : Fin 8) (f : Sap → Sap) (s : State) : Keeps s (setSap p f s) := ⟨id⟩

theorem keeps_sapCause (p : Fin 8) (k : Nat) (s : State) : Keeps s (sapCause p k s) := ⟨id⟩

theorem keeps_logPort (p : Fin 8) (s : State) : Keeps s (logPort p s) := keeps_logEvent ..

theorem keeps_rncSuspend (p : Fin 8) (s : State) : Keeps s (rncSuspend p s) :=
  .ite (.after (keeps_logPort ..) (.foldl ⟨id⟩ fun _ _ => ⟨id⟩)) (.refl _)

theorem keeps_rncResume (s : State) : Keeps s (rncResume s) := .ite (.foldl (.foldl ⟨id⟩ fun _ _ => ⟨id⟩) fun _ _ => keeps_gateWant ..) (.refl _)

theorem keeps_applyRnc (s : State) : Keeps s (applyRnc s) :=
  .optionCase (.refl _) fun _ => .foldl (.after (.optionCase (.refl _) fun _ => keeps_rncSuspend ..) (.after (.ite (.refl _) ⟨id⟩)
    (.foldl ⟨id⟩ fun _ _ => .ite (.refl _) (keeps_gateWant ..)))) fun _ _ => keeps_gateWant ..

theorem keeps_rncOff (s : State) : Keeps s (rncOff s) := .foldl (.foldl ⟨id⟩ fun _ _ => ⟨id⟩) fun _ _ => keeps_gateWant ..

theorem keeps_rncTap (p : Fin 8) (slots : Vector Word 16) (s : State) : Keeps s (rncTap p slots s) :=
  .ite (.optionCase ⟨id⟩ fun _ => .ite ⟨id⟩ ⟨id⟩) (.refl _)

theorem keeps_micTap (p : Fin 8) (slots : Vector Word 16) (s : State) : Keeps s (micTap p slots s) := ⟨id⟩

theorem keeps_spatialStep (s : State) : Keeps s (spatialStep s) := .litCase (.refl _) fun _ => .litCase ⟨id⟩ fun _ => ⟨id⟩

theorem keeps_hopCollect (s : State) : Keeps s (hopCollect s) := .ite ⟨id⟩ ⟨id⟩

theorem keeps_rncLatency (s : State) : Keeps s (rncLatency s) := .optionCase (.refl _) fun _ => ⟨id⟩

theorem keeps_readFeEffect (o : Nat) (s : State) : Keeps s (readFeEffect o s) := .ite ⟨id⟩ (.refl _)

/-! ### Audio ports and the zones -/

theorem keeps_gateStep (g : GateId) (x : Int) (s : State) : Keeps s ((gateStep g x s).2) := .iteSnd ⟨id⟩ (.refl _)

theorem keeps_slipIns (p : Fin 8) (n : Nat) (s : State) : Keeps s (slipIns p n s) := ⟨id⟩

theorem keeps_slipDrop (p : Fin 8) (n : Nat) (s : State) : Keeps s (slipDrop p n s) := ⟨id⟩

theorem keeps_push (p : Fin 8) (f : Word × List Word) (s : State) : Keeps s (push p f s) := .after (keeps_setSap ..) (.ite ⟨id⟩ (.refl _))

theorem keeps_pop (p : Fin 8) (width : Nat) (s : State) : Keeps s ((pop p width s).2) := .listSnd ⟨id⟩ fun _ _ => ⟨id⟩

theorem keeps_bookSlips (p : Fin 8) (n : Nat) (s : State) : Keeps s (bookSlips p n s) := ⟨id⟩

theorem keeps_refill (p : Fin 8) (s : State) : Keeps s (refill p s) := .ite ⟨id⟩ ⟨id⟩

theorem keeps_switchSlips (p : Fin 8) (gain : Bool) (s : State) : Keeps s (switchSlips p gain s) := .after (keeps_bookSlips ..) (.ite ⟨id⟩ ⟨id⟩)

theorem keeps_wakeShadow (s : State) : Keeps s (wakeShadow s) := ⟨id⟩

theorem keeps_portsDone (p : Fin 8) (s : State) : Keeps s (portsDone p s) := .after (keeps_finishOk ..) ⟨id⟩

theorem keeps_syncLose (p : Fin 8) (s : State) : Keeps s (syncLose p s) := .ite (.after (keeps_rncSuspend ..) ⟨id⟩) ⟨id⟩

theorem keeps_dropPartial (p : Fin 8) (s : State) : Keeps s (dropPartial p s) := .ite (.after (keeps_setSap ..) (.ite (.refl _) ⟨id⟩)) (.refl _)

theorem keeps_commitPort (p : Fin 8) (boundary : Bool) (s : State) : Keeps s (commitPort p boundary s) :=
  .after (keeps_wakeShadow ..) (.after (keeps_portsDone ..) (.after (.ite (.refl _) (keeps_syncGates ..)) (.update rfl rfl rfl rfl (.after (.ite
    (keeps_syncLose ..) (.refl _)) (.after (keeps_setSap ..) (.ite (.refl _) (keeps_dropPartial ..)))))))

theorem keeps_commitStopped (s : State) : Keeps s (commitStopped s) := .foldl (.refl _) fun _ _ => .ite (.refl _) (keeps_commitPort ..)

theorem keeps_syncSwitch (p : Fin 8) (s : State) : Keeps s (syncSwitch p s) := .optionCase (.refl _) fun _ => .after (keeps_switchSlips ..) ⟨id⟩

theorem keeps_micCheck (p : Fin 8) (s : State) : Keeps s (micCheck p s) := ⟨id⟩

theorem keeps_adopt (p : Fin 8) (rate : Nat) (s : State) : Keeps s (adopt p rate s) :=
  .ite (.ite (.after (keeps_syncLose ..) ⟨id⟩) ⟨id⟩) (.optionCase ⟨id⟩ fun _ => .ite ⟨id⟩ ⟨id⟩)

theorem keeps_qualify (p : Fin 8) (w : RateWin) (s : State) : Keeps s (qualify p w s) := .ite ⟨id⟩ (.ite ⟨id⟩ ⟨id⟩)

theorem keeps_windowEnd (p : Fin 8) (s : State) : Keeps s (windowEnd p s) :=
  .after (keeps_setSap ..) (.after (.ite (keeps_qualify ..) (.refl _)) (.after (keeps_setSap ..) (keeps_adopt ..)))

theorem keeps_closeWindows (p : Fin 8) (s : State) : Keeps s (closeWindows p s) :=
  .after (.ite (keeps_setSap ..) (.refl _)) (.foldl (.refl _) fun _ _ => .ite (keeps_windowEnd ..) (.refl _))

theorem keeps_noteEdge (p : Fin 8) (ph : Int) (s : State) : Keeps s (noteEdge p ph s) := ⟨id⟩

theorem keeps_addFrame (p : Fin 8) (f : List Word) (s : State) : Keeps s (addFrame p f s) := .ite ⟨id⟩ ⟨id⟩

theorem keeps_sayLatency (m : Word) (s : State) : Keeps s (sayLatency m s) :=
  .foldl (.refl _) fun _ _ => .optionCase (.refl _) fun _ => .ite (.after (keeps_emitEvent ..) ⟨id⟩) (.refl _)

theorem keeps_outFrame (p : Fin 8) (s : State) : Keeps s (outFrame p s) :=
  .after (keeps_sayLatency ..) (.after (keeps_addFrame ..) (.after (keeps_setSap ..) (.ite (.after (keeps_rncLatency ..) (keeps_pop ..))
    (keeps_pop ..))))

theorem keeps_inFrame (p : Fin 8) (missing : Nat) (slots : Vector Word 16) (s : State) :
    Keeps s (inFrame p missing slots s) := .ite (.after (keeps_rncTap ..) (.after (keeps_micTap ..) (keeps_addFrame ..))) (keeps_addFrame ..)

theorem keeps_endHubReset (s : State) : Keeps s (endHubReset s) := .ite (.after (keeps_reportZones ..) (.after (keeps_finishOk ..) ⟨id⟩)) (.refl _)

theorem keeps_stopPort (p : Fin 8) (s : State) : Keeps s (stopPort p s) :=
  .after (keeps_endHubReset ..) (.after (keeps_reportZones ..) (.after (keeps_finishOk ..) (.after (keeps_commitPort ..) (.after
    (keeps_micCheck ..) (.after (keeps_setSap ..) (.ite (.after (keeps_rncSuspend ..) (.after (keeps_sapCause ..) (.ite ⟨id⟩ (.refl _)))) (.ite ⟨id⟩
      (.refl _))))))))

theorem keeps_clkBack (p : Fin 8) (s : State) : Keeps s (clkBack p s) := .after (keeps_refill ..) ⟨id⟩

theorem keeps_endBlock (p : Fin 8) (s : State) : Keeps s (endBlock p s) :=
  .ite ⟨id⟩ (.ite ⟨id⟩ (.after (keeps_setSap ..) (.foldl ⟨id⟩ fun _ _ => keeps_push ..)))

theorem keeps_zoneSignal (z p : Fin 8) (speech : Vector Word 16) (s : State) : Keeps s (zoneSignal z p speech s).2 := by with_reducible_and_instances
  delta zoneSignal
  exact .after (keeps_gateStep ..) (.foldlSnd (.refl _) fun _ _ => keeps_gateStep ..)

theorem keeps_portFrame (p : Fin 8) (speech : Vector Word 16) (s : State) : Keeps s (portFrame p speech s).2 := by with_reducible_and_instances
  delta portFrame
  exact .foldlSnd (.foldlSnd (.refl _) fun _ _ => .iteSnd (keeps_zoneSignal ..) (.refl _)) fun _ _ => keeps_gateStep ..

theorem keeps_popN (p : Fin 8) (width n : Nat) (f : List Word) (s : State) : Keeps s (popN p width n f s).2 := by
  induction n generalizing f s with
  | zero => exact .refl s
  | succ n ih =>
    unfold popN
    exact .after (ih ..) (keeps_pop ..)

theorem keeps_asrcWords (p : Fin 8) (n : Nat) (live : BitVec 16) (s : State) : Keeps s ((asrcWords p n live s).2) := ⟨id⟩

theorem keeps_idleAsrc (p : Fin 8) (s : State) : Keeps s (idleAsrc p s) := ⟨id⟩

theorem keeps_cabinIn (p : Fin 8) (s : State) : Keeps s (cabinIn p s) := by with_reducible_and_instances
  delta cabinIn
  exact .ite ⟨id⟩ (.ite (.after (keeps_setSap ..) (.after (keeps_setSap ..) (.ite ⟨id⟩ (.refl _)))) (.ite (.after (keeps_setSap ..) (.after
    (keeps_setSap ..) (keeps_popN ..))) (.ite (.after (keeps_setSap ..) (.after (keeps_setSap ..) (.after (keeps_asrcWords ..)
      (keeps_popN ..)))) ⟨id⟩)))

theorem keeps_lineStep (p : Fin 8) (m : Word) (ws : List Word) (s : State) : Keeps s ((lineStep p m ws s).2.2) := by
  unfold lineStep
  extract_lets
  split
  · exact ⟨id⟩
  · exact ⟨id⟩

theorem keeps_pushN {p : Fin 8} {words : State → List Word × State} (h : ∀ s, Keeps s (words s).2) (m : Word) (n : Nat) (s : State) :
    Keeps s (pushN p m words n s) := by
  induction n generalizing m s with
  | zero => exact .refl s
  | succ n ih =>
    unfold pushN
    exact .after (ih ..) (.after (keeps_push ..) (h s))

theorem keeps_cabinOut (p : Fin 8) (m : Word) (ws : List Word) (s : State) : Keeps s (cabinOut p m ws s) :=
  .ite (.after (keeps_push ..) (keeps_lineStep ..)) (.ite (.after (keeps_push ..) (.after (keeps_setSap ..) (keeps_lineStep ..)))
    (.ite (.after (keeps_pushN (fun _ => .refl _) ..) (.after (keeps_setSap ..) (keeps_lineStep ..)))
      (.ite (.after (keeps_setSap ..) (.after (keeps_pushN (fun _ => keeps_asrcWords ..) ..) (keeps_lineStep ..)))
        (.after (keeps_idleAsrc ..) (keeps_lineStep ..)))))

theorem keeps_cabinPort (speech : Vector Word 16) (late : BitVec 16) (p : Fin 8) (s : State) :
    Keeps s (cabinPort speech late p s) := by with_reducible_and_instances
  delta cabinPort
  exact .ite (.refl _) (.ite (.after (keeps_cabinOut ..) (keeps_portFrame ..)) (keeps_cabinIn ..))

theorem keeps_markLate (speech : Vector Word 16) (s : State) : Keeps s (markLate speech s) := .foldl (.refl _) fun _ _ => .ite ⟨id⟩ (.refl _)

theorem keeps_antiStep (s : State) : Keeps s (antiStep s) := by with_reducible_and_instances
  delta antiStep
  exact .foldl (.refl _) fun _ _ => .ite (keeps_gateStep ..) (.refl _)

theorem keeps_antiMiss (s : State) : Keeps s (antiMiss s) := .ite ⟨id⟩ (.refl _)

theorem keeps_rewriteRow (r : RowRewrite) (s : State) : Keeps s (rewriteRow r s) := .ite ⟨id⟩ (.refl _)

theorem keeps_rewriteSpatial (r : RowRewrite) (s : State) : Keeps s (rewriteSpatial r s) := .ite ⟨id⟩ (.refl _)

theorem keeps_tapBegin (s : State) : Keeps s (tapBegin s) := ⟨id⟩

theorem keeps_writeSap (o : Nat) (v : Word) (s : State) : Keeps s (writeSap o v s) :=
  .someCase (fun _ => .litCase ⟨id⟩ fun _ => .litCase ⟨id⟩ fun _ => .refl _) fun _ => .refl _

theorem keeps_readSapEffect (o : Nat) (s : State) : Keeps s (readSapEffect o s) :=
  .someCase (fun _ => .litCase ⟨id⟩ fun _ => .litCase ⟨id⟩ fun _ => .litCase ⟨id⟩ fun _ => .litCase ⟨id⟩ fun _ => .refl _) fun _ => .refl _

/-! ### The map of the cores -/

theorem keeps_buildMap (n ay : Nat) (s : State) : Keeps s (buildMap n ay s) := ⟨id⟩

theorem keeps_gridOut (s : State) : Keeps s (gridOut s) := ⟨id⟩

theorem keeps_setRole (j : Nat) (r : Role) (s : State) : Keeps s (setRole j r s) := .dite (fun _ => ⟨id⟩) fun _ => .refl _

/-! ### Tiers -/

theorem keeps_setEntry (t : Nat) (e : Entry) (s : State) : Keeps s (setEntry t e s) := keeps_setTiers fun _ => rfl

theorem keeps_freeRun (t : Nat) (s : State) : Keeps s (freeRun t s) := keeps_setTiers fun _ => rfl

theorem keeps_takeRun (t : Nat) (j : Fin 288) (g n : Nat) (s : State) : Keeps s (takeRun t j g n s) := keeps_setTiers fun _ => rfl

theorem keeps_putHome (j a : Nat) (b : List Byte) (s : State) : Keeps s (putHome j a b s) :=
  .dite (fun _ => keeps_setCore (coreKeeps_writeHome ..)) fun _ => .refl _

theorem keeps_putDram (a : Nat) (b : List Byte) (s : State) : Keeps s (putDram a b s) := keeps_withDram (Mem.writeN_wf _ _ _)

theorem keeps_poison (t : Nat) (s : State) : Keeps s (poison t s) := .ite (.refl _) (.after (keeps_setTiers fun _ => rfl) (keeps_setEntry ..))

theorem keeps_touch (t : Nat) (s : State) : Keeps s (touch t s) := .ite (.refl _) (.after (keeps_setEntry ..) (keeps_setTiers fun _ => rfl))

theorem keeps_tableFor (o : Obj) (t : Nat) (s : State) : Keeps s ((tableFor o t s).2) := by with_reducible_and_instances
  delta tableFor
  exact .optionSnd (.after (keeps_setTiers fun _ => rfl) (keeps_setObj ..)) fun _ => .refl _

theorem keeps_escapeRaw (b : List Byte) (s : State) : Keeps s ((escapeRaw b s).2) := by with_reducible_and_instances
  delta escapeRaw
  exact keeps_setTiers fun _ => rfl

theorem keeps_xeForm (o : Obj) (t : Nat) (b : List Byte) (s : State) : Keeps s ((xeForm o t b s).2) :=
  .optionSnd (.after (keeps_escapeRaw ..) (keeps_tableFor ..)) fun _ => keeps_tableFor ..

theorem keeps_frameForm (o : Obj) (t : Nat) (b : List Byte) (s : State) : Keeps s ((frameForm o t b s).2) := .iteSnd (keeps_xeForm ..) (.refl _)

theorem keeps_fetchTable (expander : Nat) (o : Obj) (t : Nat) (s : State) : Keeps s (fetchTable expander o t s) :=
  .ite (.refl _) (keeps_setTiers fun _ => rfl)

theorem keeps_expandFetch (t : Nat) (s : State) : Keeps s (expandFetch t s) := .optionCase (.refl _) fun _ => .ite (keeps_fetchTable ..) (.refl _)

theorem keeps_evictPool (j : Fin 288) (s : State) : Keeps s (evictPool j s) :=
  .ite (.foldlSnd (.refl _) fun _ _ => .iteSnd (.refl _) (keeps_queueMove ..)) (.refl _)

theorem keeps_demand (t : Nat) (s : State) : Keeps s (demand t s) := by with_reducible_and_instances
  delta demand
  exact .optionCase (.refl _) fun o => by
    beta_reduce
    cases o.policy
    case preferHome => exact .ite (keeps_queueMove ..) (.refl _)
    case park => exact .ite (.refl _) (.optionCase (.foldl (keeps_setObj ..) fun _ _ => .ite (keeps_queueMove ..)
      (.refl _)) fun _ => keeps_restoreState ..)
    all_goals exact .refl _

theorem keeps_storeNew (o : Obj) (t : Nat) (b : List Byte) (s : State) : Keeps s (storeNew o t b s) :=
  .optionCase (.optionCase (.after (keeps_poison ..) (keeps_setEntry ..)) fun _ => .after (keeps_setEntry ..) (keeps_putDram ..)) fun _ =>
    .after (.ite (.after (keeps_evictPool ..) (keeps_setEntry ..)) (.after (keeps_evictPool ..) (keeps_setEntry ..))) (.after (keeps_putHome ..)
      (keeps_takeRun ..))

theorem keeps_storeRaw (o : Obj) (t : Nat) (b : List Byte) (s : State) : Keeps s (storeRaw o t b s) :=
  .ite (.ite (.after (keeps_setEntry ..) (keeps_putHome ..)) (.optionCase (.after (keeps_setEntry ..) (.after (keeps_putDram ..)
    (keeps_freeRun ..))) fun _ => .after (keeps_setEntry ..) (.after (keeps_putHome ..) (.after (keeps_takeRun ..) (keeps_freeRun ..))))) (.after
      (keeps_setEntry ..) (keeps_putDram ..))

theorem keeps_writeTile (t off : Nat) (b : List Byte) (s : State) : Keeps s (writeTile t off b s) :=
  .after (.optionCase (.refl _) fun _ => .after (keeps_touch ..) (.after (keeps_demand ..) (.after (.ite (keeps_setEntry ..) (.refl _)) (.after
    (.ite (keeps_storeNew ..) (keeps_storeRaw ..)) (.ite (.refl _) (keeps_expandFetch ..)))))) (.ite (keeps_demand ..) (.refl _))

theorem keeps_readTile (t : Nat) (s : State) : Keeps s ((readTile t s).2) := .after (keeps_demand ..) (.after (keeps_touch ..) (keeps_expandFetch ..))

theorem keeps_uPut (k a : Nat) (b : List Byte) (s : State) : Keeps s (uPut k a b s) := by
  induction k generalizing a b s with
  | zero => exact .refl s
  | succ k ih =>
    unfold uPut
    exact .ite (.refl _) (.after (ih ..) (keeps_writeTile ..))

theorem keeps_uWriteBytes (a : Nat) (b : List Byte) (s : State) : Keeps s (uWriteBytes a b s) := keeps_uPut ..

theorem keeps_pruneHaul (c : Fin 8) (s : State) : Keeps s (pruneHaul c s) := keeps_setTiers fun _ => rfl

theorem keeps_closeRun (tile node granule : Nat) (closed : Bool) (s : State) :
    Keeps s (closeRun tile node granule closed s) := keeps_setTiers fun _ => rfl

theorem keeps_dropRun (tile node granule : Nat) (s : State) : Keeps s (dropRun tile node granule s) := keeps_setTiers fun _ => rfl

theorem keeps_moveBegin (m : Move) (c : Fin 8) (s : State) : Keeps s (moveBegin m c s) :=
  .after (keeps_setEntry ..) (.after (keeps_setTiers fun _ => rfl) (.optionCase (.refl _) fun _ => keeps_takeRun ..))

theorem keeps_moveNext (c : Fin 8) (s : State) : Keeps s ((moveNext c s).2) :=
  .optionSnd (keeps_pruneHaul ..) fun _ => .after (keeps_moveBegin ..) (.after (keeps_setTiers fun _ => rfl) (keeps_pruneHaul ..))

theorem keeps_arriveHome (o : Obj) (m : Moving) (node granule : Nat) (s : State) :
    Keeps s (arriveHome o m node granule s) := .dite (fun _ => .after (keeps_evictPool ..) (keeps_setEntry ..)) fun _ => keeps_setEntry ..

theorem keeps_arriveDram (o : Obj) (m : Moving) (s : State) : Keeps s (arriveDram o m s) :=
  .ite (.ite (keeps_setEntry ..) (keeps_setEntry ..)) (.ite (keeps_setEntry ..)
    (.ite (.after (keeps_setEntry ..) (.after (keeps_putDram ..) (.iteSnd (keeps_frameForm ..) (.refl _))))
      (.after (keeps_setEntry ..) (.after (keeps_putDram ..) (.iteSnd (keeps_frameForm ..) (.refl _))))))

theorem keeps_replace1 (o : Obj) (t : Nat) (s : State) : Keeps s (replace1 o t s) := by with_reducible_and_instances
  delta replace1
  cases o.policy
  case preferHome => exact .refl s
  all_goals exact .ite (keeps_queueMove ..) (.refl _)

theorem keeps_dropObj (k : Nat) (s : State) : Keeps s (dropObj k s) := .optionCase (.refl _) fun _ => keeps_setTiers fun _ => rfl

theorem keeps_finishMoves (s : State) : Keeps s (finishMoves s) :=
  .after (keeps_finishOk ..) (.update rfl rfl rfl rfl (.foldl (.refl _) fun _ _ => keeps_dropObj ..))

theorem keeps_endMoving (c : Fin 8) (t : Nat) (s : State) : Keeps s (endMoving c t s) := keeps_setTiers fun _ => rfl

theorem keeps_countMove (s : State) : Keeps s (countMove s) := keeps_setTiers fun _ => rfl

theorem keeps_moveEnd (c : Fin 8) (m : Moving) (s : State) : Keeps s (moveEnd c m s) :=
  .optionCase (keeps_endMoving ..) fun _ => .after (keeps_replace1 ..) (.optionCase (.after (keeps_countMove ..) (.after (keeps_arriveDram ..)
    (keeps_endMoving ..))) fun _ => .ite (.after (keeps_countMove ..) (.after (keeps_putHome ..) (.after (keeps_arriveHome ..) (keeps_endMoving ..))))
      (.after (keeps_setEntry ..) (.after (keeps_dropRun ..) (keeps_endMoving ..))))

theorem keeps_moveAbandon (c : Fin 8) (m : Moving) (s : State) : Keeps s (moveAbandon c m s) :=
  .after (keeps_endMoving ..) (.after (.optionCase (.refl _) fun _ => keeps_dropRun ..) (.after (.optionCase
    (.refl _) fun _ => keeps_closeRun ..) (.ite (.refl _) (keeps_setEntry ..))))

theorem keeps_loseFrame (f : Nat) (s : State) : Keeps s (loseFrame f s) :=
  .ite (.refl _) (.optionCase (keeps_setTiers fun _ => rfl) fun _ => .optionCase (.after (keeps_logEvent ..) (.after (keeps_poison ..)
    (keeps_setTiers fun _ => rfl))) fun _ => .after (keeps_setEntry ..) (.after (keeps_putDram ..) (keeps_setTiers fun _ => rfl)))

theorem keeps_dramRowOut (k : Nat) (s : State) : Keeps s (dramRowOut k s) := .ite (keeps_setTiers fun _ => rfl) (keeps_loseFrame ..)

theorem keeps_readTierEffect (o : Nat) (s : State) : Keeps s (readTierEffect o s) :=
  .litCase (keeps_setTiers fun _ => rfl) fun _ => .litCase (keeps_setTiers fun _ => rfl) fun _ => .litCase
    (keeps_setTiers fun _ => rfl) fun _ => .litCase (keeps_setTiers fun _ => rfl) fun _ => .litCase (keeps_setTiers fun _ => rfl) fun _ => .someCase
      (fun _ => .litCase (keeps_setTiers fun _ => rfl) fun _ => .someCase (fun _ => .litCase (keeps_setTiers fun _ => rfl) fun _ => .refl _) fun _ =>
        .refl _) fun _ => .someCase (fun _ => .litCase (keeps_setTiers fun _ => rfl) fun _ => .refl _) fun _ => .refl _

/-! ### The fabric and the initiators -/

theorem keeps_setFab (f : Fab → Fab) (s : State) : Keeps s (setFab f s) := ⟨id⟩

theorem keeps_setNi (i : Fin 300) (f : Ni → Ni) (s : State) : Keeps s (setNi i f s) := ⟨id⟩

theorem keeps_setCredit (i : Fin 300) (dest n : Nat) (s : State) : Keeps s (setCredit i dest n s) := ⟨id⟩

theorem keeps_addCredit (i : Fin 300) (dest : Nat) (s : State) : Keeps s (addCredit i dest s) := .ite ⟨id⟩ (.refl _)

theorem keeps_issue (i : Fin 300) (dst : Nat) (o : Owner) (p : Packet) (s : State) : Keeps s (issue i dst o p s) := ⟨id⟩

theorem keeps_respond (i : Fin 300) (p : Packet) (cmd status : BitVec 8) (f : Packet → Packet) (s : State) : Keeps s (respond i p cmd status f s) :=
  ⟨id⟩

theorem keeps_ack (i : Fin 300) (p : Packet) (status : BitVec 8) (s : State) : Keeps s (ack i p status s) := ⟨id⟩

theorem keeps_traceRecord (k : Fin 16) (node port : Nat) (out : Bool) (p : Packet) (s : State) :
    Keeps s (traceRecord k node port out p s) := .ite ⟨id⟩ (.after (keeps_traceOffer ..) ⟨id⟩)

theorem keeps_cairnSee (node port : Nat) (out : Bool) (p : Packet) (s : State) :
    Keeps s (cairnSee node port out p s) :=
  .ite (.refl _) (.foldl (.refl _) fun _ _ => .ite (.ite (.after (keeps_traceRecord ..) ⟨id⟩) ⟨id⟩) (.refl _))

theorem keeps_fillChan (k j : Nat) (s : State) : Keeps s (fillChan k j s) := .optionCase (.refl _) fun _ => .optionCase (.refl _) fun _ => ⟨id⟩

theorem keeps_flow (s : State) : Keeps s (flow s) := by with_reducible_and_instances
  delta flow
  exact .after (keeps_setFab ..) (.foldl (.refl _) fun _ _ => .foldl (.refl _) fun _ _ => .foldl (.refl _) fun _ _ => keeps_fillChan ..)

theorem keeps_enter (i : Fin 300) (p : Packet) (s : State) : Keeps s (enter i p s) := .after (keeps_cairnSee ..) (.after (keeps_flow ..) ⟨id⟩)

theorem keeps_injectReq (i : Fin 300) (k : Nat) (r : Req) (tag : BitVec 10) (s : State) :
    Keeps s (injectReq i k r tag s) := .after (keeps_enter ..) (.after (keeps_setNi ..) (.ite (.refl _) ⟨id⟩))

theorem keeps_dropPacket (where_ : Nat) (s : State) : Keeps s (dropPacket where_ s) := .after (keeps_logEvent ..) ⟨id⟩

theorem keeps_eject (i : Fin 300) (p : Packet) (s : State) : Keeps s (eject i p s) := .ite (.refl _) (.ite ⟨id⟩ ⟨id⟩)

theorem keeps_niReceive (p : Packet) (v : Bool) (e : FlitError) (s : State) : Keeps s (niReceive p v e s) := by with_reducible_and_instances
  delta niReceive
  exact .optionCase (.refl _) fun i => by
    beta_reduce
    cases e
    case doubleHead => exact keeps_dropPacket ..
    case cpar => exact keeps_dropPacket ..
    all_goals exact keeps_eject ..

theorem keeps_forward (f : Flight) (o : Nat) (e : FlitError) (s : State) : Keeps s (forward f o e s) :=
  .ite (.ite (.after (keeps_dropPacket ..) ⟨id⟩) (.after (keeps_cairnSee ..) (.after (keeps_setFab ..) (.after (keeps_cairnSee ..) ⟨id⟩))))
    (.after (keeps_niReceive ..) (.after (keeps_cairnSee ..) ⟨id⟩))

theorem keeps_dropFlight (k : Nat) (s : State) : Keeps s (dropFlight k s) := ⟨id⟩

theorem keeps_checkFlits (e : FlitError) (p : Packet) (s : State) : Keeps s ((checkFlits e p s).2) := by with_reducible_and_instances
  delta checkFlits
  extract_lets
  split
  · exact .after (keeps_dropPacket ..) (.optionCase (.refl _) fun _ => keeps_strike ..)
  · exact .after (keeps_dropPacket ..) (.optionCase (.refl _) fun _ => keeps_strike ..)
  · exact .refl _
  · exact .optionCase (.refl _) fun _ => ⟨id⟩
  · exact .refl _

theorem keeps_routeFlight (k : Nat) (f : Flight) (e : FlitErrors) (s : State) : Keeps s (routeFlight k f e s) :=
  .ite (.after (keeps_dropPacket ..) ⟨id⟩) (.optionCase (.after (keeps_dropFlight ..) (.iteSnd (keeps_checkFlits ..) (.refl _))) fun _ => .ite
    (.after (keeps_dropPacket ..) (.after (.ite (keeps_dropFlight ..) (keeps_setFab ..)) (.iteSnd (keeps_checkFlits ..) (.refl _)))) (.foldl (.after
      (.ite (keeps_dropFlight ..) (keeps_setFab ..)) (.iteSnd (keeps_checkFlits ..) (.refl _))) fun _ _ => keeps_forward ..))

theorem keeps_purgeLink (l : Nat) (s : State) : Keeps s (purgeLink l s) := .after (keeps_flow ..) (.foldl ⟨id⟩ fun _ _ => keeps_dropPacket ..)

theorem keeps_purgeRouter (n : Nat) (s : State) : Keeps s (purgeRouter n s) := by with_reducible_and_instances
  delta purgeRouter
  exact .foldl (.foldl ⟨id⟩ fun _ _ => keeps_dropPacket ..) fun _ _ => keeps_purgeLink ..

theorem keeps_writeFab (o : Nat) (v : Word) (s : State) : Keeps s (writeFab o v s) := .litCase ⟨id⟩ fun _ => .litCase ⟨id⟩ fun _ => .refl _

theorem keeps_readFabEffect (o : Nat) (s : State) : Keeps s (readFabEffect o s) :=
  .litCase ⟨id⟩ fun _ => .litCase ⟨id⟩ fun _ => .litCase ⟨id⟩ fun _ => .litCase ⟨id⟩ fun _ => .litCase ⟨id⟩ fun _ => .someCase (fun _ =>
    .litCase ⟨id⟩ fun _ => .litCase ⟨id⟩ fun _ => .refl _) fun _ => .refl _

/-! ### Operands and exceptions of the cores -/

theorem keeps_coreNext (n : Fin 288) (s : State) : Keeps s (coreNext n s) := keeps_setCore ⟨id⟩

theorem keeps_retire {n : Fin 288} {f : Core → Core} {s : State} (h : CoreKeeps (s.core n) (f (s.core n))) : Keeps s (retire n f s) :=
  .after (keeps_coreNext ..) (keeps_setCore h)

theorem keeps_raise (n : Fin 288) (cause : Nat) (info : Word) (s : State) : Keeps s (raise n cause info s) :=
  .ite (keeps_setCore ⟨id⟩) (.after (.optionCase (.refl _) fun _ => keeps_graphFault ..) (.after (keeps_logEvent ..) (keeps_setCore ⟨id⟩)))

theorem keeps_illegal (n : Fin 288) (s : State) : Keeps s (illegal n s) := keeps_raise ..

theorem keeps_sramEcc (n : Fin 288) (a : Nat) (e : Ecc) (s : State) : Keeps s (sramEcc n a e s) := by with_reducible_and_instances
  delta sramEcc
  cases e
  · exact .refl _
  · exact .after (keeps_rowError ..) (keeps_setCore ⟨id⟩)
  · exact .after (keeps_alert ..) (.after (keeps_hardFail ..) (keeps_logEvent ..))

/-! ### Free values -/

theorem keeps_stepFree (n : Nat) (s : State) : Keeps s (stepFree n s) := ⟨id⟩

/-! ### Tile operations -/

theorem keeps_issueTile (n : Fin 288) (op : Nat) (w : BitVec 26) (s : State) : Keeps s (issueTile n op w s) := keeps_retire ⟨id⟩

theorem keeps_reserveRoom (n : Fin 288) (bytes : Nat) (s : State) : Keeps s (reserve_ n bytes s) := ⟨id⟩

theorem keeps_issueU (i : Fin 300) (o : Owner) (p : Packet) (s : State) : Keeps s (issueU i o p s) := .optionCase ⟨id⟩ fun _ => ⟨id⟩

/-! ### Messages of the cores -/

theorem keeps_awaitG (n : Fin 288) (rs : List Nat) (s : State) : Keeps s (awaitG n rs s) := keeps_setCore ⟨id⟩

theorem keeps_land (n : Fin 288) (m : Msg) (s : State) : Keeps s (land n m s) := keeps_setCore (.after (coreKeeps_settle ..) ⟨id⟩)

theorem keeps_returnCredit (n : Fin 288) (m : Msg) (s : State) : Keeps s (returnCredit n m s) := ⟨id⟩

/-! ### Graphs -/

theorem keeps_packPool (j : Fin 288) (s : State) : Keeps s (packPool j s) :=
  .foldlSnd (.refl _) fun _ _ => .after (.ite (keeps_setEntry ..) (.refl _)) (.after (keeps_setTiers fun _ => rfl) (keeps_putHome ..))

theorem keeps_expelRun (r : Run) (s : State) : Keeps s (expelRun r s) :=
  .optionCase (keeps_dropRun ..) fun _ => .ite (keeps_dropRun ..) (.optionCase (.after (keeps_arriveDram ..) (keeps_dropRun ..)) fun _ => .after
    (keeps_setEntry ..) (.after (keeps_putHome ..) (.after (keeps_takeRun ..) (keeps_dropRun ..))))

theorem keeps_fitPool (j : Fin 288) (s : State) : Keeps s (fitPool j s) :=
  .foldl (.after (keeps_packPool ..) (.after (keeps_setTiers fun _ => rfl) (.foldl (.refl _) fun _ _ => .after (keeps_queueMove ..)
    (keeps_moveAbandon ..)))) fun _ _ => .ite (.refl _) (keeps_expelRun ..)

theorem keeps_dropTreesOf (mine : List (Fin 288)) (s : State) : Keeps s (dropTreesOf mine s) := .foldl ⟨id⟩ fun _ _ => ⟨id⟩

theorem keeps_dropTrees (g : Fin 8) (s : State) : Keeps s (dropTrees g s) := keeps_dropTreesOf ..

theorem keeps_bindCores (g : Fin 8) (cores : List Nat) (hd : List Word) (code : List Byte) (s : State) :
    Keeps s (bindCores g cores hd code s) := by with_reducible_and_instances
  delta bindCores
  exact .after (keeps_buildEvent ..) (.foldl (.after (keeps_mapCores rfl fun _ _ => .ite (.after (coreKeeps_load ..) ⟨id⟩)
    (.ite (coreKeeps_unbind _) ⟨id⟩)) (keeps_dropTrees ..)) fun _ _ => keeps_fitPool ..)

theorem keeps_installPlan (g : Fin 8) (p : Plan) (launch : Bool) (s : State) : Keeps s (installPlan g p launch s) :=
  .foldl (.foldl (keeps_dropTrees ..) fun _ _ => ⟨id⟩) fun _ _ => .someCase (fun _ => .someCase (fun _ => ⟨id⟩) fun _ => .refl _) fun _ =>
    .refl _

theorem keeps_freeScratch (j : Fin 288) (base : Nat) (s : State) : Keeps s (freeScratch j base s) :=
  .after (keeps_setCore (.home (wf_below_append_ofBytes · _ _) rfl)) ⟨id⟩

theorem keeps_launchGraph (g : Fin 8) (s : State) : Keeps s (launchGraph g s) :=
  .after (.optionCase (.refl _) fun _ => keeps_installPlan ..) (.foldl ⟨id⟩ fun _ _ => .after (keeps_freeScratch ..) (.after (keeps_setCore
    (coreKeeps_launch ..)) ⟨id⟩))

theorem keeps_resumeCores (g : Fin 8) (s : State) : Keeps s (resumeCores g s) := by with_reducible_and_instances
  delta resumeCores
  exact keeps_mapCores rfl fun _ _ => .ite (coreKeeps_resume _) ⟨id⟩

theorem keeps_switchGraph (g : Fin 8) (s : State) : Keeps s (switchGraph g s) :=
  .foldl (.optionCase (.after (keeps_setGraph ..) (.optionCase (.refl _) fun _ => .optionCase (.refl _) fun _ => .after (keeps_bindCores ..)
    (keeps_setGraph ..)))
    fun _ => .after (keeps_installPlan ..) (.after (keeps_setGraph ..) (.optionCase (.refl _) fun _ => .optionCase (.refl _) fun _ =>
      .after (keeps_bindCores ..) (keeps_setGraph ..)))) fun _ _ => .after (keeps_freeScratch ..) (keeps_setCore (.ite ⟨id⟩ (coreKeeps_launch ..)))

theorem keeps_endPhrases (g : Fin 8) (s : State) : Keeps s (endPhrases g s) :=
  .foldl (.refl _) fun _ _ => .ite (.after (keeps_toState ..) ⟨id⟩) (.ite (.after (keeps_toState ..) ⟨id⟩) ⟨id⟩)

theorem keeps_stopGraph (g : Fin 8) (s : State) : Keeps s (stopGraph g s) := by with_reducible_and_instances
  delta stopGraph
  exact .after (keeps_endPhrases ..) (.after (keeps_mapCores rfl fun _ _ => .ite ⟨id⟩ ⟨id⟩) (.after (keeps_setGraph ..) (keeps_dropTrees ..)))

theorem keeps_releaseGraph (g : Fin 8) (s : State) : Keeps s (releaseGraph g s) := by with_reducible_and_instances
  delta releaseGraph
  exact .after (keeps_mapCores rfl fun _ _ => .ite (coreKeeps_unbind _) ⟨id⟩) (.after (keeps_setGraph ..) (keeps_dropTrees ..))

theorem keeps_settleStop (g : Fin 8) (s : State) : Keeps s (settleStop g s) :=
  .ite (.after (keeps_finishOk ..) (.after (keeps_finishWaits ..) (keeps_stopGraph ..))) (.refl _)

theorem keeps_settleStops (s : State) : Keeps s (settleStops s) := .foldl (.refl _) fun _ _ => keeps_settleStop ..

/-! ### Packets served -/

theorem keeps_dropRx (i : Fin 300) (p : Packet) (s : State) : Keeps s (dropRx i p s) := ⟨id⟩

theorem keeps_sendTile (i : Fin 300) (p : Packet) (t : Tile) (s : State) : Keeps s (sendTile i p t s) := .foldl (.refl _) fun _ _ => ⟨id⟩

theorem keeps_refuseRead (i : Fin 300) (p : Packet) (st : BitVec 8) (s : State) : Keeps s (refuseRead i p st s) := ⟨id⟩

theorem keeps_takeMsg (n : Fin 288) (p : Packet) (s : State) : Keeps s (takeMsg n p s) := .ite ⟨id⟩ (.after (keeps_ack ..) (keeps_land ..))

theorem keeps_dramEcc (t : Nat) (e : Ecc) (s : State) : Keeps s (dramEcc t e s) := by with_reducible_and_instances
  delta dramEcc
  extract_lets
  split
  · exact .refl _
  · exact .after (keeps_rowError ..) (keeps_setTiers fun _ => rfl)
  · exact .after (keeps_poison ..) (.after (keeps_alert ..) (.after (keeps_hardFail ..) (keeps_setTiers fun _ => rfl)))

theorem keeps_redirect (i : Fin 300) (p : Packet) (e : Entry) (s : State) : Keeps s (redirect i p e s) := ⟨id⟩

theorem keeps_ownerRead (i : Fin 300) (p : Packet) (ecc : Ecc) (s : State) : Keeps s (ownerRead i p ecc s) :=
  .ite ⟨id⟩ (.ite ⟨id⟩ (.ite ⟨id⟩ (.after (.optionCase (keeps_refuseRead ..) fun _ => keeps_sendTile ..) (.after (keeps_readTile ..) (.ite
    (keeps_dramEcc ..) (.refl _))))))

theorem keeps_storeRead (n : Fin 288) (p : Packet) (ecc : Ecc) (s : State) : Keeps s (storeRead n p ecc s) :=
  .optionCase ⟨id⟩ fun _ => .ite (.after (keeps_refuseRead ..) (keeps_sramEcc ..)) (.after (.optionCase
    (keeps_refuseRead ..) fun _ => keeps_sendTile ..) (.after (keeps_readTile ..) (keeps_sramEcc ..)))

theorem keeps_askWiden (p : Packet) (s : State) : Keeps s (askWiden p s) := .ite (keeps_queueMove ..) (.refl _)

theorem keeps_askWidens (i : Fin 300) (s : State) : Keeps s (askWidens i s) := .foldl (.refl _) fun _ _ => keeps_askWiden ..

theorem keeps_refillPart (p : Packet) (s : State) : Keeps s (refillPart p s) :=
  .ite (.refl _) (.ite (.after (keeps_setEntry ..) (keeps_setTiers fun _ => rfl)) (keeps_setTiers fun _ => rfl))

theorem keeps_applyWrite (i : Fin 300) (p : Packet) (s : State) : Keeps s (applyWrite i p s) :=
  .after (keeps_ack ..) (.after (keeps_refillPart ..) (keeps_writeTile ..))

theorem keeps_ownerWrite (i : Fin 300) (p : Packet) (ecc : Ecc) (s : State) : Keeps s (ownerWrite i p ecc s) :=
  .optionCase ⟨id⟩ fun _ => .ite (.after (keeps_redirect ..) (.ite (keeps_setEntry ..) (.refl _))) (.after (keeps_applyWrite ..) (.ite
    (keeps_dramEcc ..) (.refl _)))

theorem keeps_storeWrite (n : Fin 288) (p : Packet) (s : State) : Keeps s (storeWrite n p s) :=
  .optionCase ⟨id⟩ fun _ => .ite ⟨id⟩ (keeps_applyWrite ..)

/-! ### Replies -/

theorem keeps_haulReq (c : Fin 8) (cmd : Nat) (tile : Nat) (run : Nat × Nat × Nat) (f : Packet → Packet) (s : State) :
    Keeps s (haulReq c cmd tile run f s) :=
  ⟨id⟩

theorem keeps_setPhase (c : Fin 8) (t k : Nat) (s : State) : Keeps s (setPhase c t k s) := keeps_setTiers fun _ => rfl

theorem keeps_haulWrite (c : Fin 8) (m : Moving) (s : State) : Keeps s (haulWrite c m s) :=
  .optionCase (keeps_setPhase ..) fun _ => .foldl (keeps_setPhase ..) fun _ _ => ⟨id⟩

theorem keeps_haulEnd (c : Fin 8) (p : Packet) (st : BitVec 8) (s : State) : Keeps s (haulEnd c p st s) :=
  .optionCase (.refl _) fun _ => .ite (.refl _) (.ite (.after (keeps_finishMoves ..) (keeps_moveAbandon ..)) (.ite (.optionCase
    (.refl _) fun _ => .ite (keeps_setPhase ..) (.after (keeps_haulReq ..) (keeps_setPhase ..))) (.ite (keeps_haulWrite ..) (.ite (keeps_setPhase ..)
      (.refl _)))))

theorem keeps_noteStatus (n : Fin 288) (k seq : Nat) (st : BitVec 8) (s : State) :
    Keeps s (noteStatus n k seq st s) := .ite (.refl _) (keeps_setCore ⟨id⟩)

theorem keeps_mcastEnd (n : Fin 288) (rd ix : Nat) (st : BitVec 8) (s : State) : Keeps s (mcastEnd n rd ix st s) :=
  keeps_setCore (.optionCase ⟨id⟩ fun _ => .ite (.after (coreKeeps_deliverG ..) (.after (coreKeeps_deliverG ..) ⟨id⟩)) ⟨id⟩)

theorem keeps_hostRefused (t : Nat) (s : State) : Keeps s (hostRefused t s) := keeps_logEvent ..

/-! ### The host link -/

theorem keeps_bridgeU {t : Nat} {write : Bool} {own : Owner} {p : Packet} {refused : State → State} {s : State}
    (h : ∀ u, Keeps u (refused u)) : Keeps s (bridgeU t write own p refused s) :=
  .ite (keeps_issueU ..) (.after (h _) (keeps_hostRefused ..))

/-! ### Replies -/

theorem keeps_hostPart (k at_ : Nat) (b : List Byte) (s : State) : Keeps s (hostPart k at_ b s) := .optionCase (.refl _) fun _ => .ite ⟨id⟩ ⟨id⟩

theorem keeps_hostFails (r : Req) (st : BitVec 8) (s : State) : Keeps s (hostFails r st s) := by with_reducible_and_instances
  delta hostFails
  cases r.owner
  case hostRead => exact .ite (.optionCase (.refl _) fun _ => .after (keeps_logEvent ..) ⟨id⟩) (keeps_hostRefused ..)
  all_goals exact .ite (.refl _) (keeps_hostRefused ..)

theorem keeps_dapResult (st : BitVec 4) (w : Word) (s : State) : Keeps s (dapResult st w s) := ⟨id⟩

theorem keeps_dapEnd (k off : Nat) (write : Bool) (r : Req) (st : BitVec 8) (s : State) :
    Keeps s (dapEnd k off write r st s) := .after (.ite (.refl _) (.after (keeps_dapResult ..) ⟨id⟩)) (.ite (.refl _) (keeps_hostRefused ..))

theorem keeps_serviceEnd (r : Req) (st : BitVec 8) (s : State) : Keeps s (serviceEnd r st s) := by with_reducible_and_instances
  delta serviceEnd
  cases r.owner
  case hostRead => exact .after (keeps_hostPart ..) (.ite (.refl _) (keeps_hostFails ..))
  case hostWrite => exact .ite (.refl _) (keeps_hostFails ..)
  case dap => exact keeps_dapEnd ..
  case pmaRead => exact ⟨id⟩
  all_goals exact .refl s

theorem keeps_ownerEnd (i : Fin 300) (r : Req) (st : BitVec 8) (res : Word) (s : State) :
    Keeps s (ownerEnd i r st res s) := by with_reducible_and_instances
  delta ownerEnd
  exact .dite (fun _ => by
    extract_lets
    cases r.owner
    case tile => exact .after (keeps_noteStatus ..) ⟨id⟩
    case reg rd amo =>
      cases amo
      · exact .after (keeps_setCore (coreKeeps_deliverG ..)) ⟨id⟩
      · exact .after (keeps_setCore ⟨(CoreKeeps.after (coreKeeps_setP ..) (coreKeeps_deliverG ..)).1⟩) ⟨id⟩
    case mcast => exact .after (keeps_mcastEnd ..) ⟨id⟩
    all_goals exact ⟨id⟩) fun _ => .dite (fun _ => keeps_haulEnd ..) fun _ => keeps_serviceEnd ..

theorem keeps_countLatency (i : Fin 300) (r : Req) (s : State) : Keeps s (countLatency i r s) := .optionCase (.refl _) fun _ => ⟨id⟩

theorem keeps_lateReply (i : Fin 300) (p : Packet) (s : State) : Keeps s (lateReply i p s) :=
  .optionCase (.ite (.refl _) ⟨id⟩) fun _ => .ite (.refl _) (.ite ⟨id⟩ (.after (keeps_addCredit ..) ⟨id⟩))

theorem keeps_endReq (i : Fin 300) (k : Nat) (r : Req) (st : BitVec 8) (res : Word) (s : State) :
    Keeps s (endReq i k r st res s) := .after (keeps_ownerEnd ..) (.after (.ite (.refl _) (keeps_addCredit ..)) (.after (keeps_countLatency ..) ⟨id⟩))

theorem keeps_storePart (i : Fin 300) (r : Req) (p : Packet) (s : State) : Keeps s (storePart i r p s).2 := by with_reducible_and_instances
  delta storePart
  cases r.owner
  case tile =>
    dsimp only
    split
    · exact keeps_setCore ⟨id⟩
    · exact .refl s
  all_goals exact .refl s

theorem keeps_bumpGen (i : Fin 300) (tag : BitVec 10) (s : State) : Keeps s (bumpGen i tag s) := ⟨id⟩

theorem keeps_resend (i : Fin 300) (k : Nat) (r : Req) (dst g : Nat) (busy : Option Nat) (s : State) :
    Keeps s (resend i k r dst g busy s) := .after (keeps_setNi ..) (.after (keeps_addCredit ..) (keeps_countLatency ..))

theorem keeps_strikeCore (dst : Nat) (s : State) : Keeps s (strikeCore dst s) :=
  .optionCase (.refl _) fun _ => .ite (.refl _) (.after (keeps_strike ..) ⟨id⟩)

theorem keeps_timeoutEvent (i : Fin 300) (dst : Nat) (s : State) : Keeps s (timeoutEvent i dst s) := .ite ⟨id⟩ (.after (keeps_logEvent ..) ⟨id⟩)

theorem keeps_timeoutOne (i : Fin 300) (r : Req) (s : State) : Keeps s (timeoutOne i r s) :=
  .after (keeps_ownerEnd ..) (.after (keeps_timeoutEvent ..) (.after (keeps_strikeCore ..) ⟨id⟩))

/-! ### PMA jobs -/

theorem keeps_demandS23 (s : State) : Keeps s (demandS23 s) := .ite (.ite ⟨id⟩ (.refl _)) (.ite (.after (keeps_startIntonation ..) ⟨id⟩) (.refl _))

theorem keeps_taintBy (n : Fin 288) (s : State) : Keeps s (taintBy n s) := by with_reducible_and_instances
  delta taintBy
  cases s.grid.unison
  · exact .refl s
  · exact .someCase (fun _ => ⟨id⟩) fun _ => .refl _

theorem keeps_acceptJob (d : Vector Word 8) (cmd : Option Cmd) (core : Option (Fin 288 × BitVec 3)) (is : List (Fin 4)) (s : State) :
    Keeps s (acceptJob d cmd core is s) := .foldl ⟨(keeps_demandS23 ..).1⟩ fun _ _ => ⟨id⟩

theorem keeps_messageCore (n : Fin 288) (mb : BitVec 3) (ws : List Word) (s : State) :
    Keeps s (messageCore n mb ws s) := .optionCase (.refl _) fun _ => ⟨id⟩

theorem keeps_completeJob (j : Job) (ws : List Word) (s : State) : Keeps s (completeJob j ws s) :=
  .optionCase (.optionCase (.refl _) fun _ => keeps_messageCore ..) fun _ => keeps_finishWaits ..

theorem keeps_startJob (j : Job) (is : List (Fin 4)) (s : State) : Keeps s (startJob j is s) :=
  .foldl (.foldl (.refl _) fun _ _ => ⟨id⟩) fun _ _ => keeps_issueU ..

theorem keeps_writeResults (j k a : Nat) (b : List Byte) (s : State) : Keeps s (writeResults j k a b s) := by
  induction k generalizing a b s with
  | zero => exact .refl s
  | succ k ih =>
    unfold writeResults
    exact .ite (.refl _) (.after (ih ..) (keeps_issueU ..))

theorem keeps_passesEnd (i : Fin 4) (j : Job) (st n : Nat) (s : State) : Keeps s (passesEnd i j st n s) := by with_reducible_and_instances
  delta passesEnd
  exact .after (keeps_writeResults ..) (.foldl ⟨id⟩ fun _ _ => ⟨id⟩)

theorem keeps_endJob (i : Fin 4) (j : Job) (st n eb : Nat) (sat : Bool) (s : State) :
    Keeps s (endJob i j st n eb sat s) := .after (keeps_completeJob ..) (.update rfl rfl rfl rfl (.foldl (.refl _) fun _ _ => ⟨id⟩))

theorem keeps_dropJob (i : Fin 4) (j : Job) (st : Nat) (s : State) : Keeps s (dropJob i j st s) :=
  .after (keeps_completeJob ..) (.foldl ⟨id⟩ fun _ _ => ⟨id⟩)

theorem keeps_s23ForReset (s : State) : Keeps s (s23ForReset s) := .ite ⟨id⟩ (.ite (.refl _) ⟨id⟩)

theorem keeps_cutJob (i : Fin 4) (j : Job) (s : State) : Keeps s (cutJob i j s) := .after (keeps_endJob ..) ⟨id⟩

theorem keeps_resetPma (s : State) : Keeps s (resetPma s) :=
  .after (.ite (keeps_finishOk ..) (.after (keeps_startIntonation ..) (keeps_s23ForReset ..))) (.foldl (.foldl (.foldl (.refl _) fun _ _ =>
    .optionCase (.refl _) fun _ => keeps_cutJob ..) fun _ _ => .foldl (.refl _) fun _ _ => .ite (keeps_dropJob ..) (.refl _)) fun _ _ => ⟨id⟩)

/-! ### Modes -/

theorem keeps_setPwr (f : Pwr → Pwr) (s : State) : Keeps s (setPwr f s) := ⟨id⟩

theorem keeps_pwrCause (k : Nat) (s : State) : Keeps s (pwrCause k s) := .ite ⟨id⟩ ⟨id⟩

theorem keeps_beginMode (m : BitVec 2) (s : State) : Keeps s (beginMode m s) :=
  .ite (.ite ⟨id⟩ ⟨id⟩) (.ite (.after (keeps_startIntonation ..) ⟨id⟩) ⟨id⟩)

theorem keeps_autoWake (s : State) : Keeps s (autoWake s) :=
  .ite (.refl _) (.ite (.after (keeps_pwrCause ..) (keeps_beginMode ..)) (.ite ⟨id⟩ (.refl _)))

/-! ### Belays -/

theorem keeps_setBelayStep (d : Domain) (k : BelayStep) (s : State) : Keeps s (setBelayStep d k s) := ⟨id⟩

theorem keeps_pauseGraphs (s : State) : Keeps s (pauseGraphs s) := by with_reducible_and_instances
  delta pauseGraphs
  exact keeps_mapCores rfl fun _ _ => .optionCase ⟨id⟩ fun _ => .ite ⟨id⟩ ⟨id⟩

theorem keeps_resumeGraphs (s : State) : Keeps s (resumeGraphs s) := .foldl (.refl _) fun _ _ => .ite (.after (keeps_resumeCores ..) ⟨id⟩) (.refl _)

theorem keeps_emptyRow (y : Nat) (s : State) : Keeps s (emptyRow y s) :=
  .after (.ite (keeps_logEvent ..) (.refl _)) (.foldl (.refl _) fun _ _ => .optionCase (.refl _) fun _ => keeps_queueMove ..)

theorem keeps_belayRequest (d : Domain) (off : Bool) (s : State) : Keeps s (belayRequest d off s) := by with_reducible_and_instances
  delta belayRequest
  cases d
  case row => exact .after (.ite (keeps_emptyRow ..) (keeps_belayBegin ..)) (keeps_pauseGraphs ..)
  case s23 => exact .after (keeps_belayBegin ..) ⟨id⟩
  all_goals exact keeps_belayBegin ..

theorem keeps_rowOff (y : Fin 16) (s : State) : Keeps s (rowOff y s) := by with_reducible_and_instances
  delta rowOff
  exact keeps_mapCores rfl fun _ _ => .ite ⟨fun h => ⟨h.1, rfl⟩⟩ ⟨id⟩

theorem keeps_stayOn (d : Domain) (s : State) : Keeps s (stayOn d s) := .ite ⟨id⟩ ⟨id⟩

theorem keeps_reloadRow (y : Fin 16) (s : State) : Keeps s (reloadRow y s) :=
  .foldl (.refl _) fun _ _ => .optionCase (.refl _) fun _ => .optionCase (.refl _) fun _ => keeps_setCore (coreKeeps_load ..)

theorem keeps_wakeDomain (d : Domain) (off : Bool) (s : State) : Keeps s (wakeDomain d off s) := by with_reducible_and_instances
  delta wakeDomain
  split
  · exact .ite (.after (keeps_reloadRow ..) ⟨id⟩) ⟨id⟩
  · exact ⟨id⟩
  · exact ⟨id⟩
  · exact ⟨id⟩

/-! ### Reset and startup -/

theorem keeps_inReset (s : State) : Keeps s (inReset s) :=
  ⟨fun ⟨_, _, _, hh⟩ => ⟨fun n => by simp only [inReset, Fin.getElem_fin, Vector.getElem_replicate]; exact ⟨rfl, rfl⟩, rfl, rfl, hh⟩⟩

theorem keeps_sampleStraps (t : Straps) (s : State) : Keeps s (sampleStraps t s) :=
  .after (.ite (keeps_logEvent ..) (.refl _)) (.ite (.after (keeps_logEvent ..) ⟨id⟩) ⟨id⟩)

theorem keeps_porReset (t : Straps) (s : State) : Keeps s (porReset t s) := .after (keeps_sampleStraps ..) (.after (keeps_inReset ..) ⟨id⟩)

theorem keeps_resetFunction (s : State) : Keeps s (resetFunction s) := ⟨id⟩

theorem keeps_resetRings (s : State) : Keeps s (resetRings s) := ⟨id⟩

theorem keeps_loseReturns (s : State) : Keeps s (loseReturns s) := by with_reducible_and_instances
  delta loseReturns
  exact .foldl (.foldl (.refl _) fun _ _ => keeps_loseRecords ..) fun _ _ => keeps_losePage ..

theorem keeps_dropLoad (s : State) : Keeps s (dropLoad s) := .ite (.refl _) ⟨id⟩

theorem keeps_endStep (k next : Nat) (s : State) : Keeps s (endStep k next s) := ⟨id⟩

theorem keeps_bootEvent (k : Nat) (s : State) : Keeps s (bootEvent k s) := .after (keeps_logEvent ..) ⟨id⟩

theorem keeps_halt (k : Nat) (s : State) : Keeps s (halt k s) := .after (keeps_bootEvent ..) ⟨id⟩

theorem keeps_outOfUse (u : UnitRef) (s : State) : Keeps s (outOfUse u s) :=
  .ite ⟨id⟩ (.ite ⟨id⟩ (.ite ⟨id⟩ (.ite ⟨id⟩ (.ite (keeps_dramRowOut ..) (.refl _)))))

theorem keeps_noteRetire (u : UnitRef) (cls : BitVec 2) (count : Nat) (s : State) : Keeps s (noteRetire u cls count s) := ⟨(keeps_recordRetire ..).1⟩

theorem keeps_retireAtBoot (u : UnitRef) (s : State) : Keeps s (retireAtBoot u s) :=
  .ite (.refl _) (.after (.ite (keeps_noteRetire ..) (.refl _)) (.after (keeps_outOfUse ..) (keeps_noteRetire ..)))

theorem keeps_bootNis (s : State) : Keeps s (bootNis s) := ⟨id⟩

theorem keeps_fwReject (r : BitVec 3) (s : State) : Keeps s (fwReject r s) := .after (keeps_logEvent ..) (keeps_setBoot fun _ => rfl)

theorem keeps_fwTake (v : Word) (s : State) : Keeps s (fwTake v s) := keeps_setBoot fun _ => rfl

theorem keeps_writeFwCtrl (v : Word) (s : State) : Keeps s (writeFwCtrl v s) :=
  .ite (keeps_setBoot fun _ => rfl) (.ite (keeps_setBoot fun _ => rfl) (.ite (keeps_fwReject ..) (.ite (.after (keeps_fwTake ..)
    (keeps_setBoot fun _ => rfl)) (.ite (keeps_fwTake ..) (keeps_fwReject ..)))))

theorem keeps_writeGen (src : Src) (o : Nat) (v : Word) (s : State) : Keeps s (writeGen src o v s) :=
  .litCase (.ite (keeps_lockViol ..) ⟨id⟩) fun _ => .litCase ⟨id⟩ fun _ => .litCase (keeps_writeFwCtrl ..) fun _ => .refl _

/-! ### KV state -/

theorem keeps_setKv (i : Fin 16) (f : Kv → Kv) (s : State) : Keeps s (setKv i f s) := keeps_setTiers fun _ => rfl

theorem keeps_setRef (k n : Nat) (s : State) : Keeps s (setRef k n s) := keeps_setTiers fun _ => rfl

theorem keeps_refCol (ps : List Nat) (s : State) : Keeps s (refCol ps s) := .foldl (.refl _) fun _ _ => keeps_setRef ..

theorem keeps_unrefCol (ps : List Nat) (s : State) : Keeps s (unrefCol ps s) := .foldl (.refl _) fun _ _ => keeps_setRef ..

theorem keeps_poolWords (tile word : Nat) (ws : List Word) (s : State) : Keeps s (poolWords tile word ws s) := .ite (keeps_uWriteBytes ..) (.refl _)

theorem keeps_putPage (k : Nat) (b : List Byte) (s : State) : Keeps s (putPage k b s) := keeps_uWriteBytes ..

theorem keeps_rewriteMap (i : Fin 16) (s : State) : Keeps s (rewriteMap i s) := .after (keeps_poolWords ..) (keeps_setKv ..)

theorem keeps_rewriteHeader (i : Fin 16) (s : State) : Keeps s (rewriteHeader i s) := .after (keeps_poolWords ..) (keeps_setKv ..)

theorem keeps_logWords (i : Fin 16) (p : Nat) (ws : List Word) (s : State) : Keeps s (logWords i p ws s) :=
  .after (keeps_poolWords ..) (keeps_setKv ..)

theorem keeps_clearCol (ps : List Nat) (s : State) : Keeps s (clearCol ps s) := .foldl (keeps_setTiers fun _ => rfl) fun _ _ => keeps_rewriteMap ..

theorem keeps_dropUntil (busy : BitVec 16) (n k : Nat) (s : State) : Keeps s (dropUntil busy n k s) := by
  induction k generalizing s with
  | zero => exact .refl s
  | succ k ih =>
    unfold dropUntil
    exact .ite (.refl _) (.optionCase (.refl _) fun _ => .after (ih _) (keeps_clearCol ..))

theorem keeps_makeRoom (own : BitVec 16) (n : Nat) (s : State) : Keeps s (makeRoom own n s) :=
  .ite (.refl _) (.ite (keeps_dropUntil ..) (.after (keeps_dropUntil ..) ⟨id⟩))

theorem keeps_pageWait (i : Fin 16) (s : State) : Keeps s (pageWait i s) := keeps_setKv ..

theorem keeps_giveCol (i : Fin 16) (c : Nat) (ps : List Nat) (s : State) : Keeps s (giveCol i c ps s) :=
  .after (keeps_rewriteMap ..) (.after (keeps_setKv ..) (.someCase (fun _ => .someCase (fun _ => .after (keeps_setTiers fun _ => rfl) (.after
    (keeps_unrefCol ..) (.foldl (keeps_refCol ..) fun _ _ => keeps_putPage ..))) fun _ => keeps_refCol ..) fun _ => keeps_refCol ..))

theorem keeps_replayCol (i : Fin 16) (c : Nat) (ps : List Nat) (s : State) : Keeps s (replayCol i c ps s) :=
  .after (keeps_setKv ..) (.foldl (keeps_refCol ..) fun _ _ => keeps_putPage ..)

theorem keeps_clearContext (i : Fin 16) (s : State) : Keeps s (clearContext i s) :=
  .after (keeps_setKv ..) (.foldl (.refl _) fun _ _ => keeps_unrefCol ..)

theorem keeps_releasePrefix (h : BitVec 8) (s : State) : Keeps s (releasePrefix h s) :=
  .optionCase (.refl _) fun _ => .after (keeps_setTiers fun _ => rfl) (.foldl (.refl _) fun _ _ => keeps_unrefCol ..)

theorem keeps_commitStep (i : Fin 16) (ws : List Word) (s : State) : Keeps s (commitStep i ws s) :=
  .ite (.refl _) (.after (keeps_rewriteHeader ..) (.after (keeps_setKv ..) (keeps_logWords ..)))

theorem keeps_readKvEffect (o : Nat) (s : State) : Keeps s (readKvEffect o s) :=
  .litCase (keeps_setTiers fun _ => rfl) fun _ => .litCase (keeps_setTiers fun _ => rfl) fun _ => .litCase
    (keeps_setTiers fun _ => rfl) fun _ => .refl _

/-! ### Streams -/

theorem keeps_releaseHops (s : State) : Keeps s (releaseHops s) := ⟨id⟩

theorem keeps_applySeats (d : Vector Word 16) (mask : BitVec 4) (s : State) : Keeps s (applySeats d mask s) := ⟨id⟩

theorem keeps_hopCommit (s : State) : Keeps s (hopCommit s) :=
  .after (keeps_finishOk ..) (.after (.optionCase (.refl _) fun _ => .after (keeps_applySeats ..) ⟨id⟩)
    (.after (.optionCase (.refl _) fun _ => .ite ⟨id⟩ ⟨id⟩) (.optionCase (.refl _) fun _ => ⟨id⟩)))

theorem keeps_vadStart (q : Fin 4) (first : Nat) (s : State) : Keeps s (vadStart q first s) :=
  .after (.ite (keeps_autoWake ..) (.refl _)) (.foldl (.refl _) fun _ _ => .after (keeps_restoreState ..) (.ite (.after (keeps_setStream ..)
    (keeps_emitEvent ..)) (.refl _)))

theorem keeps_vadEnd (q : Fin 4) (first : Nat) (s : State) : Keeps s (vadEnd q first s) :=
  .foldl (.refl _) fun _ _ => .after (.ite (keeps_setStream ..) (.refl _)) (.ite (.after (keeps_emitEvent ..) ⟨id⟩) (.refl _))

theorem keeps_talkerHop (seats : BitVec 4) (s : State) : Keeps s (talkerHop seats s) := ⟨id⟩

theorem keeps_stepPositions (i : Fin 16) (ws : List Word) (s : State) : Keeps s (stepPositions i ws s) :=
  .ite (.ite (.refl _) (.after (keeps_logEvent ..) (.after (keeps_emitEvent ..) (.after (keeps_setKv ..) ⟨id⟩)))) (keeps_commitStep ..)

theorem keeps_flipSlot (i : Fin 16) (s : State) : Keeps s (flipSlot i s) := .optionCase ⟨id⟩ fun _ => .after (keeps_uWriteBytes ..) ⟨id⟩

theorem keeps_segBegin (i : Fin 16) (last : Bool) (s : State) : Keeps s (segBegin i last s) := .after (keeps_setStream ..) (keeps_emitEvent ..)

theorem keeps_stepRecords (i : Fin 16) (o : StreamOut) (s : State) : Keeps s (stepRecords i o s) :=
  .foldl (.ite (keeps_segBegin ..) (.refl _)) fun _ _ => .after (keeps_emitText ..) ⟨id⟩

theorem keeps_phraseEnd (i : Fin 16) (s : State) : Keeps s (phraseEnd i s) :=
  .ite (.refl _) (.ite (.ite (.after (keeps_toState ..) ⟨id⟩) (.ite (.after (keeps_toState ..) ⟨id⟩) ⟨id⟩)) ⟨id⟩)

theorem keeps_pitchStream (i : Fin 16) (o : StreamOut) (s : State) : Keeps s (pitchStream i o s) :=
  .after (.ite (keeps_takePause ..) (.ite (keeps_phraseEnd ..) (.refl _))) (.after (keeps_stepRecords ..) (.after (keeps_flipSlot ..) (.after
    (keeps_stepPositions ..) (.ite (keeps_toState ..) (.refl _)))))

/-! ### Power -/

theorem keeps_modeReply (c : Cmd) (s : State) : Keeps s (modeReply c s) := keeps_reply ..

theorem keeps_startMode (c : Cmd) (s : State) : Keeps s (startMode c s) :=
  .ite (keeps_modeReply ..) (.ite (keeps_reply ..) (.ite (keeps_modeReply ..) (.after (keeps_waitOn ..) (keeps_beginMode ..))))

theorem keeps_applyUnison (on : Bool) (s : State) : Keeps s (applyUnison on s) := ⟨id⟩

theorem keeps_beginSetMode (c : Cmd) (s : State) : Keeps s (beginSetMode c s) :=
  .ite ⟨id⟩ (.ite (keeps_startMode ..) (.ite (keeps_reply ..) (.ite (.after (keeps_startMode ..) ⟨id⟩) (.ite ⟨id⟩ (.after
    (keeps_startMode ..) ⟨id⟩)))))

theorem keeps_nextModes (s : State) : Keeps s (nextModes s) := .foldl ⟨id⟩ fun _ _ => keeps_beginSetMode ..

theorem keeps_lateWake (s : State) : Keeps s (lateWake s) :=
  .ite (.ite (.after (keeps_pwrCause ..) (.after (keeps_beginMode ..) ⟨id⟩)) ⟨id⟩) (.refl _)

theorem keeps_sectionsOff (s : State) : Keeps s (sectionsOff s) :=
  .after (keeps_finishOk ..) (.after (keeps_pmaReady ..) (.update rfl rfl rfl rfl (.foldl (.refl _) fun _ _ => ⟨id⟩)))

theorem keeps_enterMode (m : BitVec 2) (s : State) : Keeps s (enterMode m s) :=
  .ite (.after (keeps_syncStopped ..) (.after (keeps_rncResume ..) (.update rfl rfl rfl rfl (.after (.ite (keeps_sectionsOff ..) (.refl _))
    (.ite (.after (keeps_releaseHops ..) (.after (keeps_resumeGraphs ..) ⟨id⟩)) (.after (keeps_pauseGraphs ..) ⟨id⟩)))))) (.after (.ite
      (keeps_sectionsOff ..) (.refl _)) (.ite (.after (keeps_releaseHops ..) (.after (keeps_resumeGraphs ..) ⟨id⟩)) (.after
        (keeps_pauseGraphs ..) ⟨id⟩)))

theorem keeps_pwrEvent (status : BitVec 16) (s : State) : Keeps s (pwrEvent status s) := keeps_logEvent ..

theorem keeps_pmbusSend (code : BitVec 8) (w : BitVec 16) (s : State) : Keeps s (pmbusSend code w s) := ⟨id⟩

theorem keeps_pmbusDead (s : State) : Keeps s (pmbusDead s) := .ite (.refl _) (.after (keeps_pwrEvent ..) (.after (keeps_pwrCause ..) ⟨id⟩))

theorem keeps_pmbusAlive (s : State) : Keeps s (pmbusAlive s) := ⟨id⟩

theorem keeps_takeStatus (w : BitVec 16) (s : State) : Keeps s (takeStatus w s) :=
  .ite ⟨id⟩ (.after (keeps_pmbusSend ..) (.after (keeps_pwrEvent ..) (.after (keeps_pwrCause ..) ⟨id⟩)))

theorem keeps_takeVout (w : BitVec 16) (s : State) : Keeps s (takeVout w s) := ⟨id⟩

theorem keeps_beginThrottle (s : State) : Keeps s (beginThrottle s) := .ite (.refl _) (.after (keeps_pwrEvent ..) (.after (keeps_pwrCause ..) ⟨id⟩))

theorem keeps_shedStreams (s : State) : Keeps s (shedStreams s) := .after (keeps_settlePauses ..) (.foldl (.refl _) fun _ _ => keeps_askPause ..)

theorem keeps_beginShed (s : State) : Keeps s (beginShed s) :=
  .after (keeps_shedStreams ..) (.after (keeps_pwrEvent ..) (.after (keeps_pwrCause ..) ⟨id⟩))

theorem keeps_beginShutdown (s : State) : Keeps s (beginShutdown s) := .after (keeps_gatesMap ..) (.after (keeps_pwrEvent ..) ⟨id⟩)

theorem keeps_writePwr (o : Nat) (v : Word) (s : State) : Keeps s (writePwr o v s) :=
  .litCase ⟨id⟩ fun _ => .litCase ⟨id⟩ fun _ => .litCase ⟨id⟩ fun _ => .litCase ⟨id⟩ fun _ => .refl _

theorem keeps_readPwrEffect (o : Nat) (s : State) : Keeps s (readPwrEffect o s) := .ite ⟨id⟩ (.refl _)

/-! ### Repair -/

theorem keeps_setHlt (f : Hlt → Hlt) (s : State) : Keeps s (setHlt f s) := ⟨id⟩

theorem keeps_coreGone (j : Fin 288) (s : State) : Keeps s (coreGone j s) := .foldl ⟨id⟩ fun _ _ => .optionCase (.refl _) fun _ => keeps_queueMove ..

theorem keeps_loseCore (l : Nat) (s : State) : Keeps s (loseCore l s) := .foldl (.refl _) fun _ _ => .ite (keeps_graphFault ..) (.refl _)

theorem keeps_giveNumber (l : Nat) (j : Fin 288) (s : State) : Keeps s (giveNumber l j s) :=
  .optionCase (.after (keeps_fitPool ..) (.after (keeps_setCore (coreKeeps_unbind _)) (.after (keeps_setNi ..) (.after
    (keeps_setRole ..) ⟨id⟩))))
    fun _ => .optionCase (.after (keeps_fitPool ..) (.after (keeps_setCore ⟨(coreKeeps_unbind _).1⟩) (.after (keeps_setNi ..) (.after
      (keeps_setRole ..) ⟨id⟩))))
    fun _ => .after (keeps_buildEvent ..) (.after (keeps_fitPool ..) (.after (keeps_setCore (coreKeeps_load ..)) (.after
      (keeps_setCore ⟨(coreKeeps_unbind _).1⟩)
      (.after (keeps_setNi ..) (.after (keeps_setRole ..) ⟨id⟩)))))

theorem keeps_takeNumber (j : Fin 288) (s : State) : Keeps s (takeNumber j s) :=
  .after (keeps_setCore (coreKeeps_unbind _)) (.after (keeps_setRole ..) (keeps_dropTreesOf ..))

theorem keeps_replaceWith (l old : Nat) (j : Fin 288) (s : State) : Keeps s (replaceWith l old j s) :=
  .after (keeps_logEvent ..) ⟨(keeps_giveNumber ..).1⟩

theorem keeps_graphsAfterWidth (n : Nat) (s : State) : Keeps s (graphsAfterWidth n s) :=
  .foldl (.refl _) fun _ _ => .ite (.refl _) (.after (.ite (keeps_setGraph ..) (keeps_setGraph ..)) (.foldl (.after (keeps_failGraphWaits ..)
    (keeps_haltCores ..)) fun _ _ => keeps_streamFault ..))

theorem keeps_reloadGraphs (s : State) : Keeps s (reloadGraphs s) := by with_reducible_and_instances
  delta reloadGraphs
  exact .foldl (.after (keeps_mapCores rfl fun _ _ => coreKeeps_unbind _) (keeps_dropTreesOf ..)) fun _ _ =>
    .ite (.refl _) (.optionCase (.refl _) fun _ => keeps_bindCores ..)

theorem keeps_dropWidth (s : State) : Keeps s (dropWidth s) := by with_reducible_and_instances
  delta dropWidth
  exact .someCase (fun _ => .someCase (fun _ => .after (keeps_logEvent ..) (.after (keeps_setHlt ..) (.update rfl rfl rfl rfl (.after
    (keeps_bootNis ..) (.update rfl rfl rfl rfl (.after (keeps_reloadGraphs ..) (.after (keeps_setFab ..) (.after (keeps_buildMap ..)
      (keeps_graphsAfterWidth ..))))))))) fun _ => .after (keeps_logEvent ..) (.after (keeps_setHlt ..) (.after (keeps_gridOut ..) (.after
        (keeps_reloadGraphs ..) (keeps_graphsAfterWidth ..))))) fun _ => .after (keeps_logEvent ..) (.after (keeps_setHlt ..) (.after
          (keeps_gridOut ..) (.after (keeps_reloadGraphs ..) (keeps_graphsAfterWidth ..))))

theorem keeps_moveAnchor (y : Nat) (s : State) : Keeps s (moveAnchor y s) :=
  .after (.ite (.refl _) (keeps_dropWidth ..)) (.after (keeps_logEvent ..) (.update rfl rfl rfl rfl (.foldl (.update rfl rfl rfl rfl (.foldl
    (.foldl (.foldl (.refl _) fun _ _ => keeps_loseCore ..) fun _ _ => keeps_takeNumber ..) fun _ _ => keeps_giveNumber ..)) fun _ _ =>
      .optionCase ⟨id⟩ fun _ => keeps_replaceWith ..)))

theorem keeps_checkAnchor (s : State) : Keeps s (checkAnchor s) := .ite (.refl _) (.optionCase (keeps_dropWidth ..) fun _ => ⟨id⟩)

theorem keeps_coreOut (j : Fin 288) (s : State) : Keeps s (coreOut j s) :=
  .after (.ite (.refl _) (.ite (keeps_dropWidth ..) (keeps_checkAnchor ..))) (.optionCase (.after (keeps_setRole ..)
    (keeps_coreGone ..)) fun _ => .update rfl rfl rfl rfl (.after (keeps_loseCore ..) (keeps_coreGone ..)))

theorem keeps_retireEffect (u : UnitRef) (cls : BitVec 2) (count : Nat) (s : State) :
    Keeps s (retireEffect u cls count s) :=
  .litCase (.optionCase (.refl _) fun _ => keeps_coreOut ..) fun _ => .litCase (.ite (keeps_outOfUse ..) (keeps_permanent ..)) fun _ => .litCase
    (.after (.optionCase (.refl _) fun _ => keeps_coreOut ..) (.after (keeps_purgeRouter ..) (keeps_outOfUse ..))) fun _ => .litCase (.after
      (keeps_purgeLink ..) (keeps_outOfUse ..)) fun _ => .litCase (keeps_dramRowOut ..) fun _ => .litCase ⟨id⟩ fun _ => .litCase (.dite (fun _ => .ite
        (.refl _) (keeps_laserFail ..)) fun _ => .refl _) fun _ => .litCase (.dite (fun _ => .ite (keeps_chanFail ..) (.refl _)) fun _ =>
          .refl _) fun _ => .litCase (.dite (fun _ => .ite (keeps_rowFail ..) (.refl _)) fun _ => .refl _) fun _ => .litCase (.ite (.refl _)
            (keeps_retireSection ..)) fun _ => .litCase (keeps_safeChange ⟨id⟩) fun _ => .refl _

theorem keeps_dropUnreadable (n : Fin 288) (t : Nat) (s : State) : Keeps s (dropUnreadable n t s) :=
  .ite (.after (.ite (keeps_setEntry ..) (.after (keeps_poison ..) (keeps_setEntry ..))) (.after (keeps_freeRun ..) (.optionCase
    (.refl _) fun _ => keeps_moveAbandon ..))) (.after (keeps_setTiers fun _ => rfl) (.foldl (.refl _) fun _ _ => .after (keeps_queueMove ..)
      (keeps_moveAbandon ..)))

theorem keeps_extend (e : BitVec 64) (s : State) : Keeps s (extend e s) := .ite ⟨id⟩ (.after (keeps_logEvent ..) ⟨id⟩)

theorem keeps_importEntry (e : BitVec 64) (s : State) : Keeps s (importEntry e s) :=
  .ite (.refl _) (.after (keeps_retireEffect ..) (.after (keeps_recordRetire ..) (keeps_extend ..)))

theorem keeps_importLedger (es : List (BitVec 64)) (s : State) : Keeps s (importLedger es s) :=
  .after (keeps_setHlt ..) (.foldl (.refl _) fun _ _ => keeps_importEntry ..)

theorem keeps_writeLedgSel (v : Word) (s : State) : Keeps s (writeLedgSel v s) := ⟨id⟩

theorem keeps_writeHlt (o : Nat) (v : Word) (s : State) : Keeps s (writeHlt o v s) :=
  .litCase ⟨id⟩ fun _ => .litCase ⟨id⟩ fun _ => .litCase ⟨id⟩ fun _ => .refl _

theorem keeps_readHltEffect (o : Nat) (s : State) : Keeps s (readHltEffect o s) := .litCase ⟨id⟩ fun _ => .refl _

/-! ### Guard values -/

theorem keeps_setGuard (f : Guard → Guard) (s : State) : Keeps s (setGuard f s) := ⟨id⟩

theorem keeps_grdCause (k : Nat) (s : State) : Keeps s (grdCause k s) := ⟨id⟩

theorem keeps_dropProposal (host : Bool) (cause : Nat) (s : State) : Keeps s (dropProposal host cause s) :=
  .optionCase (.refl _) fun _ => .after (keeps_grdCause ..) (.after (keeps_logEvent ..) ⟨id⟩)

theorem keeps_propose (host : Bool) (t : BitVec 8) (nonce : Word) (image : List Byte) (s : State) :
    Keeps s ((propose host t nonce image s).2) :=
  .after (.iteSnd (.after (keeps_alert ..) (keeps_setGuard ..)) (.after (keeps_grdCause ..) (keeps_setGuard ..))) (.after (keeps_setGuard ..)
    (keeps_dropProposal ..))

theorem keeps_confirm (host : Bool) (k : BitVec 8) (d0 d1 : Word) (at_ : Nat) (s : State) :
    Keeps s ((confirm host k d0 d1 at_ s).2) :=
  .optionSnd (.refl _) fun _ => .iteSnd (.refl _) (.iteSnd (.ite (.after (keeps_dropProposal ..) ⟨id⟩) ⟨id⟩) ⟨id⟩)

theorem keeps_veto (k : BitVec 8) (at_ : Nat) (s : State) : Keeps s ((veto k at_ s).2) := .optionSnd (.refl _) fun _ => keeps_dropProposal ..

theorem keeps_endDap (s : State) : Keeps s (endDap s) := .ite (.after (keeps_logEvent ..) ⟨id⟩) (.refl _)

theorem keeps_applyTable (x : Proposal × Bool) (s : State) : Keeps s (applyTable x s) :=
  .after (.ite (keeps_endDap ..) (.refl _)) (.after (.ite (keeps_dropProposal ..) (.refl _)) (.after (keeps_grdCause ..) (.after
    (keeps_logEvent ..) (.after (keeps_setGuard ..) (.after (.dite (fun _ => keeps_setGuard ..) fun _ => .refl _) (.litCase ⟨id⟩ fun _ =>
      .litCase ⟨id⟩ fun _ => .litCase ⟨id⟩ fun _ => .litCase ⟨id⟩ fun _ => .litCase ⟨id⟩ fun _ => .litCase ⟨id⟩ fun _ => keeps_importLedger ..))))))

theorem keeps_applyGuard (e : Nat) (s : State) : Keeps s (applyGuard e s) :=
  .ite (.refl _) (.after (keeps_finishOk ..) (.foldl ⟨id⟩ fun _ _ => keeps_applyTable ..))

theorem keeps_writeGrd (src : Src) (o : Nat) (v : Word) (s : State) : Keeps s (writeGrd src o v s) := by with_reducible_and_instances
  delta writeGrd
  refine .litCase ⟨id⟩ fun _ => .litCase ⟨id⟩ fun _ => ?_
  cases src
  case spv => exact .someCase (fun _ => .litCase ⟨id⟩ fun _ => .refl _) fun _ => .refl _
  all_goals exact .someCase (fun _ => .litCase (.refl _) fun _ => .refl _) fun _ => .refl _

/-! ### Rings -/

theorem keeps_setRing (r : Fin 16) (f : Ring → Ring) (s : State) : Keeps s (setRing r f s) := keeps_setHif fun _ => rfl

theorem keeps_holdScan (r : Fin 16) (s : State) : Keeps s (holdScan r s) := .ite (.ite (.refl _) (keeps_setRing ..)) (keeps_setRing ..)

theorem keeps_holdScans (s : State) : Keeps s (holdScans s) := .foldl (.refl _) fun _ _ => keeps_holdScan ..

theorem keeps_writeRingCtrl (r : Fin 16) (v : Word) (s : State) : Keeps s (writeRingCtrl r v s) := .after (keeps_holdScan ..) (keeps_setRing ..)

theorem keeps_writeSqTail (r : Fin 16) (v : Word) (s : State) : Keeps s (writeSqTail r v s) := .after (keeps_holdScan ..) (keeps_setRing ..)

theorem keeps_writeRqHead (r : Fin 16) (v : Word) (s : State) : Keeps s (writeRqHead r v s) := .after (keeps_holdScan ..) (keeps_setRing ..)

theorem keeps_writeRing (r : Fin 16) (k : Nat) (v : Word) (s : State) : Keeps s (writeRing r k v s) :=
  .litCase (keeps_writeRingCtrl ..) fun _ => .litCase (keeps_setRing ..) fun _ => .litCase (keeps_setRing ..) fun _ => .litCase
    (keeps_setRing ..) fun _ => .litCase (keeps_setRing ..) fun _ => .litCase (keeps_writeSqTail ..) fun _ => .litCase (keeps_writeRqHead ..) fun _ =>
      .litCase (keeps_setRing ..) fun _ => .litCase (keeps_setRing ..) fun _ => .refl _

theorem keeps_pushPages (s : State) : Keeps s (pushPages s) :=
  .after (keeps_drainReturns ..) (.foldl (keeps_drainReturns ..) fun _ _ => keeps_drainStream ..)

theorem keeps_writePgRetCtrl (v : Word) (s : State) : Keeps s (writePgRetCtrl v s) := by
  unfold writePgRetCtrl
  extract_lets x y
  have hy : y.mem = s.hif.mem := by
    unfold y
    split <;> rfl
  exact .ite (.after (keeps_pushPages ..) (.update rfl rfl rfl hy (.refl s))) (.update rfl rfl rfl hy (.refl s))

theorem keeps_writePgRetHead (v : Word) (s : State) : Keeps s (writePgRetHead v s) := .after (keeps_drainReturns ..) (keeps_setHif fun _ => rfl)

theorem keeps_writePages (o : Nat) (v : Word) (s : State) : Keeps s (writePages o v s) := by with_reducible_and_instances
  delta writePages
  exact .litCase (.after (keeps_holdScans ..) (keeps_setHif fun _ => rfl)) fun _ => .litCase (keeps_setHif fun _ => rfl) fun _ =>
    .litCase (keeps_setHif fun _ => by split <;> rfl) fun _ => .litCase (keeps_setHif fun _ => by split <;> rfl) fun _ =>
    .litCase (keeps_writePgRetCtrl ..) fun _ => .litCase (keeps_writePgRetHead ..) fun _ => .litCase (keeps_setHif fun _ => rfl) fun _ =>
    .litCase (keeps_setHif fun _ => rfl) fun _ => .optionCase (.refl _) fun _ => keeps_writeRing ..

theorem keeps_readPagesEffect (o : Nat) (s : State) : Keeps s (readPagesEffect o s) :=
  .someCase (fun _ => .litCase ⟨id⟩ fun _ => .someCase (fun _ => .litCase (keeps_setRing ..) fun _ => .refl _) fun _ => .refl _) fun _ =>
    .someCase (fun _ => .litCase (keeps_setRing ..) fun _ => .refl _) fun _ => .refl _

theorem keeps_reserveAtIntake (c : Cmd) (s : State) : Keeps s (reserveAtIntake c s) := .ite ⟨id⟩ (.ite ⟨id⟩ (.refl _))

theorem keeps_fetchFails (err : Nat) (s : State) : Keeps s (fetchFails err s) :=
  .after (.optionCase (.refl _) fun _ => keeps_setRing ..) (.after (keeps_setHif fun _ => rfl) ⟨id⟩)

/-! ### Intake -/

theorem keeps_unreserve (c : Cmd) (s : State) : Keeps s (unreserve c s) := ⟨id⟩

theorem keeps_fail (c : Cmd) (st : BitVec 8) (r : Res) (s : State) : Keeps s (fail c st r s) := .after (keeps_reply ..) ⟨id⟩

theorem keeps_deferCmd (c : Cmd) (s : State) : Keeps s (defer_ c s) := .ite (keeps_fail ..) (.after (keeps_waitOn ..) (keeps_replyWith ..))

theorem keeps_waitCommit (c : Cmd) (on : Wait) (r : Res) (s : State) : Keeps s (waitCommit c on r s) := ⟨id⟩

/-! ### Sessions -/

theorem keeps_closeStream (i : Fin 16) (s : State) : Keeps s (closeStream i s) :=
  .after (keeps_finishWaits ..) (.after (keeps_finishMoves ..) (.after (keeps_syncStopped ..) (.after (keeps_setStream ..) (.after
    (keeps_clearContext ..) (.after (.optionCase (.refl _) fun _ => keeps_dropObj ..) (.foldl (.after (keeps_setStream ..)
      (keeps_toState ..)) fun _ _ => keeps_returnPage ..))))))

theorem keeps_closeSession (s : State) : Keeps s (closeSession s) :=
  .update rfl rfl rfl rfl (.after (keeps_setTiers fun _ => rfl) (.foldl (.after (keeps_finishWaits ..) (.foldl (.refl _) fun _ _ => .ite
    (.refl _) (keeps_closeStream ..))) fun _ _ => keeps_releasePrefix ..))

theorem keeps_sapStop (p : Fin 8) (s : State) : Keeps s (sapStop p s) := .ite (keeps_stopPort ..) (.ite (.after (keeps_rncSuspend ..) ⟨id⟩) ⟨id⟩)

theorem keeps_resetHub (s : State) : Keeps s (resetHub s) :=
  .after (keeps_endHubReset ..) (.foldl ⟨(keeps_rncOff ..).1⟩ fun _ _ => .ite (.refl _) (keeps_sapStop ..))

theorem keeps_stopGraphs (s : State) : Keeps s (stopGraphs s) :=
  .foldl (.refl _) fun _ _ => .ite (.after (keeps_finishOk ..) (.after (keeps_finishWaits ..) (keeps_stopGraph ..))) (.refl _)

theorem keeps_setHolds (f : Holds → Holds) (s : State) : Keeps s (setHolds f s) := ⟨id⟩

theorem keeps_followHolds (s : State) : Keeps s (followHolds s) := .after (keeps_reportZones ..) (keeps_syncStopped ..)

theorem keeps_beginResetHold (s : State) : Keeps s (beginResetHold s) := by with_reducible_and_instances
  delta beginResetHold
  exact .after (keeps_resetPma ..) (.after (keeps_resetHub ..) (.after (keeps_stopGraphs ..) (.ite (keeps_closeSession ..) (.refl _))))

theorem keeps_placeHold (kind : Nat) (mask : BitVec 8) (s : State) : Keeps s (placeHold kind mask s) :=
  .litCase (.after (keeps_followHolds ..) (.after (keeps_setHolds ..) (keeps_logHold ..))) fun _ => .litCase (.after (keeps_setHolds ..)
    (keeps_logHold ..)) fun _ => .litCase (.after (keeps_finishWaits ..) (.after (keeps_rncOff ..) (.after (keeps_setHolds ..)
      (keeps_logHold ..)))) fun _ => .litCase (.after (keeps_safeChange ⟨id⟩) (keeps_logHold ..)) fun _ => .litCase (.after (keeps_beginResetHold ..)
        (.after (keeps_setHolds ..) (keeps_logHold ..))) fun _ => .after (keeps_followHolds ..) (.after (keeps_setHolds ..) (keeps_logHold ..))

theorem keeps_clearHold (kind : Nat) (mask : BitVec 8) (s : State) : Keeps s (clearHold kind mask s) :=
  .litCase (.after (keeps_followHolds ..) (.after (keeps_setHolds ..) (keeps_logHold ..))) fun _ => .litCase (.after (keeps_setHolds ..)
    (keeps_logHold ..)) fun _ => .litCase (.after (keeps_setHolds ..) (keeps_logHold ..)) fun _ => .litCase (.after (keeps_safeChange ⟨id⟩)
      (keeps_logHold ..)) fun _ => .litCase (keeps_logHold ..) fun _ => .after (keeps_followHolds ..) (.after (keeps_setHolds ..) (keeps_logHold ..))

theorem keeps_logPin (z : Fin 8) (what : Nat) (s : State) : Keeps s (logPin z what s) := keeps_logHold ..

theorem keeps_pinLevel (z : Fin 8) (high : Bool) (s : State) : Keeps s (pinLevel z high s) := ⟨id⟩

/-! ### Audio commands -/

theorem keeps_stage (c : Cmd) (due : BitVec 8) (r : Res) (s : State) : Keeps s (stage c due r s) :=
  .after (.ite (keeps_reply ..) (keeps_waitCommit ..)) (.after (keeps_reportZones ..) (keeps_commitStopped ..))

theorem keeps_sapConfigGo (c : Cmd) (s : State) : Keeps s (sapConfigGo c s) := .after (keeps_stage ..) ⟨id⟩

theorem keeps_sapStart (p : Fin 8) (s : State) : Keeps s (sapStart p s) := by with_reducible_and_instances
  delta sapStart
  exact .after (.ite (keeps_sapStop ..) (.refl _)) (.after (keeps_reportZones ..) (.after (keeps_rncResume ..) (.after (keeps_syncGates ..)
    (.ite ⟨id⟩ ⟨id⟩))))

/-! ### Registers -/

theorem keeps_readRecEffect (o : Nat) (s : State) : Keeps s (readRecEffect o s) :=
  .litCase (keeps_setTiers fun _ => rfl) fun _ => .litCase (keeps_setTiers fun _ => rfl) fun _ => .litCase
    (keeps_setTiers fun _ => rfl) fun _ => .refl _

theorem keeps_writeHif (src : Src) (o : Nat) (v : Word) (s : State) : Keeps s (writeHif src o v s) :=
  .litCase (keeps_setHif fun _ => rfl) fun _ => .litCase (keeps_setHif fun _ => rfl) fun _ => .litCase (.ite (keeps_setHif fun _ => rfl)
    (.refl _)) fun _ => .someCase (fun _ => .litCase (.ite (keeps_setHif fun _ => rfl) (.refl _)) fun _ => .refl _) fun _ => .refl _

theorem keeps_readHifEffect (o : Nat) (s : State) : Keeps s (readHifEffect o s) :=
  .litCase (keeps_setHif fun _ => rfl) fun _ => .litCase (keeps_setHif fun _ => rfl) fun _ => .refl _

theorem sendVec_mem (run : Bool) (v : Nat) (h : Hif) : (sendVec run v h).mem = h.mem := by
  obtain ⟨_, _, e⟩ := sendVec_eq run v h
  rw [e]

theorem keeps_irqTest (v : Word) (s : State) : Keeps s (irqTest v s) := .ite (keeps_setHif fun _ => sendVec_mem ..) (.refl _)

theorem keeps_sendPending (s : State) : Keeps s (sendPending s) := by
  refine keeps_setHif fun h => List.foldlRecOn (motive := fun x : Hif => x.mem = h.mem) _ _ rfl fun x hx v _ => ?_
  split
  · exact hx
  · exact hx

theorem keeps_writeIrq (o : Nat) (v : Word) (s : State) : Keeps s (writeIrq o v s) :=
  .litCase (keeps_irqTest ..) fun _ => .someCase (fun _ => .litCase (.after (keeps_sendPending ..) (keeps_setHif fun _ => rfl)) fun _ =>
    .litCase (.after (keeps_sendPending ..) (keeps_setHif fun _ => rfl)) fun _ => .litCase (.after (keeps_sendPending ..)
      (keeps_setHif fun _ => rfl)) fun _ => .litCase (.after (keeps_sendPending ..) (keeps_setHif fun _ => rfl)) fun _ => .refl _) fun _ => .refl _

theorem keeps_writeDbg (o : Nat) (v : Word) (s : State) : Keeps s (writeDbg o v s) := .ite ⟨id⟩ (.refl _)

theorem keeps_readDbgEffect (src : Src) (o : Nat) (s : State) : Keeps s (readDbgEffect src o s) :=
  .litCase ⟨id⟩ fun _ => .litCase ⟨id⟩ fun _ => .litCase (keeps_setHif fun _ => rfl) fun _ => .someCase (fun _ => .litCase
    (keeps_setHif fun _ => rfl) fun _ => .refl _) fun _ => .refl _

theorem keeps_writeFabSel (v : Word) (s : State) : Keeps s (writeFabSel v s) := ⟨id⟩

theorem keeps_writeMapSel (v : Word) (s : State) : Keeps s (writeMapSel v s) := keeps_setTiers fun _ => rfl

theorem keeps_writeBar2Base (v : Word) (s : State) : Keeps s (writeBar2Base v s) := keeps_setTiers fun _ => rfl

theorem keeps_readEffect (src : Src) (o : Nat) (s : State) : Keeps s (readEffect src o s) :=
  .litCase (.ite (keeps_readHifEffect ..) (keeps_readPagesEffect ..)) fun _ => .litCase (keeps_readTmpEffect ..) fun _ => .litCase
    (keeps_readSapEffect ..) fun _ => .litCase (keeps_readFeEffect ..) fun _ => .litCase (keeps_readPmaEffect ..) fun _ => .litCase
      (keeps_readFabEffect ..) fun _ => .litCase (.ite (keeps_readTierEffect ..) (.ite (keeps_readKvEffect ..) (keeps_readRecEffect ..))) fun _ =>
        .litCase (keeps_readPwrEffect ..) fun _ => .litCase (keeps_readHltEffect ..) fun _ => .litCase (keeps_readDbgEffect ..) fun _ => .refl _

theorem keeps_fullRead (src : Src) (o : Nat) (s : State) : Keeps s (fullRead src o s).2 :=
  .optionSnd (.refl _) fun _ => (by
    split
    · exact .after (keeps_readEffect ..) ⟨id⟩
    · exact .after (keeps_readEffect ..) ⟨id⟩
    · exact keeps_readEffect ..)

theorem keeps_putMailbox (a : Nat) (b : List Byte) (s : State) : Keeps s (setBoot (fun x => { x with mailbox := x.mailbox.writeN a b }) s) :=
  keeps_withMailbox (Mem.writeN_wf _ _ _)

theorem keeps_fullWrite (src : Src) (o : Nat) (v : Word) (s : State) : Keeps s (fullWrite src o v s) :=
  .ite (.refl _) (.ite (keeps_putMailbox ..) (.litCase (.ite (keeps_writeGen ..) (.refl _)) fun _ =>
    .litCase (.ite (keeps_writeHif ..) (keeps_writePages ..)) fun _ => .litCase (keeps_writeIrq ..) fun _ => .litCase (keeps_writeGrd ..) fun _ =>
    .litCase (keeps_writeTmp ..) fun _ => .litCase (keeps_writeSap ..) fun _ => .litCase (keeps_writePma ..) fun _ =>
    .litCase (.ite (keeps_writeFabSel ..) (keeps_writeFab ..)) fun _ => .litCase (.ite (keeps_writeBar2Base ..) (.ite (keeps_writeMapSel ..)
      (.refl _))) fun _ =>
    .litCase (keeps_writePwr ..) fun _ => .litCase (keeps_writeHlt ..) fun _ => .litCase (keeps_writeDbg ..) fun _ => .refl _))

/-! ### The host link -/

theorem keeps_releaseUp (s : State) : Keeps s (releaseUp s) :=
  .ite (.refl _) (.after (keeps_holdScans ..) (.after (keeps_pushPages ..) (.after (keeps_sendPending ..) (.after (keeps_setHif fun _ => rfl)
    (.foldl (keeps_setHif fun _ => rfl) fun _ _ => keeps_upWrite ..)))))

theorem keeps_hostRead (tag : BitVec 10) (off a n : Nat) (s : State) : Keeps s (hostRead tag off a n s) :=
  .foldl ⟨id⟩ fun _ _ => keeps_bridgeU fun _ => keeps_hostPart ..

theorem keeps_hostWrite (a : Nat) (b : List Byte) (s : State) : Keeps s (hostWrite a b s) := .foldlSnd ⟨id⟩ fun _ _ => keeps_bridgeU fun _ => .refl _

/-! ### SPI access -/

theorem keeps_respond9 (st off : Nat) (data : Word) (s : State) : Keeps s (respond9 st off data s) := keeps_setHif fun _ => rfl

theorem keeps_spvCount (k : Fin 4) (s : State) : Keeps s (spvCount k s) := keeps_setHif fun _ => rfl

theorem keeps_spvCount2 (k : Fin 2) (s : State) : Keeps s (spvCount2 k s) := keeps_setHif fun _ => rfl

theorem keeps_publish (r : ExecRes) (s : State) : Keeps s (publish r s) := .after (keeps_alert ..) (keeps_setHif fun _ => rfl)

theorem keeps_actOn (k : BitVec 8) (s : State) : Keeps s (actOn k s) := .ite ⟨id⟩ (.refl _)

/-! ### Objects -/

theorem keeps_makeObj (tiles : Nat) (cls : BitVec 4) (cached : Bool) (comp etype : BitVec 2) (segment : Bool) (slot : Option (Fin 16))
    (pack : Option (Fin 24)) (s : State) :
    Keeps s ((makeObj tiles cls cached comp etype segment slot pack s).2) := by with_reducible_and_instances
  delta makeObj
  exact .after (keeps_setTiers fun _ => rfl) ⟨id⟩

theorem keeps_loadForm (o : Obj) (t : Nat) (b : List Byte) (s : State) : Keeps s ((loadForm o t b s).2) :=
  .iteSnd (.optionSnd (.iteSnd (.after (keeps_xeForm ..) ⟨id⟩) ⟨id⟩) fun _ => .iteSnd ⟨id⟩ (.after (keeps_escapeRaw ..) ⟨id⟩))
    (keeps_frameForm ..)

theorem keeps_loadTile (k t : Nat) (b : List Byte) (s : State) : Keeps s (loadTile k t b s) :=
  .optionCase (.refl _) fun _ => .after (keeps_setEntry ..) (.after (keeps_putDram ..) (keeps_loadForm ..))

theorem keeps_loadSection (hd : Fin 24) (b : List Byte) (x : Section) (s : State) : Keeps s (loadSection hd b x s) :=
  .foldl (.foldl (keeps_makeObj ..) fun _ _ => keeps_storeNew ..) fun _ _ => keeps_loadTile ..

theorem keeps_loadPack (obj : Nat) (b : List Byte) (s : State) : Keeps s (loadPack obj b s).2 :=
  .update rfl rfl rfl rfl (.foldl (.refl _) fun _ _ => keeps_loadSection ..)

/-! ### Object commands -/

theorem keeps_placeObj (o : Obj) (p : Policy) (aff : Nat × Nat) (s : State) : Keeps s (placeObj o p aff s) :=
  .foldl (.after (keeps_setTiers fun _ => rfl) (keeps_setObj ..)) fun _ _ => keeps_replace1 ..

/-! ### Stream commands -/

theorem keeps_chooseSession (s : State) : Keeps s ((chooseSession s).2) := ⟨id⟩

theorem keeps_openSession (c : Cmd) (tiles : Nat) (k : BitVec 8) (s : State) : Keeps s (openSession c tiles k s) :=
  .after (keeps_applySeats ..) ⟨(keeps_setTiers fun _ => rfl).1⟩

theorem keeps_openStream (i : Fin 16) (c : Cmd) (p : Pack) (s : State) : Keeps s (openStream i c p s) :=
  .after (keeps_rewriteMap ..) (.after (keeps_toState ..) (.after (keeps_setStream ..) (keeps_makeObj ..)))

theorem keeps_listen (i : Fin 16) (s : State) : Keeps s (listen i s) :=
  .after (keeps_reportZones ..) (.after (keeps_syncStopped ..) (.after (keeps_toState ..) ⟨id⟩))

theorem keeps_untaint (i : Fin 16) (s : State) : Keeps s (untaint i s) := ⟨id⟩

theorem keeps_runCmd {c : Cmd} {fields more : List Check} {hold state : Check} {go : State → State} {s : State} (h : Keeps s (go s)) :
    Keeps s (runCmd c fields hold state more go s) :=
  .optionCase (.ite (keeps_fail ..) (.ite (keeps_fail ..) (.ite (.ite (keeps_deferCmd ..) (keeps_fail ..))
    (.optionCase h fun _ => keeps_fail ..))))
    fun _ => keeps_fail ..

theorem keeps_whenUpstream {c : Cmd} {writes : Bool} {go : State → State} {s : State} (h : Keeps s (go s)) :
    Keeps s (whenUpstream c writes go s) :=
  .ite (keeps_waitOn ..) h

theorem keeps_runStart (c : Cmd) (s : State) : Keeps s (runStart c s) :=
  keeps_runCmd (.after (keeps_replyOk ..) (.after (keeps_untaint ..) (keeps_listen ..)))

theorem keeps_runPause (c : Cmd) (s : State) : Keeps s (runPause c s) :=
  keeps_runCmd (.after (keeps_settlePauses ..) (.after (keeps_askPause ..) ⟨id⟩))

theorem keeps_runResume (c : Cmd) (s : State) : Keeps s (runResume c s) := keeps_runCmd (.after (keeps_replyOk ..) (keeps_listen ..))

theorem keeps_runDrain (c : Cmd) (s : State) : Keeps s (runDrain c s) :=
  keeps_runCmd (.after (keeps_replyOk ..) (.after (keeps_reportZones ..) (.after (keeps_syncStopped ..) (.after (keeps_finishWaits ..) (.after
    (.ite (keeps_toState ..) (.refl _)) (.after (keeps_toState ..) ⟨id⟩))))))

theorem keeps_definePrefix (h : BitVec 8) (tile : List Byte) (s : State) : Keeps s (definePrefix h tile s).2 := by with_reducible_and_instances
  delta definePrefix
  exact .iteSnd (.refl _) (.iteSnd (.refl _) (.optionSnd (.refl _) fun _ => .after (keeps_setTiers fun _ => rfl) (.foldl (.after (keeps_refCol ..)
    (keeps_makeRoom ..)) fun _ _ => .after (keeps_putPage ..) ⟨id⟩)))

theorem keeps_attachPrefix (i : Fin 16) (p : Option Prefix) (s : State) : KeepsBody s (attachPrefix i p s) :=
  .optionCase (.some (.after (keeps_rewriteMap ..) (keeps_clearContext ..))) fun _ => .ite .none (.some
    (.after (keeps_rewriteMap ..) (.after (keeps_logWords ..) (.after (keeps_setTiers fun _ => rfl) (.after (keeps_setKv ..)
      (.after (keeps_refCol ..) (keeps_clearContext ..)))))))

theorem keeps_attachReply {c : Cmd} {p : Option Prefix} {s t u : State} (ht : Keeps s t) (hu : Keeps s u) : Keeps s (attachReply c p t u) :=
  .bodyCase (keeps_attachPrefix ..) ht (.after (keeps_reply ..) hu) fun _ => .after (keeps_replyOk ..) (keeps_untaint ..)

theorem keeps_runAttach (c : Cmd) (s : State) : Keeps s (runAttach c s) := by with_reducible_and_instances
  delta runAttach
  refine keeps_runCmd (.ite ?_ (keeps_attachReply (.refl _) (.refl _)))
  generalize hp : definePrefix _ _ _ = p
  have hd : Keeps s p.2 := hp ▸ keeps_definePrefix ..
  obtain ⟨st, t⟩ := p
  exact .ite (keeps_attachReply hd (.refl _)) (keeps_reply ..)

theorem keeps_runText (c : Cmd) (s : State) : Keeps s (runText c s) := by with_reducible_and_instances
  delta runText
  exact keeps_runCmd (.after (keeps_reply ..) (.after (keeps_autoWake ..) (.after (keeps_restoreState ..) ⟨id⟩)))

theorem keeps_runQueued (c : Cmd) (s : State) : Keeps s (runQueued c s) :=
  .litCase (keeps_runStart ..) fun _ => .litCase (keeps_runPause ..) fun _ => .litCase (keeps_runResume ..) fun _ => .litCase
    (keeps_runDrain ..) fun _ => .litCase (keeps_runAttach ..) fun _ => .litCase (keeps_runText ..) fun _ => .refl _

/-! ### Debug access -/

theorem keeps_setTap (t : Tap) (s : State) : Keeps s (setTap t s) := .update rfl rfl rfl rfl (.ite (.refl _) (keeps_endDap ..))

theorem keeps_shiftOut (st : BitVec 4) (w : Word) (s : State) : Keeps s (shiftOut st w s) := ⟨id⟩

theorem keeps_dapIssue (s : State) : Keeps s (dapIssue s) := ⟨id⟩

theorem keeps_dapU (a : Nat) (write : Bool) (b : List Byte) (s : State) : Keeps s (dapU a write b s) := by with_reducible_and_instances
  delta dapU
  exact .after (keeps_bridgeU fun _ => ⟨id⟩) ⟨id⟩

/-! ### Timeouts -/

theorem keeps_unpause (g : Fin 8) (s : State) : Keeps s (unpause g s) := .ite (.refl _) (keeps_resumeCores ..)

theorem keeps_unpauseAll (s : State) : Keeps s (unpauseAll s) := .foldl (.refl _) fun _ _ => keeps_unpause ..

theorem keeps_undoPorts (c : Cmd) (s : State) : Keeps s (undoPorts c s) := by with_reducible_and_instances
  delta undoPorts
  exact .after (keeps_reportZones ..) (.after (keeps_wakeShadow ..) (.litCase ⟨id⟩ fun _ => .litCase (.optionCase (.refl _) fun _ => ⟨id⟩) fun _ =>
    .litCase (.optionCase (.refl _) fun _ => ⟨id⟩) fun _ => .litCase ⟨id⟩ fun _ => .refl _))

theorem keeps_undoPause (i : Fin 16) (s : State) : Keeps s (undoPause i s) := .ite (.refl _) ⟨id⟩

theorem keeps_undoMode (s : State) : Keeps s (undoMode s) :=
  .after (keeps_lateWake ..) (.after (keeps_nextModes ..) (.after (keeps_syncStopped ..) (.after (keeps_rncResume ..) (.update rfl rfl rfl rfl
    (.after (keeps_unpauseAll ..) ⟨id⟩)))))

theorem keeps_undoCommit (c : Cmd) (on : Wait) (s : State) : Keeps s (undoCommit c on s) := by with_reducible_and_instances
  delta undoCommit
  cases on
  case ports => exact keeps_undoPorts ..
  case hop => exact .ite ⟨id⟩ (.ite (.refl _) ⟨id⟩)
  case cabin => exact .ite (.refl _) ⟨id⟩
  case pitch => exact keeps_undoPause ..
  case switch => exact .ite (.refl _) (.after (keeps_unpause ..) ⟨id⟩)
  case stop => exact .ite (.refl _) (.after (keeps_unpause ..) ⟨id⟩)
  case unison => exact .after (.ite (.refl _) (.after (keeps_lateWake ..) (keeps_nextModes ..))) (.after (keeps_unpauseAll ..) ⟨id⟩)
  case mode => exact keeps_undoMode ..
  all_goals exact .refl s

/-! ### An idle cycle -/

theorem keeps_idle (s : State) : Keeps s (idle s) := .ite ⟨id⟩ (.refl _)

/-! ### Grid commands -/

theorem keeps_loadGraph (g : Fin 8) (k : Nat) (cores : List Nat) (h : List Word) (code : List Byte) (s : State) :
    Keeps s (loadGraph g k cores h code s) := .after (keeps_bindCores ..) ⟨id⟩

/-! ### Object commands -/

theorem keeps_packReply (c : Cmd) (h : Fin 24) (s : State) : Keeps s (packReply c h s) := .optionCase (keeps_reply ..) fun _ => keeps_reply ..

end Sys2Proof.Machine
end

section
set_option smartUnfolding false
/-! PROOFS. What the shapes that the rows of the commands share do to the byte memories (O3): their outcomes, and the bodies of the cores'
rows. -/

namespace Sys2Proof.Machine

/-- The next state that an outcome gives, if it gives one, keeps the memories of s in canonical form. -/
structure KeepsOut (s : State) (o : Out) : Prop where
  keeps : ∀ t, o = .next t → Keeps s t

theorem keeps_irqScan (s t : State) : Keeps t (irqScan s t) := by
  obtain ⟨p, q, e⟩ := irqScan_eq s t
  rw [e]
  exact ⟨id⟩

theorem keeps_rtcAlert (s t : State) : Keeps t (rtcAlert s t) := .ite (keeps_alert ..) (.refl _)

namespace KeepsOut
variable {s t u : State}

theorem next (h : Keeps s t) : KeepsOut s (.next t) := ⟨fun _ e => Host.Outcome.next.inj e ▸ h⟩

theorem stay : KeepsOut s (.next s) := .next (.refl s)

theorem ite {p : Prop} {_ : Decidable p} {o o' : Out} (h : KeepsOut s o) (h' : KeepsOut s o') : KeepsOut s (if p then o else o') := by
  split
  · exact h
  · exact h'

theorem optionCase {α : Type} {x : Option α} {o : Out} {f : α → Out} (ho : KeepsOut s o) (hf : ∀ a, KeepsOut s (f a)) :
    KeepsOut s (Option.casesOn x o f) := by
  cases x with
  | none => exact ho
  | some a => exact hf a

theorem listCase {α : Type} {l : List α} {o : Out} {f : α → List α → Out} (ho : KeepsOut s o) (hf : ∀ a l, KeepsOut s (f a l)) :
    KeepsOut s (List.casesOn l o f) := by
  cases l with
  | nil => exact ho
  | cons a l => exact hf a l

theorem act {ok : Bool} (h : Keeps s u) : KeepsOut s (act s ok u) :=
  .next (.ite (.update rfl rfl rfl rfl (.after (keeps_irqScan ..) h)) (.refl s))

theorem rtcAct {ok : Bool} (h : Keeps s t) (h' : Keeps s u) : KeepsOut s (rtcAct s ok t u) :=
  .next (.ite (.refl s) (.update rfl rfl rfl rfl (.ite (.after (keeps_irqScan ..) (.after (keeps_rtcAlert ..) h')) h)))

theorem coreRow {n : Fin 288} {op : Nat} {w : BitVec 26} {fn : Bool} {body : State → Option State} (h : KeepsBody s (body s)) :
    KeepsOut s (coreRow n op w fn s body) := by
  refine .act (.ite (.refl s) (.ite ?_ (keeps_coreNext ..)))
  cases e : body s with
  | none => exact .refl s
  | some t => exact h.1 t e

theorem hostRow {op : Nat} {f : Cmd → State → State} (h : ∀ c t, Keeps t (f c t)) : KeepsOut s (hostRow op f s) := by
  unfold Machine.hostRow
  split
  · exact .stay
  next c t e =>
    have ht : Keeps s t := by
      obtain ⟨w, r, rfl⟩ := nextCmd_eq s t c e
      exact ⟨id⟩
    exact .act (.ite (.after (h c t) ht) (.after (keeps_waitOn ..) ht))

section
variable {i : Fin 300} {cmd : Nat} {f : Packet → State → State} (h : ∀ p t, Keeps t (f p t))
include h

/-- A poisoned packet is answered at once, another one served. -/
theorem servePacket (p : Packet) : KeepsOut s (servePacket i p s f) :=
  .act (.ite (.after (keeps_respond ..) ⟨(keeps_dropRx i p s).1⟩) (.after (h ..) (keeps_dropRx ..)))

theorem serve : KeepsOut s (serve i cmd s f) := .optionCase .stay (.servePacket h)

theorem serveMsg : KeepsOut s (serveMsg i cmd s f) := .optionCase .stay (.servePacket h)

theorem serveU {none_ : State → State} (hn : Keeps s (none_ s)) : KeepsOut s (serveU i cmd s none_ f) :=
  .optionCase (.act hn) (.servePacket h)

end

theorem reply1 {i : Fin 300} {cmd : Nat} {f : Packet → Nat → Req → State → State} {late : Packet → State → State}
    (h : ∀ p k r t, Keeps t (f p k r t)) (hl : ∀ p t, Keeps t (late p t)) : KeepsOut s (reply1 i cmd s f late) :=
  .optionCase .stay fun _ => .act (.optionCase (.after (hl ..) (keeps_dropRx ..)) fun _ => .after (h ..) (keeps_dropRx ..))

theorem spvExec {op : BitVec 8} {f : State → ExecRes × State} (h : ∀ t, Keeps t (f t).2) : KeepsOut s (spvExec op f s) :=
  .act (.ite (.after (keeps_respond9 ..) (keeps_spvCount2 ..))
    (.ite (.after (keeps_publish ..) (.after (keeps_respond9 ..) (keeps_setHif fun _ => rfl)))
      (.after (keeps_setHif fun _ => rfl) (.after (h _) (.after (keeps_respond9 ..) (keeps_setHif fun _ => rfl))))))

theorem dapScan {busy : Bool} {f : State → State} (h : ∀ t, Keeps t (f t)) : KeepsOut s (dapScan busy f s) :=
  .act (.ite (keeps_shiftOut ..) (.ite (keeps_shiftOut ..) (.after (h _) (keeps_shiftOut ..))))

end KeepsOut

/-! ### Bodies of the cores' rows -/

namespace KeepsBody
variable {s : State} {n : Fin 288} {rs : List Nat} {k : State → Option State}

theorem litCase {β : Type} {o L : β} {_ : Decidable (o = L)} {x : Option State} {e : ¬ o = L → Option State} (hx : KeepsBody s x)
    (he : ∀ h, KeepsBody s (e h)) :
    KeepsBody s (if h : o = L then Eq.ndrec_symm (motive := fun _ => Option State) x h else e h) := by
  split
  next h => subst h; exact hx
  · exact he _

theorem listCase {α : Type} {l : List α} {x : Option State} {f : α → List α → Option State} (hx : KeepsBody s x)
    (hf : ∀ a l, KeepsBody s (f a l)) : KeepsBody s (List.casesOn l x f) := by
  cases l with
  | nil => exact hx
  | cons a l => exact hf a l

theorem whenFree {k : Core → State} (h : ∀ c, Keeps s (k c)) : KeepsBody s (whenFree n rs s k) := .ite (.some (h _)) .none

variable (h : KeepsBody s (k s))
include h

theorem localAccess {a : Word} {len al : Nat} : KeepsBody s (localAccess n a len al s k) :=
  .ite (.some (keeps_raise ..)) (.ite (.some (keeps_raise ..)) h)

theorem readTiles : KeepsBody s (readTiles n rs s k) := .ite .none (.optionCase h fun _ => .some (keeps_raise ..))

theorem remoteTile {w : BitVec 26} : KeepsBody s (remoteTile n w s k) :=
  .ite .none (.ite (.some (keeps_raise ..)) (.ite (.some (keeps_raise ..)) h))

theorem payloadAt {w : BitVec 26} : KeepsBody s (payloadAt n w s k) := by
  delta Machine.payloadAt
  exact .localAccess (.ite .none h)

end KeepsBody

end Sys2Proof.Machine
end

section
set_option smartUnfolding false
/-! PROOFS. The rows of the commands keep the byte memories in canonical form (O3): a lemma for each row. -/

namespace Sys2Proof.Machine

theorem keeps_execPowerOnReset (t : Straps) (s : State) : KeepsOut s (execPowerOnReset t s) :=
  .next (.ite (keeps_porReset ..) (.after (keeps_inReset ..) ⟨id⟩))

theorem keeps_execPorNLowPulse (ns : Nat) (t : Straps) (s : State) : KeepsOut s (execPorNLowPulse ns t s) :=
  .ite .stay (.ite (.next (keeps_porReset ..)) (.ite .stay (.next (.ite (.after (keeps_porReset ..) ⟨id⟩) ⟨id⟩))))

theorem keeps_execRailUndervoltage (r : MonRail) (s : State) : KeepsOut s (execRailUndervoltage r s) :=
  .next (.ite (.refl _) (.after (keeps_inReset ..) ⟨id⟩))

theorem keeps_execRailRecovered (r : MonRail) (t : Straps) (s : State) : KeepsOut s (execRailRecovered r t s) :=
  .ite .stay (.next (.ite (.after (keeps_porReset ..) ⟨id⟩) ⟨id⟩))

theorem keeps_execSupplyLoss (s : State) : KeepsOut s (execSupplyLoss s) := .next (.after (keeps_inReset ..) ⟨id⟩)

theorem keeps_execVrtcFirstApply (s : State) : KeepsOut s (execVrtcFirstApply s) := .next (.ite ⟨id⟩ (.refl _))

theorem keeps_execPerstNAssert (s : State) : KeepsOut s (execPerstNAssert s) := by with_reducible_and_instances
  delta execPerstNAssert
  exact .ite (.next ⟨id⟩) (.act (.update rfl rfl rfl rfl (.after (keeps_dropLoad ..) (.after (keeps_resetRings ..) (.after (keeps_resetFunction ..)
    (keeps_loseReturns ..))))))

theorem keeps_execPerstNDeassert (s : State) : KeepsOut s (execPerstNDeassert s) := .ite (.next ⟨id⟩) (.act ⟨id⟩)

theorem keeps_execZmuteHoldPlace (z : Fin 8) (s : State) : KeepsOut s (execZmuteHoldPlace z s) :=
  .act (.after (keeps_followHolds ..) (.after (keeps_setHolds ..) (.after (keeps_logPin ..) (keeps_pinLevel ..))))

theorem keeps_execZmuteHoldRelease (z : Fin 8) (s : State) : KeepsOut s (execZmuteHoldRelease z s) :=
  .act (.after (keeps_followHolds ..) (.after (keeps_setHolds ..) (.after (keeps_logPin ..) (keeps_pinLevel ..))))

theorem keeps_execTempoLoss (s : State) : KeepsOut s (execTempoLoss s) := .act (.after (keeps_logHold ..) (keeps_safeChange ⟨id⟩))

theorem keeps_execTempoRelock (outageUs : Nat) (s : State) : KeepsOut s (execTempoRelock outageUs s) := .act (.after (keeps_logEvent ..) ⟨id⟩)

theorem keeps_execClockSafeClear (s : State) : KeepsOut s (execClockSafeClear s) := .act (.after (keeps_logHold ..) (keeps_safeChange ⟨id⟩))

theorem keeps_execXtal32kLoss (s : State) : KeepsOut s (execXtal32kLoss s) := .rtcAct ⟨id⟩ (.after (keeps_logEvent ..) ⟨id⟩)

theorem keeps_execXtal32kResume (s : State) : KeepsOut s (execXtal32kResume s) := .rtcAct ⟨id⟩ ⟨id⟩

theorem keeps_execSafeOscFault (s : State) : KeepsOut s (execSafeOscFault s) := .act (.after (keeps_alert ..) (.after (keeps_logEvent ..) ⟨id⟩))

theorem keeps_execSafeOscRecover (s : State) : KeepsOut s (execSafeOscRecover s) := .act (.after (keeps_logEvent ..) ⟨id⟩)

theorem keeps_execAtomicPairLoRead (src : Src) (p : AtomicPair) (s : State) :
    KeepsOut s (execAtomicPairLoRead src p s) := .act (.after (keeps_returned ..) (keeps_fullRead ..))

theorem keeps_execCaptureEvent (sel : BitVec 6) (fall : Bool) (s : State) :
    KeepsOut s (execCaptureEvent sel fall s) := .act (.foldl (keeps_edgeSeen ..) fun _ _ => .ite (keeps_capture ..) (.refl _))

theorem keeps_execTrig (src : Src) (n : Fin 4) (v : Word) (s : State) : KeepsOut s (execTrig src n v s) := .act (keeps_writeCapCfg ..)

theorem keeps_execTmpCapHiRead (src : Src) (n : Fin 4) (s : State) : KeepsOut s (execTmpCapHiRead src n s) :=
  .act (.after (keeps_readCapHi ..) (keeps_returned ..))

theorem keeps_execTmpCmpLoWrite (src : Src) (n : Fin 4) (v : Word) (s : State) :
    KeepsOut s (execTmpCmpLoWrite src n v s) := .act (keeps_writeCmpLo ..)

theorem keeps_execTmpCmpHiWrite (src : Src) (n : Fin 4) (hi : Word) (lo : Option Word) (s : State) :
    KeepsOut s (execTmpCmpHiWrite src n hi lo s) := .act (.after (keeps_writeCmpHi ..) (.optionCase (.refl _) fun _ => keeps_writeCmpLo ..))

theorem keeps_execCompareArm (src : Src) (n : Fin 4) (v : Word) (s : State) : KeepsOut s (execCompareArm src n v s) := .act (keeps_writeCmpCfg ..)

theorem keeps_execCompareMatch (n : Fin 4) (s : State) : KeepsOut s (execCompareMatch n s) := .act (keeps_matched ..)

theorem keeps_execRtcTick (s : State) : KeepsOut s (execRtcTick s) := .rtcAct (keeps_tickBare ..) (keeps_tickFull ..)

theorem keeps_execCommit (src : Src) (v : Word) (s : State) : KeepsOut s (execCommit src v s) := .act (keeps_writeRtcCtrl ..)

theorem keeps_execRtcCommitNoClock (s : State) : KeepsOut s (execRtcCommitNoClock s) :=
  .optionCase .stay fun _ => .act (.after (keeps_finishRtc ..) ⟨id⟩)

theorem keeps_execAlarmArm (src : Src) (v : Word) (s : State) : KeepsOut s (execAlarmArm src v s) := .act (keeps_writeRtcCtrl ..)

theorem keeps_execIntakeEpochEnd (s : State) : KeepsOut s (execIntakeEpochEnd s) :=
  .optionCase .stay fun _ => .act (.after (keeps_setHif fun _ => rfl) (.after (keeps_applyGuard ..) (keeps_setHif fun _ => rfl)))

theorem keeps_execSapFrame (p : Fin 8) (edge : FsEdge) (ph : Int) (slots : Vector Word 16) (s : State) :
    KeepsOut s (execSapFrame p edge ph slots s) :=
  .act (.ite (keeps_stopPort ..) (.after (.ite (.after (keeps_reportZones ..) (keeps_rncResume ..)) (.refl _)) (.after (.ite (keeps_outFrame ..)
    (keeps_inFrame ..)) (.after (.ite (keeps_syncLose ..) (.refl _)) (.after (keeps_noteEdge ..) (.after (keeps_setSap ..) (.ite (keeps_clkBack ..)
      (keeps_closeWindows ..))))))))

theorem keeps_execBlockBoundary (p : Fin 8) (s : State) : KeepsOut s (execBlockBoundary p s) :=
  .act (.after (keeps_reportZones ..) (.after (keeps_syncGates ..) (.after (keeps_rncResume ..) (.after (keeps_micCheck ..) (.after
    (keeps_syncSwitch ..) (.after (keeps_commitPort ..) (keeps_endBlock ..)))))))

theorem keeps_execShadowCommitTimeout (k : Nat) (s : State) : KeepsOut s (execShadowCommitTimeout k s) :=
  .optionCase .stay fun _ => .act (.after (keeps_reply ..) ⟨id⟩)

theorem keeps_execCabinFrame (speech : Vector Word 16) (rows : RowRewrites) (missed : Bool) (s : State) :
    KeepsOut s (execCabinFrame speech rows missed s) :=
  .act (.after (keeps_reportZones ..) (.after (keeps_finishWaits ..) (.after (keeps_applyRnc ..) (.after (.optionCase
    (.refl _) fun _ => keeps_rewriteSpatial ..) (.after (.optionCase (.refl _) fun _ => keeps_rewriteRow ..) (.after (keeps_lowerStates ..) (.after
      (keeps_settleSect ..) (.after (keeps_settleSect ..) (.after (keeps_hopCollect ..) (.after (keeps_spatialStep ..) (.after (keeps_tapBegin ..)
        (.after (keeps_antiStep ..) (.after (keeps_markLate ..) (.foldl (.ite (keeps_antiMiss ..)
          (.refl _)) fun _ _ => keeps_cabinPort ..))))))))))))))

theorem keeps_execRateWindowEnd (p : Fin 8) (edges spanNs : Nat) (phMin phMax : Int) (s : State) :
    KeepsOut s (execRateWindowEnd p edges spanNs phMin phMax s) := .act (keeps_closeWindows ..)

theorem keeps_execClkLoss (p : Fin 8) (s : State) : KeepsOut s (execClkLoss p s) :=
  .act (.after (.ite (keeps_stopPort ..) (keeps_reportZones ..)) (.after (keeps_commitPort ..) (.after (keeps_logPort ..) (.after
    (keeps_micCheck ..) (.after (.ite (.after (keeps_switchSlips ..) (keeps_sapCause ..)) (.refl _)) (.after (keeps_sapCause ..) (.after
      (keeps_setSap ..) (.after (keeps_micCheck ..) (.after (keeps_rncSuspend ..) (.ite (keeps_endBlock ..) (.refl _)))))))))))

theorem keeps_execAsrcLock (p : Fin 8) (s : State) : KeepsOut s (execAsrcLock p s) := .act (.after (keeps_sapCause ..) (keeps_setSap ..))

theorem keeps_execAsrcUnlock (p : Fin 8) (slips : AsrcSlips) (s : State) : KeepsOut s (execAsrcUnlock p slips s) :=
  .act (.after (keeps_bookSlips ..) (.after (keeps_slipIns ..) (.after (keeps_slipDrop ..) (.after (keeps_sapCause ..) (keeps_setSap ..)))))

theorem keeps_execTacetTimeout (e : GateFrame) (s : State) : KeepsOut s (execTacetTimeout e s) := .act (.after (keeps_setSap ..) (keeps_setGate ..))

theorem keeps_execRampEnd (g : GateId) (s : State) : KeepsOut s (execRampEnd g s) := .act (.after (keeps_reportZones ..) (keeps_setGate ..))

theorem keeps_execIntonationSectionDone (sec : Fin 4) (r : IntonationResult) (s : State) :
    KeepsOut s (execIntonationSectionDone sec r s) :=
  .act (.ite (.after (.ite (.refl _) ⟨id⟩) (.after (keeps_finishOk ..) (.after (keeps_pmaCause ..) (.update rfl rfl rfl rfl (.after
    (keeps_pmaReady ..) (.after (.ite (.after (keeps_retireSection ..) (keeps_pmaCause ..)) (keeps_calBad ..)) (.after (.ite (.after (keeps_logPma ..)
      (keeps_pmaCause ..)) (.refl _)) (.after (keeps_setSect ..) (.after (keeps_setSect ..) (.ite ⟨(keeps_retireLasers ..).1⟩ (.refl _)))))))))))
        (.after (keeps_pmaReady ..) (.after (.ite (.after (keeps_retireSection ..) (keeps_pmaCause ..)) (keeps_calBad ..)) (.after (.ite (.after
          (keeps_logPma ..) (keeps_pmaCause ..)) (.refl _)) (.after (keeps_setSect ..) (.after (keeps_setSect ..) (.ite ⟨(keeps_retireLasers ..).1⟩
            (.refl _))))))))

theorem keeps_execRingLockLoss (r : PmaRing) (s : State) : KeepsOut s (execRingLockLoss r s) := .act (keeps_ringLost ..)

theorem keeps_execRingReintoneDone (r : PmaRing) (relocked : Bool) (s : State) :
    KeepsOut s (execRingReintoneDone r relocked s) :=
  .act (.ite (.after (keeps_strike ..) ⟨id⟩) (.optionCase (.after (keeps_chanFail ..) ⟨id⟩) fun _ => .after (keeps_weightFail ..) ⟨id⟩))

theorem keeps_execLaserFail (l : Fin 18) (s : State) : KeepsOut s (execLaserFail l s) := .act (keeps_laserFail ..)

theorem keeps_execLaserSwitchDone (s : State) : KeepsOut s (execLaserSwitchDone s) :=
  .listCase .stay fun _ _ => .act (.foldl ⟨id⟩ fun _ _ => keeps_gateWant ..)

theorem keeps_execRowFault (sec : Fin 4) (row : Fin 17) (s : State) : KeepsOut s (execRowFault sec row s) := .act (keeps_rowFail ..)

theorem keeps_execPmaJobRun (sec : Fin 4) (s : State) : KeepsOut s (execPmaJobRun sec s) :=
  .listCase .stay fun _ _ => .ite (.act (keeps_startJob ..)) (.act (keeps_startJob ..))

theorem keeps_execPmaJobComplete (sec : Fin 4) (s : State) : KeepsOut s (execPmaJobComplete sec s) :=
  .optionCase (.listCase .stay fun _ _ => .act (keeps_dropJob ..)) fun _ => .optionCase (.act (.after (keeps_passesEnd ..) (.iteSnd
    (.refl _) ⟨id⟩))) fun _ => .act (.foldl (keeps_endJob ..) fun _ _ => keeps_settleSect ..)

theorem keeps_execS23IdleTimeout (s : State) : KeepsOut s (execS23IdleTimeout s) := .act (.after (keeps_belayBegin ..) ⟨id⟩)

theorem keeps_execS23WakeDone (s : State) : KeepsOut s (execS23WakeDone s) := .act (keeps_s23Woken ..)

theorem keeps_execRotationStep (sec : Fin 4) (s : State) : KeepsOut s (execRotationStep sec s) := .act (keeps_setSect ..)

theorem keeps_execRotationReturn (sec : Fin 4) (ebCal : BitVec 5) (bad : List PmaRing) (s : State) :
    KeepsOut s (execRotationReturn sec ebCal bad s) :=
  .optionCase .stay fun _ => .act (.after (keeps_calBad ..) (.after (keeps_calEnd ..) (keeps_setSect ..)))

theorem keeps_execGapStepStart (sec : Fin 4) (s : State) : KeepsOut s (execGapStepStart sec s) := .act (keeps_setSect ..)

theorem keeps_execGapStepEnd (sec : Fin 4) (ebCal : BitVec 5) (bad : List PmaRing) (s : State) :
    KeepsOut s (execGapStepEnd sec ebCal bad s) := .act (.after (keeps_calBad ..) (.after (keeps_calEnd ..) (keeps_setSect ..)))

theorem keeps_execForcedGapStep (sec : Fin 4) (s : State) : KeepsOut s (execForcedGapStep sec s) :=
  .act (.after (keeps_pmaCause ..) (.after (keeps_setSect ..) (keeps_delayHead ..)))

theorem keeps_execRncPathMove (s : State) : KeepsOut s (execRncPathMove s) :=
  .act (.after (keeps_logEvent ..) (.ite (.after (keeps_lowerStates ..) ⟨id⟩) ⟨id⟩))

theorem keeps_execSeparationHop (vad : BitVec 4) (first : Nat) (s : State) :
    KeepsOut s (execSeparationHop vad first s) :=
  .act (.after (keeps_hopCommit ..) (.after (keeps_settleStops ..) (.after (keeps_settlePauses ..) (.after (keeps_releaseHops ..)
    (.update rfl rfl rfl rfl (.foldl (.after (keeps_talkerHop ..) ⟨id⟩) fun _ _ => .ite (keeps_vadStart ..) (.ite (keeps_vadEnd ..) (.refl _))))))))

theorem keeps_execAnchorRowMove (s : State) : KeepsOut s (execAnchorRowMove s) := .optionCase .stay fun _ => .act (keeps_moveAnchor ..)

theorem keeps_execCoreReplace (n : Fin 288) (s : State) : KeepsOut s (execCoreReplace n s) :=
  .optionCase .stay fun _ => .ite (.optionCase .stay fun _ => .act (.after (keeps_replaceWith ..) (.after (keeps_takeNumber ..)
    (keeps_loseCore ..)))) (.optionCase (.optionCase .stay fun _ => .optionCase .stay fun _ => .act (.after (keeps_replaceWith ..) (.after
      (keeps_replaceWith ..) (.after (keeps_takeNumber ..) (keeps_loseCore ..))))) fun _ => .act (.after (keeps_replaceWith ..)
        (keeps_takeNumber ..)))

theorem keeps_execProgramSwitch (g : Fin 8) (s : State) : KeepsOut s (execProgramSwitch g s) :=
  .act (.after (keeps_finishOk ..) (keeps_switchGraph ..))

theorem keeps_execAlu (n : Fin 288) (w : BitVec 26) (s : State) : KeepsOut s (execAlu n w s) :=
  .coreRow (.whenFree fun _ => .optionCase (keeps_illegal ..) fun _ => keeps_retire (coreKeeps_setG ..))

theorem keeps_execAddi (n : Fin 288) (w : BitVec 26) (s : State) : KeepsOut s (execAddi n w s) :=
  .coreRow (.whenFree fun _ => keeps_retire (coreKeeps_setG ..))

theorem keeps_execAndi (n : Fin 288) (w : BitVec 26) (s : State) : KeepsOut s (execAndi n w s) :=
  .coreRow (.whenFree fun _ => keeps_retire (coreKeeps_setG ..))

theorem keeps_execOri (n : Fin 288) (w : BitVec 26) (s : State) : KeepsOut s (execOri n w s) :=
  .coreRow (.whenFree fun _ => keeps_retire (coreKeeps_setG ..))

theorem keeps_execXori (n : Fin 288) (w : BitVec 26) (s : State) : KeepsOut s (execXori n w s) :=
  .coreRow (.whenFree fun _ => keeps_retire (coreKeeps_setG ..))

theorem keeps_execShi (n : Fin 288) (w : BitVec 26) (s : State) : KeepsOut s (execShi n w s) :=
  .coreRow (.whenFree fun _ => .ite (keeps_illegal ..) (keeps_retire (coreKeeps_setG ..)))

theorem keeps_execLui (n : Fin 288) (w : BitVec 26) (s : State) : KeepsOut s (execLui n w s) :=
  .coreRow (.whenFree fun _ => keeps_retire (coreKeeps_setG ..))

theorem keeps_execCmp (n : Fin 288) (w : BitVec 26) (s : State) : KeepsOut s (execCmp n w s) :=
  .coreRow (.whenFree fun _ => .ite (keeps_illegal ..) (keeps_retire (coreKeeps_setP ..)))

theorem keeps_execLd (n : Fin 288) (w : BitVec 26) (ecc : Ecc) (s : State) : KeepsOut s (execLd n w ecc s) :=
  .coreRow (.ite .none (.localAccess (.ite .none (.ite (.some (.after (keeps_raise ..) (keeps_sramEcc ..))) (.some (.after (keeps_retire
    (coreKeeps_setG ..)) (keeps_sramEcc ..)))))))

theorem keeps_execSt (n : Fin 288) (w : BitVec 26) (s : State) : KeepsOut s (execSt n w s) :=
  .coreRow (.ite .none (.localAccess (by exact .ite .none (.some (keeps_retire (coreKeeps_writeHome ..))))))

theorem keeps_execBr (n : Fin 288) (w : BitVec 26) (s : State) : KeepsOut s (execBr n w s) :=
  .coreRow (.some (.ite (keeps_raise ..) (.ite (keeps_raise ..) (keeps_setCore ⟨id⟩))))

theorem keeps_execBl (n : Fin 288) (w : BitVec 26) (s : State) : KeepsOut s (execBl n w s) :=
  .coreRow (.whenFree fun _ => .ite (keeps_raise ..) (.ite (keeps_raise ..) (keeps_setCore ⟨(coreKeeps_setG ..).1⟩)))

theorem keeps_execJr (n : Fin 288) (w : BitVec 26) (s : State) : KeepsOut s (execJr n w s) :=
  .coreRow (.whenFree fun _ => .ite (keeps_raise ..) (.ite (keeps_raise ..) (keeps_setCore ⟨id⟩)))

theorem keeps_execPred (n : Fin 288) (w : BitVec 26) (s : State) : KeepsOut s (execPred n w s) :=
  .coreRow (.ite .none (.ite (.some (keeps_illegal ..)) (.some (keeps_retire (coreKeeps_setP ..)))))

theorem keeps_execValu (n : Fin 288) (w : BitVec 26) (s : State) : KeepsOut s (execValu n w s) :=
  .coreRow (.ite (.some (keeps_illegal ..)) (.some (keeps_retire (coreKeeps_setV ..))))

theorem keeps_execVld (n : Fin 288) (w : BitVec 26) (ecc : Ecc) (s : State) : KeepsOut s (execVld n w ecc s) :=
  .coreRow (.ite .none (.localAccess (.ite .none (.ite (.some (.after (keeps_raise ..) (keeps_sramEcc ..))) (.some (.after (keeps_retire
    (coreKeeps_setV ..)) (keeps_sramEcc ..)))))))

theorem keeps_execVst (n : Fin 288) (w : BitVec 26) (s : State) : KeepsOut s (execVst n w s) :=
  .coreRow (.ite .none (.localAccess (by exact .ite .none (.some (keeps_retire (coreKeeps_writeHome ..))))))

theorem keeps_execVred (n : Fin 288) (w : BitVec 26) (s : State) : KeepsOut s (execVred n w s) :=
  .coreRow (.optionCase (.some (keeps_illegal ..)) fun _ => .some (keeps_retire (coreKeeps_setV ..)))

theorem keeps_execVcvt (n : Fin 288) (w : BitVec 26) (s : State) : KeepsOut s (execVcvt n w s) :=
  .coreRow (.ite (.some (keeps_illegal ..)) (.some (keeps_retire (coreKeeps_setV ..))))

theorem keeps_execVspec (n : Fin 288) (w : BitVec 26) (s : State) : KeepsOut s (execVspec n w s) :=
  .coreRow (.ite (.some (keeps_illegal ..)) (.some (keeps_retire (coreKeeps_setV ..))))

theorem keeps_execVacc (n : Fin 288) (w : BitVec 26) (s : State) : KeepsOut s (execVacc n w s) :=
  .coreRow (.ite (.some (keeps_illegal ..)) (.ite .none (.ite (.some (keeps_retire (coreKeeps_setA ..))) (.some (keeps_retire
    (coreKeeps_setV ..))))))

theorem keeps_execVperm (n : Fin 288) (w : BitVec 26) (s : State) : KeepsOut s (execVperm n w s) :=
  .coreRow (.litCase (.some (keeps_retire (coreKeeps_setV ..))) fun _ => .litCase (.some (keeps_retire (coreKeeps_setV ..))) fun _ =>
    .litCase (.whenFree fun _ => keeps_retire (coreKeeps_setV ..)) fun _ => .some (keeps_illegal ..))

theorem keeps_execTld (n : Fin 288) (w : BitVec 26) (ecc : Ecc) (s : State) : KeepsOut s (execTld n w ecc s) :=
  .coreRow (.ite .none (.localAccess (by
    exact .ite .none (by
      exact .ite (.some (.after (keeps_raise ..) (.after (keeps_sramEcc ..) ⟨id⟩))) (.some (.after (keeps_issueTile ..) (.after
        (keeps_sramEcc ..) ⟨id⟩)))))))

theorem keeps_execTst (n : Fin 288) (w : BitVec 26) (s : State) : KeepsOut s (execTst n w s) :=
  .coreRow (.ite .none (.localAccess (by exact .readTiles (by exact .some (keeps_issueTile ..)))))

theorem keeps_execTget (n : Fin 288) (w : BitVec 26) (s : State) : KeepsOut s (execTget n w s) :=
  .coreRow (.remoteTile (.ite .none (.some (.after (keeps_issueTile ..) (.after (keeps_issue ..) (keeps_reserveRoom ..))))))

theorem keeps_execTput (n : Fin 288) (w : BitVec 26) (s : State) : KeepsOut s (execTput n w s) :=
  .coreRow (.remoteTile (.readTiles (.ite .none (.some (.after (keeps_issueTile ..) (.foldl
    (keeps_reserveRoom ..) fun _ _ => keeps_issue ..))))))

theorem keeps_execTuget (n : Fin 288) (w : BitVec 26) (s : State) : KeepsOut s (execTuget n w s) :=
  .coreRow (.ite .none (.ite (.some (keeps_raise ..)) (.ite .none (.some (.after (keeps_issueTile ..) (.after (keeps_issueU ..)
    (keeps_reserveRoom ..)))))))

theorem keeps_execTuput (n : Fin 288) (w : BitVec 26) (s : State) : KeepsOut s (execTuput n w s) :=
  .coreRow (.ite .none (.ite (.some (keeps_raise ..)) (.readTiles (.ite .none (.some (.after (keeps_issueTile ..) (.foldl
    (keeps_reserveRoom ..) fun _ _ => keeps_issueU ..)))))))

theorem keeps_execTstat (n : Fin 288) (w : BitVec 26) (s : State) : KeepsOut s (execTstat n w s) :=
  .coreRow (.ite .none (.some (keeps_retire (coreKeeps_setG ..))))

theorem keeps_execTmov (n : Fin 288) (w : BitVec 26) (s : State) : KeepsOut s (execTmov n w s) :=
  .coreRow (.ite (.some (keeps_illegal ..)) (.readTiles (.some (keeps_issueTile ..))))

theorem keeps_execTmma (n : Fin 288) (w : BitVec 26) (s : State) : KeepsOut s (execTmma n w s) :=
  .coreRow (.ite (.some (keeps_illegal ..)) (.readTiles (.some (keeps_issueTile ..))))

theorem keeps_execTzero (n : Fin 288) (w : BitVec 26) (s : State) : KeepsOut s (execTzero n w s) := .coreRow (.some (keeps_issueTile ..))

theorem keeps_execTpack (n : Fin 288) (w : BitVec 26) (s : State) : KeepsOut s (execTpack n w s) :=
  .coreRow (.ite (.some (keeps_illegal ..)) (.ite .none (.some (keeps_issueTile ..))))

theorem keeps_execTunpack (n : Fin 288) (w : BitVec 26) (s : State) : KeepsOut s (execTunpack n w s) :=
  .coreRow (.ite (.some (keeps_illegal ..)) (.readTiles (.some (keeps_issueTile ..))))

theorem keeps_execTxp (n : Fin 288) (w : BitVec 26) (s : State) : KeepsOut s (execTxp n w s) := .coreRow (.readTiles (.some (keeps_issueTile ..)))

theorem keeps_execTileComplete (n : Fin 288) (s : State) : KeepsOut s (execTileComplete n s) :=
  .optionCase .stay fun _ => .act (.after (keeps_setCore (.after (coreKeeps_tileEffect ..) ⟨id⟩)) (keeps_stepFree ..))

theorem keeps_readPayload {b : BankRead} {w : BitVec 26} {bad k : State → State} (hb : ∀ t, Keeps t (bad t)) (hk : ∀ t, Keeps t (k t)) (s : State) :
    Keeps s (readPayload b w s bad k) :=
  .ite (.after (hb _) (.after (keeps_sramEcc ..) ⟨id⟩)) (.after (hk _) (.after (keeps_sramEcc ..) ⟨id⟩))

theorem keeps_execSend (b : BankRead) (w : BitVec 26) (s : State) : KeepsOut s (execSend b w s) := by with_reducible_and_instances
  delta execSend
  exact .coreRow (.ite .none (.payloadAt (by exact .ite (.some (keeps_raise ..)) (.ite (.some (keeps_retire (coreKeeps_setG ..))) (.ite .none
    (.some (keeps_readPayload (fun _ => keeps_retire (coreKeeps_setG ..)) (fun _ => .after (keeps_coreNext ..) (.after (keeps_awaitG ..)
      (.after (keeps_issue ..) (keeps_reserveRoom ..)))) _)))))))

theorem keeps_execSendm (b : BankRead) (w : BitVec 26) (s : State) : KeepsOut s (execSendm b w s) := by with_reducible_and_instances
  delta execSendm
  exact .coreRow (.ite (.some (keeps_illegal ..)) (.ite .none (.payloadAt (by
    exact .optionCase (.some (keeps_raise ..)) fun _ => by
      exact .optionCase (.ite (.some (keeps_retire (coreKeeps_setG ..))) (.ite .none (.some (keeps_readPayload
        (fun _ => keeps_retire (.after (coreKeeps_setG ..) (coreKeeps_setG ..)))
        (fun _ => .after (keeps_retire ⟨id⟩) (.after (keeps_awaitG ..) (.foldl (keeps_reserveRoom ..) fun _ _ =>
          .after (keeps_issue ..) (keeps_setCredit ..)))) _)))) fun _ => .some (keeps_raise ..)))))

theorem coreKeeps_takeMessage (c : Core) (a : Nat) (b : List Byte) (box : Vector (List Msg) 8) :
    CoreKeeps c (Core.settle { c with home := c.home.writeN a b, box := box } 1) :=
  .after (coreKeeps_settle ..) (.home (Mem.writeN_wf _ _ _) rfl)

theorem keeps_execRecv (n : Fin 288) (w : BitVec 26) (s : State) : KeepsOut s (execRecv n w s) :=
  .coreRow (.ite .none (.ite (.some (keeps_raise ..)) (.listCase (.ite (.some (keeps_retire (coreKeeps_setG ..))) .none) fun _ _ =>
    .localAccess (by
      exact .ite .none (.some (.after (keeps_retire (coreKeeps_setG ..)) (.after (keeps_returnCredit ..) (keeps_setCore
        (coreKeeps_takeMessage ..)))))))))

theorem keeps_execAmo (n : Fin 288) (w : BitVec 26) (s : State) : KeepsOut s (execAmo n w s) :=
  .coreRow (.ite (.some (keeps_illegal ..)) (.ite .none (.ite (.some (keeps_raise ..)) (.ite (.some (keeps_raise ..)) (.ite .none (.some (.after
    (keeps_retire ⟨id⟩) (.after (keeps_awaitG ..) (.after (keeps_issue ..) (keeps_reserveRoom ..))))))))))

theorem keeps_execRdcred (n : Fin 288) (w : BitVec 26) (s : State) : KeepsOut s (execRdcred n w s) :=
  .coreRow (.whenFree fun _ => .ite (keeps_retire (coreKeeps_setG ..)) (keeps_raise ..))

theorem keeps_execFence (n : Fin 288) (w : BitVec 26) (s : State) : KeepsOut s (execFence n w s) := .coreRow (.ite (.some (keeps_coreNext ..)) .none)

theorem keeps_execWaitt (n : Fin 288) (w : BitVec 26) (s : State) : KeepsOut s (execWaitt n w s) := .coreRow (.ite (.some (keeps_coreNext ..)) .none)

theorem keeps_execWaitm (n : Fin 288) (w : BitVec 26) (s : State) : KeepsOut s (execWaitm n w s) :=
  .coreRow (.ite .none (.optionCase (.ite (.some (keeps_retire ⟨(coreKeeps_setP ..).1⟩)) (.some (keeps_setCore ⟨id⟩))) fun _ => .some
    (keeps_raise ..)))

theorem keeps_execWaitmTimeout (n : Fin 288) (s : State) : KeepsOut s (execWaitmTimeout n s) :=
  .optionCase .stay fun _ => .act (keeps_retire ⟨(coreKeeps_setP ..).1⟩)

theorem keeps_execRdtmp (n : Fin 288) (w : BitVec 26) (s : State) : KeepsOut s (execRdtmp n w s) :=
  .coreRow (.ite (.some (keeps_illegal ..)) (.whenFree fun _ => keeps_retire (.after (coreKeeps_setG ..) (coreKeeps_setG ..))))

theorem keeps_execRdpace (n : Fin 288) (w : BitVec 26) (s : State) : KeepsOut s (execRdpace n w s) :=
  .coreRow (.whenFree fun _ => keeps_retire (coreKeeps_setG ..))

theorem keeps_execPitch (n : Fin 288) (w : BitVec 26) (outs : List StreamOut) (s : State) :
    KeepsOut s (execPitch n w outs s) :=
  .coreRow (.ite .none (.optionCase (.some (keeps_coreNext ..)) fun _ => .ite (.some (.after (keeps_settleStop ..) (.after (.ite
    (keeps_setCore ⟨id⟩) (.refl _)) (.after (keeps_coreNext ..) (.foldl (.refl _) fun _ _ => keeps_pitchStream ..))))) .none))

theorem keeps_execHalt (n : Fin 288) (w : BitVec 26) (s : State) : KeepsOut s (execHalt n w s) := .coreRow (.some (keeps_setCore ⟨id⟩))

theorem keeps_execSetx (n : Fin 288) (w : BitVec 26) (s : State) : KeepsOut s (execSetx n w s) := .coreRow (.whenFree fun _ => keeps_retire ⟨id⟩)

theorem keeps_execXret (n : Fin 288) (w : BitVec 26) (s : State) : KeepsOut s (execXret n w s) :=
  .coreRow (.some (.ite (keeps_raise ..) (.ite (keeps_raise ..) (keeps_setCore ⟨id⟩))))

theorem keeps_execRdx (n : Fin 288) (w : BitVec 26) (s : State) : KeepsOut s (execRdx n w s) :=
  .coreRow (.whenFree fun _ => .litCase (keeps_retire (coreKeeps_setG ..)) fun _ => .litCase (keeps_retire (coreKeeps_setG ..)) fun _ =>
    .litCase (keeps_retire (coreKeeps_setG ..)) fun _ => .after (keeps_retire (coreKeeps_setG ..)) ⟨id⟩)

theorem keeps_execCoreNop (n : Fin 288) (w : BitVec 26) (fetchError : Bool) (s : State) :
    KeepsOut s (execCoreNop n w fetchError s) := .act (.ite (keeps_raise ..) (.ite (.refl _) (.ite (keeps_coreNext ..) (keeps_illegal ..))))

theorem keeps_execPacketInject (i : Fin 300) (s : State) : KeepsOut s (execPacketInject i s) := by with_reducible_and_instances
  delta execPacketInject
  cases (s.ni i).rsp
  · exact .optionCase .stay fun _ => .act (keeps_injectReq ..)
  · cases s.niRoom i 1
    · exact .optionCase .stay fun _ => .act (keeps_injectReq ..)
    · exact .act (.after (keeps_enter ..) (keeps_setNi ..))

theorem keeps_execPacketHop (k : Nat) (e : FlitErrors) (s : State) : KeepsOut s (execPacketHop k e s) :=
  .optionCase .stay fun _ => .act (.after (keeps_flow ..) (keeps_routeFlight ..))

theorem keeps_execRdTile (n : Fin 288) (ecc : Ecc) (s : State) : KeepsOut s (execRdTile n ecc s) :=
  .serve fun _ _ => .ite (keeps_refuseRead ..) (.after (.ite (keeps_refuseRead ..) (keeps_sendTile ..)) (.after (keeps_sramEcc ..) ⟨id⟩))

theorem keeps_execWr512 (n : Fin 288) (s : State) : KeepsOut s (execWr512 n s) :=
  .serve fun _ _ => .ite (keeps_ack ..) (.after (keeps_ack ..) (keeps_setCore (coreKeeps_writeHome ..)))

theorem keeps_amo (b : BankRead) (cmd : Nat) (s : State) (f : Word → Packet → Word) : KeepsOut s (amo b cmd s f) :=
  .serve fun _ _ => .ite (keeps_ack ..) (.ite (.after (keeps_ack ..) (keeps_sramEcc ..))
    (.after (keeps_respond ..) (.after (keeps_setCore (coreKeeps_writeHome ..)) (keeps_sramEcc ..))))

theorem keeps_execAmoAdd (n : BankRead) (s : State) : KeepsOut s (execAmoAdd n s) := keeps_amo ..

theorem keeps_execAmoSwap (n : BankRead) (s : State) : KeepsOut s (execAmoSwap n s) := keeps_amo ..

theorem keeps_execAmoCas (n : BankRead) (s : State) : KeepsOut s (execAmoCas n s) := keeps_amo ..

theorem keeps_execURd (i : Fin 300) (ecc : Ecc) (s : State) : KeepsOut s (execURd i ecc s) :=
  .serveU (fun _ _ => .dite (fun _ => keeps_storeRead ..) fun _ => keeps_ownerRead ..) (.refl _)

theorem keeps_execUWr (i : Fin 300) (ecc : Ecc) (s : State) : KeepsOut s (execUWr i ecc s) :=
  .serveU (fun _ _ => .dite (fun _ => keeps_storeWrite ..) fun _ => keeps_ownerWrite ..) (keeps_askWidens ..)

theorem keeps_execData (i : Fin 300) (s : State) : KeepsOut s (execData i s) :=
  .reply1 (fun _ _ _ _ => .ite (keeps_endReq ..) (.ite (.after (keeps_endReq ..) (keeps_storePart ..)) (.after (keeps_setNi ..)
    (keeps_storePart ..)))) fun _ _ => keeps_lateReply ..

theorem keeps_execAck (i : Fin 300) (s : State) : KeepsOut s (execAck i s) := .reply1 (fun _ _ _ _ => keeps_endReq ..) fun _ _ => keeps_lateReply ..

theorem keeps_execCredit (i : Fin 300) (s : State) : KeepsOut s (execCredit i s) :=
  .optionCase .stay fun _ => .act (.after (keeps_addCredit ..) (keeps_dropRx ..))

theorem keeps_execNackPoison (i : Fin 300) (s : State) : KeepsOut s (execNackPoison i s) :=
  .reply1 (fun _ _ _ _ => .ite (keeps_endReq ..) (.after (keeps_setNi ..) (.after (.ite (.refl _) (keeps_addCredit ..)) (.after
    (keeps_bumpGen ..) (keeps_countLatency ..))))) fun _ _ => keeps_lateReply ..

theorem keeps_execURedirect (i : Fin 300) (s : State) : KeepsOut s (execURedirect i s) :=
  .reply1 (fun _ _ _ _ => .after (keeps_resend ..) (keeps_setNi ..)) fun _ _ => keeps_lateReply ..

theorem keeps_execUMoved (i : Fin 300) (s : State) : KeepsOut s (execUMoved i s) :=
  .reply1 (fun _ _ _ _ => .after (keeps_resend ..) (keeps_setNi ..)) fun _ _ => keeps_lateReply ..

theorem keeps_execUBusy (i : Fin 300) (s : State) : KeepsOut s (execUBusy i s) :=
  .reply1 (fun _ _ _ _ => keeps_resend ..) fun _ _ => keeps_lateReply ..

theorem keeps_execUBusyRetry (i : Fin 300) (tag : BitVec 10) (s : State) : KeepsOut s (execUBusyRetry i tag s) := .act (keeps_setNi ..)

theorem keeps_execMsg (n : Fin 288) (s : State) : KeepsOut s (execMsg n s) := .serveMsg fun _ _ => keeps_takeMsg ..

theorem keeps_execMsgTree (n : Fin 288) (s : State) : KeepsOut s (execMsgTree n s) := .serveMsg fun _ _ => keeps_takeMsg ..

theorem keeps_execPmaBridgeJob (s : State) : KeepsOut s (execPmaBridgeJob s) :=
  .serve fun _ _ => (by
    extract_lets
    split
    · exact .after (keeps_respond ..) (keeps_ack ..)
    · exact .after (keeps_acceptJob ..) (.after (keeps_taintBy ..) (.after (keeps_respond ..) (keeps_ack ..)))
    · exact .after (keeps_messageCore ..) (.after (keeps_respond ..) (keeps_ack ..)))

theorem keeps_execHRd (b : BankRead) (s : State) : KeepsOut s (execHRd b s) :=
  .serve fun _ _ => .ite (.after (keeps_refuseRead ..) (.after (keeps_sramEcc ..) ⟨id⟩)) (.foldl (.after
    (keeps_sramEcc ..) ⟨id⟩) fun _ _ => keeps_respond ..)

theorem keeps_execHWr (n : Fin 288) (s : State) : KeepsOut s (execHWr n s) :=
  .serve fun _ _ => .ite (.after (keeps_ack ..) (keeps_putHome ..)) (keeps_ack ..)

theorem keeps_execHClose (n : Fin 288) (s : State) : KeepsOut s (execHClose n s) :=
  .ite .stay (.serve fun _ _ => .after (keeps_ack ..) (keeps_closeRun ..))

theorem keeps_execHFree (n : Fin 288) (s : State) : KeepsOut s (execHFree n s) := .serve fun _ _ => .after (keeps_ack ..) (keeps_dropRun ..)

theorem keeps_execRequestTimeout (i : Fin 300) (tag : BitVec 10) (s : State) :
    KeepsOut s (execRequestTimeout i tag s) := .act (.foldl (.after (keeps_setNi ..) (keeps_bumpGen ..)) fun _ _ => keeps_timeoutOne ..)

theorem keeps_execStallPurge (k : Nat) (s : State) : KeepsOut s (execStallPurge k s) :=
  .optionCase .stay fun _ => .act (.after (keeps_logEvent ..) (.after (keeps_flow ..) (keeps_setFab ..)))

theorem keeps_execTopoEntryWrite (i : Fin 300) (dest : Nat) (e : BitVec 64) (s : State) :
    KeepsOut s (execTopoEntryWrite i dest e s) := .act (.ite (.after (keeps_setNi ..) (keeps_setFab ..)) (keeps_setFab ..))

theorem keeps_execOrderedHoldEnd (i : Fin 300) (dest : Nat) (s : State) : KeepsOut s (execOrderedHoldEnd i dest s) := .act (keeps_setNi ..)

theorem keeps_execBelayRequest (d : Domain) (off : Bool) (s : State) : KeepsOut s (execBelayRequest d off s) := .act (keeps_belayRequest ..)

theorem keeps_execBelayDrainDone (d : Domain) (s : State) : KeepsOut s (execBelayDrainDone d s) := .act (keeps_setBelayStep ..)

theorem keeps_execBelayFence (d : Domain) (s : State) : KeepsOut s (execBelayFence d s) := .act (keeps_setBelayStep ..)

theorem keeps_execBelayAcknowledge (d : Domain) (s : State) : KeepsOut s (execBelayAcknowledge d s) := by with_reducible_and_instances
  delta execBelayAcknowledge
  exact .optionCase .stay fun _ => .act (by
    extract_lets
    split
    · exact .ite (.after (keeps_rowOff ..) (keeps_setBelayStep ..)) (keeps_setBelayStep ..)
    · exact .ite ⟨(keeps_setBelayStep ..).1⟩ (.after (keeps_demandS23 ..) ⟨(keeps_setBelayStep ..).1⟩)
    · exact keeps_setBelayStep ..
    · exact ⟨(keeps_setBelayStep ..).1⟩)

theorem keeps_execBelayCancel (d : Domain) (s : State) : KeepsOut s (execBelayCancel d s) := .act (keeps_stayOn ..)

theorem keeps_execBelayAbort (d : Domain) (s : State) : KeepsOut s (execBelayAbort d s) :=
  .optionCase .stay fun _ => .act (.after (keeps_logEvent ..) (.after (keeps_setFab ..) (keeps_stayOn ..)))

theorem keeps_execDomainWake (d : Domain) (s : State) : KeepsOut s (execDomainWake d s) := .optionCase .stay fun _ => .act (keeps_wakeDomain ..)

theorem keeps_execTileMoveStart (f : FrameRead) (s : State) : KeepsOut s (execTileMoveStart f s) :=
  .act (.optionCase (keeps_moveNext ..) fun _ => .litCase (.someCase (fun _ => .after (keeps_haulReq ..)
    (keeps_moveNext ..)) fun _ => keeps_moveNext ..) fun _ => .litCase (.after (.ite (.after (keeps_finishMoves ..) (keeps_moveAbandon ..))
      (keeps_haulWrite ..)) (.after (keeps_dramEcc ..) (keeps_moveNext ..))) fun _ => keeps_moveNext ..)

theorem keeps_execTileMoveDone (c : Fin 8) (s : State) : KeepsOut s (execTileMoveDone c s) :=
  .optionCase .stay fun _ => .act (.after (keeps_finishMoves ..) (.optionCase (keeps_moveEnd ..) fun _ => .ite (.after (keeps_closeRun ..)
    (keeps_moveEnd ..)) (.after (keeps_haulReq ..) (keeps_moveEnd ..))))

theorem keeps_execDramScrub (c : Fin 8) (errs : List RowError) (s : State) : KeepsOut s (execDramScrub c errs s) :=
  .act (.foldl (keeps_setTiers fun _ => rfl) fun _ _ => .ite (.after (.optionCase (.refl _) fun _ => keeps_poison ..) (.after (keeps_alert ..)
    (.after (keeps_hardFail ..) (keeps_setTiers fun _ => rfl)))) (.after (keeps_rowError ..) (keeps_setTiers fun _ => rfl)))

theorem keeps_execCorePoolEmpty (n : Fin 288) (unreadable : List Nat) (s : State) :
    KeepsOut s (execCorePoolEmpty n unreadable s) := .act (.after (keeps_finishMoves ..) (.foldl (.refl _) fun _ _ => keeps_dropUnreadable ..))

theorem keeps_execBar2Read (off len : Nat) (tag : BitVec 10) (s : State) : KeepsOut s (execBar2Read off len tag s) := .act (keeps_hostRead ..)

theorem keeps_execBar2Write (off : Nat) (bytes : List Byte) (s : State) : KeepsOut s (execBar2Write off bytes s) := .act (keeps_hostWrite ..)

theorem keeps_execTierBar2Write (src : Src) (v : Word) (s : State) : KeepsOut s (execTierBar2Write src v s) := .act (keeps_writeBar2Base ..)

theorem keeps_execFabSelWrite (src : Src) (v : Word) (s : State) : KeepsOut s (execFabSelWrite src v s) := .act (keeps_writeFabSel ..)

theorem keeps_execTierMapSelWrite (src : Src) (v : Word) (s : State) : KeepsOut s (execTierMapSelWrite src v s) := .act (keeps_writeMapSel ..)

theorem keeps_execLedgSelWrite (src : Src) (v : Word) (s : State) : KeepsOut s (execLedgSelWrite src v s) := .act (keeps_writeLedgSel ..)

theorem keeps_execKvDrop (busy : BitVec 16) (s : State) : KeepsOut s (execKvDrop busy s) := .act (keeps_dropUntil ..)

theorem keeps_execKvReplay (i : Fin 16) (s : State) : KeepsOut s (execKvReplay i s) :=
  .act (.optionCase (.after (keeps_pageWait ..) (keeps_makeRoom ..)) fun _ => .after (keeps_rewriteMap ..) (.after (keeps_setKv ..) (.after
    (keeps_setTiers fun _ => rfl) (.foldl (keeps_makeRoom ..) fun _ _ => keeps_replayCol ..))))

theorem keeps_execCopyOnWrite (i : Fin 16) (s : State) : KeepsOut s (execCopyOnWrite i s) :=
  .optionCase .stay fun _ => .act (.optionCase (.after (keeps_pageWait ..) (keeps_makeRoom ..)) fun _ => .after (keeps_giveCol ..)
    (keeps_makeRoom ..))

theorem keeps_execPageWaitTimeout (i : Fin 16) (s : State) : KeepsOut s (execPageWaitTimeout i s) :=
  .optionCase .stay fun _ => .act (.after (keeps_streamFault ..) (keeps_setKv ..))

theorem keeps_execParkIdleExpiry (i : Fin 16) (s : State) : KeepsOut s (execParkIdleExpiry i s) := .act (keeps_beginPark ..)

theorem keeps_execParkDone (i : Fin 16) (s : State) : KeepsOut s (execParkDone i s) :=
  .optionCase .stay fun _ => .act (.after (keeps_setTiers fun _ => rfl) (keeps_setStream ..))

theorem keeps_execRestoreDone (i : Fin 16) (s : State) : KeepsOut s (execRestoreDone i s) :=
  .optionCase .stay fun _ => .act (.after (keeps_releaseHops ..) (.after (keeps_setTiers fun _ => rfl) (keeps_setStream ..)))

theorem keeps_execUnisonApply (s : State) : KeepsOut s (execUnisonApply s) :=
  .optionCase .stay fun _ => .act (.after (.ite (.refl _) (.after (keeps_lateWake ..) (keeps_nextModes ..))) (.foldl (.update rfl rfl rfl rfl
    (.foldl (keeps_applyUnison ..) fun _ _ => .ite (.refl _) (keeps_resumeCores ..))) fun _ _ => keeps_startMode ..))

theorem keeps_execCommitTimeout (k : Nat) (s : State) : KeepsOut s (execCommitTimeout k s) :=
  .optionCase .stay fun _ => .act (.after (keeps_undoCommit ..) (.after (keeps_reply ..) ⟨id⟩))

theorem keeps_execPcieLinkUp (speed width : BitVec 3) (s : State) : KeepsOut s (execPcieLinkUp speed width s) := .act (keeps_setHif fun _ => rfl)

theorem keeps_execBusMasterDisable (s : State) : KeepsOut s (execBusMasterDisable s) := .act (.after (keeps_holdScans ..) (keeps_setHif fun _ => rfl))

theorem keeps_execBusMasterEnable (s : State) : KeepsOut s (execBusMasterEnable s) := .act (.after (keeps_releaseUp ..) (keeps_setHif fun _ => rfl))

theorem keeps_execD3hotEntry (s : State) : KeepsOut s (execD3hotEntry s) := .act (.after (keeps_holdScans ..) (keeps_setHif fun _ => rfl))

theorem keeps_execD0Return (s : State) : KeepsOut s (execD0Return s) := .act (.after (keeps_releaseUp ..) (keeps_setHif fun _ => rfl))

theorem keeps_execCompletionTimeout (s : State) : KeepsOut s (execCompletionTimeout s) := .act (keeps_fetchFails ..)

theorem keeps_execCompletionError (e : CplError) (s : State) : KeepsOut s (execCompletionError e s) := .act (keeps_fetchFails ..)

theorem keeps_execL1Entry (l11 : Bool) (s : State) : KeepsOut s (execL1Entry l11 s) := .act (keeps_belayRequest ..)

theorem keeps_execL1Exit (s : State) : KeepsOut s (execL1Exit s) := .act (.after (keeps_holdScans ..) (keeps_wakeDomain ..))

theorem keeps_execMsixUnmask (how : Unmask) (s : State) : KeepsOut s (execMsixUnmask how s) := by with_reducible_and_instances
  delta execMsixUnmask
  exact .act (.after (keeps_sendPending ..) (keeps_setHif fun _ => by
    cases how
    · rfl
    · rfl
    · rfl))

theorem keeps_execRegisterWrite (src : Src) (off : BitVec 24) (v : Word) (s : State) :
    KeepsOut s (execRegisterWrite src off v s) := .act (keeps_fullWrite ..)

theorem keeps_execRcRead (src : Src) (off : BitVec 24) (s : State) : KeepsOut s (execRcRead src off s) :=
  .act (.after (keeps_returned ..) (keeps_fullRead ..))

theorem keeps_execBar0PartialWrite (src : Src) (off : BitVec 24) (bytes : List Byte) (s : State) :
    KeepsOut s (execBar0PartialWrite src off bytes s) :=
  .act (.ite (keeps_putMailbox ..) (.ite (.refl _) (.ite (.refl _) (.after (keeps_logEvent ..) (.after (keeps_hifErr ..)
    (keeps_noteAddr ..))))))

theorem keeps_execBar0BigRead (off : BitVec 24) (len : Nat) (s : State) : KeepsOut s (execBar0BigRead off len s) :=
  .act (.after (keeps_setHif fun _ => rfl) (keeps_hifErr ..))

theorem keeps_execDbgEvtPeekRead (src : Src) (s : State) : KeepsOut s (execDbgEvtPeekRead src s) := by with_reducible_and_instances
  delta execDbgEvtPeekRead
  exact .act (.after (keeps_returned ..) (keeps_fullRead ..))

theorem keeps_execIrqTest (v : Word) (s : State) : KeepsOut s (execIrqTest v s) := .act (keeps_irqTest ..)

theorem keeps_execSpiNop (s : State) : KeepsOut s (execSpiNop s) := .act (keeps_respond9 ..)

theorem keeps_execSpiRead (off : BitVec 24) (s : State) : KeepsOut s (execSpiRead off s) :=
  .act (.ite (.after (keeps_respond9 ..) (keeps_fullRead ..)) (.after (keeps_respond9 ..) (keeps_spvCount ..)))

theorem keeps_execSpiWrite (off : BitVec 24) (v : Word) (s : State) : KeepsOut s (execSpiWrite off v s) :=
  .act (.ite (.after (keeps_respond9 ..) (keeps_spvCount ..)) (.ite (.after (keeps_respond9 ..) (keeps_spvCount2 ..)) (.after
    (keeps_respond9 ..) (keeps_fullWrite ..))))

theorem keeps_execSpiBadFrame (f : SpiFrame) (s : State) : KeepsOut s (execSpiBadFrame f s) :=
  .act (.optionCase (.refl _) fun _ => .litCase (.after (keeps_respond9 ..) (keeps_spvCount ..)) fun _ => .litCase (.after (keeps_respond9 ..)
    (keeps_spvCount ..)) fun _ => .litCase (.after (keeps_respond9 ..) (keeps_spvCount ..)) fun _ => .after (keeps_respond9 ..) (keeps_spvCount2 ..))

theorem keeps_execHealth (s : State) : KeepsOut s (execHealth s) := .spvExec fun _ => .refl _

theorem keeps_execHoldSet (s : State) : KeepsOut s (execHoldSet s) :=
  .spvExec fun _ => .optionSnd (.iteSnd (keeps_placeHold ..) (keeps_logHold ..)) fun _ => .refl _

theorem keeps_execHoldClear (s : State) : KeepsOut s (execHoldClear s) := .spvExec fun _ => .optionSnd (keeps_clearHold ..) fun _ => .refl _

theorem keeps_execSpvGuardPropose (s : State) : KeepsOut s (execSpvGuardPropose s) :=
  .spvExec fun _ => .iteSnd (.refl _) (.optionSnd (keeps_propose ..) fun _ => .refl _)

theorem keeps_execSpvGuardConfirm (s : State) : KeepsOut s (execSpvGuardConfirm s) := .spvExec fun _ => .after (keeps_confirm ..) (keeps_actOn ..)

theorem keeps_execSpvGuardVeto (s : State) : KeepsOut s (execSpvGuardVeto s) := .spvExec fun _ => .after (keeps_veto ..) (keeps_actOn ..)

theorem keeps_execSpvGuardQuery (s : State) : KeepsOut s (execSpvGuardQuery s) := by with_reducible_and_instances
  delta execSpvGuardQuery
  refine .spvExec fun t => ?_
  extract_lets
  split
  · exact .refl t
  · exact .refl t

theorem keeps_execLedgerRead (s : State) : KeepsOut s (execLedgerRead s) := .spvExec fun _ => .refl _

theorem keeps_execSpvUnknownOp (op : BitVec 8) (s : State) : KeepsOut s (execSpvUnknownOp op s) := .ite .stay (.spvExec fun _ => .refl _)

theorem keeps_execExecDone (s : State) : KeepsOut s (execExecDone s) := .act (.after (keeps_publish ..) (.ite (keeps_setGuard ..) (.refl _)))

theorem keeps_execRingEnable (src : Src) (r : Fin 16) (v : Word) (s : State) :
    KeepsOut s (execRingEnable src r v s) := .act (keeps_writeRingCtrl ..)

theorem keeps_execRingDisable (src : Src) (r : Fin 16) (v : Word) (s : State) :
    KeepsOut s (execRingDisable src r v s) := .act (keeps_writeRingCtrl ..)

theorem keeps_execRingDrainDone (r : Fin 16) (s : State) : KeepsOut s (execRingDrainDone r s) := .act (keeps_setRing ..)

theorem keeps_execResume (src : Src) (r : Fin 16) (v : Word) (s : State) : KeepsOut s (execResume src r v s) := .act (keeps_writeRingCtrl ..)

theorem keeps_execSqDoorbell (src : Src) (r : Fin 16) (v : Word) (s : State) :
    KeepsOut s (execSqDoorbell src r v s) := .act (keeps_writeSqTail ..)

theorem keeps_execRqHeadWrite (src : Src) (r : Fin 16) (v : Word) (s : State) :
    KeepsOut s (execRqHeadWrite src r v s) := .act (keeps_writeRqHead ..)

theorem keeps_execDescriptorFetch (desc : Vector Word 16) (s : State) : KeepsOut s (execDescriptorFetch desc s) :=
  .optionCase .stay fun _ => .act (.ite (.after (keeps_holdScan ..) (keeps_setRing ..)) (.after (keeps_holdScan ..) (.after (.optionCase (.after
    (keeps_reserveAtIntake ..) (keeps_setHif fun _ => rfl)) fun _ => keeps_reply ..) (.after (keeps_setHif fun _ => rfl) (keeps_setRing ..)))))

theorem keeps_execRingStall (r : Fin 16) (s : State) : KeepsOut s (execRingStall r s) := .act (keeps_setRing ..)

theorem keeps_execDeferredExecute (k : Nat) (s : State) : KeepsOut s (execDeferredExecute k s) :=
  .optionCase .stay fun _ => .act (.after (keeps_runQueued ..) (keeps_setHif fun _ => rfl))

theorem keeps_execDeferredTimeout (k : Nat) (s : State) : KeepsOut s (execDeferredTimeout k s) :=
  .optionCase .stay fun _ => .act (.after (keeps_reply ..) (keeps_setHif fun _ => rfl))

theorem keeps_execPageFlushTimer (i : Fin 16) (s : State) : KeepsOut s (execPageFlushTimer i s) := .act (keeps_closePage ..)

theorem keeps_execPgRetEnable (src : Src) (v : Word) (s : State) : KeepsOut s (execPgRetEnable src v s) := .act (keeps_writePgRetCtrl ..)

theorem keeps_execPgRetHeadWrite (src : Src) (v : Word) (s : State) : KeepsOut s (execPgRetHeadWrite src v s) := .act (keeps_writePgRetHead ..)

theorem keeps_execNop (s : State) : KeepsOut s (execNop s) := .hostRow fun _ _ => keeps_runCmd (keeps_replyOk ..)

theorem keeps_execPing (s : State) : KeepsOut s (execPing s) := .hostRow fun _ _ => keeps_runCmd (keeps_reply ..)

theorem keeps_execQueryInfo (s : State) : KeepsOut s (execQueryInfo s) := .hostRow fun _ _ => keeps_runCmd (keeps_reply ..)

theorem keeps_execSetMode (s : State) : KeepsOut s (execSetMode s) := .hostRow fun _ _ => keeps_runCmd (keeps_beginSetMode ..)

theorem keeps_execModeChangeDone (s : State) : KeepsOut s (execModeChangeDone s) :=
  .optionCase .stay fun _ => .act (.after (keeps_lateWake ..) (.after (keeps_nextModes ..) (.after (keeps_finishWaits ..) (.after
    (keeps_pwrCause ..) (keeps_enterMode ..)))))

theorem keeps_execResetUnit (s : State) : KeepsOut s (execResetUnit s) :=
  .hostRow fun _ _ => keeps_runCmd (.ite (.after (keeps_resetHub ..) (keeps_waitOn ..)) (.after (keeps_resetPma ..) (keeps_waitOn ..)))

theorem keeps_execSafeState (s : State) : KeepsOut s (execSafeState s) :=
  .hostRow fun _ _ => keeps_runCmd (.after (keeps_replyOk ..) (keeps_safeChange (keeps_setHolds ..)))

theorem keeps_execPackLoad (s : State) : KeepsOut s (execPackLoad s) := by with_reducible_and_instances
  delta execPackLoad
  exact .hostRow fun c t => keeps_runCmd (.optionCase (.refl _) fun o => by
    beta_reduce
    cases t.checkPack o false
    · exact keeps_reply ..
    · exact keeps_packReply ..
    · exact .after (keeps_packReply ..) (keeps_loadPack ..))

theorem keeps_execPackVerify (s : State) : KeepsOut s (execPackVerify s) := by with_reducible_and_instances
  delta execPackVerify
  exact .hostRow fun c t => keeps_runCmd (.optionCase (.refl _) fun o => by
    beta_reduce
    cases t.checkPack o true
    · exact keeps_reply ..
    · exact keeps_replyOk ..
    · exact keeps_replyOk ..)

theorem keeps_execPackEvict (s : State) : KeepsOut s (execPackEvict s) :=
  .hostRow fun _ _ => keeps_runCmd (.after (keeps_replyOk ..) (.after (keeps_finishMoves ..) (.update rfl rfl rfl rfl (.foldl
    (.refl _) fun _ _ => keeps_dropObj ..))))

theorem keeps_execObjAlloc (s : State) : KeepsOut s (execObjAlloc s) := .hostRow fun _ _ => keeps_runCmd (.after (keeps_reply ..) (keeps_makeObj ..))

theorem keeps_execObjPlace (s : State) : KeepsOut s (execObjPlace s) :=
  .hostRow fun _ _ => keeps_runCmd (.optionCase (.refl _) fun _ => .after (keeps_finishMoves ..) (.after (keeps_waitOn ..) (keeps_placeObj ..)))

theorem keeps_execObjFlush (s : State) : KeepsOut s (execObjFlush s) :=
  .hostRow fun _ _ => keeps_runCmd (.optionCase (.refl _) fun _ => .after (keeps_finishMoves ..) (.after (keeps_waitOn ..) (.foldl
    (.refl _) fun _ _ => keeps_queueMove ..)))

theorem keeps_execObjFree (s : State) : KeepsOut s (execObjFree s) :=
  .hostRow fun _ _ => keeps_runCmd (.after (keeps_finishMoves ..) (keeps_waitOn ..))

theorem keeps_execSessionOpen (s : State) : KeepsOut s (execSessionOpen s) :=
  .hostRow fun _ _ => keeps_runCmd (.after (keeps_reply ..) (.after (keeps_openSession ..) (keeps_chooseSession ..)))

theorem keeps_execSessionClose (s : State) : KeepsOut s (execSessionClose s) :=
  .hostRow fun _ _ => keeps_runCmd (.after (keeps_replyOk ..) (keeps_closeSession ..))

theorem keeps_execStreamOpen (s : State) : KeepsOut s (execStreamOpen s) :=
  .hostRow fun _ _ => keeps_runCmd (.someCase (fun _ => .someCase (fun _ => .after (keeps_reply ..) (keeps_openStream ..)) fun _ =>
    .refl _) fun _ => .refl _)

theorem keeps_execStreamStart (s : State) : KeepsOut s (execStreamStart s) := .hostRow fun _ _ => keeps_runStart ..

theorem keeps_execStreamPause (s : State) : KeepsOut s (execStreamPause s) := .hostRow fun _ _ => keeps_runPause ..

theorem keeps_execStreamResume (s : State) : KeepsOut s (execStreamResume s) := .hostRow fun _ _ => keeps_runResume ..

theorem keeps_execStreamDrain (s : State) : KeepsOut s (execStreamDrain s) := .hostRow fun _ _ => keeps_runDrain ..

theorem keeps_execStreamClose (s : State) : KeepsOut s (execStreamClose s) :=
  .hostRow fun _ _ => keeps_runCmd (.after (keeps_replyOk ..) (keeps_closeStream ..))

theorem keeps_execPrefixDefine (s : State) : KeepsOut s (execPrefixDefine s) := by with_reducible_and_instances
  delta execPrefixDefine
  refine .hostRow fun c t => keeps_runCmd ?_
  generalize hp : definePrefix _ _ _ = p
  have hd : Keeps t p.2 := hp ▸ keeps_definePrefix ..
  obtain ⟨st, u⟩ := p
  exact .after (keeps_reply ..) hd

theorem keeps_execPrefixAttach (s : State) : KeepsOut s (execPrefixAttach s) := .hostRow fun _ _ => keeps_runAttach ..

theorem keeps_execPrefixRelease (s : State) : KeepsOut s (execPrefixRelease s) :=
  .hostRow fun _ _ => keeps_runCmd (.after (keeps_replyOk ..) (keeps_releasePrefix ..))

theorem keeps_execTextSubmit (s : State) : KeepsOut s (execTextSubmit s) := .hostRow fun _ _ => keeps_runText ..

theorem keeps_execSapConfig (s : State) : KeepsOut s (execSapConfig s) :=
  .hostRow fun _ _ => keeps_runCmd (keeps_unlessShadowed (keeps_sapConfigGo ..))

theorem keeps_execSapStart (s : State) : KeepsOut s (execSapStart s) :=
  .hostRow fun _ _ => keeps_runCmd (.after (keeps_replyOk ..) (keeps_sapStart ..))

theorem keeps_execSapStop (s : State) : KeepsOut s (execSapStop s) := .hostRow fun _ _ => keeps_runCmd (.after (keeps_sapStop ..) (keeps_waitOn ..))

theorem keeps_execZoneDefine (s : State) : KeepsOut s (execZoneDefine s) :=
  .hostRow fun _ _ => keeps_runCmd (keeps_unlessShadowed (.after (keeps_stage ..) ⟨id⟩))

theorem keeps_execZoneRoute (s : State) : KeepsOut s (execZoneRoute s) :=
  .hostRow fun _ _ => keeps_runCmd (keeps_unlessShadowed (.after (keeps_stage ..) (keeps_setStream ..)))

theorem keeps_execZoneMute (s : State) : KeepsOut s (execZoneMute s) :=
  .hostRow fun _ _ => keeps_runCmd (keeps_unlessShadowed (.after (keeps_stage ..) ⟨id⟩))

theorem keeps_execFeConfig (s : State) : KeepsOut s (execFeConfig s) := .hostRow fun _ _ => keeps_runCmd (.after (keeps_waitCommit ..) ⟨id⟩)

theorem keeps_execRncEnable (s : State) : KeepsOut s (execRncEnable s) := .hostRow fun _ _ => keeps_runCmd (.after (keeps_waitCommit ..) ⟨id⟩)

theorem keeps_execRncDisable (s : State) : KeepsOut s (execRncDisable s) :=
  .hostRow fun _ _ => keeps_runCmd (.after (keeps_replyOk ..) (keeps_rncOff ..))

theorem keeps_execSeatMap (s : State) : KeepsOut s (execSeatMap s) := .hostRow fun _ _ => keeps_runCmd (.after (keeps_waitCommit ..) ⟨id⟩)

theorem keeps_execPageGrant (s : State) : KeepsOut s (execPageGrant s) :=
  .hostRow fun _ _ => keeps_runCmd (.after (keeps_reply ..) (.after (keeps_drainStream ..) (keeps_setStream ..)))

theorem keeps_execPageFlush (s : State) : KeepsOut s (execPageFlush s) :=
  .hostRow fun _ _ => keeps_runCmd (keeps_whenUpstream (.after (keeps_reply ..) (.foldl (.refl _) fun _ _ => keeps_closePage ..)))

theorem keeps_execGuardPropose (s : State) : KeepsOut s (execGuardPropose s) := by with_reducible_and_instances
  delta execGuardPropose
  exact .hostRow fun _ _ => keeps_runCmd (.after (keeps_reply ..) (keeps_propose ..))

theorem keeps_execGuardConfirm (s : State) : KeepsOut s (execGuardConfirm s) :=
  .hostRow fun _ _ => keeps_runCmd (.ite (.after (keeps_waitOn ..) (keeps_confirm ..)) (.after (keeps_reply ..) (keeps_confirm ..)))

theorem keeps_execGuardVeto (s : State) : KeepsOut s (execGuardVeto s) := .hostRow fun _ _ => keeps_runCmd (.after (keeps_reply ..) (keeps_veto ..))

theorem keeps_execGuardQuery (s : State) : KeepsOut s (execGuardQuery s) :=
  .hostRow fun _ _ => keeps_runCmd (keeps_whenUpstream (.dite (fun _ => .after (keeps_reply ..) (.ite (.refl _) (keeps_upWrite ..))) fun _ =>
    .refl _))

theorem keeps_execProposalExpiry (spv : Bool) (s : State) : KeepsOut s (execProposalExpiry spv s) := .act (keeps_dropProposal ..)

theorem keeps_execRtcSet (s : State) : KeepsOut s (execRtcSet s) :=
  .hostRow fun _ _ => .after (keeps_runCmd (.ite (.after (keeps_reply ..) (keeps_preempt ..)) (.ite (.after (keeps_reply ..) (keeps_badDate ..))
    (.after (keeps_waitOn ..) (keeps_queueCommit ..))))) (.ite (keeps_preempt ..) (.refl _))

theorem keeps_execRtcGet (s : State) : KeepsOut s (execRtcGet s) := .hostRow fun _ _ => keeps_runCmd (keeps_reply ..)

theorem keeps_execRtcAlarm (s : State) : KeepsOut s (execRtcAlarm s) :=
  .hostRow fun _ _ => keeps_runCmd (.ite (.after (keeps_reply ..) ⟨id⟩) (.after (keeps_replyOk ..) ⟨id⟩))

theorem keeps_execHealthQuery (s : State) : KeepsOut s (execHealthQuery s) := .hostRow fun _ _ => keeps_runCmd (keeps_reply ..)

theorem keeps_execBistRun (passed : Bool) (detail : Word) (s : State) : KeepsOut s (execBistRun passed detail s) :=
  .hostRow fun _ _ => keeps_runCmd (.after (keeps_reply ..) (.ite (.refl _) (.ite (.refl _) (keeps_hardFail ..))))

theorem keeps_execLedgerExport (s : State) : KeepsOut s (execLedgerExport s) :=
  .hostRow fun _ _ => keeps_runCmd (keeps_whenUpstream (.after (keeps_reply ..) (.ite (.refl _) (keeps_upWrite ..))))

theorem keeps_execLedgerImport (s : State) : KeepsOut s (execLedgerImport s) := by with_reducible_and_instances
  delta execLedgerImport
  exact .hostRow fun _ _ => keeps_runCmd (.after (keeps_reply ..) (keeps_propose ..))

theorem keeps_execProbeSet (s : State) : KeepsOut s (execProbeSet s) := .hostRow fun _ _ => keeps_runCmd (.after (keeps_replyOk ..) (keeps_setFab ..))

theorem keeps_execStatsRead (s : State) : KeepsOut s (execStatsRead s) :=
  .hostRow fun _ _ => keeps_runCmd (keeps_whenUpstream (.dite (fun _ => .after (keeps_replyOk ..) (.ite (.after (keeps_setNi ..)
    (keeps_upWrite ..)) (keeps_upWrite ..))) fun _ => .refl _))

theorem keeps_execTraceDump (s : State) : KeepsOut s (execTraceDump s) :=
  .hostRow fun _ _ => keeps_runCmd (keeps_whenUpstream (.after (keeps_reply ..) (.after (keeps_unreserve ..) (.after (.ite (keeps_setFab ..)
    (.refl _)) (.ite (.refl _) (keeps_upWrite ..))))))

theorem keeps_execEventDrain (s : State) : KeepsOut s (execEventDrain s) :=
  .hostRow fun _ _ => keeps_runCmd (keeps_whenUpstream (.after (keeps_reply ..) (.after (keeps_unreserve ..) (.update rfl rfl rfl rfl (.ite
    (.refl _) (keeps_upWrite ..))))))

theorem keeps_execProgramLoad (s : State) : KeepsOut s (execProgramLoad s) :=
  .hostRow fun _ _ => keeps_runCmd (.ite (.after (keeps_waitCommit ..) (keeps_setGraph ..)) (.optionCase (.refl _) fun _ => .after
    (keeps_reply ..) (keeps_loadGraph ..)))

theorem keeps_execGraphLaunch (s : State) : KeepsOut s (execGraphLaunch s) :=
  .hostRow fun _ _ => keeps_runCmd (.after (keeps_replyOk ..) (keeps_launchGraph ..))

theorem keeps_execGraphStop (s : State) : KeepsOut s (execGraphStop s) :=
  .hostRow fun _ _ => keeps_runCmd (by
    split
    · exact .after (keeps_settleStop ..) (.after (keeps_waitCommit ..) (keeps_setGraph ..))
    · exact .after (keeps_replyOk ..) (keeps_stopGraph ..)
    · exact .after (keeps_replyOk ..) (keeps_releaseGraph ..)
    · exact .refl _)

theorem keeps_execCreditPlan (s : State) : KeepsOut s (execCreditPlan s) :=
  .hostRow fun _ _ => keeps_runCmd (.ite (.after (keeps_waitCommit ..) (keeps_setGraph ..)) (.after (keeps_replyOk ..) (keeps_setGraph ..)))

theorem keeps_execPmaCal (s : State) : KeepsOut s (execPmaCal s) := .hostRow fun _ _ => keeps_runCmd (.after (keeps_replyOk ..) ⟨id⟩)

theorem keeps_execPmaStatus (s : State) : KeepsOut s (execPmaStatus s) := .hostRow fun _ _ => keeps_runCmd (keeps_reply ..)

theorem keeps_execPmaJob (s : State) : KeepsOut s (execPmaJob s) :=
  .hostRow fun _ _ => keeps_runCmd (by
    split
    · exact .after (keeps_acceptJob ..) (keeps_waitOn ..)
    · exact .refl _)

theorem keeps_execResetHoldDone (s : State) : KeepsOut s (execResetHoldDone s) := .act (.after (keeps_logHold ..) (keeps_setHolds ..))

theorem keeps_execBootPllLock (s : State) : KeepsOut s (execBootPllLock s) := .act (.after (keeps_endStep ..) ⟨id⟩)

theorem keeps_execBootOtpRead (bad : OtpFault) (s : State) : KeepsOut s (execBootOtpRead bad s) :=
  .act (.ite (keeps_halt ..) (.after (keeps_startIntonation ..) (.after (keeps_endStep ..) (.foldl (.refl _) fun _ _ => .ite (.refl _) (.after
    (keeps_outOfUse ..) ⟨id⟩)))))

theorem keeps_execBootBistDone (fails : List UnitRef) (s : State) : KeepsOut s (execBootBistDone fails s) :=
  .act (.after (keeps_endStep ..) (.foldl (.refl _) fun _ _ => keeps_retireAtBoot ..))

theorem keeps_execBootCoreMap (s : State) : KeepsOut s (execBootCoreMap s) := by with_reducible_and_instances
  delta execBootCoreMap
  exact .act (.someCase (fun _ => .someCase (fun _ => .after (keeps_endStep ..) (.after (keeps_bootNis ..) (.ite (.after (keeps_logEvent ..)
    (.update rfl rfl rfl rfl ⟨(keeps_buildMap ..).1⟩)) ⟨(keeps_buildMap ..).1⟩))) fun _ => .after (keeps_endStep ..) (.after (keeps_bootNis ..)
      (.after (keeps_bootEvent ..) (keeps_gridOut ..)))) fun _ => .after (keeps_endStep ..) (.after (keeps_bootNis ..) (.after (keeps_bootEvent ..)
        (keeps_gridOut ..))))

theorem keeps_execDramTrainingDone (failed : BitVec 8) (s : State) : KeepsOut s (execDramTrainingDone failed s) :=
  .act (.after (keeps_endStep ..) (.update rfl rfl rfl rfl (.ite (keeps_bootEvent ..) (.refl _))))

theorem keeps_execConfigSpaceReady (s : State) : KeepsOut s (execConfigSpaceReady s) := by with_reducible_and_instances
  delta execConfigSpaceReady
  exact .act ⟨(keeps_endStep ..).1⟩

theorem keeps_execFwChunkFirst (v : Word) (s : State) : KeepsOut s (execFwChunkFirst v s) := .act (keeps_writeFwCtrl ..)

theorem keeps_execFwChunkNext (v : Word) (s : State) : KeepsOut s (execFwChunkNext v s) := .act (keeps_writeFwCtrl ..)

theorem keeps_execFwAbort (v : Word) (s : State) : KeepsOut s (execFwAbort v s) := .act (keeps_writeFwCtrl ..)

theorem keeps_execFwChunkCopyDone (s : State) : KeepsOut s (execFwChunkCopyDone s) := .optionCase .stay fun _ => .act (keeps_setBoot fun _ => rfl)

theorem keeps_execFwVerifyDone (s : State) : KeepsOut s (execFwVerifyDone s) :=
  .act (.optionCase (keeps_setBoot fun _ => rfl) fun _ => keeps_fwReject ..)

theorem keeps_execSterdoStart (ok : Bool) (s : State) : KeepsOut s (execSterdoStart ok s) := .act (.ite (keeps_endStep ..) (keeps_halt ..))

theorem keeps_execQuietReadiness (s : State) : KeepsOut s (execQuietReadiness s) :=
  .act (.update rfl rfl rfl rfl (.after (keeps_setFab ..) (.after (keeps_endStep ..) ⟨id⟩)))

theorem keeps_execOperatingSecond (s : State) : KeepsOut s (execOperatingSecond s) := .act (keeps_setHlt ..)

theorem keeps_execUnitRetire (unreachable : List (Fin 288)) (s : State) : KeepsOut s (execUnitRetire unreachable s) :=
  .listCase .stay fun _ _ => .act (.ite (.foldl (.after (keeps_retireEffect ..) (keeps_noteRetire ..)) fun _ _ => keeps_hardFail ..) (.after
    (keeps_retireEffect ..) (keeps_noteRetire ..)))

theorem keeps_execLedgerWrite (failed : Nat) (s : State) : KeepsOut s (execLedgerWrite failed s) := by with_reducible_and_instances
  delta execLedgerWrite
  exact .listCase .stay fun _ _ => .act (.ite (.ite (.after (keeps_setHlt ..) ⟨(keeps_setHlt ..).1⟩) ⟨(keeps_setHlt ..).1⟩) (.after
    (keeps_extend ..) ⟨(keeps_setHlt ..).1⟩))

theorem keeps_execLockstepMismatch (pair : Fin 2) (s : State) : KeepsOut s (execLockstepMismatch pair s) :=
  .act (.after (keeps_hardFail ..) (keeps_safeChange ⟨id⟩))

theorem keeps_execVcoreStep (nacks : Nat) (s : State) : KeepsOut s (execVcoreStep nacks s) :=
  .act (.ite (.after (keeps_pmbusDead ..) (keeps_pmbusSend ..)) (.after (keeps_setPwr ..) (keeps_pmbusSend ..)))

theorem keeps_execPmbusPoll (p : PmicPoll) (s : State) : KeepsOut s (execPmbusPoll p s) :=
  .act (.ite (keeps_pmbusDead ..) (.after (keeps_takeStatus ..) (.after (keeps_setPwr ..) (.after (keeps_pmbusSend ..) (.after
    (keeps_takeVout ..) (keeps_pmbusAlive ..))))))

theorem keeps_execCurrentCapStep (s : State) : KeepsOut s (execCurrentCapStep s) := .act (keeps_setPwr ..)

theorem keeps_execPmbAlert (status : BitVec 16) (nacks : Nat) (s : State) :
    KeepsOut s (execPmbAlert status nacks s) := .act (.ite (keeps_pmbusDead ..) (.after (keeps_takeStatus ..) (keeps_pmbusAlive ..)))

theorem keeps_execVoutToleranceFault (s : State) : KeepsOut s (execVoutToleranceFault s) := .act (keeps_setPwr ..)

theorem keeps_execThermalSample (grid phot dram : Int) (s : State) :
    KeepsOut s (execThermalSample grid phot dram s) :=
  .act (.ite (.after (keeps_beginShutdown ..) (keeps_setPwr ..)) (.ite (.ite (.after (keeps_shedStreams ..) (keeps_setPwr ..)) (.after
    (keeps_beginShed ..) (keeps_setPwr ..))) (keeps_setPwr ..)))

theorem keeps_execThermalCapStep (s : State) : KeepsOut s (execThermalCapStep s) :=
  .ite (.act (.after (keeps_beginThrottle ..) (.ite (.after (keeps_setPwr ..) (keeps_setPwr ..)) (keeps_setPwr ..)))) (.optionCase
    .stay fun _ => .act (keeps_setPwr ..))

theorem keeps_execShedEnd (s : State) : KeepsOut s (execShedEnd s) := .act (.after (keeps_pwrEvent ..) (keeps_setPwr ..))

theorem keeps_execShutdownPowerOff (s : State) : KeepsOut s (execShutdownPowerOff s) := .act (keeps_setPwr ..)

theorem keeps_execTracePortRecord (s : State) : KeepsOut s (execTracePortRecord s) := .listCase .stay fun _ _ => .act ⟨id⟩

theorem keeps_execTapReset (s : State) : KeepsOut s (execTapReset s) := .act (.after (keeps_setTap ..) (keeps_endDap ..))

theorem keeps_execBypass (s : State) : KeepsOut s (execBypass s) := .act (keeps_setTap ..)

theorem keeps_execIdcode (s : State) : KeepsOut s (execIdcode s) := .act (keeps_setTap ..)

theorem keeps_execSamplePreload (cells : List Bool) (s : State) : KeepsOut s (execSamplePreload cells s) := .act ⟨(keeps_setTap ..).1⟩

theorem keeps_execExtest (s : State) : KeepsOut s (execExtest s) := .act (keeps_setTap ..)

theorem keeps_execClamp (s : State) : KeepsOut s (execClamp s) := .act (keeps_setTap ..)

theorem keeps_execDap (s : State) : KeepsOut s (execDap s) :=
  .act (.ite (keeps_setTap ..) (.ite (.refl _) (.after (keeps_logEvent ..) ⟨(keeps_setTap ..).1⟩)))

theorem keeps_execDapNop (busy : Bool) (s : State) : KeepsOut s (execDapNop busy s) := .dapScan fun _ => keeps_dapResult ..

theorem keeps_execDapRegRd (a : BitVec 40) (busy : Bool) (s : State) : KeepsOut s (execDapRegRd a busy s) :=
  .dapScan fun _ => .after (keeps_dapResult ..) (.after (keeps_fullRead ..) (keeps_dapIssue ..))

theorem keeps_execDapRegWr (a : BitVec 40) (v : Word) (busy : Bool) (s : State) :
    KeepsOut s (execDapRegWr a v busy s) :=
  .dapScan fun _ => .ite (.after (keeps_dapResult ..) (.after (keeps_fullWrite ..) (keeps_dapIssue ..))) (keeps_dapResult ..)

theorem keeps_execDapURd (a : BitVec 40) (busy : Bool) (s : State) : KeepsOut s (execDapURd a busy s) :=
  .dapScan fun _ => .after (keeps_dapU ..) (keeps_dapIssue ..)

theorem keeps_execDapUWr (a : BitVec 40) (v : Word) (busy : Bool) (s : State) : KeepsOut s (execDapUWr a v busy s) :=
  .dapScan fun _ => .ite (.after (keeps_dapU ..) (keeps_dapIssue ..)) (keeps_dapResult ..)

theorem keeps_execLaserWavelengthLockRegained (l : Fin 18) (s : State) :
    KeepsOut s (execLaserWavelengthLockRegained l s) := .act (keeps_strike ..)

theorem keeps_execTagQuarantineEnd (i : Fin 300) (tag : BitVec 10) (s : State) :
    KeepsOut s (execTagQuarantineEnd i tag s) := .act (keeps_setNi ..)

/-- Every row of every command. -/
theorem keeps_exec (c : Instr) (s : State) : KeepsOut s (exec c s) := by
  cases c with
  | powerOnReset => exact keeps_execPowerOnReset ..
  | porNLowPulse => exact keeps_execPorNLowPulse ..
  | railUndervoltage => exact keeps_execRailUndervoltage ..
  | railRecovered => exact keeps_execRailRecovered ..
  | supplyLoss => exact keeps_execSupplyLoss ..
  | vrtcFirstApply => exact keeps_execVrtcFirstApply ..
  | perstNAssert => exact keeps_execPerstNAssert ..
  | perstNDeassert => exact keeps_execPerstNDeassert ..
  | zmuteHoldPlace => exact keeps_execZmuteHoldPlace ..
  | zmuteHoldRelease => exact keeps_execZmuteHoldRelease ..
  | tempoLoss => exact keeps_execTempoLoss ..
  | tempoRelock => exact keeps_execTempoRelock ..
  | clockSafeClear => exact keeps_execClockSafeClear ..
  | xtal32kLoss => exact keeps_execXtal32kLoss ..
  | xtal32kResume => exact keeps_execXtal32kResume ..
  | safeOscFault => exact keeps_execSafeOscFault ..
  | safeOscRecover => exact keeps_execSafeOscRecover ..
  | atomicPairLoRead => exact keeps_execAtomicPairLoRead ..
  | captureEvent => exact keeps_execCaptureEvent ..
  | trig => exact keeps_execTrig ..
  | tmpCapHiRead => exact keeps_execTmpCapHiRead ..
  | tmpCmpLoWrite => exact keeps_execTmpCmpLoWrite ..
  | tmpCmpHiWrite => exact keeps_execTmpCmpHiWrite ..
  | compareArm => exact keeps_execCompareArm ..
  | compareMatch => exact keeps_execCompareMatch ..
  | rtcTick => exact keeps_execRtcTick ..
  | commit => exact keeps_execCommit ..
  | rtcCommitNoClock => exact keeps_execRtcCommitNoClock ..
  | alarmArm => exact keeps_execAlarmArm ..
  | intakeEpochEnd => exact keeps_execIntakeEpochEnd ..
  | sapFrame => exact keeps_execSapFrame ..
  | blockBoundary => exact keeps_execBlockBoundary ..
  | shadowCommitTimeout => exact keeps_execShadowCommitTimeout ..
  | cabinFrame => exact keeps_execCabinFrame ..
  | rateWindowEnd => exact keeps_execRateWindowEnd ..
  | clkLoss => exact keeps_execClkLoss ..
  | asrcLock => exact keeps_execAsrcLock ..
  | asrcUnlock => exact keeps_execAsrcUnlock ..
  | tacetTimeout => exact keeps_execTacetTimeout ..
  | rampEnd => exact keeps_execRampEnd ..
  | intonationSectionDone => exact keeps_execIntonationSectionDone ..
  | ringLockLoss => exact keeps_execRingLockLoss ..
  | ringReintoneDone => exact keeps_execRingReintoneDone ..
  | laserFail => exact keeps_execLaserFail ..
  | laserSwitchDone => exact keeps_execLaserSwitchDone ..
  | rowFault => exact keeps_execRowFault ..
  | pmaJobRun => exact keeps_execPmaJobRun ..
  | pmaJobComplete => exact keeps_execPmaJobComplete ..
  | s23IdleTimeout => exact keeps_execS23IdleTimeout ..
  | s23WakeDone => exact keeps_execS23WakeDone ..
  | rotationStep => exact keeps_execRotationStep ..
  | rotationReturn => exact keeps_execRotationReturn ..
  | gapStepStart => exact keeps_execGapStepStart ..
  | gapStepEnd => exact keeps_execGapStepEnd ..
  | forcedGapStep => exact keeps_execForcedGapStep ..
  | rncPathMove => exact keeps_execRncPathMove ..
  | separationHop => exact keeps_execSeparationHop ..
  | anchorRowMove => exact keeps_execAnchorRowMove ..
  | coreReplace => exact keeps_execCoreReplace ..
  | programSwitch => exact keeps_execProgramSwitch ..
  | alu => exact keeps_execAlu ..
  | addi => exact keeps_execAddi ..
  | andi => exact keeps_execAndi ..
  | ori => exact keeps_execOri ..
  | xori => exact keeps_execXori ..
  | shi => exact keeps_execShi ..
  | lui => exact keeps_execLui ..
  | cmp => exact keeps_execCmp ..
  | ld => exact keeps_execLd ..
  | st => exact keeps_execSt ..
  | br => exact keeps_execBr ..
  | bl => exact keeps_execBl ..
  | jr => exact keeps_execJr ..
  | pred => exact keeps_execPred ..
  | valu => exact keeps_execValu ..
  | vld => exact keeps_execVld ..
  | vst => exact keeps_execVst ..
  | vred => exact keeps_execVred ..
  | vcvt => exact keeps_execVcvt ..
  | vspec => exact keeps_execVspec ..
  | vacc => exact keeps_execVacc ..
  | vperm => exact keeps_execVperm ..
  | tld => exact keeps_execTld ..
  | tst => exact keeps_execTst ..
  | tget => exact keeps_execTget ..
  | tput => exact keeps_execTput ..
  | tuget => exact keeps_execTuget ..
  | tuput => exact keeps_execTuput ..
  | tstat => exact keeps_execTstat ..
  | tmov => exact keeps_execTmov ..
  | tmma => exact keeps_execTmma ..
  | tzero => exact keeps_execTzero ..
  | tpack => exact keeps_execTpack ..
  | tunpack => exact keeps_execTunpack ..
  | txp => exact keeps_execTxp ..
  | tileComplete => exact keeps_execTileComplete ..
  | send => exact keeps_execSend ..
  | sendm => exact keeps_execSendm ..
  | recv => exact keeps_execRecv ..
  | amo => exact keeps_execAmo ..
  | rdcred => exact keeps_execRdcred ..
  | fence => exact keeps_execFence ..
  | waitt => exact keeps_execWaitt ..
  | waitm => exact keeps_execWaitm ..
  | waitmTimeout => exact keeps_execWaitmTimeout ..
  | rdtmp => exact keeps_execRdtmp ..
  | rdpace => exact keeps_execRdpace ..
  | pitch => exact keeps_execPitch ..
  | halt => exact keeps_execHalt ..
  | setx => exact keeps_execSetx ..
  | xret => exact keeps_execXret ..
  | rdx => exact keeps_execRdx ..
  | coreNop => exact keeps_execCoreNop ..
  | packetInject => exact keeps_execPacketInject ..
  | packetHop => exact keeps_execPacketHop ..
  | rdTile => exact keeps_execRdTile ..
  | wr512 => exact keeps_execWr512 ..
  | amoAdd => exact keeps_execAmoAdd ..
  | amoSwap => exact keeps_execAmoSwap ..
  | amoCas => exact keeps_execAmoCas ..
  | uRd => exact keeps_execURd ..
  | uWr => exact keeps_execUWr ..
  | data => exact keeps_execData ..
  | ack => exact keeps_execAck ..
  | credit => exact keeps_execCredit ..
  | nackPoison => exact keeps_execNackPoison ..
  | uRedirect => exact keeps_execURedirect ..
  | uMoved => exact keeps_execUMoved ..
  | uBusy => exact keeps_execUBusy ..
  | uBusyRetry => exact keeps_execUBusyRetry ..
  | msg => exact keeps_execMsg ..
  | msgTree => exact keeps_execMsgTree ..
  | pmaBridgeJob => exact keeps_execPmaBridgeJob ..
  | hRd => exact keeps_execHRd ..
  | hWr => exact keeps_execHWr ..
  | hClose => exact keeps_execHClose ..
  | hFree => exact keeps_execHFree ..
  | requestTimeout => exact keeps_execRequestTimeout ..
  | stallPurge => exact keeps_execStallPurge ..
  | topoEntryWrite => exact keeps_execTopoEntryWrite ..
  | orderedHoldEnd => exact keeps_execOrderedHoldEnd ..
  | belayRequest => exact keeps_execBelayRequest ..
  | belayDrainDone => exact keeps_execBelayDrainDone ..
  | belayFence => exact keeps_execBelayFence ..
  | belayAcknowledge => exact keeps_execBelayAcknowledge ..
  | belayCancel => exact keeps_execBelayCancel ..
  | belayAbort => exact keeps_execBelayAbort ..
  | domainWake => exact keeps_execDomainWake ..
  | tileMoveStart => exact keeps_execTileMoveStart ..
  | tileMoveDone => exact keeps_execTileMoveDone ..
  | dramScrub => exact keeps_execDramScrub ..
  | corePoolEmpty => exact keeps_execCorePoolEmpty ..
  | bar2Read => exact keeps_execBar2Read ..
  | bar2Write => exact keeps_execBar2Write ..
  | tierBar2Write => exact keeps_execTierBar2Write ..
  | fabSelWrite => exact keeps_execFabSelWrite ..
  | tierMapSelWrite => exact keeps_execTierMapSelWrite ..
  | ledgSelWrite => exact keeps_execLedgSelWrite ..
  | kvDrop => exact keeps_execKvDrop ..
  | kvReplay => exact keeps_execKvReplay ..
  | copyOnWrite => exact keeps_execCopyOnWrite ..
  | pageWaitTimeout => exact keeps_execPageWaitTimeout ..
  | parkIdleExpiry => exact keeps_execParkIdleExpiry ..
  | parkDone => exact keeps_execParkDone ..
  | restoreDone => exact keeps_execRestoreDone ..
  | unisonApply => exact keeps_execUnisonApply ..
  | commitTimeout => exact keeps_execCommitTimeout ..
  | pcieLinkUp => exact keeps_execPcieLinkUp ..
  | busMasterDisable => exact keeps_execBusMasterDisable ..
  | busMasterEnable => exact keeps_execBusMasterEnable ..
  | d3hotEntry => exact keeps_execD3hotEntry ..
  | d0Return => exact keeps_execD0Return ..
  | completionTimeout => exact keeps_execCompletionTimeout ..
  | completionError => exact keeps_execCompletionError ..
  | l1Entry => exact keeps_execL1Entry ..
  | l1Exit => exact keeps_execL1Exit ..
  | msixUnmask => exact keeps_execMsixUnmask ..
  | registerWrite => exact keeps_execRegisterWrite ..
  | rcRead => exact keeps_execRcRead ..
  | bar0PartialWrite => exact keeps_execBar0PartialWrite ..
  | bar0BigRead => exact keeps_execBar0BigRead ..
  | dbgEvtPeekRead => exact keeps_execDbgEvtPeekRead ..
  | irqTest => exact keeps_execIrqTest ..
  | spiNop => exact keeps_execSpiNop ..
  | spiRead => exact keeps_execSpiRead ..
  | spiWrite => exact keeps_execSpiWrite ..
  | spiBadFrame => exact keeps_execSpiBadFrame ..
  | health => exact keeps_execHealth ..
  | holdSet => exact keeps_execHoldSet ..
  | holdClear => exact keeps_execHoldClear ..
  | spvGuardPropose => exact keeps_execSpvGuardPropose ..
  | spvGuardConfirm => exact keeps_execSpvGuardConfirm ..
  | spvGuardVeto => exact keeps_execSpvGuardVeto ..
  | spvGuardQuery => exact keeps_execSpvGuardQuery ..
  | ledgerRead => exact keeps_execLedgerRead ..
  | spvUnknownOp => exact keeps_execSpvUnknownOp ..
  | execDone => exact keeps_execExecDone ..
  | ringEnable => exact keeps_execRingEnable ..
  | ringDisable => exact keeps_execRingDisable ..
  | ringDrainDone => exact keeps_execRingDrainDone ..
  | resume => exact keeps_execResume ..
  | sqDoorbell => exact keeps_execSqDoorbell ..
  | rqHeadWrite => exact keeps_execRqHeadWrite ..
  | descriptorFetch => exact keeps_execDescriptorFetch ..
  | ringStall => exact keeps_execRingStall ..
  | deferredExecute => exact keeps_execDeferredExecute ..
  | deferredTimeout => exact keeps_execDeferredTimeout ..
  | pageFlushTimer => exact keeps_execPageFlushTimer ..
  | pgRetEnable => exact keeps_execPgRetEnable ..
  | pgRetHeadWrite => exact keeps_execPgRetHeadWrite ..
  | nop => exact keeps_execNop ..
  | ping => exact keeps_execPing ..
  | queryInfo => exact keeps_execQueryInfo ..
  | setMode => exact keeps_execSetMode ..
  | modeChangeDone => exact keeps_execModeChangeDone ..
  | resetUnit => exact keeps_execResetUnit ..
  | safeState => exact keeps_execSafeState ..
  | packLoad => exact keeps_execPackLoad ..
  | packVerify => exact keeps_execPackVerify ..
  | packEvict => exact keeps_execPackEvict ..
  | objAlloc => exact keeps_execObjAlloc ..
  | objPlace => exact keeps_execObjPlace ..
  | objFlush => exact keeps_execObjFlush ..
  | objFree => exact keeps_execObjFree ..
  | sessionOpen => exact keeps_execSessionOpen ..
  | sessionClose => exact keeps_execSessionClose ..
  | streamOpen => exact keeps_execStreamOpen ..
  | streamStart => exact keeps_execStreamStart ..
  | streamPause => exact keeps_execStreamPause ..
  | streamResume => exact keeps_execStreamResume ..
  | streamDrain => exact keeps_execStreamDrain ..
  | streamClose => exact keeps_execStreamClose ..
  | prefixDefine => exact keeps_execPrefixDefine ..
  | prefixAttach => exact keeps_execPrefixAttach ..
  | prefixRelease => exact keeps_execPrefixRelease ..
  | textSubmit => exact keeps_execTextSubmit ..
  | sapConfig => exact keeps_execSapConfig ..
  | sapStart => exact keeps_execSapStart ..
  | sapStop => exact keeps_execSapStop ..
  | zoneDefine => exact keeps_execZoneDefine ..
  | zoneRoute => exact keeps_execZoneRoute ..
  | zoneMute => exact keeps_execZoneMute ..
  | feConfig => exact keeps_execFeConfig ..
  | rncEnable => exact keeps_execRncEnable ..
  | rncDisable => exact keeps_execRncDisable ..
  | seatMap => exact keeps_execSeatMap ..
  | pageGrant => exact keeps_execPageGrant ..
  | pageFlush => exact keeps_execPageFlush ..
  | guardPropose => exact keeps_execGuardPropose ..
  | guardConfirm => exact keeps_execGuardConfirm ..
  | guardVeto => exact keeps_execGuardVeto ..
  | guardQuery => exact keeps_execGuardQuery ..
  | proposalExpiry => exact keeps_execProposalExpiry ..
  | rtcSet => exact keeps_execRtcSet ..
  | rtcGet => exact keeps_execRtcGet ..
  | rtcAlarm => exact keeps_execRtcAlarm ..
  | healthQuery => exact keeps_execHealthQuery ..
  | bistRun => exact keeps_execBistRun ..
  | ledgerExport => exact keeps_execLedgerExport ..
  | ledgerImport => exact keeps_execLedgerImport ..
  | probeSet => exact keeps_execProbeSet ..
  | statsRead => exact keeps_execStatsRead ..
  | traceDump => exact keeps_execTraceDump ..
  | eventDrain => exact keeps_execEventDrain ..
  | programLoad => exact keeps_execProgramLoad ..
  | graphLaunch => exact keeps_execGraphLaunch ..
  | graphStop => exact keeps_execGraphStop ..
  | creditPlan => exact keeps_execCreditPlan ..
  | pmaCal => exact keeps_execPmaCal ..
  | pmaStatus => exact keeps_execPmaStatus ..
  | pmaJob => exact keeps_execPmaJob ..
  | resetHoldDone => exact keeps_execResetHoldDone ..
  | bootPllLock => exact keeps_execBootPllLock ..
  | bootOtpRead => exact keeps_execBootOtpRead ..
  | bootBistDone => exact keeps_execBootBistDone ..
  | bootCoreMap => exact keeps_execBootCoreMap ..
  | dramTrainingDone => exact keeps_execDramTrainingDone ..
  | configSpaceReady => exact keeps_execConfigSpaceReady ..
  | fwChunkFirst => exact keeps_execFwChunkFirst ..
  | fwChunkNext => exact keeps_execFwChunkNext ..
  | fwAbort => exact keeps_execFwAbort ..
  | fwChunkCopyDone => exact keeps_execFwChunkCopyDone ..
  | fwVerifyDone => exact keeps_execFwVerifyDone ..
  | sterdoStart => exact keeps_execSterdoStart ..
  | quietReadiness => exact keeps_execQuietReadiness ..
  | operatingSecond => exact keeps_execOperatingSecond ..
  | unitRetire => exact keeps_execUnitRetire ..
  | ledgerWrite => exact keeps_execLedgerWrite ..
  | lockstepMismatch => exact keeps_execLockstepMismatch ..
  | vcoreStep => exact keeps_execVcoreStep ..
  | pmbusPoll => exact keeps_execPmbusPoll ..
  | currentCapStep => exact keeps_execCurrentCapStep ..
  | pmbAlert => exact keeps_execPmbAlert ..
  | voutToleranceFault => exact keeps_execVoutToleranceFault ..
  | thermalSample => exact keeps_execThermalSample ..
  | thermalCapStep => exact keeps_execThermalCapStep ..
  | shedEnd => exact keeps_execShedEnd ..
  | shutdownPowerOff => exact keeps_execShutdownPowerOff ..
  | tracePortRecord => exact keeps_execTracePortRecord ..
  | tapReset => exact keeps_execTapReset ..
  | bypass => exact keeps_execBypass ..
  | idcode => exact keeps_execIdcode ..
  | samplePreload => exact keeps_execSamplePreload ..
  | extest => exact keeps_execExtest ..
  | clamp => exact keeps_execClamp ..
  | dap => exact keeps_execDap ..
  | dapNop => exact keeps_execDapNop ..
  | dapRegRd => exact keeps_execDapRegRd ..
  | dapRegWr => exact keeps_execDapRegWr ..
  | dapURd => exact keeps_execDapURd ..
  | dapUWr => exact keeps_execDapUWr ..
  | laserWavelengthLockRegained => exact keeps_execLaserWavelengthLockRegained ..
  | tagQuarantineEnd => exact keeps_execTagQuarantineEnd ..

/-- Settles O3: the row of every command keeps the byte memories in canonical form, and so does a TEMPO cycle. -/
theorem memoryStaysCanonical : Obligations.MemoryStaysCanonical := by
  unfold Obligations.MemoryStaysCanonical
  intro s t e h
  unfold step at e
  split at e
  · cases e
    exact (keeps_idle s).memoryCanonical h
  · exact (((keeps_exec ..).1 t e).after ⟨id⟩).memoryCanonical h

end Sys2Proof.Machine
end
